-- ==== Sys2Proof/Word.lean ====
section
/-!
DEFINITION. The word and byte types, the sparse table type, and the kinds of value a command carries.
-/
namespace Sys2Proof

/-- A register word: registers are 32 bits wide (00_scope.md, Registers). -/
abbrev Word := BitVec 32

/-- One byte of a frame, an image, a record or the persistent store. -/
abbrev Byte := BitVec 8

/-- Sparse data by number: a list of (number, value) pairs. A number not listed holds the default its table gives. -/
abbrev Tab (α : Type) := List (Nat × α)

/-- The three ports that give a host access to the registers (13_host_ports.md). -/
inductive Port where
  | eth1
  | qspi
  | usb
  deriving DecidableEq, Repr

/-- The two Ethernet ports (13_host_ports.md, R522). -/
inductive EthPort where
  | eth0
  | eth1
  deriving DecidableEq, Repr

/-- The two sides a latency is learned for (07_latency_learning.md). -/
inductive Side where
  | opening
  | closing
  deriving DecidableEq, Repr

end Sys2Proof
end

