-- ==== Sys2Proof/Machine/Frames.lean ====
section
/-!
DEFINITION. The operands of commands that carry more than a number: what arrives on a wire, and what the analogue parts, the
memories and the random source report.
-/
namespace Sys2Proof

/-- One attempt of a boundary transfer as the receiver latches it (01 Table 3): 64 data bits, 8 tag bits and the two
parity bits, one for each 36-bit half. -/
structure LinkWord where
  data : BitVec 64
  tag : BitVec 8
  par : BitVec 2
  deriving DecidableEq, Repr

/-- A frame received on an Ethernet port (13 R522): its FCS verdict, length in bytes, addresses (the first byte sent in
bits [7:0]), VLAN tag, EtherType, and the bytes between it and the FCS. A protected frame has EtherType 0x88E5, and its bytes are the
rest of the SecTAG, the secure data and the ICV. -/
structure RxFrame where
  fcsOk : Bool
  len : Nat
  dst : BitVec 48
  src : BitVec 48
  vlan : Bool
  etherType : BitVec 16
  body : List Byte
  deriving DecidableEq, Repr

/-- The VLAN tag, the EtherType and the bytes of a received frame, as in RxFrame. -/
structure FrameBody where
  vlan : Bool
  etherType : BitVec 16
  body : List Byte
  deriving DecidableEq, Repr

/-- An error that a read of the persistent store meets (16 R636): the index of the 64-bit word, and whether it is uncorrectable. -/
structure EccHit where
  word : Nat
  ue : Bool
  deriving DecidableEq, Repr

/-- How far datapath B's results lie from datapath A's (03 R129): arrivals in 1/256 ns, positions in 1/256 count. -/
structure DataB where
  lead : Int
  trail : Int
  pLead : Int
  pTrail : Int
  deriving DecidableEq, Repr

/-- The ns of device time that pass before a command (log 1), with what its block takes in at the command itself. -/
structure Seen (α : Type) where
  el : Nat
  val : α
  deriving DecidableEq, Repr

/-- What the measurement channel of a lane has delivered (07 R284–R286): the lane current (0.5 mA) and the LN voltage (mV) of
consecutive samples; and the auxiliary samples of V_GH (mV), one every 2 µs from the
instant `gAt` (ns) on. -/
structure Samples where
  iv : List (Int × Int)
  gAt : Int
  g : List Int
  deriving DecidableEq, Repr

/-- A lane sample: its instant, the LN voltage and V_GH in mV, the lane current in 0.5 mA. -/
structure RelSample where
  at_ : Int
  v : Int
  g : Int
  i : Int
  deriving DecidableEq, Repr

/-- What a read of a memory word finds (16 R630–R632, R636). -/
inductive Ecc where
  | good
  | corrected
  | uncorrectable
  deriving DecidableEq, Repr

/-- What of the block lies in an SRAM word (16 R631): an entry of the intake FIFO, an entry of a lane's calendar, the unwritten marks of a
raster slot, a CAN message object, an open interval of the recorder, a request or a frame that waits at an Ethernet port, a write word of
QSPI, or nothing that the model holds. -/
inductive SramItem where
  | target (i : Nat)
  | entry (n : Fin 160) (i : Nat)
  | marks (slot : Nat)
  | object (c : Fin 4) (m : Fin 128)
  | interval (k : Fin 10) (inst : Fin 160)
  | request (i : Nat)
  | frame (e : EthPort) (i : Nat)
  | word (i : Nat)
  | other
  deriving DecidableEq, Repr

/-- A read of an SRAM word (16 R630–R632): by the scrub, of the next word, or by the block that owns it, of a word of a region. `written`
says that its owner has written the word since it was read last. -/
inductive SramRead where
  | scrub (written : Bool) (err : Ecc)
  | owner (region : Fin 10) (word : Nat) (written : Bool) (err : Ecc) (item : SramItem)
  deriving DecidableEq, Repr

/-- A CAN frame on the bus (12 R484, R500): its format, identifier (a base identifier in bits [28:18]), DLC, payload and
the DT of its SOF. -/
structure CanFrame where
  ide : Bool
  rtr : Bool
  fdf : Bool
  brs : Bool
  esi : Bool
  id : BitVec 29
  dlc : BitVec 4
  data : List Byte
  sof : Nat
  deriving DecidableEq, Repr

/-- A frame in which a CAN controller detects an error (12 R494): the DT of its SOF, whether the controller was sending it, and the loop
delay measured, in clocks, where it has passed its res bit (12 R480). -/
structure CanErr where
  sof : Nat
  sending : Bool
  delay : Option (BitVec 7)
  deriving DecidableEq, Repr

/-- Navigation data of one satellite as an aid gives it (11 Table 2): its type, the satellite, its words, and its reference time,
GPS time in ns (11 R439). -/
structure NavAid where
  type : Nat
  sv : Nat
  words : List Word
  ref : Nat
  /-- Its issue-of-data fields agree across its parts (11 R439), and it carries no unhealthy flag (11 R452). -/
  iodOk : Bool
  healthy : Bool
  deriving DecidableEq, Repr

/-- What the signal's interface specification reads from navigation data (00 R10): its reference time, GPS time in ns, and whether it
carries no unhealthy flag. -/
structure NavRef where
  ref : Nat
  healthy : Bool
  deriving DecidableEq, Repr

/-- What one GNSS channel measures at an epoch (11 Table 4): its lock bits, AMBIG, C/N0, transmit time, carrier phase,
Doppler and multipath indicator, and the elevation of its satellite, in degrees (11 R444). -/
structure SatMeas where
  ch : Fin 64
  lock : BitVec 6
  ambig : Fin 3
  cn0 : BitVec 16
  tx : BitVec 64
  carrier : BitVec 64
  doppler : BitVec 32
  mp : BitVec 16
  elev : Int
  deriving DecidableEq, Repr

/-- A solution as the MSS computes it (11 R451–R453): its epoch, position, velocity, PDOP × 100, the satellites that received SBAS
ionospheric corrections cover, whether it applies SBAS fast or long-term corrections, accuracy, DT at the epoch less GPS time (ns), the broadcast GPS − UTC offset, and its position in
the plane of the GROUND block, µm, with speed, 0.1 mm/s, and course, 2⁻³² turn (04 R141); and the uncertainty, ns, of the relation
between DT and GPS time that it gives (11 R441). -/
structure NavSol where
  epoch : Nat
  lat : Word
  lon : Word
  hgt : Word
  ve : Word
  vn : Word
  vu : Word
  pdop : BitVec 16
  covered : List Nat
  sbas : Bool
  hacc : Word
  phase : Int
  utc : Option Int
  e : Int
  n : Int
  v : Int
  cog : Nat
  tunc : Nat
  deriving DecidableEq, Repr

/-- What a security command meets: whether each OTP burn that it makes reads back (15 R590), in their order, a missing one does; what
the random source of the engine yields; and the errors that its reads of the store meet (16 R636). -/
structure SecIn where
  burns : List Bool
  rnd : List Byte
  hits : List EccHit
  deriving DecidableEq, Repr

/-- What moves with a SESSION_OUT: its data, and what the random source of the engine yields (15 R605). -/
structure Moved where
  data : List Byte
  rnd : List Byte
  deriving DecidableEq, Repr

/-- A USB command block (13 R540). -/
structure UsbBlk where
  magic : BitVec 16
  cmd : Byte
  rsv : Byte
  tag : Word
  len : Word
  param : Word
  deriving DecidableEq, Repr

/-- What the outside reports while a word is written to a register: the levels read back from FAULT_N and SAFE_N (14 R566), the
time of island 38 (R571), the CAN object whose frame is on the bus (12 R493), whether a frame is in progress on the CAN bus (12
R478), the verdict on a navigation aid and its reference time (11 R439), and what a security command meets (15 Table 13). Only the registers that ask for one of these use it. -/
structure WriteEnv where
  faultLow : Bool
  safeLow : Bool
  t38 : Nat
  onBus : Option Nat
  canBusy : Bool
  iodOk : Bool
  navRef : NavRef
  sec : SecIn
  deriving DecidableEq, Repr

/-- What the outside reports while a request on ETH1 is executed: for each word written in turn, and the errors that reads of the store
meet (16 R636). -/
structure ReqEnv where
  writes : List WriteEnv
  hits : List EccHit
  deriving DecidableEq, Repr

end Sys2Proof
end

