-- ==== Sys2Proof/Syntax.lean ====
section
/-!
DEFINITION. The commands of the block: one constructor for each row of spec/opcode_table.json, in its order. Every
command carries `el`, the nanoseconds of device time that pass before it (log 1), alone or in a Seen with what its block
takes in at the command itself; a command that a host gives also carries its port.
-/
namespace Sys2Proof

/-- The commands. -/
inductive Instr where
  /-- REGISTER_WRITE (R13): A host write to a register that has no row of its own takes effect according to the access type of each field. -/
  | registerWrite (el : Nat) (p : Port) (a : Nat) (v : Word) (e : WriteEnv)
  /-- MULTIWORD_CAPTURE_READ (R17): Reading the lowest word of a multi-word value captures all its words for that port. -/
  | multiwordCaptureRead (e : Seen (List EccHit)) (p : Port) (a : Nat)
  /-- LINK_TRANSFER (R32): A sender raises REQ and the four-phase handshake delivers or refuses one 64-bit payload across an island boundary. -/
  | linkTransfer (el : Nat) (src dst : Fin 39) (first again : LinkWord) (acc : Option (Port × Nat))
  /-- HANDSHAKE_TIMEOUT (R35): When ACK has not risen 2 µs after REQ, the sender withdraws REQ, counts HS_TIMEOUT and reports the transfer failed. -/
  | handshakeTimeout (el : Nat) (src dst : Fin 39) (acc : Option (Port × Nat))
  /-- CLOCK_MONITOR_WINDOW (R36): At the end of each 1 µs window the boundary monitor checks the island clock count and declares the island down if it is out of range. -/
  | clockMonitorWindow (e : Seen Bool) (isl : Fin 39) (edges : Nat)
  /-- ISLAND_RESTART (R40): Writing an island's bit in SYS_ISLAND_RESTART0 or SYS_ISLAND_RESTART1 requests its restart, held until its clock is good. -/
  | islandRestart (el : Nat) (p : Port) (hi : Bool) (v : Word)
  /-- ISLAND_RESTART_BEGIN (R40): A held restart begins once the island clock has been within ±3 % for 100 µs, resetting the island and reloading its sections. -/
  | islandRestartBegin (el : Nat) (isl : Fin 39)
  /-- ISLAND_UP (R40): After reloading its sections the island leaves isolation, reports itself up and its ISLAND fail-safe cause is removed. -/
  | islandUp (el : Nat) (isl : Fin 39)
  /-- DT_SYNC_TOKEN (R42): At each 100 µs sync token an island compares its local DT with the announced instant and slews it. -/
  | dtSyncToken (el : Nat) (isl : Fin 38) (drift : Int)
  /-- SYS_CNT_CLEAR (R21): Writing SYS_CNT_CLEAR bit 0 clears the handshake and DT-step counters of the system block. -/
  | sysCntClear (el : Nat) (p : Port)
  /-- RESET_ASSERT (R670): A logic rail below its reset threshold for 1 µs holds the device in reset. -/
  | resetAssert (el : Nat)
  /-- RESET_RELEASE (R670): Reset is released 10 ms after all monitored rails have risen above their thresholds plus margin. -/
  | resetRelease (el : Nat) (a : List EccHit) (b : List Bool) (vbkLost : Bool) (count : Nat) (ran : Bool)
  /-- BOOT_IMAGE_LOAD (R74): The started firmware verifies the full image and its patches, restores lane models and applies the sections. -/
  | bootImageLoad (el : Nat) (a b patches : List EccHit)
  /-- SEAL_TIMEOUT (R78): With SEAL_MODE 1 the device seals when SEAL_TIMEOUT seconds have passed since boot loading ended. -/
  | sealTimeout (el : Nat)
  /-- LDR_SEAL (R78): Writing LDR_CTRL.SEAL seals the device when SEAL_MODE is 1. -/
  | ldrSeal (el : Nat) (p : Port)
  /-- LDR_VERIFY (R86): Writing LDR_CTRL.VERIFY in IDLE starts verification of the staged partial image by the MSS. -/
  | ldrVerify (el : Nat) (p : Port)
  /-- VERIFY_COMPLETE (R87): Verification of a staged image ends, entering STAGED with its handover set or ERROR with a code. -/
  | verifyComplete (el : Nat) (c : List EccHit)
  /-- LDR_ARM (R90): Writing LDR_CTRL.ARM in STAGED records LDR_ARM_DT and sends each tile of the set its new section for a shadow bank. -/
  | ldrArm (el : Nat) (p : Port)
  /-- SHADOW_BANKS_LOADED (R92): When every tile of the set has loaded its shadow bank, the loader enters SEARCHING and starts the T_h search. -/
  | shadowBanksLoaded (el : Nat)
  /-- TH_FINAL (R93): When DT reaches T_h − 10 µs, T_h becomes final, the loader enters FINAL and Stitch recomputes remapped lanes. -/
  | thFinal (el : Nat) (x : Bool)
  /-- HANDOVER_SWAP (R94): At T_h every tile of the set swaps its shadow bank into service and Stitch swaps to the new lane map. -/
  | handoverSwap (el : Nat)
  /-- PATCH_LOG_MARKED (R94): The patch-log entry is marked valid within 1 ms of T_h, LDR_PATCH.APPLIED increments and the loader enters DONE. -/
  | patchLogMarked (el : Nat)
  /-- BOUNDARY_TIMEOUT (R96): When DT reaches LDR_ARM_DT + 100 ms − 10 µs with no final T_h, the handover is refused. -/
  | boundaryTimeout (el : Nat)
  /-- LDR_ABORT (R101): Writing LDR_CTRL.ABORT in STAGED or SEARCHING returns the loader one state back and discards shadow banks. -/
  | ldrAbort (el : Nat) (p : Port)
  /-- LDR_ACK (R89): Writing LDR_CTRL.ACK in DONE, REFUSED or ERROR returns the loader to IDLE. -/
  | ldrAck (el : Nat) (p : Port)
  /-- LDR_CLEAR_CNT (R103): Writing LDR_CTRL.CLEAR_CNT clears the loader counters. -/
  | ldrClearCnt (el : Nat) (p : Port)
  /-- LDR_REFUSE_ACK (R85): Writing LDR_REFUSE_ACK releases the primary refusal capture and moves the secondary into it. -/
  | ldrRefuseAck (el : Nat) (p : Port)
  /-- HUZER_FRAME (R105): A Huzer frame received on ETH0 is checked, sequenced and admitted whole to the intake FIFO or dropped. -/
  | huzerFrame (el : Nat) (f : RxFrame)
  /-- PAUSE_REFRESH (R526): While PAUSED is 1, ETH0 repeats its PAUSE frame every REFRESH µs. -/
  | pauseRefresh (el : Nat)
  /-- STREAM_RESYNC (R107): Writing INTAKE_Sn_CFG.RESYNC clears SYNCED so the next frame is accepted whatever its SEQ. -/
  | streamResync (el : Nat) (p : Port) (k : Fin 4)
  /-- TGT_SUBMIT (R112): Writing INTAKE_TGT_W3 submits the register target record to the FIFO or refuses it when full. -/
  | tgtSubmit (el : Nat) (p : Port) (v : Word)
  /-- TARGET_DISPATCH (R117): The dispatcher takes the next FIFO entry and hands it to a solver pipeline, or the GROUND block for MODEL 3. -/
  | targetDispatch (el : Nat) (b : DataB)
  /-- INTAKE_CNT_CLEAR (R21): Writing INTAKE_CNT_CLEAR clears every intake counter and INTAKE_HWM. -/
  | intakeCntClear (el : Nat) (p : Port)
  /-- BELT_SAMPLE (R122): At each DT multiple of 65,536 ns the feedback tile sends the belt encoder position to the intake history. -/
  | beltSample (el : Nat) (k : Fin 4) (ok : Bool)
  /-- STITCH_RETIME_BELT (R197): At each belt sample Stitch recomputes and re-places the uncommitted BELT entries of the stream. -/
  | stitchRetimeBelt (el : Nat) (k : Fin 4) (x : Bool)
  /-- GND_VS_COMMIT (R139): Writing GND_VS_YAW commits the host vehicle-state record, or refuses it as out of order or future. -/
  | gndVsCommit (el : Nat) (p : Port) (v : Word)
  /-- FUSED_DR_TICK (R141): Every 1 ms the GROUND block dead-reckons the fused state from the wheel encoders. -/
  | fusedDrTick (el : Nat)
  /-- FUSED_FIX (R142): A GNSS solution with a 3D fix corrects the fused position and heading, or is discarded as late. -/
  | fusedFix (el : Nat)
  /-- DR_ONLY_TIMEOUT (R144): When no solution has been used for 1 s, DR_ONLY sets and dead reckoning continues. -/
  | drOnlyTimeout (el : Nat)
  /-- DR_MAX_EXPIRY (R144): When no solution has been used for GND_DR_MAX, dead reckoning stops being the state in force. -/
  | drMaxExpiry (el : Nat)
  /-- HISTORY_TICK (R145): At every DT multiple of 1 ms the block stores the extrapolated state in force in its 1,024 ms history. -/
  | historyTick (el : Nat)
  /-- EVAL_PASS (R151): At each GND_PERIOD start the block snapshots the state and evaluates every COVER lane and pending spot event. -/
  | evalPass (el : Nat) (bad : List (Fin 160))
  /-- EVAL_PERIOD_SKIPPED (R152): A period start falling inside a running pass is skipped and counted in GND_OVERRUN. -/
  | evalPeriodSkipped (el : Nat)
  /-- SPOT_EVENT_TAKE (R159): A MODEL 3 event is taken from the event queue and converted to a world point, or applied as a section or cancel action. -/
  | spotEventTake (el : Nat)
  /-- BLOCK_WRITEBACK (R171): A marked raster block is written back to the store within 1 s of its first unwritten mark. -/
  | blockWriteback (el : Nat) (n : Fin 65536)
  /-- GND_FLUSH (R171): Writing GND_CMD.FLUSH writes back every marked raster block. -/
  | gndFlush (el : Nat) (p : Port)
  /-- GND_PAGE (R172): Writing GND_CMD.PAGE starts a window move, flushing and evicting leaving blocks and setting PAGING. -/
  | gndPage (el : Nat) (p : Port)
  /-- PAGE_READY (R172): When eviction of the leaving blocks completes, PAGE_READY sets. -/
  | pageReady (el : Nat)
  /-- GND_COMMIT (R172): Writing GND_CMD.COMMIT takes the new window, makes the slots present and clears PAGING. -/
  | gndCommit (el : Nat) (p : Port)
  /-- GND_CNT_CLEAR (R21): Writing GND_CMD.CNT_CLEAR clears the GROUND counters. -/
  | gndCntClear (el : Nat) (p : Port)
  /-- RASTER_HOST_WRITE (R167): A host write into the raster region replaces EXCLUDED and ORs APPLIED, or replaces both bits where allowed. -/
  | rasterHostWrite (el : Nat) (p : Port) (i : Fin 16777216) (v : Word)
  /-- STITCH_PLACE (R190): A fire target's interval is computed per lane, coalesced, widened, placed on the calendar and tested for lateness. -/
  | stitchPlace (el : Nat) (x : Bool)
  /-- LATENCY_RECOMPUTE (R175): A new latency from a tile makes Stitch recompute every uncommitted entry of the mapped logical lane within 2 µs. -/
  | latencyRecompute (el : Nat) (n : Fin 160) (x : Bool)
  /-- STITCH_COMMIT (R191): At its commit instant an entry is checked, group-staggered and sent to the tile, leaving the calendar. -/
  | stitchCommit (el : Nat) (n : Fin 160) (hurt : List (Nat × Nat)) (x : Bool)
  /-- STITCH_CANCEL (R210): A cancel record removes matching uncommitted fire members on its lanes, or counts a miss or late cancel. -/
  | stitchCancel (el : Nat) (x : Bool)
  /-- SECTION_ON (R216): A section-on places an open-ended entry on a PULSE lane or starts the PWM chain on a PWM lane. -/
  | sectionOn (el : Nat) (x : Bool)
  /-- SECTION_OFF (R216): A section-off sets or amends the close of the lane's section entry and removes later PWM on-intervals. -/
  | sectionOff (el : Nat) (x : Bool)
  /-- DUTY_UPDATE (R220): A duty handed to Stitch becomes the duty for the next on-interval placed. -/
  | dutyUpdate (el : Nat) (x : Bool)
  /-- SPOT_RETIME (R200): A spot pulse re-timed or withdrawn by the GROUND block replaces or removes its member. -/
  | spotRetime (el : Nat) (x : Bool)
  /-- STITCH_FLUSH (R214): Writing STITCH_CMD.FLUSH removes every uncommitted fire member from every calendar. -/
  | stitchFlush (el : Nat) (p : Port) (both : Bool)
  /-- STITCH_CNT_CLEAR (R21): Writing STITCH_CMD.CNT_CLEAR clears every Stitch counter, FILL_HWM and STAGGER_MAX. -/
  | stitchCntClear (el : Nat) (p : Port)
  /-- STITCH_CAL_CAPTURE (R184): Reading STITCH_CAL_OPEN_LO captures the calendar entry selected by STITCH_CAL_SEL. -/
  | stitchCalCapture (el : Nat) (p : Port)
  /-- GH_TURN_ON (R228): The group high-side turns on 2 µs before the earliest committed open instant of its tile. -/
  | ghTurnOn (el : Nat) (t : Fin 20)
  /-- OPEN_INSTANT (R257): At a committed pulse's open instant the tile fires, ignores or refuses it by the decision table. -/
  | openInstant (el : Nat) (n : Fin 160) (entries : List Word)
  /-- PEAK_REACHED (R232): The lane current first reaches the peak threshold and regulation at the threshold begins for DWELL. -/
  | peakReached (el : Nat) (n : Fin 160) (i : Nat)
  /-- PEAK_END (R235): When DWELL elapses the peak phase ends and the lane decays toward the hold threshold. -/
  | peakEnd (el : Nat) (n : Fin 160) (i : Nat)
  /-- BOOST_TIMEOUT (R233): When the peak threshold is not reached by PEAK_TMAX, the peak phase ends and BOOST_TIMEOUT sets. -/
  | boostTimeout (el : Nat) (n : Fin 160) (i : Nat)
  /-- HOLD_REACHED (R235): The decaying current reaches the hold threshold and chopping begins. -/
  | holdReached (el : Nat) (n : Fin 160) (i : Nat)
  /-- CHOP_CYCLE (R236): The current reaches the threshold, the lane turns off for T_OFF in slow then fast decay, then on again. -/
  | chopCycle (el : Nat) (n : Fin 160) (i : Nat)
  /-- CLOSE_INSTANT (R248): At the close instant the peak or hold ends and the release begins, split through SLOW if above REL_SPLIT_I. -/
  | closeInstant (el : Nat) (n : Fin 160) (i : Nat)
  /-- SPLIT_REACHED (R248): A lane in split release reaches REL_SPLIT_I and goes OFF through its clamp. -/
  | splitReached (el : Nat) (n : Fin 160) (i : Nat)
  /-- FIRING_END (R249): A firing ends at its close instant plus the release allowance, checking for release overrun. -/
  | firingEnd (el : Nat) (n : Fin 160) (i : Nat)
  /-- CLAMP_INTERVAL_END (R251): At the end of a clamp interval its energy is compared with LANE_CLAMP_EMAX and the 3 mJ flag limit. -/
  | clampIntervalEnd (el : Nat) (n : Fin 160) (e : Nat)
  /-- CLAMP_POWER_WINDOW (R252): At the end of each 100 ms window the mean clamp power is shown and checked against 300 mW. -/
  | clampPowerWindow (el : Nat) (n : Fin 160) (p : Nat)
  /-- GH_TURN_OFF (R229): The group high-side turns off 20 µs after the group's last activity unless another pulse opens soon. -/
  | ghTurnOff (el : Nat) (t : Fin 20)
  /-- GROUP_TRIP (R243): A group current above 20 A for 1 µs turns the group off, latches it and reports GROUP_TRIP. -/
  | groupTrip (el : Nat) (t : Fin 20)
  /-- GRP_CLEAR (R244): Writing TILE_CMD.GRP_CLEAR releases a tripped group when its current is below 50 mA. -/
  | grpClear (el : Nat) (p : Port) (t : Fin 20) (i : BitVec 16)
  /-- GROUP_OVERLOAD (R245): An RMS group current above 8 A over 100 ms sets GRP_OVERLOAD once per excursion. -/
  | groupOverload (el : Nat) (t : Fin 20) (rms : BitVec 16)
  /-- GH_STUCK (R246): V_GH above half VPK for 90 µs after the group has been off 10 µs sets STUCK and reports GROUP_STUCK. -/
  | ghStuck (el : Nat) (t : Fin 20)
  /-- LANE_OPEN_CHECK (R269): At OPEN_T after an open instant a current below OPEN_I sets OPEN and reports LANE_OPEN. -/
  | laneOpenCheck (el : Nat) (n : Fin 160) (i : Nat)
  /-- LANE_OPEN_HOLD (R706): A hold current below OPEN_I for 1 ms makes one open detection until the detector is re-armed. -/
  | laneOpenHold (el : Nat) (n : Fin 160) (low : Bool)
  /-- LANE_SHORT (R269): Current above 50 mA with V_LN low for 20 µs after low-side off sets LS_SHORT and may latch the group off. -/
  | laneShort (el : Nat) (n : Fin 160)
  /-- LANE_OC (R269): A lane current above the over-current threshold for 1 µs turns the lane OFF and may latch it. -/
  | laneOc (el : Nat) (n : Fin 160) (i : Nat)
  /-- RMEAS_WINDOW_CLOSE (R261): A closing hold measurement window yields a resistance and a plausibility-checked winding temperature. -/
  | rmeasWindowClose (el : Nat) (n : Fin 160) (k : Nat) (x : Samples)
  /-- THERMAL_TICK (R264): Every 1 ms each lane's coil model updates tw and tb, checks the warning and limit, and evaluates latencies. -/
  | thermalTick (e : Seen Bool) (t : Fin 20) (temp ig : BitVec 16) (vpk : List (BitVec 16)) (cur : List (List Int))
  /-- IDLE_TEST_START (R272): Once per TILE_IDLE_DIAG.PERIOD, when the tile is idle, the idle open-load test starts. -/
  | idleTestStart (el : Nat) (t : Fin 20)
  /-- IDLE_TEST_RESULT (R272): An idle test that completes its 40 µs sets IDLE_OPEN for lanes whose V_LN exceeded 2.0 V at 30 µs. -/
  | idleTestResult (el : Nat) (t : Fin 20) (high : List (Fin 8))
  /-- PEAK_INHIBIT (R275): While VBAT is reported above 45 V, peak phases end and new firings are hold-only. -/
  | peakInhibit (e : Seen (List (Fin 160 × Nat)))
  /-- PEAK_INHIBIT_END (R275): The peak inhibit ends when VBAT falls below 44 V. -/
  | peakInhibitEnd (el : Nat)
  /-- GROUND_LOSS (R277): On loss of ground every lane, group, bridge and switch turns off and one GND_LOSS occurrence is raised. -/
  | groundLoss (el : Nat)
  /-- GROUND_RETURN (R420): When ground returns, GND_LOSS flags set and switch channels return to their commanded states. -/
  | groundReturn (el : Nat)
  /-- TILE_OT (R280): A tile temperature of 170 °C turns every lane and the group off and latches TILE_OT. -/
  | tileOt (el : Nat) (t : Fin 20) (temp : BitVec 16)
  /-- TILE_OT_CLEAR (R280): Writing TILE_CMD.OT_CLEAR below 155 °C releases the tile over-temperature latch. -/
  | tileOtClear (el : Nat) (p : Port) (t : Fin 20) (temp : BitVec 16)
  /-- TILE_TEMP_WARN (R281): The tile temperature reaching TILE_TEMP_WARN sets TEMP_WARN. -/
  | tileTempWarn (el : Nat) (t : Fin 20) (temp : BitVec 16)
  /-- TILE_CNT_CLEAR (R320): Writing TILE_CMD.CNT_CLEAR clears every tile, lane and learner counter and LANE_CLAMP_EMAX. -/
  | tileCntClear (el : Nat) (p : Port) (t : Fin 20)
  /-- KNEE_SEARCH_END (R291): A firing's knee search ends with a knee or without one, advancing or resetting the stuck-valve run. -/
  | kneeSearchEnd (el : Nat) (n : Fin 160) (k : Nat) (samples : List Int)
  /-- STUCK_TIME_REACHED (R309): ACT_TIME reaching 20 ms sets STUCK_NOW and reports STUCK_VALVE. -/
  | stuckTimeReached (el : Nat) (n : Fin 160)
  /-- CLOSING_SEARCH_END (R294): The closing-instant search of a release ends with or without a closing instant, updating the closing-miss run. -/
  | closingSearchEnd (el : Nat) (n : Fin 160) (k : Nat) (x : Samples)
  /-- MODEL_UPDATE (R302): Within 2 ms of a firing's end its used samples update the latency model or are counted as outliers. -/
  | modelUpdate (e : Seen Bool) (n : Fin 160)
  /-- ACCEPT_OPEN (R306): Writing LRN_CMD.ACCEPT_OPEN adds the opening shift mean to the base, unfreezes and restarts acquisition. -/
  | acceptOpen (el : Nat) (p : Port) (n : Fin 160)
  /-- ACCEPT_CLOSE (R306): Writing LRN_CMD.ACCEPT_CLOSE adds the closing shift mean to the base, unfreezes and restarts acquisition. -/
  | acceptClose (el : Nat) (p : Port) (n : Fin 160)
  /-- LRN_CLEAR (R307): Writing LRN_CMD.CLEAR reloads the seed into both sides and restarts acquisition. -/
  | lrnClear (el : Nat) (p : Port) (n : Fin 160)
  /-- BURNISH_NOW (R315): Writing LRN_CMD.BURNISH_NOW makes the lane eligible for calibration regardless of its age. -/
  | burnishNow (el : Nat) (p : Port) (n : Fin 160)
  /-- MODEL_COPY (R311): Every 600 s the store control copies every lane model into the lane-model region. -/
  | modelCopy (el : Nat)
  /-- BURNISH_START (R315): A calibration starts on the qualifying lane with the largest BURNISH_AGE when its conditions hold. -/
  | burnishStart (el : Nat) (t : Fin 20)
  /-- BURNISH_COMPLETE (R318): A completed calibration within limits replaces the corrections, or fails and reports ADC_CAL. -/
  | burnishComplete (el : Nat) (t : Fin 20) (io ig vo vg co : BitVec 16)
  /-- BURNISH_STALE (R319): BURNISH_AGE reaching BURNISH_MAXAGE sets BURNISH_STALE and reports ADC_CAL_STALE. -/
  | burnishStale (el : Nat) (n : Fin 160)
  /-- PROFILE_UPDATE (R330): Every 10 µs each axis generator computes its velocity and position and checks stall and limits. -/
  | profileUpdate (el : Nat) (a : Fin 8) (ok : Bool) (d : BitVec 16)
  /-- HOLD_CURRENT_SWITCH (R324): After AX_HOLD_DELAY at standstill the amplitude ramps from I_RUN to I_HOLD. -/
  | holdCurrentSwitch (el : Nat) (a : Fin 8)
  /-- STEP_PULSE (R340): A qualified STEP edge in external mode emits a coarse step, or is dropped as over-rate. -/
  | stepPulse (el : Nat) (a : Fin 8) (pos : Bool) (d : BitVec 16)
  /-- AXIS_OC (R326): A phase over-current or output short turns both bridges off, latches OC and stops the axis. -/
  | axisOc (el : Nat) (a : Fin 8)
  /-- AXIS_OPEN (R326): A phase current below a quarter of target over 8 drive intervals sets OPEN_A or OPEN_B. -/
  | axisOpen (el : Nat) (a : Fin 8) (b : Bool)
  /-- AXIS_VM_UV (R326): VM below 7.0 V for 10 µs turns the bridges off and stops the axis. -/
  | axisVmUv (el : Nat) (a : Fin 8) (vm : BitVec 16)
  /-- VM_RECOVER (R327): When VM returns above 7.5 V the bridges resume and VM_UV clears. -/
  | vmRecover (el : Nat) (a : Fin 8) (vm : BitVec 16)
  /-- MOTION_OT (R328): A motion tile at 170 °C turns off every bridge of the tile and stops its axes. -/
  | motionOt (el : Nat) (t : Fin 2) (temp : BitVec 16)
  /-- MOT_OT_CLEAR (R328): Writing MOT_CMD.OT_CLEAR below 155 °C releases the motion tile latch. -/
  | motOtClear (el : Nat) (p : Port) (t : Fin 2) (temp : BitVec 16)
  /-- MOT_CNT_CLEAR (R361): Writing MOT_CMD.CNT_CLEAR clears the counters of the tile's four axes. -/
  | motCntClear (el : Nat) (p : Port) (t : Fin 2)
  /-- AX_STOP (R331): Writing AX_CMD.STOP brakes the axis at the deceleration in force with the target set to the stop position. -/
  | axStop (el : Nat) (p : Port) (a : Fin 8)
  /-- AX_HOLD (R354): Writing AX_CMD.HOLD brakes the axis to a stop and sets HELD. -/
  | axHold (el : Nat) (p : Port) (a : Fin 8)
  /-- AX_RELEASE (R357): Writing AX_CMD.RELEASE clears HELD and the axis acts on its targets. -/
  | axRelease (el : Nat) (p : Port) (a : Fin 8)
  /-- ENC_SYNC (R348): Writing AX_CMD.ENC_SYNC sets AX_ENC_OFS so that the deviation is zero at the next update. -/
  | encSync (el : Nat) (p : Port) (a : Fin 8)
  /-- SET_ACTUAL (R360): Writing AX_CMD.SET_ACTUAL at standstill loads AX_XSET into the position and target. -/
  | setActual (el : Nat) (p : Port) (a : Fin 8)
  /-- ENCODER_EDGE (R363): An accepted A or B change updates the raw count, the reported position and the compare units. -/
  | encoderEdge (el : Nat) (k : Fin 8) (n : Nat) (la lb : Bool)
  /-- ENC_RATE_RECOVER (R365): After 1 ms without a further rate excess the channel becomes valid again. -/
  | encRateRecover (el : Nat) (k : Fin 8)
  /-- INDEX_EDGE (R369): An accepted Z rising edge latches ENC_INDEX and, when armed, clears the count. -/
  | indexEdge (e : Seen (Nat × Bool)) (k : Fin 8)
  /-- ENC_BREAK (R370): A differential pair below 100 mV for 80 µs sets BREAK and reports ENC_BREAK. -/
  | encBreak (el : Nat) (k : Fin 8)
  /-- ENC_BREAK_CLEAR (R370): BREAK clears when every pair has been above 200 mV for 1 ms. -/
  | encBreakClear (el : Nat) (k : Fin 8)
  /-- SPEED_WINDOW_END (R373): At the end of each speed window ENC_SPEED takes the count difference scaled to counts per second. -/
  | speedWindowEnd (el : Nat) (k : Fin 8)
  /-- ENC_LOAD (R368): Writing ENC_CMD.LOAD sets the count and position to ENC_LOAD at the next sample. -/
  | encLoad (el : Nat) (p : Port) (k : Fin 8)
  /-- INDEX_ARM (R369): Writing ENC_CMD.INDEX_ARM arms the channel to clear at the next index edge. -/
  | indexArm (el : Nat) (p : Port) (k : Fin 8)
  /-- SERIAL_FRAME_START (R375): At each DT multiple of PERIOD the port starts a BiSS-C or SSI frame, or counts an overrun. -/
  | serialFrameStart (el : Nat) (k : Fin 4)
  /-- SERIAL_FRAME_END (R380): A completed frame is checked for CRC or parity and error bit and updates Q_POS or fails. -/
  | serialFrameEnd (el : Nat) (k : Fin 4) (bits : List Bool)
  /-- SERIAL_TIMEOUT (R380): A frame whose start or end is not reached within TIMEOUT fails and reports SERIAL_SENSOR. -/
  | serialTimeout (e : Seen (List Bool)) (k : Fin 4)
  /-- PROBE_EDGE (R384): An accepted probe edge of the chosen kind captures DT and position into the probe FIFO. -/
  | probeEdge (el : Nat) (p : Fin 8) (n : Nat) (level : Bool)
  /-- PROBE_STUCK (R386): The probe's active level persisting for STUCK_T sets STUCK_NOW and reports PROBE_STUCK. -/
  | probeStuck (el : Nat) (p : Fin 8)
  /-- PROBE_ARM (R384): Writing PRB_CMD.ARM arms a one-shot probe. -/
  | probeArm (el : Nat) (p : Port) (k : Fin 8)
  /-- PROBE_POP (R385): Writing PRB_CMD.POP removes the oldest probe capture. -/
  | probePop (el : Nat) (p : Port) (k : Fin 8)
  /-- PROBE_CAP_READ (R385): Reading PRB_CAP_INFO captures the oldest probe entry into the capture registers. -/
  | probeCapRead (el : Nat) (p : Port) (k : Fin 8)
  /-- CMP_VAL_WRITE (R391): A completed write of CMP_VAL sets the compare value and runs the late test with auto-advance and catch-up. -/
  | cmpValWrite (el : Nat) (p : Port) (c : Fin 8) (v : Word)
  /-- CMP_CFG_WRITE (R397): A write of CMP_CFG.SRC or DIR takes effect at the next sample followed by the late test. -/
  | cmpCfgWrite (el : Nat) (p : Port) (c : Fin 8) (v : Word)
  /-- CMP_PULSE_END (R392): A compare pin pulse returns to its inactive level after PULSE_W samples. -/
  | cmpPulseEnd (el : Nat) (c : Fin 8)
  /-- FB_CNT_CLEAR (R396): Writing FB_CMD.CNT_CLEAR clears the feedback tile counters. -/
  | fbCntClear (el : Nat) (p : Port)
  /-- SWITCH_ON (R401): Writing SW_CH_CTRL.ON to 1 turns the channel on with an inrush window if restart conditions permit. -/
  | switchOn (el : Nat) (p : Port) (h : Fin 24)
  /-- SWITCH_OFF (R401): Writing SW_CH_CTRL.ON to 0 turns the channel output off. -/
  | switchOff (el : Nat) (p : Port) (h : Fin 24)
  /-- INRUSH_END (R403): When the inrush window closes the channel limits at I_LIM and starts the limit timer if in limit. -/
  | inrushEnd (el : Nat) (h : Fin 24) (draw : Nat) (mean : BitVec 16)
  /-- LIMIT_ENTER (R403): A channel entering current limit outside its window counts and starts its LIM_T timer. -/
  | limitEnter (el : Nat) (h : Fin 24) (draw : Nat) (mean : BitVec 16)
  /-- LIMIT_TIMEOUT (R403): A channel still in limit after LIM_T trips with cause OC. -/
  | limitTimeout (el : Nat) (h : Fin 24)
  /-- FAST_TRIP (R404): A channel current above the fast-trip threshold for 2 µs trips with cause OC. -/
  | fastTrip (el : Nat) (h : Fin 24)
  /-- CHANNEL_OT (R413): A channel sensor reaching T_SD trips the channel with cause OT. -/
  | channelOt (el : Nat) (h : Fin 24) (temp : BitVec 16)
  /-- PAUSE_END (R407): A retry pause ends and the channel may restart. -/
  | pauseEnd (el : Nat) (h : Fin 24)
  /-- CHANNEL_RESTART (R409): The channel turns on with a new inrush window at the first instant all restart conditions hold. -/
  | channelRestart (el : Nat) (h : Fin 24) (temp : BitVec 16)
  /-- TRIES_CLEAR (R410): A channel on for CLR_T without a trip returns TRIES to 0. -/
  | triesClear (el : Nat) (h : Fin 24)
  /-- CLR_RETRY (R412): Writing SW_CH_CMD.CLR_RETRY clears RETRY_LATCHED, TRIES and any pause. -/
  | clrRetry (el : Nat) (p : Port) (h : Fin 24)
  /-- CLR_TH (R412): Writing SW_CH_CMD.CLR_TH clears TH_LATCHED when the sensor reads below T_RST, else is refused. -/
  | clrTh (el : Nat) (p : Port) (h : Fin 24) (temp : BitVec 16)
  /-- CLUSTER_OT (R414): The cluster sensor reaching T_OT sets OT_NOW, reports CLUSTER_OT and trips channels in limit outside their window. -/
  | clusterOt (el : Nat) (k : Fin 6) (temp : BitVec 16)
  /-- CLUSTER_OT_CLEAR (R414): OT_NOW clears when the cluster sensor falls below T_OT − 10 °C. -/
  | clusterOtClear (el : Nat) (k : Fin 6) (temp : BitVec 16)
  /-- SWITCH_OPEN_ON (R417): An on channel below OPEN_I for OPEN_T outside its window sets OPEN_ON and reports SWITCH_OPEN. -/
  | switchOpenOn (el : Nat) (h : Fin 24) (i : Word)
  /-- SWITCH_OPEN_OFF (R417): An off channel with V_OUT in the 2–4 V window for 10 ms sets OPEN_OFF and reports SWITCH_OPEN. -/
  | switchOpenOff (el : Nat) (h : Fin 24) (v : BitVec 16)
  /-- SWITCH_STUCK (R417): Switch current above 100 mA 1 ms after turn-off sets STUCK_ON and reports SWITCH_STUCK. -/
  | switchStuck (el : Nat) (h : Fin 24) (i : Word)
  /-- SWITCH_SHORT_VBAT (R417): V_OUT above 4 V with no switch current 1 ms after turn-off sets SHORT_VBAT. -/
  | switchShortVbat (el : Nat) (h : Fin 24) (v : BitVec 16) (i : Word)
  /-- VBAT_UV (R419): VBAT below 4.5 V for 10 µs turns every switch channel off. -/
  | vbatUv (el : Nat) (v : Int)
  /-- VBAT_UV_RECOVER (R419): VBAT rising above 5.0 V returns each channel to its commanded state. -/
  | vbatUvRecover (el : Nat) (v : Int)
  /-- REVERSE_BATTERY (R421): VBAT between −1 V and −32 V drives every channel into reverse conduction. -/
  | reverseBattery (el : Nat) (v : Int)
  /-- REVERSE_END (R421): VBAT returning above 6 V sets REVERSE and returns each channel to its commanded state. -/
  | reverseEnd (el : Nat) (v : Int)
  /-- OVERVOLT (R423): VBAT exceeding 36 V sets OVERVOLT while channels keep their commanded states. -/
  | overvolt (el : Nat) (v : Int)
  /-- SW_CNT_CLEAR (R431): Writing SW_CMD.CNT_CLEAR clears every switch counter. -/
  | swCntClear (el : Nat) (p : Port)
  /-- ANT_SHORT (R434): An antenna bias current above 80 mA for 100 µs switches the bias off and latches it. -/
  | antShort (el : Nat) (i : BitVec 16)
  /-- ANT_CLEAR (R434): Writing GNSS_CMD.ANT_CLEAR releases the antenna short latch. -/
  | antClear (el : Nat) (p : Port)
  /-- ANT_OPEN (R435): An antenna bias current below 3 mA for 1 s sets OPEN. -/
  | antOpen (el : Nat) (i : BitVec 16)
  /-- AID_TIME (R436): Writing GNSS_CMD.AID_TIME installs a time aid or refuses it while DT is FREE. -/
  | aidTime (el : Nat) (p : Port)
  /-- AID_POS (R437): Writing GNSS_CMD.AID_POS installs a position aid. -/
  | aidPos (el : Nat) (p : Port)
  /-- AID_NAV_COMMIT (R439): Writing GNSS_CMD.AID_NAV_COMMIT installs a navigation-data aid or refuses it with a reason code. -/
  | aidNavCommit (el : Nat) (p : Port) (iodOk : Bool) (r : NavRef)
  /-- GNSS_FORGET (R440): Writing GNSS_CMD.FORGET discards retained aids and aids in force. -/
  | gnssForget (el : Nat) (p : Port)
  /-- NAV_POP (R450): Writing GNSS_CMD.NAV_POP removes the oldest navigation unit. -/
  | navPop (el : Nat) (p : Port)
  /-- GNSS_CNT_CLEAR (R21): Writing GNSS_CMD.CNT_CLEAR clears the GNSS counters. -/
  | gnssCntClear (el : Nat) (p : Port)
  /-- GNSS_RETAIN (R440): Every 600 s the MSS saves ephemerides, almanacs, position and time relation to the store. -/
  | gnssRetain (el : Nat)
  /-- MEAS_EPOCH (R445): At each measurement epoch every channel latches its measurement and a bank is written. -/
  | measEpoch (el : Nat) (ms : List SatMeas)
  /-- NAV_UNIT (R449): A completed navigation unit is checked and delivered to the FIFO, or dropped as overflow. -/
  | navUnit (el : Nat) (c : Fin 64) (type : Fin 5) (bits : List Bool) (pass inverted : Bool) (start : Nat) (done : Option NavAid)
  /-- NAV_SOLUTION (R451): The MSS computes and publishes a navigation solution and hands it to the GROUND block. -/
  | navSolution (el : Nat) (q : NavSol)
  /-- DT_MEASUREMENT (R461): Each second the source in use gives a phase error that qualifies sources and drives the locked loop. -/
  | dtMeasurement (el : Nat) (k : Fin 3) (e : Int)
  /-- DT_SOURCE_LOSS (R458): A source lost by its timeout ends qualification and enters HOLDOVER when no other is qualified. -/
  | dtSourceLoss (el : Nat) (k : Fin 3)
  /-- HOLDOVER_SECOND (R463): Every second the holdover error estimate is updated and compared with DT_EST_WARN. -/
  | holdoverSecond (el : Nat)
  /-- PPS_EDGE (R457): A PPS_IN edge is stamped with fraction and gives a PPS measurement. -/
  | ppsEdge (el : Nat) (rising : Bool) (frac : BitVec 8)
  /-- TIME_PULSE (R468): A TP output gives an edge at each programmed DT instant and returns after its width. -/
  | timePulse (el : Nat) (i : Fin 2)
  /-- DT_MODEL_CLEAR (R462): Writing DT_CMD.MODEL_CLEAR sets f_int and DT_AGE_RATE to 0. -/
  | dtModelClear (el : Nat) (p : Port)
  /-- DT_CNT_CLEAR (R21): Writing DT_CMD.CNT_CLEAR clears the device-time counters. -/
  | dtCntClear (el : Nat) (p : Port)
  /-- RTC_LATCH (R675): At each DT second boundary the backup domain latches DT and its crystal count. -/
  | rtcLatch (el : Nat)
  /-- CAN_INIT_SET (R478): Setting CAN_CTRL.INIT completes any frame in progress and enters initialisation. -/
  | canInitSet (e : Seen Bool) (p : Port) (c : Fin 4)
  /-- CAN_INIT_CLEAR (R478): Clearing CAN_CTRL.INIT makes the controller integrate onto the bus. -/
  | canInitClear (el : Nat) (p : Port) (c : Fin 4)
  /-- CAN_FRAME_RX (R484): A received valid frame is matched against the receive objects and stored, or dropped as no match. -/
  | canFrameRx (el : Nat) (c : Fin 4) (f : CanFrame)
  /-- TX_REQ_SET (R490): Setting an object's TX_REQ queues its frame for selection, or is refused for invalid format or freshness. -/
  | txReqSet (el : Nat) (p : Port) (c : Fin 4) (m : Fin 128)
  /-- TX_REQ_WITHDRAW (R493): Clearing TX_REQ withdraws a request not yet on the bus and sets ABORTED. -/
  | txReqWithdraw (el : Nat) (p : Port) (c : Fin 4) (m : Fin 128) (onBus : Bool)
  /-- CAN_ABORT_ALL (R493): Writing CAN_CMD.ABORT_ALL withdraws every transmit request of the controller. -/
  | canAbortAll (el : Nat) (p : Port) (c : Fin 4) (onBus : Option (Fin 128))
  /-- CAN_FRAME_TX_DONE (R492): A frame sent successfully clears TX_REQ, sets TX_DONE and stamps OBJ_TS. -/
  | canFrameTxDone (el : Nat) (c : Fin 4) (sof : Nat) (delay : BitVec 7)
  /-- CAN_ERROR (R494): A detected bus error updates the error counters and state, possibly entering passive or bus-off. -/
  | canError (el : Nat) (c : Fin 4) (lec : Fin 7) (dTec dRec : Nat) (f : CanErr)
  /-- CAN_RECOVER (R496): Writing CAN_CMD.RECOVER starts bus-off recovery of a SAFETY controller. -/
  | canRecover (el : Nat) (p : Port) (c : Fin 4)
  /-- BUSOFF_RECOVERED (R497): After 128 occurrences of 11 recessive bits the controller is error active with counters at 0. -/
  | busoffRecovered (e : Seen Nat) (c : Fin 4)
  /-- CAN_FIFO_POP (R489): Writing CAN_FIFO_POP removes the head of the FIFO when the named object is still the head. -/
  | canFifoPop (el : Nat) (p : Port) (c : Fin 4) (k : Fin 8) (m : Fin 128)
  /-- OBJ_CAPTURE_READ (R482): Reading OBJ_CTRL captures all 20 words of the object. -/
  | objCaptureRead (el : Nat) (p : Port) (c : Fin 4) (m : Fin 128)
  /-- CAN_FV_WRITE (R512): Writing CAN_FV sets an object's freshness value and FV_VALID. -/
  | canFvWrite (el : Nat) (p : Port) (c : Fin 4) (m : Fin 128) (v : Word)
  /-- REFERENCE_REQUEST (R501): At each DT multiple of CAN_TM_PERIOD the master raises a reference message request. -/
  | referenceRequest (el : Nat) (c : Fin 4)
  /-- CAN_TM_HANDOFF (R505): Each second the CAN source controller hands the device-time block the last accepted phase error. -/
  | canTmHandoff (el : Nat) (c : Fin 4)
  /-- CAN_CNT_CLEAR (R514): Writing CAN_CMD.CNT_CLEAR clears the controller counters. -/
  | canCntClear (el : Nat) (p : Port) (c : Fin 4)
  /-- REG_ACCESS_REQUEST (R529): A register-access request on ETH1 is queued, executed whole and answered to its source. -/
  | regAccessRequest (el : Nat) (f : RxFrame) (run : Nat) (envs : List ReqEnv)
  /-- NOTIFY_TX (R534): ETH1 sends a notification when SYS_IRQ_PEND differs from the last notified value, after the holdoff. -/
  | notifyTx (el : Nat)
  /-- PAUSE_FRAME_RX (R526): A received PAUSE frame stops ETH1 transmission, or is counted and ignored on ETH0. -/
  | pauseFrameRx (el : Nat) (e : EthPort) (f : RxFrame)
  /-- PORT_CNT_CLEAR (R546): Writing PORT_CMD.CNT_CLEAR clears the port counters. -/
  | portCntClear (el : Nat) (p : Port)
  /-- QREAD (R536): A QSPI QREAD transaction reads incrementing words with wait bytes and a status per word. -/
  | qread (e : Seen (Byte × List EccHit)) (a : Word) (n : Nat)
  /-- QREAD_FIXED (R536): A QSPI QREAD_FIXED transaction reads one address repeatedly. -/
  | qreadFixed (e : Seen (Byte × List EccHit)) (a : Word) (n : Nat)
  /-- QWRITE (R537): A QSPI QWRITE transaction buffers write words that execute in order. -/
  | qwrite (e : Seen Byte) (a : Word) (b : List Byte) (pace : List Nat) (envs : List WriteEnv)
  /-- QWRITE_FIXED (R537): A QSPI QWRITE_FIXED transaction writes its words to one address. -/
  | qwriteFixed (e : Seen Byte) (a : Word) (b : List Byte) (pace : List Nat) (envs : List WriteEnv)
  /-- QRMW (R535): A QSPI QRMW transaction reads, masks and writes one word and returns the old value. -/
  | qrmw (q : Seen (Byte × List EccHit)) (a m v : Word) (check : Byte) (e : WriteEnv)
  /-- GET_STATUS (R538): A QSPI GET_STATUS transaction returns the busy flag and the last write transaction's result. -/
  | getStatus (e : Seen Byte)
  /-- USB_ATTACH (R540): USB_VBUS rising above 4.0 V connects the D+ pull-up and sets USB_ATTACH. -/
  | usbAttach (el : Nat)
  /-- USB_DETACH (R611): USB detach or bus reset closes the USB service session. -/
  | usbDetach (el : Nat) (busReset : Bool)
  /-- GET_INFO (R540): The USB GET_INFO command returns identity, loader state and image digest. -/
  | getInfo (el : Nat) (b : UsbBlk)
  /-- REG_READ (R542): The USB REG_READ command reads consecutive registers. -/
  | regRead (e : Seen (List EccHit)) (b : UsbBlk)
  /-- REG_WRITE (R542): The USB REG_WRITE command writes consecutive registers when permitted, else ends NOT_OWNER. -/
  | regWrite (el : Nat) (b : UsbBlk) (data : List Byte) (envs : List WriteEnv)
  /-- STAGE_WRITE (R544): The USB STAGE_WRITE command writes image or firmware data into a slot or patch-log entry. -/
  | stageWrite (el : Nat) (b : UsbBlk) (data : List Byte)
  /-- STAGE_COMMIT (R544): The USB STAGE_COMMIT command starts verification of the staged content and reports its result. -/
  | stageCommit (el : Nat) (b : UsbBlk) (c : List EccHit)
  /-- RECORDER_READ (R654): The USB RECORDER_READ command returns whole records in index order with filler records. -/
  | recorderRead (e : Seen (List EccHit)) (b : UsbBlk)
  /-- USB_ATTEST (R612): The USB ATTEST command supplies the nonce for an attestation report. -/
  | usbAttest (el : Nat) (b : UsbBlk) (nonce rnd : List Byte)
  /-- GET_REPORT (R612): The USB GET_REPORT command returns the signed attestation report. -/
  | getReport (el : Nat) (b : UsbBlk)
  /-- SESSION_OUT (R541): The USB SESSION_OUT command carries a session message to the device. -/
  | sessionOut (el : Nat) (magic : BitVec 16) (cmd rsv : Byte) (tag len param : Word) (x : Moved)
  /-- SESSION_IN (R541): The USB SESSION_IN command returns a session message from the device. -/
  | sessionIn (el : Nat) (b : UsbBlk)
  /-- FAULT_OCCURRENCE (R554): A fault occurrence increments its bucket, takes its class and level, and is captured or counted. -/
  | faultOccurrence (el : Nat) (src : Fin 128) (inst : BitVec 16) (detail : Word)
  /-- BUCKET_LEAK (R552): At every DT multiple of WIN each non-zero bucket of the source loses 1. -/
  | bucketLeak (el : Nat) (src : Fin 128)
  /-- REPORT_FRAME_TX (R568): A fault report frame holding the waiting records is sent after the holdoff. -/
  | reportFrameTx (el : Nat)
  /-- FM_SRC_ACK (R558): Writing FM_SRC_ACK releases the primary capture and moves the secondary into it. -/
  | fmSrcAck (el : Nat) (p : Port) (src : Fin 128)
  /-- FM_SRC_STAT_READ (R560): Reading FM_SRC_STAT captures the source's status and capture words. -/
  | fmSrcStatRead (el : Nat) (p : Port) (src : Fin 128)
  /-- PIN_TEST (R566): Writing FM_CMD.PIN_TEST asserts FAULT_N and SAFE_N for 1 ms and checks the read-back. -/
  | pinTest (el : Nat) (p : Port) (faultLow safeLow : Bool)
  /-- PIN_TEST_END (R566): The 1 ms pin test ends and the pins follow their rules again. -/
  | pinTestEnd (e : Seen (Bool × Bool))
  /-- FM_CNT_CLEAR (R587): Writing FM_CMD.CNT_CLEAR clears the fault manager counters. -/
  | fmCntClear (el : Nat) (p : Port)
  /-- CINCH_QUERY (R572): A QUERY transaction on the Cinch port returns the question and status byte. -/
  | cinchQuery (el : Nat) (cmd arg chk : Byte) (len t38 : Nat)
  /-- CINCH_ANSWER (R576): An ANSWER transaction delivers answer i, judged for value, order and closed part. -/
  | cinchAnswer (el : Nat) (cmd arg chk : Byte) (len t38 : Nat)
  /-- CINCH_ANSWER_WRITE (R571): A write of CINCH_ANSWER delivers an answer when SRC is 1, else is ignored and counted. -/
  | cinchAnswerWrite (el : Nat) (p : Port) (v : Word) (t38 : Nat)
  /-- CINCH_WINDOW_END (R577): At each window end Cinch judges the window, updates the error counter and question, and raises a miss. -/
  | cinchWindowEnd (el : Nat)
  /-- SAFE_APPLY (R583): Writing SAFE_CMD.APPLY applies the whole stored fail-safe table with cause HOST. -/
  | safeApply (el : Nat) (p : Port) (v : Word)
  /-- SAFE_RELEASE (R585): Writing SAFE_CMD.RELEASE removes the CINCH and HOST causes unless Cinch is EXPIRED. -/
  | safeRelease (el : Nat) (p : Port) (v : Word)
  /-- ISLAND38_LOSS (R703): The alive toggle absent for 4 µs makes every stage apply its stored state and asserts all three pins. -/
  | island38Loss (el : Nat)
  /-- TAKE_OWNER (R592): The TAKE_OWNER command stores the owner key and burns its hash on an unowned device. -/
  | takeOwner (el : Nat) (p : Port) (par : Byte) (burns : List Bool)
  /-- ROTATE_OWNER (R593): The ROTATE_OWNER command stores a new signed owner key, burns its hash and revokes the previous. -/
  | rotateOwner (el : Nat) (p : Port) (par : Byte) (hashOk revOk : Bool)
  /-- KEY_LOAD (R600): The KEY_LOAD command unwraps and installs a key in a slot under the port's session KEK. -/
  | keyLoad (el : Nat) (p : Port) (k : BitVec 8) (hi : BitVec 16)
  /-- KEY_ERASE (R600): The KEY_ERASE command empties a key slot. -/
  | keyErase (el : Nat) (p : Port) (k : BitVec 8)
  /-- ATTEST (R612): The ATTEST command produces a report signed with the identity key. -/
  | attest (el : Nat) (p : Port) (rnd : List Byte)
  /-- DBG_CHALLENGE (R613): The DBG_CHALLENGE command writes 32 random bytes as a debug challenge. -/
  | dbgChallenge (el : Nat) (p : Port)
  /-- DBG_RESPONSE (R614): The DBG_RESPONSE command verifies a signed response and opens the debug level. -/
  | dbgResponse (el : Nat) (p : Port) (par : Byte)
  /-- DBG_CHALLENGE_EXPIRY (R613): A debug challenge expires 60 s after it was issued. -/
  | dbgChallengeExpiry (el : Nat)
  /-- TAMPER_LOWER (R615): The TAMPER_LOWER command lowers tamper responses under an owner signature. -/
  | tamperLower (el : Nat) (p : Port) (par : Byte)
  /-- UPD_COMMIT (R618): The UPD_COMMIT command verifies a staged slot, making it PENDING or INVALID. -/
  | updCommit (el : Nat) (p : Port) (target : BitVec 8) (c : List EccHit)
  /-- UPD_ABORT (R618): The UPD_ABORT command makes a PENDING slot EMPTY. -/
  | updAbort (el : Nat) (p : Port) (target : BitVec 8)
  /-- FW_ACTIVATE (R621): The FW_ACTIVATE command makes the pending firmware slot TRIAL and restarts the MSS into it. -/
  | fwActivate (el : Nat) (p : Port) (c : List EccHit)
  /-- UPD_CONFIRM (R622): The UPD_CONFIRM command makes the TRIAL slot ACTIVE and stores the anti-rollback pair. -/
  | updConfirm (el : Nat) (p : Port) (target : BitVec 8) (burns : List Bool)
  /-- SEC_CNT_CLEAR (R625): The security CNT_CLEAR command clears the security counters. -/
  | secCntClear (el : Nat) (p : Port)
  /-- TRIAL_TIMEOUT (R623): A trial not confirmed within SEC_UPD_TRIAL is reverted to the FALLBACK slot. -/
  | trialTimeout (el : Nat) (fw : Bool)
  /-- FW_READY_TIMEOUT (R621): Trial firmware not ready within 5 s makes the MSS restart into the FALLBACK slot. -/
  | fwReadyTimeout (el : Nat)
  /-- STORE_WINDOW_WRITE (R603): A write through the store window is guarded by region and may empty a slot. -/
  | storeWindowWrite (el : Nat) (p : Port) (o : BitVec 27) (v : Word)
  /-- SESSION_HELLO (R605): A HELLO message starts a session handshake and the device answers with a signed REPLY. -/
  | sessionHello (el : Nat) (e : EthPort) (f : RxFrame) (rnd : List Byte)
  /-- SESSION_FINISH (R606): A FINISH message is verified and the session installs its SAs and answers DONE, or aborts. -/
  | sessionFinish (el : Nat) (e : EthPort) (fcsOk : Bool) (len : Nat) (dst src : BitVec 48) (f : FrameBody)
  /-- SESSION_TIMEOUT (R608): A handshake whose next message does not arrive within 1 s is abandoned with ABORT TIMEOUT. -/
  | sessionTimeout (el : Nat) (k : Fin 3)
  /-- OLD_SA_DELETE (R610): The old receive SA is deleted 1 s after the transmit SA switch. -/
  | oldSaDelete (el : Nat) (e : EthPort)
  /-- SERVICE_SESSION_TIMEOUT (R611): A USB service session closes after 900 s without a command block. -/
  | serviceSessionTimeout (el : Nat)
  /-- TAMPER_DETECT (R616): A tamper sensor detection latches, counts, reports TAMPER and applies its zeroize response. -/
  | tamperDetect (el : Nat) (k : Fin 5)
  /-- MSS_LOCKSTEP (R626): A lockstep mismatch reports MSS_LOCKSTEP, stops both cores and restarts the MSS. -/
  | mssLockstep (e : Seen (List EccHit))
  /-- MSS_RESTART (R627): Writing MSS_CMD.RESTART restarts the MSS. -/
  | mssRestart (el : Nat) (p : Port)
  /-- MSS_WATCHDOG (R627): Expiry of the MSS firmware watchdog restarts the MSS. -/
  | mssWatchdog (e : Seen (List EccHit))
  /-- MSS_READY (R627): The firmware reports ready, ending RESTARTING, and interrupted MSS work is repeated. -/
  | mssReady (el : Nat)
  /-- MSS_CNT_CLEAR (R655): Writing MSS_CMD.CNT_CLEAR clears the management and store counters. -/
  | mssCntClear (el : Nat) (p : Port)
  /-- TEMP_POLL (R629): Every 10 ms the MSS reads the 28 temperature points into MGT_TEMP. -/
  | tempPoll (el : Nat) (temps : List (BitVec 16))
  /-- SRAM_SCRUB_READ (R632): A background scrub read of an SRAM word corrects and rewrites or reports it. -/
  | sramScrubRead (e : Seen Nat) (x : SramRead)
  /-- STORE_SCRUB_READ (R637): A scrub read of a store word corrects it or reports STORE_UE. -/
  | storeScrubRead (e : Seen Nat) (err : Ecc)
  /-- SCRUB_LATE (R635): A scrub pass exceeding its bound counts SCRUB_LATE and continues. -/
  | scrubLate (el : Nat) (store : Bool)
  /-- POWER_DOWN_WARNING (R672): A power-down warning enters HOLDUP and starts the flush, copy, retention, recorder close and marker. -/
  | powerDownWarning (el : Nat) (pin : Bool) (vbat : BitVec 16)
  /-- POWER_DOWN_END (R673): When the warning ends the device clears the marker, opens new intervals and returns to RUN or SAFE. -/
  | powerDownEnd (e : Seen (Bool × BitVec 16))
  /-- POWERED_HOUR (R640): Each whole powered hour increments PWR_HOURS. -/
  | poweredHour (el : Nat)
  /-- INTERVAL_CLOSE (R644): A recorder interval closes by its timer, or trigger, and its record is merged, suppressed or written. -/
  | intervalClose (e : Seen (List EccHit)) (k : Fin 10) (inst : Fin 160)
  /-- REC_CLOSE_ALL (R644): Writing REC_CMD.CLOSE_ALL closes every open recorder interval. -/
  | recCloseAll (el : Nat) (p : Port)
  /-- REC_CNT_CLEAR (R655): Writing REC_CMD.CNT_CLEAR clears the recorder counters. -/
  | recCntClear (el : Nat) (p : Port)
  /-- TRACE_ARM (R646): Writing REC_TRACE_CFG with ARM arms one LANE_TRACE capture at the lane's next firing. -/
  | traceArm (el : Nat) (p : Port) (n : Fin 160) (decim : Fin 8)
  /-- REC_WIN0_READ (R652): Reading REC_WIN0 latches the selected record's SEQ. -/
  | recWin0Read (e : Seen (List EccHit)) (p : Port)
  /-- REC_WIN63_READ (R652): Reading REC_WIN63 compares SEQ with the latch, sets WHOLE, TORN or EMPTY and may advance the cursor. -/
  | recWin63Read (e : Seen (List EccHit)) (p : Port)
  /-- REC_CURSOR_WRITE (R653): Writing REC_CURSOR selects a record index and sets RESULT to NONE. -/
  | recCursorWrite (el : Nat) (p : Port) (v : Word)
  /-- PLL_LOCKED (R658): The main PLL locks after TCXO_OK and the reference moves to it. -/
  | pllLocked (el : Nat)
  /-- CLOCK_SOURCE_LOST (R665): A clock monitor finds its source lost, clears its OK bit and reports CLOCK_SOURCE. -/
  | clockSourceLost (el : Nat) (k : Fin 5) (forced : Bool)
  /-- CLOCK_SOURCE_OK (R665): A source good for its recovery time sets its OK bit again. -/
  | clockSourceOk (el : Nat) (k : Fin 5)
  /-- IRO_TRIM (R660): At each trim interval the IRO is trimmed against the first available trim source. -/
  | iroTrim (el : Nat) (err : Int) (sof : Bool)
  /-- SEL_MAIN (R664): Writing CLK_CMD.SEL_MAIN moves the reference to the main PLL when the TCXO has been good for 100 ms. -/
  | selMain (el : Nat) (p : Port)
  /-- CLK_CNT_CLEAR (R679): Writing CLK_CMD.CNT_CLEAR clears the clock and power counters. -/
  | clkCntClear (el : Nat) (p : Port)
  /-- CLK_GATE_CMD (R666): Writing CLK_GATE_CMD requests a gate on or off, refused when in use, parent off or unknown. -/
  | clkGateCmd (el : Nat) (p : Port) (v : Word)
  /-- GATE_IDLE (R667): A gate asked off stops its clock when idle is reached within 1,024 cycles, else ends BUSY. -/
  | gateIdle (el : Nat) (idle : Bool)
  /-- RAIL_OUT_OF_WINDOW (R669): A rail outside its window for 5 µs sets OOW and reports SUPPLY. -/
  | railOutOfWindow (el : Nat) (r : Fin 14) (mv : BitVec 16) (vio33 : Bool)
  /-- RAIL_IN_WINDOW (R669): OOW clears when the rail has been inside its window for 1 ms. -/
  | railInWindow (el : Nat) (r : Fin 14) (mv : BitVec 16) (vio33 : Bool)
  /-- RESET_PIN (R676): RESET_N low for 1 µs resets the device. -/
  | resetPin (el : Nat) (ns : Nat)
  /-- RST_KEY_WRITE (R676): Writing RST_KEY with 0x0000_C3A5 arms a host device reset for 1 ms. -/
  | rstKeyWrite (el : Nat) (p : Port) (v : Word)
  /-- RST_DEVICE (R676): Writing RST_CMD.DEVICE within 1 ms of the key resets the device. -/
  | rstDevice (el : Nat) (p : Port)
  /-- DEVICE_RESET (R677): A device reset restarts every island and the MSS and holds outputs in their reset states. -/
  | deviceReset (el : Nat) (cause : Fin 5)
  /-- PHASE_CHOP_CYCLE (R325): Each axis phase drives until its measured current reaches the table target, then decays for T_OFF, stepping the run-to-hold ramp once per phase A cycle. -/
  | phaseChopCycle (el : Nat) (a : Fin 8) (b : Bool) (i : BitVec 16)
  /-- MICROSTEP_EMIT (R339): The interpolator emits the next microstep of a coarse step, moving AX_XACTUAL and, at a full-step boundary, changing the resolution level and estimating the load angle. -/
  | microstepEmit (el : Nat) (a : Fin 8) (d : BitVec 16)
  /-- SATELLITE_ACQUIRED (R444): A search finds a satellite's signal and assigns or replaces a tracking channel, starting a second-band channel from the first. -/
  | satelliteAcquired (e : Seen (Nat × Nat)) (sig : Fin 3) (sv : BitVec 8) (elev : Int) (second : Bool)
  /-- CARRIER_LOCK_LOSS (R448): A channel loses carrier lock or bit synchronisation, clearing CARRIER_LOCK, incrementing SLIPS and restarting navigation units at the next synchronisation. -/
  | carrierLockLoss (el : Nat) (c : Fin 64) (bits : Bool)
  /-- ANT_OPEN_RECOVER (R435): GNSS_ANT_STAT.OPEN clears when the bias current has been at or above 3 mA for 1 s. -/
  | antOpenRecover (el : Nat) (i : BitVec 16)
  /-- PROTOCOL_EXCEPTION (R474): With PXHD 0, a recessive res bit in a received FD frame starts protocol exception handling, waits for bus integration and sets PROTO_EXC. -/
  | protocolException (el : Nat) (c : Fin 4)
  /-- ETH_LINK_CHANGE (R525): An Ethernet port's link comes up or goes down, updating ETHn_STAT.LINK and ANEG_DONE, setting ETHn_LINK in PORT_IRQ_STAT and keeping the SAs. -/
  | ethLinkChange (el : Nat) (e : EthPort) (linkUp aneg : Bool) (speed : Fin 3)
  /-- RECORDER_SAMPLE (R644): Every 1 ms the recorder adds the supply monitor readings and INTAKE_STAT.FILL to their open SUPPLY and INTAKE_FILL intervals. -/
  | recorderSample (el : Nat) (mv : List (BitVec 16))
  /-- MSS_DEBUG_HALT (R614): A debugger at an open level halts the MSS, which stops its work as in an MSS restart. -/
  | mssDebugHalt (el : Nat)
  /-- DEBUG_HALT_END (R627): At the end of a debug halt the MSS restarts with cause debug halt. -/
  | debugHaltEnd (el : Nat)
  /-- DEBUG_RESET (R676): A reset requested through an open debug level resets the device and sets RST_CAUSE.DEBUG. -/
  | debugReset (el : Nat)
  /-- SWITCH_HOT_CHANGE (R413): A switch channel sensor crossing T_RST sets or clears SW_CH_STAT.HOT. -/
  | switchHotChange (el : Nat) (h : Fin 24) (temp : BitVec 16)
  deriving DecidableEq, Repr

/-- The nanoseconds of device time that pass before a command. -/
def Instr.el : Instr → Nat
  | .registerWrite e .. => e
  | .multiwordCaptureRead e .. => e.el
  | .linkTransfer e .. => e
  | .handshakeTimeout e .. => e
  | .clockMonitorWindow e .. => e.el
  | .islandRestart e .. => e
  | .islandRestartBegin e .. => e
  | .islandUp e .. => e
  | .dtSyncToken e .. => e
  | .sysCntClear e .. => e
  | .resetAssert e .. => e
  | .resetRelease e .. => e
  | .bootImageLoad e .. => e
  | .sealTimeout e .. => e
  | .ldrSeal e .. => e
  | .ldrVerify e .. => e
  | .verifyComplete e .. => e
  | .ldrArm e .. => e
  | .shadowBanksLoaded e .. => e
  | .thFinal e .. => e
  | .handoverSwap e .. => e
  | .patchLogMarked e .. => e
  | .boundaryTimeout e .. => e
  | .ldrAbort e .. => e
  | .ldrAck e .. => e
  | .ldrClearCnt e .. => e
  | .ldrRefuseAck e .. => e
  | .huzerFrame e .. => e
  | .pauseRefresh e .. => e
  | .streamResync e .. => e
  | .tgtSubmit e .. => e
  | .targetDispatch e .. => e
  | .intakeCntClear e .. => e
  | .beltSample e .. => e
  | .stitchRetimeBelt e .. => e
  | .gndVsCommit e .. => e
  | .fusedDrTick e .. => e
  | .fusedFix e .. => e
  | .drOnlyTimeout e .. => e
  | .drMaxExpiry e .. => e
  | .historyTick e .. => e
  | .evalPass e .. => e
  | .evalPeriodSkipped e .. => e
  | .spotEventTake e .. => e
  | .blockWriteback e .. => e
  | .gndFlush e .. => e
  | .gndPage e .. => e
  | .pageReady e .. => e
  | .gndCommit e .. => e
  | .gndCntClear e .. => e
  | .rasterHostWrite e .. => e
  | .stitchPlace e .. => e
  | .latencyRecompute e .. => e
  | .stitchCommit e .. => e
  | .stitchCancel e .. => e
  | .sectionOn e .. => e
  | .sectionOff e .. => e
  | .dutyUpdate e .. => e
  | .spotRetime e .. => e
  | .stitchFlush e .. => e
  | .stitchCntClear e .. => e
  | .stitchCalCapture e .. => e
  | .ghTurnOn e .. => e
  | .openInstant e .. => e
  | .peakReached e .. => e
  | .peakEnd e .. => e
  | .boostTimeout e .. => e
  | .holdReached e .. => e
  | .chopCycle e .. => e
  | .closeInstant e .. => e
  | .splitReached e .. => e
  | .firingEnd e .. => e
  | .clampIntervalEnd e .. => e
  | .clampPowerWindow e .. => e
  | .ghTurnOff e .. => e
  | .groupTrip e .. => e
  | .grpClear e .. => e
  | .groupOverload e .. => e
  | .ghStuck e .. => e
  | .laneOpenCheck e .. => e
  | .laneOpenHold e .. => e
  | .laneShort e .. => e
  | .laneOc e .. => e
  | .rmeasWindowClose e .. => e
  | .thermalTick e .. => e.el
  | .idleTestStart e .. => e
  | .idleTestResult e .. => e
  | .peakInhibit e .. => e.el
  | .peakInhibitEnd e .. => e
  | .groundLoss e .. => e
  | .groundReturn e .. => e
  | .tileOt e .. => e
  | .tileOtClear e .. => e
  | .tileTempWarn e .. => e
  | .tileCntClear e .. => e
  | .kneeSearchEnd e .. => e
  | .stuckTimeReached e .. => e
  | .closingSearchEnd e .. => e
  | .modelUpdate e .. => e.el
  | .acceptOpen e .. => e
  | .acceptClose e .. => e
  | .lrnClear e .. => e
  | .burnishNow e .. => e
  | .modelCopy e .. => e
  | .burnishStart e .. => e
  | .burnishComplete e .. => e
  | .burnishStale e .. => e
  | .profileUpdate e .. => e
  | .holdCurrentSwitch e .. => e
  | .stepPulse e .. => e
  | .axisOc e .. => e
  | .axisOpen e .. => e
  | .axisVmUv e .. => e
  | .vmRecover e .. => e
  | .motionOt e .. => e
  | .motOtClear e .. => e
  | .motCntClear e .. => e
  | .axStop e .. => e
  | .axHold e .. => e
  | .axRelease e .. => e
  | .encSync e .. => e
  | .setActual e .. => e
  | .encoderEdge e .. => e
  | .encRateRecover e .. => e
  | .indexEdge e .. => e.el
  | .encBreak e .. => e
  | .encBreakClear e .. => e
  | .speedWindowEnd e .. => e
  | .encLoad e .. => e
  | .indexArm e .. => e
  | .serialFrameStart e .. => e
  | .serialFrameEnd e .. => e
  | .serialTimeout e .. => e.el
  | .probeEdge e .. => e
  | .probeStuck e .. => e
  | .probeArm e .. => e
  | .probePop e .. => e
  | .probeCapRead e .. => e
  | .cmpValWrite e .. => e
  | .cmpCfgWrite e .. => e
  | .cmpPulseEnd e .. => e
  | .fbCntClear e .. => e
  | .switchOn e .. => e
  | .switchOff e .. => e
  | .inrushEnd e .. => e
  | .limitEnter e .. => e
  | .limitTimeout e .. => e
  | .fastTrip e .. => e
  | .channelOt e .. => e
  | .pauseEnd e .. => e
  | .channelRestart e .. => e
  | .triesClear e .. => e
  | .clrRetry e .. => e
  | .clrTh e .. => e
  | .clusterOt e .. => e
  | .clusterOtClear e .. => e
  | .switchOpenOn e .. => e
  | .switchOpenOff e .. => e
  | .switchStuck e .. => e
  | .switchShortVbat e .. => e
  | .vbatUv e .. => e
  | .vbatUvRecover e .. => e
  | .reverseBattery e .. => e
  | .reverseEnd e .. => e
  | .overvolt e .. => e
  | .swCntClear e .. => e
  | .antShort e .. => e
  | .antClear e .. => e
  | .antOpen e .. => e
  | .aidTime e .. => e
  | .aidPos e .. => e
  | .aidNavCommit e .. => e
  | .gnssForget e .. => e
  | .navPop e .. => e
  | .gnssCntClear e .. => e
  | .gnssRetain e .. => e
  | .measEpoch e .. => e
  | .navUnit e .. => e
  | .navSolution e .. => e
  | .dtMeasurement e .. => e
  | .dtSourceLoss e .. => e
  | .holdoverSecond e .. => e
  | .ppsEdge e .. => e
  | .timePulse e .. => e
  | .dtModelClear e .. => e
  | .dtCntClear e .. => e
  | .rtcLatch e .. => e
  | .canInitSet e .. => e.el
  | .canInitClear e .. => e
  | .canFrameRx e .. => e
  | .txReqSet e .. => e
  | .txReqWithdraw e .. => e
  | .canAbortAll e .. => e
  | .canFrameTxDone e .. => e
  | .canError e .. => e
  | .canRecover e .. => e
  | .busoffRecovered e .. => e.el
  | .canFifoPop e .. => e
  | .objCaptureRead e .. => e
  | .canFvWrite e .. => e
  | .referenceRequest e .. => e
  | .canTmHandoff e .. => e
  | .canCntClear e .. => e
  | .regAccessRequest e .. => e
  | .notifyTx e .. => e
  | .pauseFrameRx e .. => e
  | .portCntClear e .. => e
  | .qread e .. => e.el
  | .qreadFixed e .. => e.el
  | .qwrite e .. => e.el
  | .qwriteFixed e .. => e.el
  | .qrmw e .. => e.el
  | .getStatus e .. => e.el
  | .usbAttach e .. => e
  | .usbDetach e .. => e
  | .getInfo e .. => e
  | .regRead e .. => e.el
  | .regWrite e .. => e
  | .stageWrite e .. => e
  | .stageCommit e .. => e
  | .recorderRead e .. => e.el
  | .usbAttest e .. => e
  | .getReport e .. => e
  | .sessionOut e .. => e
  | .sessionIn e .. => e
  | .faultOccurrence e .. => e
  | .bucketLeak e .. => e
  | .reportFrameTx e .. => e
  | .fmSrcAck e .. => e
  | .fmSrcStatRead e .. => e
  | .pinTest e .. => e
  | .pinTestEnd e .. => e.el
  | .fmCntClear e .. => e
  | .cinchQuery e .. => e
  | .cinchAnswer e .. => e
  | .cinchAnswerWrite e .. => e
  | .cinchWindowEnd e .. => e
  | .safeApply e .. => e
  | .safeRelease e .. => e
  | .island38Loss e .. => e
  | .takeOwner e .. => e
  | .rotateOwner e .. => e
  | .keyLoad e .. => e
  | .keyErase e .. => e
  | .attest e .. => e
  | .dbgChallenge e .. => e
  | .dbgResponse e .. => e
  | .dbgChallengeExpiry e .. => e
  | .tamperLower e .. => e
  | .updCommit e .. => e
  | .updAbort e .. => e
  | .fwActivate e .. => e
  | .updConfirm e .. => e
  | .secCntClear e .. => e
  | .trialTimeout e .. => e
  | .fwReadyTimeout e .. => e
  | .storeWindowWrite e .. => e
  | .sessionHello e .. => e
  | .sessionFinish e .. => e
  | .sessionTimeout e .. => e
  | .oldSaDelete e .. => e
  | .serviceSessionTimeout e .. => e
  | .tamperDetect e .. => e
  | .mssLockstep e .. => e.el
  | .mssRestart e .. => e
  | .mssWatchdog e .. => e.el
  | .mssReady e .. => e
  | .mssCntClear e .. => e
  | .tempPoll e .. => e
  | .sramScrubRead e .. => e.el
  | .storeScrubRead e .. => e.el
  | .scrubLate e .. => e
  | .powerDownWarning e .. => e
  | .powerDownEnd e .. => e.el
  | .poweredHour e .. => e
  | .intervalClose e .. => e.el
  | .recCloseAll e .. => e
  | .recCntClear e .. => e
  | .traceArm e .. => e
  | .recWin0Read e .. => e.el
  | .recWin63Read e .. => e.el
  | .recCursorWrite e .. => e
  | .pllLocked e .. => e
  | .clockSourceLost e .. => e
  | .clockSourceOk e .. => e
  | .iroTrim e .. => e
  | .selMain e .. => e
  | .clkCntClear e .. => e
  | .clkGateCmd e .. => e
  | .gateIdle e .. => e
  | .railOutOfWindow e .. => e
  | .railInWindow e .. => e
  | .resetPin e .. => e
  | .rstKeyWrite e .. => e
  | .rstDevice e .. => e
  | .deviceReset e .. => e
  | .phaseChopCycle e .. => e
  | .microstepEmit e .. => e
  | .satelliteAcquired e .. => e.el
  | .carrierLockLoss e .. => e
  | .antOpenRecover e .. => e
  | .protocolException e .. => e
  | .ethLinkChange e .. => e
  | .recorderSample e .. => e
  | .mssDebugHalt e .. => e
  | .debugHaltEnd e .. => e
  | .debugReset e .. => e
  | .switchHotChange e .. => e

end Sys2Proof
end

