-- ==== Sys2Proof/Config.lean ====
section
/-!
DEFINITION. The free values: constants without a body, so that nothing can be proved from their value, and the few
numbers that the spec leaves to the device at hand.
-/
namespace Sys2Proof.Config

/-- Every value the spec leaves open after a command. The first argument names the place (a number of its own for
each), the second is the counter `State.free` that the command reads and advances. Free value (log 5). -/
opaque freeWord : Nat → Nat → BitVec 32

/-- SYS_REV at reset: the spec states "per stepping"; A0 is the stepping of R699's example. DESIGN CHOICE (log 3). -/
def sysRev : Word := 0xA0

end Sys2Proof.Config
end

