-- ==== Sys2Proof/Machine/Operands.lean ====
section
/-!
DEFINITION. Bit fields of register words, sign extension, clamping, rounding (R7), saturation (R8) and byte order (R9):
the operand forms every family uses.
-/
namespace Sys2Proof.Machine

/-- Bit `i` of a register word, alone. -/
def bit (i : Nat) : Word := BitVec.twoPow 32 i

/-- Bits [lo + wid − 1 : lo] of a word, as a number. -/
def fld (w : Word) (lo wid : Nat) : Nat := (w.extractLsb' lo wid).toNat

/-- Bits [lo + wid − 1 : lo] of a word, read as two's complement. -/
def sfld (w : Word) (lo wid : Nat) : Int := (w.extractLsb' lo wid).toInt

/-- The mask with ones in bits [lo + wid − 1 : lo]. -/
def fldMask (lo wid : Nat) : Word := ((BitVec.allOnes wid).setWidth 32) <<< lo

/-- The word with bits [lo + wid − 1 : lo] replaced by the low `wid` bits of `v`. -/
def setFld (w : Word) (lo wid v : Nat) : Word :=
  (w &&& ~~~ fldMask lo wid) ||| (((BitVec.ofNat wid v).setWidth 32) <<< lo)

/-- The word with bit `i` set to `b`. -/
def setBit (w : Word) (i : Nat) (b : Bool) : Word := if b then w ||| bit i else w &&& ~~~ bit i

/-- A number as a register word, modulo 2³². -/
def wordN (n : Nat) : Word := BitVec.ofNat 32 n

/-- An integer as a 32-bit two's complement register word, modulo 2³². -/
def wordI (n : Int) : Word := BitVec.ofInt 32 n

/-- `b` as a number, 0 or 1. -/
def b2n (b : Bool) : Nat := if b then 1 else 0

/-- `v` held within [lo, hi]: what the register tables call "stored clamped". -/
def clampN (lo hi v : Nat) : Nat := if v < lo then lo else if hi < v then hi else v

/-- `v` held within [lo, hi]. -/
def clampI (lo hi v : Int) : Int := if v < lo then lo else if hi < v then hi else v

/-- An integer saturated to a signed field of `w` bits (R8). -/
def satI (w : Nat) (v : Int) : Int := clampI (-(2 ^ (w - 1) : Int)) (2 ^ (w - 1) - 1) v

/-- A number saturated to an unsigned field of `w` bits (R8). -/
def satN (w v : Nat) : Nat := if 2 ^ w ≤ v then 2 ^ w - 1 else v

/-- The square root of `n`, rounded down, bit by bit from bit `k` − 1: `acc` holds the bits above. -/
def isqrtFrom (n : Nat) : Nat → Nat → Nat
  | 0, acc => acc
  | k + 1, acc => if (acc + 2 ^ k) * (acc + 2 ^ k) ≤ n then isqrtFrom n k (acc + 2 ^ k) else isqrtFrom n k acc
def isqrt (n : Nat) : Nat := isqrtFrom n (Nat.log2 n / 2 + 1) 0

/-- An element put before the first one that it is not greater than, and a list in rising order; equal ones keep their order. -/
def putBy {α : Type} (le : α → α → Bool) (x : α) : List α → List α
  | [] => [x]
  | y :: r => if le x y then x :: y :: r else y :: putBy le x r
def sortBy {α : Type} (le : α → α → Bool) : List α → List α
  | [] => []
  | x :: r => putBy le x (sortBy le r)

/-- `a / b` rounded to nearest, ties away from zero (R7); `b` is positive, and 0 where `b` is 0. -/
def roundDiv (a : Int) (b : Nat) : Int :=
  if b = 0 then 0
  else if 0 ≤ a then ((2 * a + b) / (2 * b) : Int) else -((2 * (-a) + b) / (2 * b) : Int)

/-- `a / b` rounded toward minus infinity; 0 where `b` is 0. -/
def floorDiv (a : Int) (b : Nat) : Int := if b = 0 then 0 else a / (b : Int)

/-- `a / b` truncated toward zero, as the spec's pseudocode divides (00, Text conventions). -/
def truncDiv (a b : Int) : Int := if b = 0 then 0 else Int.tdiv a b

/-- `a` rounded up to the next multiple of `m` (itself when it is one). -/
def ceilMul (a m : Nat) : Nat := if m = 0 then a else (a + m - 1) / m * m

/-- The integer nearest `a` on the 10 ns grid, in ns (R46, R7). -/
def grid10 (a : Int) : Int := roundDiv a 10 * 10

/-- A 48-bit two's complement value from its two words (R19). -/
def i48 (lo hi : Word) : Int := ((hi.extractLsb' 0 16) ++ lo).toInt

/-- An unsigned 64-bit value from its two words (R20). -/
def n64 (lo hi : Word) : Nat := lo.toNat + hi.toNat * 2 ^ 32

/-- The lower word of a 48- or 64-bit value. -/
def loW (v : Int) : Word := BitVec.ofInt 32 v

/-- The upper word of a 48-bit signed value: bits [31:16] are copies of bit 47 (R19). -/
def hiW48 (v : Int) : Word := ((BitVec.ofInt 48 v).extractLsb' 32 16).signExtend 32

/-- The upper word of a 64-bit value. -/
def hiW64 (v : Int) : Word := (BitVec.ofInt 64 v).extractLsb' 32 32

/-- An integer wrapped to 48 bits, two's complement. -/
def wrap48 (v : Int) : Int := (BitVec.ofInt 48 v).toInt

/-- An integer wrapped to 32 bits, two's complement. -/
def wrap32 (v : Int) : Int := (BitVec.ofInt 32 v).toInt

/-- The four bytes of a word, least significant first (R9). -/
def bytesOfWord (w : Word) : List Byte :=
  [w.extractLsb' 0 8, w.extractLsb' 8 8, w.extractLsb' 16 8, w.extractLsb' 24 8]

/-- `n` bytes of a number, least significant first (R9). -/
def leBytes : Nat → Nat → List Byte
  | 0, _ => []
  | n + 1, v => BitVec.ofNat 8 v :: leBytes n (v / 256)

/-- The number that bytes spell, least significant first (R9). -/
def leNat : List Byte → Nat
  | [] => 0
  | b :: r => b.toNat + 256 * leNat r

/-- The `n` bytes of `l` from offset `o`, as a number (R9). -/
def leAt (l : List Byte) (o n : Nat) : Nat := leNat ((l.drop o).take n)

/-- Bytes as register words, least significant byte first; the last word is filled with zeros. -/
def wordsOfBytes : List Byte → List Word
  | [] => []
  | [a] => [wordN (leNat [a])]
  | [a, b] => [wordN (leNat [a, b])]
  | [a, b, c] => [wordN (leNat [a, b, c])]
  | a :: b :: c :: d :: r => wordN (leNat [a, b, c, d]) :: wordsOfBytes r

/-- A mean of integers, rounded by R7; 0 for none. -/
def meanI (l : List Int) : Int := roundDiv l.sum l.length

end Sys2Proof.Machine
end

