-- ==== Sys2Proof/Machine/Addr.lean ====
section
/-!
DEFINITION. The byte address of every register, under the name the spec gives it (the register tables of the
chapter files of spec/; block bases: 01 R52, Table 9). A register of a repeated unit takes the unit's number:
tile t, physical lane n, logical lane n, axis a, switch channel h, CAN controller c and object m, fault source s.
-/
namespace Sys2Proof.Machine.R

/-! Block `sys` (spec 01 Table 10), base 0x0. -/
abbrev SYS_ID : Nat := 0x0
abbrev SYS_REV : Nat := 0x4
abbrev SYS_RES : Nat := 0x8
abbrev SYS_IRQ_STAT : Nat := 0x10
abbrev SYS_IRQ_EN : Nat := 0x14
abbrev SYS_IRQ_PEND : Nat := 0x18
abbrev SYS_TILE_IRQ : Nat := 0x20
abbrev SYS_TILE_IRQ_EN : Nat := 0x24
abbrev SYS_ISLAND_UP0 : Nat := 0x30
abbrev SYS_ISLAND_UP1 : Nat := 0x34
abbrev SYS_ISLAND_LOST0 : Nat := 0x38
abbrev SYS_ISLAND_LOST1 : Nat := 0x3C
abbrev SYS_ISLAND_RESTART0 : Nat := 0x40
abbrev SYS_ISLAND_RESTART1 : Nat := 0x44
abbrev SYS_HS_TIMEOUT : Nat := 0x50
abbrev SYS_HS_PARITY : Nat := 0x54
abbrev SYS_DT_STEP : Nat := 0x58
abbrev SYS_DT_LAST : Nat := 0x5C
abbrev SYS_CNT_CLEAR : Nat := 0x60

/-! Block `clk` (spec 17 Table 10), base 0x10000. -/
abbrev CLK_STAT : Nat := 0x10000
abbrev CLK_CTRL : Nat := 0x10004
abbrev CLK_CMD : Nat := 0x10008
abbrev CLK_IRQ_STAT : Nat := 0x1000C
abbrev CLK_IRQ_EN : Nat := 0x10010
abbrev CLK_IRO_TRIM : Nat := 0x10014
abbrev CLK_IRO_ERR : Nat := 0x10018
abbrev CLK_FORCED_CNT : Nat := 0x1001C
abbrev CLK_LOSS_CNT : Nat := 0x10020
abbrev CLK_GATE_CMD : Nat := 0x10040
abbrev CLK_GATE_RESULT : Nat := 0x10044
abbrev CLK_GATE_STAT0 : Nat := 0x10048
abbrev CLK_GATE_STAT1 : Nat := 0x1004C
abbrev PWR_STAT : Nat := 0x10100
abbrev PWR_IRQ_STAT : Nat := 0x10104
abbrev PWR_IRQ_EN : Nat := 0x10108
abbrev PWR_PD_CFG : Nat := 0x1010C
abbrev PWR_BK_CFG : Nat := 0x10110
abbrev PWR_OOW_CNT : Nat := 0x10114
abbrev PWR_RAIL (i : Nat) : Nat := 0x10140 + i * 0x4
abbrev RST_CAUSE : Nat := 0x10200
abbrev RST_KEY : Nat := 0x10204
abbrev RST_CMD : Nat := 0x10208

/-! Block `fm` (spec 14 Table 10), base 0x20000. -/
abbrev FM_STAT : Nat := 0x20000
abbrev FM_IRQ_STAT : Nat := 0x20004
abbrev FM_IRQ_EN : Nat := 0x20008
abbrev FM_CMD : Nat := 0x2000C
abbrev FM_PEND (i : Nat) : Nat := 0x20010 + i * 0x4
abbrev FM_LASTING (i : Nat) : Nat := 0x20020 + i * 0x4
abbrev FM_REPORT : Nat := 0x20040
abbrev FM_RSEQ : Nat := 0x20044
abbrev FM_REPORT_LOST : Nat := 0x20048
abbrev FM_LOST : Nat := 0x2004C
abbrev FM_BUCKET_SEL : Nat := 0x20050
abbrev FM_BUCKET_VAL : Nat := 0x20054
abbrev CINCH_CFG : Nat := 0x20800
abbrev CINCH_WIN : Nat := 0x20804
abbrev CINCH_STAT : Nat := 0x20808
abbrev CINCH_ANSWER : Nat := 0x2080C
abbrev CINCH_MISS : Nat := 0x20810
abbrev CINCH_BAD_ANS : Nat := 0x20814
abbrev CINCH_CRC_ERR : Nat := 0x20818
abbrev CINCH_EXPIRIES : Nat := 0x2081C
abbrev SAFE_CMD : Nat := 0x20C00
abbrev SAFE_STAT : Nat := 0x20C04
abbrev SAFE_APPLY_CNT : Nat := 0x20C08
abbrev SAFE_LANE (i : Nat) : Nat := 0x20C10 + i * 0x4
abbrev SAFE_SW0 : Nat := 0x20C40
abbrev SAFE_SW1 : Nat := 0x20C44
abbrev SAFE_AXCMP : Nat := 0x20C48
abbrev FM_SRC_CFG (i : Nat) : Nat := 0x21000 + i * 0x40
abbrev FM_SRC_STAT (i : Nat) : Nat := 0x21004 + i * 0x40
abbrev FM_CAP_INFO (i : Nat) : Nat := 0x21008 + i * 0x40
abbrev FM_CAP_DETAIL (i : Nat) : Nat := 0x2100C + i * 0x40
abbrev FM_CAP_DT_LO (i : Nat) : Nat := 0x21010 + i * 0x40
abbrev FM_CAP_DT_HI (i : Nat) : Nat := 0x21014 + i * 0x40
abbrev FM_CAP2_INFO (i : Nat) : Nat := 0x21018 + i * 0x40
abbrev FM_CAP2_DETAIL (i : Nat) : Nat := 0x2101C + i * 0x40
abbrev FM_CAP2_DT_LO (i : Nat) : Nat := 0x21020 + i * 0x40
abbrev FM_CAP2_DT_HI (i : Nat) : Nat := 0x21024 + i * 0x40
abbrev FM_SRC_COUNT (i : Nat) : Nat := 0x21028 + i * 0x40
abbrev FM_SRC_ACK (i : Nat) : Nat := 0x2102C + i * 0x40

/-! Block `sec` (spec 15 Table 12), base 0x30000. -/
abbrev SEC_STAT : Nat := 0x30000
abbrev SEC_IRQ_STAT : Nat := 0x30004
abbrev SEC_IRQ_EN : Nat := 0x30008
abbrev SEC_CMD : Nat := 0x3000C
abbrev SEC_CMD_STAT : Nat := 0x30010
abbrev SEC_UPD_STAT : Nat := 0x30014
abbrev SEC_UPD_RESULT : Nat := 0x30018
abbrev SEC_UPD_TRIAL : Nat := 0x3001C
abbrev SEC_UPD_LEFT : Nat := 0x30020
abbrev SEC_IMG_RB : Nat := 0x30024
abbrev SEC_FW_RB : Nat := 0x30028
abbrev SEC_FW_VERSION : Nat := 0x3002C
abbrev SEC_KEY_STAT : Nat := 0x30030
abbrev SEC_KEY_USE : Nat := 0x30034
abbrev SEC_TAMPER_CFG : Nat := 0x30038
abbrev SEC_TAMPER_EVT : Nat := 0x3003C
abbrev SEC_TAMPER_CNT : Nat := 0x30040
abbrev SEC_DBG_STAT : Nat := 0x30044
abbrev SEC_SESS_STAT : Nat := 0x30048
abbrev SEC_SESS_FAIL : Nat := 0x3004C
abbrev SEC_WIN_REFUSED : Nat := 0x30050
abbrev SEC_SERIAL_LO : Nat := 0x30054
abbrev SEC_SERIAL_HI : Nat := 0x30058
abbrev SEC_OWNER_HASH (i : Nat) : Nat := 0x30060 + i * 0x4
abbrev SEC_BUF (i : Nat) : Nat := 0x30100 + i * 0x4
abbrev SEC_CERT (i : Nat) : Nat := 0x30400 + i * 0x4

/-! Block `rec` (spec 16 Table 10), base 0x40000. -/
abbrev REC_CTRL : Nat := 0x40000
abbrev REC_STAT : Nat := 0x40004
abbrev REC_IRQ_STAT : Nat := 0x40008
abbrev REC_IRQ_EN : Nat := 0x4000C
abbrev REC_CMD : Nat := 0x40010
abbrev REC_SEQ_LO : Nat := 0x40014
abbrev REC_SEQ_HI : Nat := 0x40018
abbrev REC_CURSOR : Nat := 0x4001C
abbrev REC_WIN_STAT : Nat := 0x40020
abbrev REC_WIN_SEQ_LO : Nat := 0x40024
abbrev REC_WIN_SEQ_HI : Nat := 0x40028
abbrev REC_WRITTEN : Nat := 0x40030
abbrev REC_REPEATS : Nat := 0x40034
abbrev REC_SUPPRESSED : Nat := 0x40038
abbrev REC_TORN : Nat := 0x4003C
abbrev REC_STAGE_FULL : Nat := 0x40040
abbrev REC_TRACE_CFG : Nat := 0x40080
abbrev REC_TRACE_OFS : Nat := 0x40084
abbrev REC_WIN (i : Nat) : Nat := 0x40100 + i * 0x4
abbrev REC_CODE_CFG (i : Nat) : Nat := 0x40400 + i * 0x10
abbrev REC_CODE_TB (i : Nat) : Nat := 0x40404 + i * 0x10
abbrev REC_CODE_TOKENS (i : Nat) : Nat := 0x40408 + i * 0x10
abbrev REC_CODE_SUPP (i : Nat) : Nat := 0x4040C + i * 0x10

/-! Block `ldr` (spec 02 Table 8), base 0x50000. -/
abbrev LDR_CTRL : Nat := 0x50000
abbrev LDR_STAT : Nat := 0x50004
abbrev LDR_ERR : Nat := 0x50008
abbrev LDR_ERR_POS : Nat := 0x5000C
abbrev LDR_STAGE_ADDR : Nat := 0x50010
abbrev LDR_STAGE_LEN : Nat := 0x50014
abbrev LDR_SEAL_CFG : Nat := 0x50018
abbrev LDR_SEAL_LEFT : Nat := 0x5001C
abbrev LDR_ARM_DT_LO : Nat := 0x50020
abbrev LDR_ARM_DT_HI : Nat := 0x50024
abbrev LDR_TH_LO : Nat := 0x50028
abbrev LDR_TH_HI : Nat := 0x5002C
abbrev LDR_SET : Nat := 0x50030
abbrev LDR_WARN : Nat := 0x50034
abbrev LDR_IRQ_STAT : Nat := 0x50038
abbrev LDR_IRQ_EN : Nat := 0x5003C
abbrev LDR_RESEARCH : Nat := 0x50040
abbrev LDR_DEFER : Nat := 0x50044
abbrev LDR_REFUSE_CNT : Nat := 0x50048
abbrev LDR_HANDOVER_REFUSED : Nat := 0x5004C
abbrev LDR_DIGEST (i : Nat) : Nat := 0x50050 + i * 0x4
abbrev LDR_PATCH : Nat := 0x50080
abbrev LDR_VERSION : Nat := 0x50084
abbrev LDR_REFUSE_ADDR : Nat := 0x50090
abbrev LDR_REFUSE_DATA : Nat := 0x50094
abbrev LDR_REFUSE_INFO : Nat := 0x50098
abbrev LDR_REFUSE_ADDR2 : Nat := 0x5009C
abbrev LDR_REFUSE_DATA2 : Nat := 0x500A0
abbrev LDR_REFUSE_INFO2 : Nat := 0x500A4
abbrev LDR_REFUSE_ACK : Nat := 0x500A8
abbrev LDR_MAP (i : Nat) : Nat := 0x50100 + i * 0x4
abbrev LDR_SPARE (i : Nat) : Nat := 0x501A0 + i * 0x4

/-! Block `tile` (spec 06 Tables 8, 9 and 07 Tables 5, 6), base 0x100000. -/
abbrev TILE_CTRL (t : Nat) : Nat := 0x100000 + t * 0x10000 + 0x0
abbrev TILE_STAT (t : Nat) : Nat := 0x100000 + t * 0x10000 + 0x4
abbrev TILE_IRQ_STAT (t : Nat) : Nat := 0x100000 + t * 0x10000 + 0x8
abbrev TILE_IRQ_EN (t : Nat) : Nat := 0x100000 + t * 0x10000 + 0xC
abbrev TILE_CMD (t : Nat) : Nat := 0x100000 + t * 0x10000 + 0x10
abbrev TILE_TEMP (t : Nat) : Nat := 0x100000 + t * 0x10000 + 0x14
abbrev TILE_VPK (t : Nat) : Nat := 0x100000 + t * 0x10000 + 0x18
abbrev TILE_TAMB_HOST (t : Nat) : Nat := 0x100000 + t * 0x10000 + 0x1C
abbrev TILE_TEMP_WARN (t : Nat) : Nat := 0x100000 + t * 0x10000 + 0x20
abbrev GRP_CFG (t : Nat) : Nat := 0x100000 + t * 0x10000 + 0x24
abbrev GRP_IMEAS (t : Nat) : Nat := 0x100000 + t * 0x10000 + 0x28
abbrev GRP_TRIP_CNT (t : Nat) : Nat := 0x100000 + t * 0x10000 + 0x2C
abbrev GRP_SHARED_CNT (t : Nat) : Nat := 0x100000 + t * 0x10000 + 0x30
abbrev GRP_STUCK_CNT (t : Nat) : Nat := 0x100000 + t * 0x10000 + 0x34
abbrev GRP_OVERLOAD_CNT (t : Nat) : Nat := 0x100000 + t * 0x10000 + 0x38
abbrev TILE_PEAK_INHIBIT_CNT (t : Nat) : Nat := 0x100000 + t * 0x10000 + 0x3C
abbrev TILE_IDLE_DIAG (t : Nat) : Nat := 0x100000 + t * 0x10000 + 0x40
abbrev LANE_CFG (n : Nat) : Nat := 0x100000 + n / 8 * 0x10000 + n % 8 * 0x80 + 0x100
abbrev LANE_PEAK (n : Nat) : Nat := 0x100000 + n / 8 * 0x10000 + n % 8 * 0x80 + 0x104
abbrev LANE_PEAK_TMAX (n : Nat) : Nat := 0x100000 + n / 8 * 0x10000 + n % 8 * 0x80 + 0x108
abbrev LANE_HOLD (n : Nat) : Nat := 0x100000 + n / 8 * 0x10000 + n % 8 * 0x80 + 0x10C
abbrev LANE_DECAY (n : Nat) : Nat := 0x100000 + n / 8 * 0x10000 + n % 8 * 0x80 + 0x110
abbrev LANE_RELEASE (n : Nat) : Nat := 0x100000 + n / 8 * 0x10000 + n % 8 * 0x80 + 0x114
abbrev LANE_DIAG_CFG (n : Nat) : Nat := 0x100000 + n / 8 * 0x10000 + n % 8 * 0x80 + 0x118
abbrev LANE_OC (n : Nat) : Nat := 0x100000 + n / 8 * 0x10000 + n % 8 * 0x80 + 0x11C
abbrev LANE_COIL_R20 (n : Nat) : Nat := 0x100000 + n / 8 * 0x10000 + n % 8 * 0x80 + 0x120
abbrev LANE_TH_R (n : Nat) : Nat := 0x100000 + n / 8 * 0x10000 + n % 8 * 0x80 + 0x124
abbrev LANE_TH_C (n : Nat) : Nat := 0x100000 + n / 8 * 0x10000 + n % 8 * 0x80 + 0x128
abbrev LANE_TH_LIM (n : Nat) : Nat := 0x100000 + n / 8 * 0x10000 + n % 8 * 0x80 + 0x12C
abbrev LANE_TH_ACT (n : Nat) : Nat := 0x100000 + n / 8 * 0x10000 + n % 8 * 0x80 + 0x130
abbrev LANE_TH_KMEAS (n : Nat) : Nat := 0x100000 + n / 8 * 0x10000 + n % 8 * 0x80 + 0x134
abbrev LANE_TH_T (n : Nat) : Nat := 0x100000 + n / 8 * 0x10000 + n % 8 * 0x80 + 0x138
abbrev LANE_COIL_RMEAS (n : Nat) : Nat := 0x100000 + n / 8 * 0x10000 + n % 8 * 0x80 + 0x13C
abbrev LANE_COIL_TMEAS (n : Nat) : Nat := 0x100000 + n / 8 * 0x10000 + n % 8 * 0x80 + 0x140
abbrev LANE_STAT (n : Nat) : Nat := 0x100000 + n / 8 * 0x10000 + n % 8 * 0x80 + 0x144
abbrev LANE_DIAG (n : Nat) : Nat := 0x100000 + n / 8 * 0x10000 + n % 8 * 0x80 + 0x148
abbrev LANE_DIAG_EN (n : Nat) : Nat := 0x100000 + n / 8 * 0x10000 + n % 8 * 0x80 + 0x14C
abbrev LANE_FIRINGS (n : Nat) : Nat := 0x100000 + n / 8 * 0x10000 + n % 8 * 0x80 + 0x150
abbrev LANE_IGNORED (n : Nat) : Nat := 0x100000 + n / 8 * 0x10000 + n % 8 * 0x80 + 0x154
abbrev LANE_REFUSED (n : Nat) : Nat := 0x100000 + n / 8 * 0x10000 + n % 8 * 0x80 + 0x158
abbrev LANE_BOOST_TIMEOUT (n : Nat) : Nat := 0x100000 + n / 8 * 0x10000 + n % 8 * 0x80 + 0x15C
abbrev LANE_OPEN_CNT (n : Nat) : Nat := 0x100000 + n / 8 * 0x10000 + n % 8 * 0x80 + 0x160
abbrev LANE_SHORT_CNT (n : Nat) : Nat := 0x100000 + n / 8 * 0x10000 + n % 8 * 0x80 + 0x164
abbrev LANE_OC_CNT (n : Nat) : Nat := 0x100000 + n / 8 * 0x10000 + n % 8 * 0x80 + 0x168
abbrev LANE_RELEASE_OVERRUN (n : Nat) : Nat := 0x100000 + n / 8 * 0x10000 + n % 8 * 0x80 + 0x16C
abbrev LANE_SHARED_CNT (n : Nat) : Nat := 0x100000 + n / 8 * 0x10000 + n % 8 * 0x80 + 0x170
abbrev LANE_PEAK_TIME (n : Nat) : Nat := 0x100000 + n / 8 * 0x10000 + n % 8 * 0x80 + 0x174
abbrev LANE_CLAMP_EMAX (n : Nat) : Nat := 0x100000 + n / 8 * 0x10000 + n % 8 * 0x80 + 0x178
abbrev LANE_CLAMP_PAVG (n : Nat) : Nat := 0x100000 + n / 8 * 0x10000 + n % 8 * 0x80 + 0x17C
abbrev LRN_TILE_CFG (t : Nat) : Nat := 0x100000 + t * 0x10000 + 0x80
abbrev LRN_BAND_V0 (t : Nat) : Nat := 0x100000 + t * 0x10000 + 0x84
abbrev LRN_BAND_W (t : Nat) : Nat := 0x100000 + t * 0x10000 + 0x88
abbrev BURNISH_PERIOD (t : Nat) : Nat := 0x100000 + t * 0x10000 + 0x8C
abbrev BURNISH_MAXAGE (t : Nat) : Nat := 0x100000 + t * 0x10000 + 0x90
abbrev BURNISH_STAT (t : Nat) : Nat := 0x100000 + t * 0x10000 + 0x94
abbrev LRN_BAND (n b : Nat) : Nat := 0x100A00 + n / 8 * 0x10000 + n % 8 * 0x20 + b * 4
abbrev LRN_CFG (n : Nat) : Nat := 0x100000 + n / 8 * 0x10000 + n % 8 * 0x80 + 0x600
abbrev LRN_OPEN_WIN (n : Nat) : Nat := 0x100000 + n / 8 * 0x10000 + n % 8 * 0x80 + 0x604
abbrev LRN_CLOSE_WIN (n : Nat) : Nat := 0x100000 + n / 8 * 0x10000 + n % 8 * 0x80 + 0x608
abbrev LRN_DETECT (n : Nat) : Nat := 0x100000 + n / 8 * 0x10000 + n % 8 * 0x80 + 0x60C
abbrev LRN_GAIN (n : Nat) : Nat := 0x100000 + n / 8 * 0x10000 + n % 8 * 0x80 + 0x610
abbrev LRN_PLAUS (n : Nat) : Nat := 0x100000 + n / 8 * 0x10000 + n % 8 * 0x80 + 0x614
abbrev LRN_OFS (n : Nat) : Nat := 0x100000 + n / 8 * 0x10000 + n % 8 * 0x80 + 0x618
abbrev LRN_SEED_OPEN (n : Nat) : Nat := 0x100000 + n / 8 * 0x10000 + n % 8 * 0x80 + 0x61C
abbrev LRN_SEED_CLOSE (n : Nat) : Nat := 0x100000 + n / 8 * 0x10000 + n % 8 * 0x80 + 0x620
abbrev LRN_SEED_TC (n : Nat) : Nat := 0x100000 + n / 8 * 0x10000 + n % 8 * 0x80 + 0x624
abbrev LRN_BASE_OPEN (n : Nat) : Nat := 0x100000 + n / 8 * 0x10000 + n % 8 * 0x80 + 0x628
abbrev LRN_BASE_CLOSE (n : Nat) : Nat := 0x100000 + n / 8 * 0x10000 + n % 8 * 0x80 + 0x62C
abbrev LRN_TC (n : Nat) : Nat := 0x100000 + n / 8 * 0x10000 + n % 8 * 0x80 + 0x630
abbrev LRN_MEAS_OPEN (n : Nat) : Nat := 0x100000 + n / 8 * 0x10000 + n % 8 * 0x80 + 0x634
abbrev LRN_MEAS_CLOSE (n : Nat) : Nat := 0x100000 + n / 8 * 0x10000 + n % 8 * 0x80 + 0x638
abbrev LRN_STAT (n : Nat) : Nat := 0x100000 + n / 8 * 0x10000 + n % 8 * 0x80 + 0x63C
abbrev LRN_FLAGS (n : Nat) : Nat := 0x100000 + n / 8 * 0x10000 + n % 8 * 0x80 + 0x640
abbrev LRN_CMD (n : Nat) : Nat := 0x100000 + n / 8 * 0x10000 + n % 8 * 0x80 + 0x644
abbrev LRN_UPDATES (n : Nat) : Nat := 0x100000 + n / 8 * 0x10000 + n % 8 * 0x80 + 0x648
abbrev LRN_EXCLUDED (n : Nat) : Nat := 0x100000 + n / 8 * 0x10000 + n % 8 * 0x80 + 0x64C
abbrev LRN_OUTLIER_OPEN (n : Nat) : Nat := 0x100000 + n / 8 * 0x10000 + n % 8 * 0x80 + 0x650
abbrev LRN_OUTLIER_CLOSE (n : Nat) : Nat := 0x100000 + n / 8 * 0x10000 + n % 8 * 0x80 + 0x654
abbrev LRN_NOKNEE (n : Nat) : Nat := 0x100000 + n / 8 * 0x10000 + n % 8 * 0x80 + 0x658
abbrev LRN_NOCLOSE (n : Nat) : Nat := 0x100000 + n / 8 * 0x10000 + n % 8 * 0x80 + 0x65C
abbrev LRN_SHIFT_MEAN (n : Nat) : Nat := 0x100000 + n / 8 * 0x10000 + n % 8 * 0x80 + 0x660
abbrev BURNISH_I_CORR (n : Nat) : Nat := 0x100000 + n / 8 * 0x10000 + n % 8 * 0x80 + 0x664
abbrev BURNISH_V_CORR (n : Nat) : Nat := 0x100000 + n / 8 * 0x10000 + n % 8 * 0x80 + 0x668
abbrev BURNISH_DAC (n : Nat) : Nat := 0x100000 + n / 8 * 0x10000 + n % 8 * 0x80 + 0x66C
abbrev BURNISH_AGE (n : Nat) : Nat := 0x100000 + n / 8 * 0x10000 + n % 8 * 0x80 + 0x670
abbrev BURNISH_DONE (n : Nat) : Nat := 0x100000 + n / 8 * 0x10000 + n % 8 * 0x80 + 0x674
abbrev BURNISH_ABANDON (n : Nat) : Nat := 0x100000 + n / 8 * 0x10000 + n % 8 * 0x80 + 0x678

/-! Block `intake` (spec 03 Table 5), base 0x300000. -/
abbrev INTAKE_CTRL : Nat := 0x300000
abbrev INTAKE_STAT : Nat := 0x300004
abbrev INTAKE_HWM : Nat := 0x300008
abbrev INTAKE_FLOW : Nat := 0x30000C
abbrev INTAKE_IMM_LEAD : Nat := 0x300010
abbrev INTAKE_IRQ_STAT : Nat := 0x300014
abbrev INTAKE_IRQ_EN : Nat := 0x300018
abbrev INTAKE_CNT_CLEAR : Nat := 0x30001C
abbrev INTAKE_BADFRAME : Nat := 0x300020
abbrev INTAKE_S_CFG (i : Nat) : Nat := 0x300100 + i * 0x40
abbrev INTAKE_S_FALL_DROP (i : Nat) : Nat := 0x300104 + i * 0x40
abbrev INTAKE_S_BELT_DIST (i : Nat) : Nat := 0x300108 + i * 0x40
abbrev INTAKE_S_BELT_SCALE (i : Nat) : Nat := 0x30010C + i * 0x40
abbrev INTAKE_S_BELT_VMIN (i : Nat) : Nat := 0x300110 + i * 0x40
abbrev INTAKE_S_LAT_ORIGIN (i : Nat) : Nat := 0x300114 + i * 0x40
abbrev INTAKE_S_LAT_PITCH (i : Nat) : Nat := 0x300118 + i * 0x40
abbrev INTAKE_S_LAT_CTRL (i : Nat) : Nat := 0x30011C + i * 0x40
abbrev INTAKE_S_SEQ (i : Nat) : Nat := 0x300120 + i * 0x40
abbrev INTAKE_S_FRAMES (i : Nat) : Nat := 0x300124 + i * 0x40
abbrev INTAKE_S_LOST (i : Nat) : Nat := 0x300128 + i * 0x40
abbrev INTAKE_S_STALE (i : Nat) : Nat := 0x30012C + i * 0x40
abbrev INTAKE_S_BADFRAME (i : Nat) : Nat := 0x300130 + i * 0x40
abbrev INTAKE_S_FULLDROP (i : Nat) : Nat := 0x300134 + i * 0x40
abbrev INTAKE_S_TRANSIT (i : Nat) : Nat := 0x300138 + i * 0x40
abbrev INTAKE_S_STAT (i : Nat) : Nat := 0x30013C + i * 0x40
abbrev INTAKE_ACC (i : Nat) : Nat := 0x300200 + i * 0x4
abbrev INTAKE_TGT_W (i : Nat) : Nat := 0x300300 + i * 0x4
abbrev INTAKE_TGT_CFG : Nat := 0x300310
abbrev INTAKE_TGT_CNT : Nat := 0x300318
abbrev INTAKE_TGT_REFUSED : Nat := 0x30031C
abbrev INTAKE_REJ_MODEL : Nat := 0x300400
abbrev INTAKE_REJ_FIELD : Nat := 0x300404
abbrev INTAKE_REJ_LANE_RANGE : Nat := 0x300408
abbrev INTAKE_REJ_REF_STALE : Nat := 0x30040C
abbrev INTAKE_REJ_REF_FUTURE : Nat := 0x300410
abbrev INTAKE_REJ_BELT_INVALID : Nat := 0x300414
abbrev INTAKE_REJ_NO_ARRIVAL : Nat := 0x300418
abbrev INTAKE_REJ_RANGE : Nat := 0x30041C
abbrev INTAKE_REJ_DISAGREE : Nat := 0x300420
abbrev INTAKE_REJ_LAT_MISS : Nat := 0x300424
abbrev INTAKE_CNT_LANE_CLIP : Nat := 0x300428
abbrev INTAKE_CNT_LAT_CAP : Nat := 0x30042C
abbrev SOLVER_OK0 : Nat := 0x300500
abbrev SOLVER_OK1 : Nat := 0x300504
abbrev SOLVER_DISAGREE0 : Nat := 0x300508
abbrev SOLVER_DISAGREE1 : Nat := 0x30050C
abbrev SOLVER_MAXDIFF : Nat := 0x300510
abbrev INTAKE_S_BELT_SPEED (i : Nat) : Nat := 0x300600 + i * 0x4

/-! Block `stitch` (spec 05 Table 2), base 0x310000. -/
abbrev STITCH_CTRL : Nat := 0x310000
abbrev STITCH_STAT : Nat := 0x310004
abbrev STITCH_IRQ_STAT : Nat := 0x310008
abbrev STITCH_IRQ_EN : Nat := 0x31000C
abbrev STITCH_CMD : Nat := 0x310010
abbrev STITCH_FILL_HWM : Nat := 0x310014
abbrev STITCH_UNMAPPED : Nat := 0x310020
abbrev STITCH_DISABLED_DROP : Nat := 0x310024
abbrev STITCH_INTEGRITY : Nat := 0x310028
abbrev STITCH_CANCELLED : Nat := 0x31002C
abbrev STITCH_CANCEL_MISS : Nat := 0x310030
abbrev STITCH_CANCEL_LATE : Nat := 0x310034
abbrev STITCH_LATE_CLOSE : Nat := 0x310038
abbrev STITCH_ISSUE_FAIL : Nat := 0x31003C
abbrev STITCH_SAFE_DISCARD : Nat := 0x310040
abbrev STITCH_FLUSHED : Nat := 0x310044
abbrev STITCH_RETIME : Nat := 0x310048
abbrev STITCH_POOL_FULL : Nat := 0x31004C
abbrev STITCH_CAL_SEL : Nat := 0x310060
abbrev STITCH_CAL_OPEN_LO : Nat := 0x310064
abbrev STITCH_CAL_OPEN_HI : Nat := 0x310068
abbrev STITCH_CAL_CLOSE_LO : Nat := 0x31006C
abbrev STITCH_CAL_CLOSE_HI : Nat := 0x310070
abbrev STITCH_CAL_INFO : Nat := 0x310074
abbrev STITCH_GRP_CFG (i : Nat) : Nat := 0x310800 + i * 0x10
abbrev STITCH_GRP_STAGGERED (i : Nat) : Nat := 0x310804 + i * 0x10
abbrev STITCH_GRP_CONTENTION (i : Nat) : Nat := 0x310808 + i * 0x10
abbrev STITCH_GRP_STAGGER_MAX (i : Nat) : Nat := 0x31080C + i * 0x10
abbrev STITCH_LANE_CFG (i : Nat) : Nat := 0x311000 + i * 0x40
abbrev STITCH_LANE_GUARD (i : Nat) : Nat := 0x311004 + i * 0x40
abbrev STITCH_LANE_MIN (i : Nat) : Nat := 0x311008 + i * 0x40
abbrev STITCH_LANE_PWM (i : Nat) : Nat := 0x31100C + i * 0x40
abbrev STITCH_LANE_DUTY (i : Nat) : Nat := 0x311010 + i * 0x40
abbrev STITCH_LANE_LAT_OPEN (i : Nat) : Nat := 0x311014 + i * 0x40
abbrev STITCH_LANE_LAT_CLOSE (i : Nat) : Nat := 0x311018 + i * 0x40
abbrev STITCH_CAL_STAT (i : Nat) : Nat := 0x31101C + i * 0x40
abbrev STITCH_LANE_NEXT_LO (i : Nat) : Nat := 0x311020 + i * 0x40
abbrev STITCH_LANE_NEXT_HI (i : Nat) : Nat := 0x311024 + i * 0x40
abbrev STITCH_LANE_LATE_FIRE (i : Nat) : Nat := 0x311028 + i * 0x40
abbrev STITCH_LANE_LATE_DROP (i : Nat) : Nat := 0x31102C + i * 0x40
abbrev STITCH_LANE_MERGED (i : Nat) : Nat := 0x311030 + i * 0x40
abbrev STITCH_LANE_WIDENED (i : Nat) : Nat := 0x311034 + i * 0x40
abbrev STITCH_LANE_OVERFLOW (i : Nat) : Nat := 0x311038 + i * 0x40
abbrev STITCH_LANE_DEFERRED (i : Nat) : Nat := 0x31103C + i * 0x40

/-! Block `gnd` (spec 04 Table 5), base 0x320000. -/
abbrev GND_CTRL : Nat := 0x320000
abbrev GND_STAT : Nat := 0x320004
abbrev GND_PERIOD : Nat := 0x320008
abbrev GND_LEAD : Nat := 0x32000C
abbrev GND_VS_MAXAGE : Nat := 0x320010
abbrev GND_VMIN : Nat := 0x320014
abbrev GND_VREF : Nat := 0x320018
abbrev GND_THRESH : Nat := 0x32001C
abbrev GND_EDGE_DIST : Nat := 0x320020
abbrev GND_SAMP : Nat := 0x320024
abbrev GND_IRQ_STAT : Nat := 0x320028
abbrev GND_IRQ_EN : Nat := 0x32002C
abbrev GND_CMD : Nat := 0x320030
abbrev GND_VS_DT_LO : Nat := 0x320040
abbrev GND_VS_DT_HI : Nat := 0x320044
abbrev GND_VS_E_LO : Nat := 0x320048
abbrev GND_VS_E_HI : Nat := 0x32004C
abbrev GND_VS_N_LO : Nat := 0x320050
abbrev GND_VS_N_HI : Nat := 0x320054
abbrev GND_VS_HEAD : Nat := 0x320058
abbrev GND_VS_SPEED : Nat := 0x32005C
abbrev GND_VS_YAW : Nat := 0x320060
abbrev GND_CUR_DT_LO : Nat := 0x320080
abbrev GND_CUR_DT_HI : Nat := 0x320084
abbrev GND_CUR_E_LO : Nat := 0x320088
abbrev GND_CUR_E_HI : Nat := 0x32008C
abbrev GND_CUR_N_LO : Nat := 0x320090
abbrev GND_CUR_N_HI : Nat := 0x320094
abbrev GND_CUR_HEAD : Nat := 0x320098
abbrev GND_CUR_SPEED : Nat := 0x32009C
abbrev GND_CUR_YAW : Nat := 0x3200A0
abbrev GND_VS_AGE : Nat := 0x3200A4
abbrev GND_GEO_LAT : Nat := 0x3200C0
abbrev GND_GEO_LON : Nat := 0x3200C4
abbrev GND_ANT_X : Nat := 0x3200C8
abbrev GND_ANT_Y : Nat := 0x3200CC
abbrev GND_WHEEL_CFG : Nat := 0x3200D0
abbrev GND_WHEEL_SCALE : Nat := 0x3200D4
abbrev GND_TRACK : Nat := 0x3200D8
abbrev GND_FUSE_GAIN : Nat := 0x3200DC
abbrev GND_COG_VMIN : Nat := 0x3200E0
abbrev GND_DR_MAX : Nat := 0x3200E4
abbrev GND_RST_BASE : Nat := 0x320100
abbrev GND_RST_CELL : Nat := 0x320104
abbrev GND_RST_ORG_E_LO : Nat := 0x320108
abbrev GND_RST_ORG_E_HI : Nat := 0x32010C
abbrev GND_RST_ORG_N_LO : Nat := 0x320110
abbrev GND_RST_ORG_N_HI : Nat := 0x320114
abbrev GND_RST_WIN : Nat := 0x320118
abbrev GND_RST_WIN_NEXT : Nat := 0x32011C
abbrev GND_EV_LAT_ORIGIN : Nat := 0x320120
abbrev GND_EV_MARGIN : Nat := 0x320124
abbrev GND_EV (i : Nat) : Nat := 0x320140 + i * 0x4
abbrev GND_CNT_STALE : Nat := 0x320200
abbrev GND_VS_ORDER : Nat := 0x320204
abbrev GND_VS_FUTURE : Nat := 0x320208
abbrev GND_FIX_LATE : Nat := 0x32020C
abbrev GND_DISAGREE : Nat := 0x320210
abbrev GND_EV_DROP : Nat := 0x320214
abbrev GND_EV_STALE : Nat := 0x320218
abbrev GND_SPOT_EXCL : Nat := 0x32021C
abbrev GND_CACHE_MISS : Nat := 0x320220
abbrev GND_WB_LOST : Nat := 0x320224
abbrev GND_DUTY_CLIP : Nat := 0x320228
abbrev GND_OVERRUN : Nat := 0x32022C
abbrev GND_LANE_CFG (i : Nat) : Nat := 0x321000 + i * 0x20
abbrev GND_LANE_X (i : Nat) : Nat := 0x321004 + i * 0x20
abbrev GND_LANE_Y (i : Nat) : Nat := 0x321008 + i * 0x20
abbrev GND_LANE_FOOT (i : Nat) : Nat := 0x32100C + i * 0x20
abbrev GND_LANE_DELAY (i : Nat) : Nat := 0x321010 + i * 0x20
abbrev GND_LANE_DREF (i : Nat) : Nat := 0x321014 + i * 0x20
abbrev GND_LANE_DLIM (i : Nat) : Nat := 0x321018 + i * 0x20
abbrev GND_LANE_STAT (i : Nat) : Nat := 0x32101C + i * 0x20

/-! Block `axis` (spec 08 Table 5), base 0x400000. -/
abbrev AX_CTRL (a : Nat) : Nat := 0x400000 + a * 0x1000 + 0x0
abbrev AX_STAT (a : Nat) : Nat := 0x400000 + a * 0x1000 + 0x4
abbrev AX_EVENT (a : Nat) : Nat := 0x400000 + a * 0x1000 + 0x8
abbrev AX_EVENT_EN (a : Nat) : Nat := 0x400000 + a * 0x1000 + 0xC
abbrev AX_CMD (a : Nat) : Nat := 0x400000 + a * 0x1000 + 0x10
abbrev AX_XTARGET_LO (a : Nat) : Nat := 0x400000 + a * 0x1000 + 0x20
abbrev AX_XTARGET_HI (a : Nat) : Nat := 0x400000 + a * 0x1000 + 0x24
abbrev AX_XACTUAL_LO (a : Nat) : Nat := 0x400000 + a * 0x1000 + 0x28
abbrev AX_XACTUAL_HI (a : Nat) : Nat := 0x400000 + a * 0x1000 + 0x2C
abbrev AX_VTARGET (a : Nat) : Nat := 0x400000 + a * 0x1000 + 0x30
abbrev AX_VACTUAL (a : Nat) : Nat := 0x400000 + a * 0x1000 + 0x34
abbrev AX_AACTUAL (a : Nat) : Nat := 0x400000 + a * 0x1000 + 0x38
abbrev AX_VMAX (a : Nat) : Nat := 0x400000 + a * 0x1000 + 0x40
abbrev AX_AMAX (a : Nat) : Nat := 0x400000 + a * 0x1000 + 0x44
abbrev AX_DMAX (a : Nat) : Nat := 0x400000 + a * 0x1000 + 0x48
abbrev AX_DLIMIT (a : Nat) : Nat := 0x400000 + a * 0x1000 + 0x4C
abbrev AX_JMAX (a : Nat) : Nat := 0x400000 + a * 0x1000 + 0x50
abbrev AX_VSTOP (a : Nat) : Nat := 0x400000 + a * 0x1000 + 0x54
abbrev AX_XMIN_LO (a : Nat) : Nat := 0x400000 + a * 0x1000 + 0x60
abbrev AX_XMIN_HI (a : Nat) : Nat := 0x400000 + a * 0x1000 + 0x64
abbrev AX_XMAX_LO (a : Nat) : Nat := 0x400000 + a * 0x1000 + 0x68
abbrev AX_XMAX_HI (a : Nat) : Nat := 0x400000 + a * 0x1000 + 0x6C
abbrev AX_XSET_LO (a : Nat) : Nat := 0x400000 + a * 0x1000 + 0x70
abbrev AX_XSET_HI (a : Nat) : Nat := 0x400000 + a * 0x1000 + 0x74
abbrev AX_CURRENT (a : Nat) : Nat := 0x400000 + a * 0x1000 + 0x80
abbrev AX_HOLD_DELAY (a : Nat) : Nat := 0x400000 + a * 0x1000 + 0x84
abbrev AX_CHOP (a : Nat) : Nat := 0x400000 + a * 0x1000 + 0x88
abbrev AX_ADAPT_V (a i : Nat) : Nat := 0x400000 + a * 0x1000 + 0x90 + i * 4
abbrev AX_ENC_CFG (a : Nat) : Nat := 0x400000 + a * 0x1000 + 0xC0
abbrev AX_ENC_RATIO (a : Nat) : Nat := 0x400000 + a * 0x1000 + 0xC4
abbrev AX_DEV_WIN (a : Nat) : Nat := 0x400000 + a * 0x1000 + 0xC8
abbrev AX_DEV (a : Nat) : Nat := 0x400000 + a * 0x1000 + 0xCC
abbrev AX_DEV_MAX (a : Nat) : Nat := 0x400000 + a * 0x1000 + 0xD0
abbrev AX_STALL_CFG (a : Nat) : Nat := 0x400000 + a * 0x1000 + 0xD4
abbrev AX_LA_VMIN (a : Nat) : Nat := 0x400000 + a * 0x1000 + 0xD8
abbrev AX_LOAD (a : Nat) : Nat := 0x400000 + a * 0x1000 + 0xDC
abbrev AX_ENC_OFS_LO (a : Nat) : Nat := 0x400000 + a * 0x1000 + 0xE0
abbrev AX_ENC_OFS_HI (a : Nat) : Nat := 0x400000 + a * 0x1000 + 0xE4
abbrev AX_LA_STALL (a : Nat) : Nat := 0x400000 + a * 0x1000 + 0xE8
abbrev AX_REVERSALS (a : Nat) : Nat := 0x400000 + a * 0x1000 + 0x100
abbrev AX_OVERSHOOTS (a : Nat) : Nat := 0x400000 + a * 0x1000 + 0x104
abbrev AX_LIMIT_DECELS (a : Nat) : Nat := 0x400000 + a * 0x1000 + 0x108
abbrev AX_STALLS (a : Nat) : Nat := 0x400000 + a * 0x1000 + 0x10C
abbrev AX_INTERP_JUMP (a : Nat) : Nat := 0x400000 + a * 0x1000 + 0x110
abbrev AX_STEP_OVERRATE (a : Nat) : Nat := 0x400000 + a * 0x1000 + 0x114
abbrev AX_STEP_DROP (a : Nat) : Nat := 0x400000 + a * 0x1000 + 0x118
abbrev MOT_STAT (q : Nat) : Nat := 0x400000 + q * 0x4000 + 0xC00
abbrev MOT_TEMP (q : Nat) : Nat := 0x400000 + q * 0x4000 + 0xC04
abbrev MOT_VM (q : Nat) : Nat := 0x400000 + q * 0x4000 + 0xC08
abbrev MOT_CMD (q : Nat) : Nat := 0x400000 + q * 0x4000 + 0xC0C

/-! Block `fb` (spec 09 Table 3), base 0x410000. -/
abbrev FB_CMD : Nat := 0x410000
abbrev FB_STAT : Nat := 0x410004
abbrev FB_ROUTE_FAIL : Nat := 0x410008
abbrev ENC_CFG (i : Nat) : Nat := 0x410100 + i * 0x40
abbrev ENC_STAT (i : Nat) : Nat := 0x410104 + i * 0x40
abbrev ENC_EVENT (i : Nat) : Nat := 0x410108 + i * 0x40
abbrev ENC_EVENT_EN (i : Nat) : Nat := 0x41010C + i * 0x40
abbrev ENC_POS_LO (i : Nat) : Nat := 0x410110 + i * 0x40
abbrev ENC_POS_HI (i : Nat) : Nat := 0x410114 + i * 0x40
abbrev ENC_RAW_LO (i : Nat) : Nat := 0x410118 + i * 0x40
abbrev ENC_RAW_HI (i : Nat) : Nat := 0x41011C + i * 0x40
abbrev ENC_INDEX_LO (i : Nat) : Nat := 0x410120 + i * 0x40
abbrev ENC_INDEX_HI (i : Nat) : Nat := 0x410124 + i * 0x40
abbrev ENC_LOAD_LO (i : Nat) : Nat := 0x410128 + i * 0x40
abbrev ENC_LOAD_HI (i : Nat) : Nat := 0x41012C + i * 0x40
abbrev ENC_SPEED (i : Nat) : Nat := 0x410130 + i * 0x40
abbrev ENC_PHASE_ERR (i : Nat) : Nat := 0x410134 + i * 0x40
abbrev ENC_GLITCH (i : Nat) : Nat := 0x410138 + i * 0x40
abbrev ENC_CMD (i : Nat) : Nat := 0x41013C + i * 0x40
abbrev Q_CFG (i : Nat) : Nat := 0x410400 + i * 0x40
abbrev Q_FMT (i : Nat) : Nat := 0x410404 + i * 0x40
abbrev Q_STAT (i : Nat) : Nat := 0x410408 + i * 0x40
abbrev Q_EVENT (i : Nat) : Nat := 0x41040C + i * 0x40
abbrev Q_EVENT_EN (i : Nat) : Nat := 0x410410 + i * 0x40
abbrev Q_POS_LO (i : Nat) : Nat := 0x410414 + i * 0x40
abbrev Q_POS_HI (i : Nat) : Nat := 0x410418 + i * 0x40
abbrev Q_TIME_LO (i : Nat) : Nat := 0x41041C + i * 0x40
abbrev Q_TIME_HI (i : Nat) : Nat := 0x410420 + i * 0x40
abbrev Q_CRC_CNT (i : Nat) : Nat := 0x410424 + i * 0x40
abbrev Q_ERRBIT_CNT (i : Nat) : Nat := 0x410428 + i * 0x40
abbrev Q_TIMEOUT_CNT (i : Nat) : Nat := 0x41042C + i * 0x40
abbrev Q_FRAMES (i : Nat) : Nat := 0x410430 + i * 0x40
abbrev Q_OVERRUN (i : Nat) : Nat := 0x410434 + i * 0x40
abbrev PRB_CFG (i : Nat) : Nat := 0x410800 + i * 0x40
abbrev PRB_STAT (i : Nat) : Nat := 0x410804 + i * 0x40
abbrev PRB_EVENT (i : Nat) : Nat := 0x410808 + i * 0x40
abbrev PRB_EVENT_EN (i : Nat) : Nat := 0x41080C + i * 0x40
abbrev PRB_CAP_INFO (i : Nat) : Nat := 0x410810 + i * 0x40
abbrev PRB_CAP_DT_LO (i : Nat) : Nat := 0x410814 + i * 0x40
abbrev PRB_CAP_DT_HI (i : Nat) : Nat := 0x410818 + i * 0x40
abbrev PRB_CAP_POS_LO (i : Nat) : Nat := 0x41081C + i * 0x40
abbrev PRB_CAP_POS_HI (i : Nat) : Nat := 0x410820 + i * 0x40
abbrev PRB_CMD (i : Nat) : Nat := 0x410824 + i * 0x40
abbrev PRB_OVERRATE (i : Nat) : Nat := 0x410828 + i * 0x40
abbrev PRB_LOST (i : Nat) : Nat := 0x41082C + i * 0x40
abbrev PRB_LATCHES (i : Nat) : Nat := 0x410830 + i * 0x40
abbrev CMP_CFG (i : Nat) : Nat := 0x410C00 + i * 0x40
abbrev CMP_STAT (i : Nat) : Nat := 0x410C04 + i * 0x40
abbrev CMP_EVENT (i : Nat) : Nat := 0x410C08 + i * 0x40
abbrev CMP_EVENT_EN (i : Nat) : Nat := 0x410C0C + i * 0x40
abbrev CMP_VAL_LO (i : Nat) : Nat := 0x410C10 + i * 0x40
abbrev CMP_VAL_HI (i : Nat) : Nat := 0x410C14 + i * 0x40
abbrev CMP_SPACING (i : Nat) : Nat := 0x410C18 + i * 0x40
abbrev CMP_HITS (i : Nat) : Nat := 0x410C1C + i * 0x40
abbrev CMP_SKIPPED (i : Nat) : Nat := 0x410C20 + i * 0x40
abbrev CMP_LATE (i : Nat) : Nat := 0x410C24 + i * 0x40
abbrev CMP_HIT_DT_LO (i : Nat) : Nat := 0x410C28 + i * 0x40
abbrev CMP_HIT_DT_HI (i : Nat) : Nat := 0x410C2C + i * 0x40
abbrev CMP_ROUTE (i : Nat) : Nat := 0x410C30 + i * 0x40
abbrev CMP_LANES (i : Nat) : Nat := 0x410C34 + i * 0x40
abbrev CMP_LEAD (i : Nat) : Nat := 0x410C38 + i * 0x40
abbrev CMP_MERGED (i : Nat) : Nat := 0x410C3C + i * 0x40

/-! Block `sw` (spec 10 Table 5), base 0x500000. -/
abbrev SW_STAT : Nat := 0x500000
abbrev SW_IRQ_STAT : Nat := 0x500004
abbrev SW_IRQ_EN : Nat := 0x500008
abbrev SW_CMD : Nat := 0x50000C
abbrev SW_VBAT : Nat := 0x500010

/-! Block `swcl` (spec 10 Tables 6, 7), base 0x501000. -/
abbrev SW_CL_CFG (k : Nat) : Nat := 0x501000 + k * 0x1000 + 0x0
abbrev SW_CL_STAT (k : Nat) : Nat := 0x501000 + k * 0x1000 + 0x4
abbrev SW_CL_TEMP (k : Nat) : Nat := 0x501000 + k * 0x1000 + 0x8
abbrev SW_CL_EVENT (k : Nat) : Nat := 0x501000 + k * 0x1000 + 0xC
abbrev SW_CL_EVENT_EN (k : Nat) : Nat := 0x501000 + k * 0x1000 + 0x10
abbrev SW_CL_OT_CNT (k : Nat) : Nat := 0x501000 + k * 0x1000 + 0x14
abbrev SW_CH_CTRL (h : Nat) : Nat := 0x501000 + h / 4 * 0x1000 + h % 4 * 0x80 + 0x100
abbrev SW_CH_CFG (h : Nat) : Nat := 0x501000 + h / 4 * 0x1000 + h % 4 * 0x80 + 0x104
abbrev SW_CH_ILIM (h : Nat) : Nat := 0x501000 + h / 4 * 0x1000 + h % 4 * 0x80 + 0x108
abbrev SW_CH_TIME (h : Nat) : Nat := 0x501000 + h / 4 * 0x1000 + h % 4 * 0x80 + 0x10C
abbrev SW_CH_RETRY (h : Nat) : Nat := 0x501000 + h / 4 * 0x1000 + h % 4 * 0x80 + 0x110
abbrev SW_CH_OPEN (h : Nat) : Nat := 0x501000 + h / 4 * 0x1000 + h % 4 * 0x80 + 0x114
abbrev SW_CH_TRST (h : Nat) : Nat := 0x501000 + h / 4 * 0x1000 + h % 4 * 0x80 + 0x118
abbrev SW_CH_STAT (h : Nat) : Nat := 0x501000 + h / 4 * 0x1000 + h % 4 * 0x80 + 0x11C
abbrev SW_CH_EVENT (h : Nat) : Nat := 0x501000 + h / 4 * 0x1000 + h % 4 * 0x80 + 0x120
abbrev SW_CH_EVENT_EN (h : Nat) : Nat := 0x501000 + h / 4 * 0x1000 + h % 4 * 0x80 + 0x124
abbrev SW_CH_CMD (h : Nat) : Nat := 0x501000 + h / 4 * 0x1000 + h % 4 * 0x80 + 0x128
abbrev SW_CH_IMEAS (h : Nat) : Nat := 0x501000 + h / 4 * 0x1000 + h % 4 * 0x80 + 0x12C
abbrev SW_CH_VOUT (h : Nat) : Nat := 0x501000 + h / 4 * 0x1000 + h % 4 * 0x80 + 0x130
abbrev SW_CH_TEMP (h : Nat) : Nat := 0x501000 + h / 4 * 0x1000 + h % 4 * 0x80 + 0x134
abbrev SW_CH_TRIPS (h : Nat) : Nat := 0x501000 + h / 4 * 0x1000 + h % 4 * 0x80 + 0x138
abbrev SW_CH_LATCHES (h : Nat) : Nat := 0x501000 + h / 4 * 0x1000 + h % 4 * 0x80 + 0x13C
abbrev SW_CH_OPEN_CNT (h : Nat) : Nat := 0x501000 + h / 4 * 0x1000 + h % 4 * 0x80 + 0x140
abbrev SW_CH_LIMIT_CNT (h : Nat) : Nat := 0x501000 + h / 4 * 0x1000 + h % 4 * 0x80 + 0x144
abbrev SW_CH_PAUSE_LEFT (h : Nat) : Nat := 0x501000 + h / 4 * 0x1000 + h % 4 * 0x80 + 0x148

/-! Block `can` (spec 12 Tables 3, 8), base 0x600000. -/
abbrev CAN_CTRL (c : Nat) : Nat := 0x600000 + c * 0x4000 + 0x0
abbrev CAN_CFG (c : Nat) : Nat := 0x600000 + c * 0x4000 + 0x4
abbrev CAN_NBT (c : Nat) : Nat := 0x600000 + c * 0x4000 + 0x8
abbrev CAN_DBT (c : Nat) : Nat := 0x600000 + c * 0x4000 + 0xC
abbrev CAN_TDC (c : Nat) : Nat := 0x600000 + c * 0x4000 + 0x10
abbrev CAN_STAT (c : Nat) : Nat := 0x600000 + c * 0x4000 + 0x14
abbrev CAN_ERR (c : Nat) : Nat := 0x600000 + c * 0x4000 + 0x18
abbrev CAN_EVENT (c : Nat) : Nat := 0x600000 + c * 0x4000 + 0x1C
abbrev CAN_EVENT_EN (c : Nat) : Nat := 0x600000 + c * 0x4000 + 0x20
abbrev CAN_CMD (c : Nat) : Nat := 0x600000 + c * 0x4000 + 0x24
abbrev CAN_TX_OK (c : Nat) : Nat := 0x600000 + c * 0x4000 + 0x40
abbrev CAN_RX_OK (c : Nat) : Nat := 0x600000 + c * 0x4000 + 0x44
abbrev CAN_RX_NOMATCH (c : Nat) : Nat := 0x600000 + c * 0x4000 + 0x48
abbrev CAN_RX_LOST (c : Nat) : Nat := 0x600000 + c * 0x4000 + 0x4C
abbrev CAN_TX_ABORTED (c : Nat) : Nat := 0x600000 + c * 0x4000 + 0x50
abbrev CAN_ERR_CNT (c : Nat) : Nat := 0x600000 + c * 0x4000 + 0x54
abbrev CAN_BUSOFF_CNT (c : Nat) : Nat := 0x600000 + c * 0x4000 + 0x58
abbrev CAN_AUTH_FAIL (c : Nat) : Nat := 0x600000 + c * 0x4000 + 0x5C
abbrev CAN_TM_REJECT (c : Nat) : Nat := 0x600000 + c * 0x4000 + 0x60
abbrev CAN_TM_CONFLICT (c : Nat) : Nat := 0x600000 + c * 0x4000 + 0x64
abbrev CAN_TM_CFG (c : Nat) : Nat := 0x600000 + c * 0x4000 + 0x80
abbrev CAN_TM_PERIOD (c : Nat) : Nat := 0x600000 + c * 0x4000 + 0x84
abbrev CAN_TS_DELAY (c : Nat) : Nat := 0x600000 + c * 0x4000 + 0x88
abbrev CAN_TM_STAT (c : Nat) : Nat := 0x600000 + c * 0x4000 + 0x8C
abbrev CAN_TM_LAST_LO (c : Nat) : Nat := 0x600000 + c * 0x4000 + 0x90
abbrev CAN_TM_LAST_HI (c : Nat) : Nat := 0x600000 + c * 0x4000 + 0x94
abbrev CAN_AUTH_CFG (c : Nat) : Nat := 0x600000 + c * 0x4000 + 0xA0
abbrev CAN_FIFO_CFG (c k : Nat) : Nat := 0x600000 + c * 0x4000 + 0x100 + k * 8
abbrev CAN_FIFO_STAT (c k : Nat) : Nat := 0x600000 + c * 0x4000 + 0x104 + k * 8
abbrev CAN_FIFO_POP (c : Nat) : Nat := 0x600000 + c * 0x4000 + 0x140
abbrev OBJ_CTRL (c m : Nat) : Nat := 0x600000 + c * 0x4000 + 0x1000 + m * 0x50
abbrev OBJ_ID (c m : Nat) : Nat := 0x600000 + c * 0x4000 + 0x1004 + m * 0x50
abbrev OBJ_MASK (c m : Nat) : Nat := 0x600000 + c * 0x4000 + 0x1008 + m * 0x50
abbrev OBJ_TS (c m : Nat) : Nat := 0x600000 + c * 0x4000 + 0x100C + m * 0x50
abbrev OBJ_DATA0 (c m : Nat) : Nat := 0x600000 + c * 0x4000 + 0x1010 + m * 0x50
abbrev OBJ_DATA1 (c m : Nat) : Nat := 0x600000 + c * 0x4000 + 0x1014 + m * 0x50
abbrev OBJ_DATA2 (c m : Nat) : Nat := 0x600000 + c * 0x4000 + 0x1018 + m * 0x50
abbrev OBJ_DATA3 (c m : Nat) : Nat := 0x600000 + c * 0x4000 + 0x101C + m * 0x50
abbrev OBJ_DATA4 (c m : Nat) : Nat := 0x600000 + c * 0x4000 + 0x1020 + m * 0x50
abbrev OBJ_DATA5 (c m : Nat) : Nat := 0x600000 + c * 0x4000 + 0x1024 + m * 0x50
abbrev OBJ_DATA6 (c m : Nat) : Nat := 0x600000 + c * 0x4000 + 0x1028 + m * 0x50
abbrev OBJ_DATA7 (c m : Nat) : Nat := 0x600000 + c * 0x4000 + 0x102C + m * 0x50
abbrev OBJ_DATA8 (c m : Nat) : Nat := 0x600000 + c * 0x4000 + 0x1030 + m * 0x50
abbrev OBJ_DATA9 (c m : Nat) : Nat := 0x600000 + c * 0x4000 + 0x1034 + m * 0x50
abbrev OBJ_DATA10 (c m : Nat) : Nat := 0x600000 + c * 0x4000 + 0x1038 + m * 0x50
abbrev OBJ_DATA11 (c m : Nat) : Nat := 0x600000 + c * 0x4000 + 0x103C + m * 0x50
abbrev OBJ_DATA12 (c m : Nat) : Nat := 0x600000 + c * 0x4000 + 0x1040 + m * 0x50
abbrev OBJ_DATA13 (c m : Nat) : Nat := 0x600000 + c * 0x4000 + 0x1044 + m * 0x50
abbrev OBJ_DATA14 (c m : Nat) : Nat := 0x600000 + c * 0x4000 + 0x1048 + m * 0x50
abbrev OBJ_DATA15 (c m : Nat) : Nat := 0x600000 + c * 0x4000 + 0x104C + m * 0x50
abbrev CAN_FV (c m : Nat) : Nat := 0x600000 + c * 0x4000 + 0x3800 + m * 0x4
abbrev OBJ_DATA (c m i : Nat) : Nat := 0x600000 + c * 0x4000 + 0x1010 + m * 0x50 + i * 4

/-! Block `gnss` (spec 11 Table 9), base 0x700000. -/
abbrev GNSS_CTRL : Nat := 0x700000
abbrev GNSS_STAT : Nat := 0x700004
abbrev GNSS_IRQ_STAT : Nat := 0x700008
abbrev GNSS_IRQ_EN : Nat := 0x70000C
abbrev GNSS_CMD : Nat := 0x700010
abbrev GNSS_ANT_CFG : Nat := 0x700014
abbrev GNSS_ANT_STAT : Nat := 0x700018
abbrev GNSS_TCXO_UNC : Nat := 0x70001C
abbrev GNSS_AID_DT_LO : Nat := 0x700020
abbrev GNSS_AID_DT_HI : Nat := 0x700024
abbrev GNSS_AID_GPST_LO : Nat := 0x700028
abbrev GNSS_AID_GPST_HI : Nat := 0x70002C
abbrev GNSS_AID_TUNC : Nat := 0x700030
abbrev GNSS_AID_LAT : Nat := 0x700034
abbrev GNSS_AID_LON : Nat := 0x700038
abbrev GNSS_AID_HGT : Nat := 0x70003C
abbrev GNSS_AID_PUNC : Nat := 0x700040
abbrev GNSS_AID_NAV_HDR : Nat := 0x700050
abbrev GNSS_AID_NAV_DATA : Nat := 0x700054
abbrev GNSS_AID_NAV_STAT : Nat := 0x700058
abbrev GNSS_EPOCH_STAT : Nat := 0x700060
abbrev GNSS_NAV_STAT : Nat := 0x700064
abbrev GNSS_SOL_DT_LO : Nat := 0x700100
abbrev GNSS_SOL_DT_HI : Nat := 0x700104
abbrev GNSS_SOL_LAT : Nat := 0x700108
abbrev GNSS_SOL_LON : Nat := 0x70010C
abbrev GNSS_SOL_HGT : Nat := 0x700110
abbrev GNSS_SOL_VE : Nat := 0x700114
abbrev GNSS_SOL_VN : Nat := 0x700118
abbrev GNSS_SOL_VU : Nat := 0x70011C
abbrev GNSS_SOL_INFO : Nat := 0x700120
abbrev GNSS_SOL_HACC : Nat := 0x700124
abbrev GNSS_NAV_OVERFLOW : Nat := 0x700200
abbrev GNSS_PARITY_FAIL : Nat := 0x700204
abbrev GNSS_ANT_SHORT_CNT : Nat := 0x700208
abbrev GNSS_BANK0 (i : Nat) : Nat := 0x701000 + i * 0x4
abbrev GNSS_BANK1 (i : Nat) : Nat := 0x702000 + i * 0x4
abbrev GNSS_NAV_WIN (i : Nat) : Nat := 0x703000 + i * 0x4

/-! Block `dt` (spec 11 Table 12), base 0x710000. -/
abbrev DT_NOW_FRAC : Nat := 0x710000
abbrev DT_NOW_LO : Nat := 0x710004
abbrev DT_NOW_HI : Nat := 0x710008
abbrev DT_CTRL : Nat := 0x710010
abbrev DT_STAT : Nat := 0x710014
abbrev DT_IRQ_STAT : Nat := 0x710018
abbrev DT_IRQ_EN : Nat := 0x71001C
abbrev DT_CMD : Nat := 0x710020
abbrev DT_PHASE_ERR : Nat := 0x710024
abbrev DT_FREQ_ADJ : Nat := 0x710028
abbrev DT_EST_ERR : Nat := 0x71002C
abbrev DT_EST_WARN : Nat := 0x710030
abbrev DT_HO_TIME : Nat := 0x710034
abbrev DT_HO_FUNC : Nat := 0x710038
abbrev DT_HO_AGEUNC : Nat := 0x71003C
abbrev DT_AGE_RATE : Nat := 0x710040
abbrev DT_LOOP : Nat := 0x710044
abbrev DT_PPS_CFG : Nat := 0x710048
abbrev DT_GNSS_DELAY : Nat := 0x71004C
abbrev DT_CAN_SRC : Nat := 0x710050
abbrev DT_UTC_OFS : Nat := 0x710054
abbrev DT_STEP_LO : Nat := 0x710058
abbrev DT_STEP_HI : Nat := 0x71005C
abbrev DT_STEP_CNT : Nat := 0x710060
abbrev DT_SRC_LOSS_CNT : Nat := 0x710064
abbrev DT_TP_CFG (i : Nat) : Nat := 0x710100 + i * 0x20
abbrev DT_TP_PERIOD (i : Nat) : Nat := 0x710104 + i * 0x20
abbrev DT_TP_WIDTH (i : Nat) : Nat := 0x710108 + i * 0x20
abbrev DT_TP_OFS (i : Nat) : Nat := 0x71010C + i * 0x20
abbrev DT_TP_LAST_LO (i : Nat) : Nat := 0x710110 + i * 0x20
abbrev DT_TP_LAST_HI (i : Nat) : Nat := 0x710114 + i * 0x20
abbrev DT_TP_SEQ (i : Nat) : Nat := 0x710118 + i * 0x20

/-! Block `ports` (spec 13 Table 10), base 0x800000. -/
abbrev PORT_CFG : Nat := 0x800000
abbrev PORT_IRQ_STAT : Nat := 0x800004
abbrev PORT_IRQ_EN : Nat := 0x800008
abbrev PORT_CMD : Nat := 0x80000C
abbrev PORT_ERR_ADDR (i : Nat) : Nat := 0x800010 + i * 0x10
abbrev PORT_ERR_INFO (i : Nat) : Nat := 0x800014 + i * 0x10
abbrev PORT_ERR_CNT (i : Nat) : Nat := 0x800018 + i * 0x10
abbrev ETH_CTRL (e : Nat) : Nat := 0x800100 + e * 0x100
abbrev ETH_STAT (i : Nat) : Nat := 0x800104 + i * 0x100
abbrev ETH_MAC_LO (i : Nat) : Nat := 0x800108 + i * 0x100
abbrev ETH_MAC_HI (i : Nat) : Nat := 0x80010C + i * 0x100
abbrev ETH_PEER_LO (i : Nat) : Nat := 0x800110 + i * 0x100
abbrev ETH_PEER_HI (i : Nat) : Nat := 0x800114 + i * 0x100
abbrev ETH_PAUSE (i : Nat) : Nat := 0x800118 + i * 0x100
abbrev ETH_NOTIFY (i : Nat) : Nat := 0x80011C + i * 0x100
abbrev ETH_REPLAY_WIN (i : Nat) : Nat := 0x800120 + i * 0x100
abbrev ETH_RX_OK (i : Nat) : Nat := 0x800140 + i * 0x100
abbrev ETH_RX_FCS (i : Nat) : Nat := 0x800144 + i * 0x100
abbrev ETH_RX_OVERSIZE (i : Nat) : Nat := 0x800148 + i * 0x100
abbrev ETH_RX_FILTER (i : Nat) : Nat := 0x80014C + i * 0x100
abbrev ETH_SEC_UNPROT (i : Nat) : Nat := 0x800150 + i * 0x100
abbrev ETH_SEC_ICV (i : Nat) : Nat := 0x800154 + i * 0x100
abbrev ETH_SEC_REPLAY (i : Nat) : Nat := 0x800158 + i * 0x100
abbrev ETH_SEC_NOSA (i : Nat) : Nat := 0x80015C + i * 0x100
abbrev ETH_TX_OK (i : Nat) : Nat := 0x800160 + i * 0x100
abbrev ETH_PAUSE_TX (i : Nat) : Nat := 0x800164 + i * 0x100
abbrev ETH_PAUSE_RX (i : Nat) : Nat := 0x800168 + i * 0x100
abbrev ETH1_REQ_DROP : Nat := 0x800270
abbrev ETH1_REQ_RESENT : Nat := 0x800274
abbrev ETH1_NOTIFY_TX : Nat := 0x800278
abbrev QSPI_STAT : Nat := 0x800300
abbrev QSPI_WR_DROP : Nat := 0x800304
abbrev QSPI_CRC_ERR : Nat := 0x800308
abbrev QSPI_FORMAT_ERR : Nat := 0x80030C
abbrev USB_STAT : Nat := 0x800400
abbrev USB_CMD_CNT : Nat := 0x800404
abbrev USB_ERR_CNT : Nat := 0x800408

/-! Block `mss` (spec 16 Table 11), base 0x900000. -/
abbrev MSS_STAT : Nat := 0x900000
abbrev MSS_CMD : Nat := 0x900004
abbrev MSS_RESTART_CNT : Nat := 0x900008
abbrev STORE_IRQ_STAT : Nat := 0x90000C
abbrev STORE_IRQ_EN : Nat := 0x900010
abbrev SRAM_CE_CNT : Nat := 0x900014
abbrev SRAM_UE_CNT : Nat := 0x900018
abbrev STORE_CE_CNT : Nat := 0x90001C
abbrev STORE_UE_CNT : Nat := 0x900020
abbrev SRAM_SCRUB_PASSES : Nat := 0x900024
abbrev STORE_SCRUB_POS : Nat := 0x900028
abbrev STORE_SCRUB_PASSES : Nat := 0x90002C
abbrev SCRUB_LATE_CNT : Nat := 0x900030
abbrev BG_WAIT_MAX : Nat := 0x900034
abbrev PWR_HOURS : Nat := 0x900040
abbrev PWR_CYCLES : Nat := 0x900044
abbrev MGT_TEMP0 (i : Nat) : Nat := 0x900100 + i * 0x4

end Sys2Proof.Machine.R
end

