-- ==== Sys2Proof/Machine/Tab.lean ====
section
/-!
DEFINITION. Sparse tables in one canonical form: entries in strictly rising order of their number, and no entry equal
to what an unlisted number reads as. Registers, store bytes and the units' own state are kept in them.
-/
namespace Sys2Proof.Machine

/-- What a table holds at number `k`: the entry listed there, and the default `d k` where none is listed. -/
def Tab.get {α : Type} (d : Nat → α) : Tab α → Nat → α
  | [], k => d k
  | (a, v) :: r, k => if a = k then v else Tab.get d r k

/-- The table without the entries at number `k`. -/
def Tab.erase {α : Type} : Tab α → Nat → Tab α
  | [], _ => []
  | (a, v) :: r, k => if a = k then Tab.erase r k else (a, v) :: Tab.erase r k

/-- The table with an entry put before the first entry of a greater number. -/
def Tab.ins {α : Type} : Tab α → Nat → α → Tab α
  | [], k, v => [(k, v)]
  | (a, w) :: r, k, v => if k < a then (k, v) :: (a, w) :: r else (a, w) :: Tab.ins r k v

/-- The table with number `k` holding `v`; writing the default removes the entry. -/
def Tab.set {α : Type} [DecidableEq α] (d : Nat → α) (t : Tab α) (k : Nat) (v : α) : Tab α :=
  if v = d k then Tab.erase t k else Tab.ins (Tab.erase t k) k v

/-- Every entry's number exceeds `k`, and the numbers rise strictly. -/
def Tab.rising {α : Type} : Tab α → Option Nat → Bool
  | [], _ => true
  | (a, _) :: r, none => Tab.rising r (some a)
  | (a, _) :: r, some k => decide (k < a) && Tab.rising r (some a)

/-- No entry holds the default of its number. -/
def Tab.noDefault {α : Type} [DecidableEq α] (d : Nat → α) : Tab α → Bool
  | [] => true
  | (a, v) :: r => decide (v ≠ d a) && Tab.noDefault d r

/-- The canonical form. -/
def Tab.wf {α : Type} [DecidableEq α] (d : Nat → α) (t : Tab α) : Bool := Tab.rising t none && Tab.noDefault d t

/-- Apply `f` to the numbers `0 … n − 1` in rising order, threading a value through. -/
def forN {σ : Type} (f : Nat → σ → σ) : Nat → σ → σ
  | 0, s => s
  | n + 1, s => f n (forN f n s)

/-- Apply `f` to each element of a list in order, threading a value through. -/
def forL {α σ : Type} (f : α → σ → σ) : List α → σ → σ
  | [], s => s
  | a :: r, s => forL f r (f a s)

end Sys2Proof.Machine
end

