-- ==== Sys2Proof/Machine/RegMap.lean ====
section
/-!
DEFINITION. The register map: one row per register of the tables of the chapter files of spec/, with its access
masks (R13, Table 5 of 00_scope.md; a reserved bit is in no mask, R14) and its reset value.
-/
namespace Sys2Proof.Machine

/-- One row of a register table: its offset in its block, how often it repeats and at which stride, which bits are
RW, RWS, W1C and WO, which RO bits an image may write ("from image", R61), its reset value, and what the reset
value grows by from one repetition to the next. -/
structure RegRow where
  name : String
  off : Nat
  count : Nat
  stride : Nat
  rw : Word
  rws : Word
  w1c : Word
  wo : Word
  img : Word
  reset : Word
  step : Word
  /-- The lowest bit of every writable field. -/
  flo : Word
  deriving DecidableEq, Repr

def rowsSys0 : List RegRow := [
  ⟨"SYS_ID", 0x0, 1, 0x4, 0, 0, 0, 0, 0, 0x91606E47, 0, 0⟩,
  ⟨"SYS_REV", 0x4, 1, 0x4, 0, 0, 0, 0, 0, 0, 0, 0⟩,
  ⟨"SYS_RES", 0x8, 1, 0x4, 0, 0, 0, 0, 0, 0x14081804, 0, 0⟩,
  ⟨"SYS_IRQ_STAT", 0x10, 1, 0x4, 0, 0, 0, 0, 0, 0, 0, 0⟩,
  ⟨"SYS_IRQ_EN", 0x14, 1, 0x4, 0x3FFFF, 0, 0, 0, 0, 0, 0, 0x3FFFF⟩,
  ⟨"SYS_IRQ_PEND", 0x18, 1, 0x4, 0, 0, 0, 0, 0, 0, 0, 0⟩,
  ⟨"SYS_TILE_IRQ", 0x20, 1, 0x4, 0, 0, 0, 0, 0, 0, 0, 0⟩,
  ⟨"SYS_TILE_IRQ_EN", 0x24, 1, 0x4, 0xFFFFF, 0, 0, 0, 0, 0xFFFFF, 0, 0xFFFFF⟩,
  ⟨"SYS_ISLAND_UP0", 0x30, 1, 0x4, 0, 0, 0, 0, 0, 0xFFFFFFFF, 0, 0⟩,
  ⟨"SYS_ISLAND_UP1", 0x34, 1, 0x4, 0, 0, 0, 0, 0, 0x7F, 0, 0⟩,
  ⟨"SYS_ISLAND_LOST0", 0x38, 1, 0x4, 0, 0, 0xFFFFFFFF, 0, 0, 0, 0, 0⟩,
  ⟨"SYS_ISLAND_LOST1", 0x3C, 1, 0x4, 0, 0, 0x7F, 0, 0, 0, 0, 0⟩,
  ⟨"SYS_ISLAND_RESTART0", 0x40, 1, 0x4, 0, 0, 0, 0xFFFFFFFF, 0, 0, 0, 0xFFFFFFFF⟩,
  ⟨"SYS_ISLAND_RESTART1", 0x44, 1, 0x4, 0, 0, 0, 0x7F, 0, 0, 0, 0x7F⟩,
  ⟨"SYS_HS_TIMEOUT", 0x50, 1, 0x4, 0, 0, 0, 0, 0, 0, 0, 0⟩,
  ⟨"SYS_HS_PARITY", 0x54, 1, 0x4, 0, 0, 0, 0, 0, 0, 0, 0⟩,
  ⟨"SYS_DT_STEP", 0x58, 1, 0x4, 0, 0, 0, 0, 0, 0, 0, 0⟩,
  ⟨"SYS_DT_LAST", 0x5C, 1, 0x4, 0, 0, 0, 0, 0, 0xFF, 0, 0⟩,
  ⟨"SYS_CNT_CLEAR", 0x60, 1, 0x4, 0, 0, 0, 0x1, 0, 0, 0, 0x1⟩]

/-- The rows of block `sys` (spec 01 Table 10). -/
def rowsSys : List RegRow := rowsSys0

def rowsClk0 : List RegRow := [
  ⟨"CLK_STAT", 0x0, 1, 0x4, 0, 0, 0, 0, 0, 0x8000000F, 0, 0⟩,
  ⟨"CLK_CTRL", 0x4, 1, 0x4, 0x3F, 0, 0, 0, 0, 0x39, 0, 0x55⟩,
  ⟨"CLK_CMD", 0x8, 1, 0x4, 0, 0, 0, 0x3, 0, 0, 0, 0x3⟩,
  ⟨"CLK_IRQ_STAT", 0xC, 1, 0x4, 0, 0, 0x3F, 0, 0, 0, 0, 0⟩,
  ⟨"CLK_IRQ_EN", 0x10, 1, 0x4, 0x3F, 0, 0, 0, 0, 0, 0, 0x3F⟩,
  ⟨"CLK_IRO_TRIM", 0x14, 1, 0x4, 0, 0, 0, 0, 0, 0, 0, 0⟩,
  ⟨"CLK_IRO_ERR", 0x18, 1, 0x4, 0, 0, 0, 0, 0, 0, 0, 0⟩,
  ⟨"CLK_FORCED_CNT", 0x1C, 1, 0x4, 0, 0, 0, 0, 0, 0, 0, 0⟩,
  ⟨"CLK_LOSS_CNT", 0x20, 1, 0x4, 0, 0, 0, 0, 0, 0, 0, 0⟩,
  ⟨"CLK_GATE_CMD", 0x40, 1, 0x4, 0, 0, 0, 0x13F, 0, 0, 0, 0x101⟩,
  ⟨"CLK_GATE_RESULT", 0x44, 1, 0x4, 0, 0, 0, 0, 0, 0, 0, 0⟩,
  ⟨"CLK_GATE_STAT0", 0x48, 1, 0x4, 0, 0, 0, 0, 0, 0xFFF1FFFF, 0, 0⟩,
  ⟨"CLK_GATE_STAT1", 0x4C, 1, 0x4, 0, 0, 0, 0, 0, 0xFF, 0, 0⟩,
  ⟨"PWR_STAT", 0x100, 1, 0x4, 0, 0, 0, 0, 0, 0, 0, 0⟩,
  ⟨"PWR_IRQ_STAT", 0x104, 1, 0x4, 0, 0, 0x7, 0, 0, 0, 0, 0⟩,
  ⟨"PWR_IRQ_EN", 0x108, 1, 0x4, 0x7, 0, 0, 0, 0, 0, 0, 0x7⟩,
  ⟨"PWR_PD_CFG", 0x10C, 1, 0x4, 0, 0xC000FFFF, 0, 0, 0, 0x80002328, 0, 0xC0000001⟩,
  ⟨"PWR_BK_CFG", 0x110, 1, 0x4, 0x1, 0, 0, 0, 0, 0, 0, 0x1⟩,
  ⟨"PWR_OOW_CNT", 0x114, 1, 0x4, 0, 0, 0, 0, 0, 0, 0, 0⟩,
  ⟨"PWR_RAIL", 0x140, 14, 0x4, 0, 0, 0, 0, 0, 0, 0, 0⟩,
  ⟨"RST_CAUSE", 0x200, 1, 0x4, 0, 0, 0x1F, 0, 0, 0, 0, 0⟩,
  ⟨"RST_KEY", 0x204, 1, 0x4, 0, 0, 0, 0xFFFFFFFF, 0, 0, 0, 0x1⟩,
  ⟨"RST_CMD", 0x208, 1, 0x4, 0, 0, 0, 0x1, 0, 0, 0, 0x1⟩]

/-- The rows of block `clk` (spec 17 Table 10). -/
def rowsClk : List RegRow := rowsClk0

def rowsFm0 : List RegRow := [
  ⟨"FM_STAT", 0x0, 1, 0x4, 0, 0, 0, 0, 0, 0x3, 0, 0⟩,
  ⟨"FM_IRQ_STAT", 0x4, 1, 0x4, 0, 0, 0x1FF, 0, 0, 0, 0, 0⟩,
  ⟨"FM_IRQ_EN", 0x8, 1, 0x4, 0x1FF, 0, 0, 0, 0, 0, 0, 0x1FF⟩,
  ⟨"FM_CMD", 0xC, 1, 0x4, 0, 0, 0, 0x3, 0, 0, 0, 0x3⟩,
  ⟨"FM_PEND", 0x10, 4, 0x4, 0, 0, 0, 0, 0, 0, 0, 0⟩,
  ⟨"FM_LASTING", 0x20, 4, 0x4, 0, 0, 0, 0, 0, 0, 0, 0⟩,
  ⟨"FM_REPORT", 0x40, 1, 0x4, 0, 0xF07FFFFF, 0, 0, 0, 0x64, 0, 0xD0010001⟩,
  ⟨"FM_RSEQ", 0x44, 1, 0x4, 0, 0, 0, 0, 0, 0, 0, 0⟩,
  ⟨"FM_REPORT_LOST", 0x48, 1, 0x4, 0, 0, 0, 0, 0, 0, 0, 0⟩,
  ⟨"FM_LOST", 0x4C, 1, 0x4, 0, 0, 0, 0, 0, 0, 0, 0⟩,
  ⟨"FM_BUCKET_SEL", 0x50, 1, 0x4, 0xFFFF7F, 0, 0, 0, 0, 0, 0, 0x101⟩,
  ⟨"FM_BUCKET_VAL", 0x54, 1, 0x4, 0, 0, 0, 0, 0, 0, 0, 0⟩,
  ⟨"CINCH_CFG", 0x800, 1, 0x4, 0, 0, 0, 0, 0xC00700FF, 0x10000, 0, 0⟩,
  ⟨"CINCH_WIN", 0x804, 1, 0x4, 0, 0, 0, 0, 0xFFFFFFFF, 0x3E80A05, 0, 0⟩,
  ⟨"CINCH_STAT", 0x808, 1, 0x4, 0, 0, 0, 0, 0, 0, 0, 0⟩,
  ⟨"CINCH_ANSWER", 0x80C, 1, 0x4, 0, 0, 0, 0x3FF, 0, 0, 0, 0x101⟩,
  ⟨"CINCH_MISS", 0x810, 1, 0x4, 0, 0, 0, 0, 0, 0, 0, 0⟩,
  ⟨"CINCH_BAD_ANS", 0x814, 1, 0x4, 0, 0, 0, 0, 0, 0, 0, 0⟩,
  ⟨"CINCH_CRC_ERR", 0x818, 1, 0x4, 0, 0, 0, 0, 0, 0, 0, 0⟩,
  ⟨"CINCH_EXPIRIES", 0x81C, 1, 0x4, 0, 0, 0, 0, 0, 0, 0, 0⟩,
  ⟨"SAFE_CMD", 0xC00, 1, 0x4, 0, 0, 0, 0x3, 0, 0, 0, 0x3⟩,
  ⟨"SAFE_STAT", 0xC04, 1, 0x4, 0, 0, 0, 0, 0, 0, 0, 0⟩,
  ⟨"SAFE_APPLY_CNT", 0xC08, 1, 0x4, 0, 0, 0, 0, 0, 0, 0, 0⟩,
  ⟨"SAFE_LANE", 0xC10, 10, 0x4, 0, 0xFFFFFFFF, 0, 0, 0, 0, 0, 0x55555555⟩]

def rowsFm1 : List RegRow := [
  ⟨"SAFE_SW0", 0xC40, 1, 0x4, 0, 0xFFFFFFFF, 0, 0, 0, 0, 0, 0x55555555⟩,
  ⟨"SAFE_SW1", 0xC44, 1, 0x4, 0, 0xFFFF, 0, 0, 0, 0, 0, 0x5555⟩,
  ⟨"SAFE_AXCMP", 0xC48, 1, 0x4, 0, 0xFFFFFF, 0, 0, 0, 0, 0, 0xFF5555⟩,
  ⟨"FM_SRC_CFG", 0x1000, 128, 0x40, 0, 0xFFFFFF0F, 0, 0, 0, 0x3E80809, 0, 0x10105⟩,
  ⟨"FM_SRC_STAT", 0x1004, 128, 0x40, 0, 0, 0, 0, 0, 0, 0, 0⟩,
  ⟨"FM_CAP_INFO", 0x1008, 128, 0x40, 0, 0, 0, 0, 0, 0, 0, 0⟩,
  ⟨"FM_CAP_DETAIL", 0x100C, 128, 0x40, 0, 0, 0, 0, 0, 0, 0, 0⟩,
  ⟨"FM_CAP_DT_LO", 0x1010, 128, 0x40, 0, 0, 0, 0, 0, 0, 0, 0⟩,
  ⟨"FM_CAP_DT_HI", 0x1014, 128, 0x40, 0, 0, 0, 0, 0, 0, 0, 0⟩,
  ⟨"FM_CAP2_INFO", 0x1018, 128, 0x40, 0, 0, 0, 0, 0, 0, 0, 0⟩,
  ⟨"FM_CAP2_DETAIL", 0x101C, 128, 0x40, 0, 0, 0, 0, 0, 0, 0, 0⟩,
  ⟨"FM_CAP2_DT_LO", 0x1020, 128, 0x40, 0, 0, 0, 0, 0, 0, 0, 0⟩,
  ⟨"FM_CAP2_DT_HI", 0x1024, 128, 0x40, 0, 0, 0, 0, 0, 0, 0, 0⟩,
  ⟨"FM_SRC_COUNT", 0x1028, 128, 0x40, 0, 0, 0, 0, 0, 0, 0, 0⟩,
  ⟨"FM_SRC_ACK", 0x102C, 128, 0x40, 0, 0, 0, 0x1, 0, 0, 0, 0x1⟩]

/-- The rows of block `fm` (spec 14 Table 10). -/
def rowsFm : List RegRow := rowsFm0 ++ rowsFm1

def rowsSec0 : List RegRow := [
  ⟨"SEC_STAT", 0x0, 1, 0x4, 0, 0, 0, 0, 0, 0, 0, 0⟩,
  ⟨"SEC_IRQ_STAT", 0x4, 1, 0x4, 0, 0, 0x7F, 0, 0, 0, 0, 0⟩,
  ⟨"SEC_IRQ_EN", 0x8, 1, 0x4, 0x7F, 0, 0, 0, 0, 0, 0, 0x7F⟩,
  ⟨"SEC_CMD", 0xC, 1, 0x4, 0, 0, 0, 0xFFFF, 0, 0, 0, 0x101⟩,
  ⟨"SEC_CMD_STAT", 0x10, 1, 0x4, 0, 0, 0, 0, 0, 0, 0, 0⟩,
  ⟨"SEC_UPD_STAT", 0x14, 1, 0x4, 0, 0, 0, 0, 0, 0, 0, 0⟩,
  ⟨"SEC_UPD_RESULT", 0x18, 1, 0x4, 0, 0, 0, 0, 0, 0, 0, 0⟩,
  ⟨"SEC_UPD_TRIAL", 0x1C, 1, 0x4, 0, 0xFFFF, 0, 0, 0, 0x258, 0, 0x1⟩,
  ⟨"SEC_UPD_LEFT", 0x20, 1, 0x4, 0, 0, 0, 0, 0, 0, 0, 0⟩,
  ⟨"SEC_IMG_RB", 0x24, 1, 0x4, 0, 0, 0, 0, 0, 0, 0, 0⟩,
  ⟨"SEC_FW_RB", 0x28, 1, 0x4, 0, 0, 0, 0, 0, 0, 0, 0⟩,
  ⟨"SEC_FW_VERSION", 0x2C, 1, 0x4, 0, 0, 0, 0, 0, 0, 0, 0⟩,
  ⟨"SEC_KEY_STAT", 0x30, 1, 0x4, 0, 0, 0, 0, 0, 0, 0, 0⟩,
  ⟨"SEC_KEY_USE", 0x34, 1, 0x4, 0, 0, 0, 0, 0, 0, 0, 0⟩,
  ⟨"SEC_TAMPER_CFG", 0x38, 1, 0x4, 0x3FF, 0, 0, 0, 0, 0, 0, 0x155⟩,
  ⟨"SEC_TAMPER_EVT", 0x3C, 1, 0x4, 0, 0, 0x1F, 0, 0, 0, 0, 0⟩,
  ⟨"SEC_TAMPER_CNT", 0x40, 1, 0x4, 0, 0, 0, 0, 0, 0, 0, 0⟩,
  ⟨"SEC_DBG_STAT", 0x44, 1, 0x4, 0, 0, 0, 0, 0, 0, 0, 0⟩,
  ⟨"SEC_SESS_STAT", 0x48, 1, 0x4, 0, 0, 0, 0, 0, 0, 0, 0⟩,
  ⟨"SEC_SESS_FAIL", 0x4C, 1, 0x4, 0, 0, 0, 0, 0, 0, 0, 0⟩,
  ⟨"SEC_WIN_REFUSED", 0x50, 1, 0x4, 0, 0, 0, 0, 0, 0, 0, 0⟩,
  ⟨"SEC_SERIAL_LO", 0x54, 1, 0x4, 0, 0, 0, 0, 0, 0, 0, 0⟩,
  ⟨"SEC_SERIAL_HI", 0x58, 1, 0x4, 0, 0, 0, 0, 0, 0, 0, 0⟩,
  ⟨"SEC_OWNER_HASH", 0x60, 12, 0x4, 0, 0, 0, 0, 0, 0, 0, 0⟩]

def rowsSec1 : List RegRow := [
  ⟨"SEC_BUF", 0x100, 128, 0x4, 0xFFFFFFFF, 0, 0, 0, 0, 0, 0, 0x1⟩,
  ⟨"SEC_CERT", 0x400, 512, 0x4, 0, 0, 0, 0, 0, 0, 0, 0⟩]

/-- The rows of block `sec` (spec 15 Table 12). -/
def rowsSec : List RegRow := rowsSec0 ++ rowsSec1

def rowsRec0 : List RegRow := [
  ⟨"REC_CTRL", 0x0, 1, 0x4, 0x1, 0, 0, 0, 0, 0x1, 0, 0x1⟩,
  ⟨"REC_STAT", 0x4, 1, 0x4, 0, 0, 0, 0, 0, 0, 0, 0⟩,
  ⟨"REC_IRQ_STAT", 0x8, 1, 0x4, 0, 0, 0xF, 0, 0, 0, 0, 0⟩,
  ⟨"REC_IRQ_EN", 0xC, 1, 0x4, 0xF, 0, 0, 0, 0, 0, 0, 0xF⟩,
  ⟨"REC_CMD", 0x10, 1, 0x4, 0, 0, 0, 0x3, 0, 0, 0, 0x3⟩,
  ⟨"REC_SEQ_LO", 0x14, 1, 0x4, 0, 0, 0, 0, 0, 0, 0, 0⟩,
  ⟨"REC_SEQ_HI", 0x18, 1, 0x4, 0, 0, 0, 0, 0, 0, 0, 0⟩,
  ⟨"REC_CURSOR", 0x1C, 1, 0x4, 0x8000FFFF, 0, 0, 0, 0, 0, 0, 0x80000001⟩,
  ⟨"REC_WIN_STAT", 0x20, 1, 0x4, 0, 0, 0, 0, 0, 0, 0, 0⟩,
  ⟨"REC_WIN_SEQ_LO", 0x24, 1, 0x4, 0, 0, 0, 0, 0, 0, 0, 0⟩,
  ⟨"REC_WIN_SEQ_HI", 0x28, 1, 0x4, 0, 0, 0, 0, 0, 0, 0, 0⟩,
  ⟨"REC_WRITTEN", 0x30, 1, 0x4, 0, 0, 0, 0, 0, 0, 0, 0⟩,
  ⟨"REC_REPEATS", 0x34, 1, 0x4, 0, 0, 0, 0, 0, 0, 0, 0⟩,
  ⟨"REC_SUPPRESSED", 0x38, 1, 0x4, 0, 0, 0, 0, 0, 0, 0, 0⟩,
  ⟨"REC_TORN", 0x3C, 1, 0x4, 0, 0, 0, 0, 0, 0, 0, 0⟩,
  ⟨"REC_STAGE_FULL", 0x40, 1, 0x4, 0, 0, 0, 0, 0, 0, 0, 0⟩,
  ⟨"REC_TRACE_CFG", 0x80, 1, 0x4, 0x800007FF, 0, 0, 0, 0, 0, 0, 0x80000101⟩,
  ⟨"REC_TRACE_OFS", 0x84, 1, 0x4, 0xFFFFFFFF, 0, 0, 0, 0, 0, 0, 0x1⟩,
  ⟨"REC_WIN", 0x100, 64, 0x4, 0, 0, 0, 0, 0, 0, 0, 0⟩,
  ⟨"REC_CODE_CFG", 0x400, 10, 0x10, 0x8001FFFF, 0, 0, 0, 0, 0x80000E10, 0, 0x80000001⟩,
  ⟨"REC_CODE_TB", 0x404, 10, 0x10, 0, 0, 0, 0, 0xFFFF00FF, 0x3C0010, 0, 0⟩,
  ⟨"REC_CODE_TOKENS", 0x408, 10, 0x10, 0, 0, 0, 0, 0, 0x10, 0, 0⟩,
  ⟨"REC_CODE_SUPP", 0x40C, 10, 0x10, 0, 0, 0, 0, 0, 0, 0, 0⟩]

/-- The rows of block `rec` (spec 16 Table 10). -/
def rowsRec : List RegRow := rowsRec0

def rowsLdr0 : List RegRow := [
  ⟨"LDR_CTRL", 0x0, 1, 0x4, 0, 0, 0, 0x3F, 0, 0, 0, 0x7F⟩,
  ⟨"LDR_STAT", 0x4, 1, 0x4, 0, 0, 0, 0, 0, 0, 0, 0⟩,
  ⟨"LDR_ERR", 0x8, 1, 0x4, 0, 0, 0, 0, 0, 0xFF00, 0, 0⟩,
  ⟨"LDR_ERR_POS", 0xC, 1, 0x4, 0, 0, 0, 0, 0, 0, 0, 0⟩,
  ⟨"LDR_STAGE_ADDR", 0x10, 1, 0x4, 0, 0, 0, 0, 0, 0, 0, 0⟩,
  ⟨"LDR_STAGE_LEN", 0x14, 1, 0x4, 0xFFFFFFFF, 0, 0, 0, 0, 0, 0, 0x1⟩,
  ⟨"LDR_SEAL_CFG", 0x18, 1, 0x4, 0, 0, 0, 0, 0xFFFF0103, 0, 0, 0⟩,
  ⟨"LDR_SEAL_LEFT", 0x1C, 1, 0x4, 0, 0, 0, 0, 0, 0, 0, 0⟩,
  ⟨"LDR_ARM_DT_LO", 0x20, 1, 0x4, 0, 0, 0, 0, 0, 0, 0, 0⟩,
  ⟨"LDR_ARM_DT_HI", 0x24, 1, 0x4, 0, 0, 0, 0, 0, 0, 0, 0⟩,
  ⟨"LDR_TH_LO", 0x28, 1, 0x4, 0, 0, 0, 0, 0, 0, 0, 0⟩,
  ⟨"LDR_TH_HI", 0x2C, 1, 0x4, 0, 0, 0, 0, 0, 0, 0, 0⟩,
  ⟨"LDR_SET", 0x30, 1, 0x4, 0, 0, 0, 0, 0, 0, 0, 0⟩,
  ⟨"LDR_WARN", 0x34, 1, 0x4, 0, 0, 0x1F, 0, 0, 0, 0, 0⟩,
  ⟨"LDR_IRQ_STAT", 0x38, 1, 0x4, 0, 0, 0x3F, 0, 0, 0, 0, 0⟩,
  ⟨"LDR_IRQ_EN", 0x3C, 1, 0x4, 0x3F, 0, 0, 0, 0, 0, 0, 0x3F⟩,
  ⟨"LDR_RESEARCH", 0x40, 1, 0x4, 0, 0, 0, 0, 0, 0, 0, 0⟩,
  ⟨"LDR_DEFER", 0x44, 1, 0x4, 0, 0, 0, 0, 0, 0, 0, 0⟩,
  ⟨"LDR_REFUSE_CNT", 0x48, 1, 0x4, 0, 0, 0, 0, 0, 0, 0, 0⟩,
  ⟨"LDR_HANDOVER_REFUSED", 0x4C, 1, 0x4, 0, 0, 0, 0, 0, 0, 0, 0⟩,
  ⟨"LDR_DIGEST", 0x50, 12, 0x4, 0, 0, 0, 0, 0, 0, 0, 0⟩,
  ⟨"LDR_PATCH", 0x80, 1, 0x4, 0, 0, 0, 0, 0, 0, 0, 0⟩,
  ⟨"LDR_VERSION", 0x84, 1, 0x4, 0, 0, 0, 0, 0, 0, 0, 0⟩,
  ⟨"LDR_REFUSE_ADDR", 0x90, 1, 0x4, 0, 0, 0, 0, 0, 0, 0, 0⟩]

def rowsLdr1 : List RegRow := [
  ⟨"LDR_REFUSE_DATA", 0x94, 1, 0x4, 0, 0, 0, 0, 0, 0, 0, 0⟩,
  ⟨"LDR_REFUSE_INFO", 0x98, 1, 0x4, 0, 0, 0, 0, 0, 0, 0, 0⟩,
  ⟨"LDR_REFUSE_ADDR2", 0x9C, 1, 0x4, 0, 0, 0, 0, 0, 0, 0, 0⟩,
  ⟨"LDR_REFUSE_DATA2", 0xA0, 1, 0x4, 0, 0, 0, 0, 0, 0, 0, 0⟩,
  ⟨"LDR_REFUSE_INFO2", 0xA4, 1, 0x4, 0, 0, 0, 0, 0, 0, 0, 0⟩,
  ⟨"LDR_REFUSE_ACK", 0xA8, 1, 0x4, 0, 0, 0, 0x1, 0, 0, 0, 0x1⟩,
  ⟨"LDR_MAP", 0x100, 40, 0x4, 0, 0, 0, 0, 0, 0x3020100, 0x4040404, 0⟩,
  ⟨"LDR_SPARE", 0x1A0, 5, 0x4, 0, 0, 0, 0, 0, 0, 0, 0⟩]

/-- The rows of block `ldr` (spec 02 Table 8). -/
def rowsLdr : List RegRow := rowsLdr0 ++ rowsLdr1

def rowsTile0 : List RegRow := [
  ⟨"TILE_CTRL", 0x0, 1, 0x4, 0x1, 0, 0, 0, 0, 0, 0, 0x3⟩,
  ⟨"TILE_STAT", 0x4, 1, 0x4, 0, 0, 0, 0, 0, 0, 0, 0⟩,
  ⟨"TILE_IRQ_STAT", 0x8, 1, 0x4, 0, 0, 0x7F00, 0, 0, 0, 0, 0⟩,
  ⟨"TILE_IRQ_EN", 0xC, 1, 0x4, 0x7FFF, 0, 0, 0, 0, 0x7FFF, 0, 0x7FFF⟩,
  ⟨"TILE_CMD", 0x10, 1, 0x4, 0, 0, 0, 0x7, 0, 0, 0, 0x7⟩,
  ⟨"TILE_TEMP", 0x14, 1, 0x4, 0, 0, 0, 0, 0, 0, 0, 0⟩,
  ⟨"TILE_VPK", 0x18, 1, 0x4, 0, 0, 0, 0, 0, 0, 0, 0⟩,
  ⟨"TILE_TAMB_HOST", 0x1C, 1, 0x4, 0xFFFF, 0, 0, 0, 0, 0xC8, 0, 0x1⟩,
  ⟨"TILE_TEMP_WARN", 0x20, 1, 0x4, 0xFFFF, 0, 0, 0, 0, 0x3E8, 0, 0x1⟩,
  ⟨"GRP_CFG", 0x24, 1, 0x4, 0xFFFF0001, 0, 0, 0, 0, 0x3E800000, 0, 0x10003⟩,
  ⟨"GRP_IMEAS", 0x28, 1, 0x4, 0, 0, 0, 0, 0, 0, 0, 0⟩,
  ⟨"GRP_TRIP_CNT", 0x2C, 1, 0x4, 0, 0, 0, 0, 0, 0, 0, 0⟩,
  ⟨"GRP_SHARED_CNT", 0x30, 1, 0x4, 0, 0, 0, 0, 0, 0, 0, 0⟩,
  ⟨"GRP_STUCK_CNT", 0x34, 1, 0x4, 0, 0, 0, 0, 0, 0, 0, 0⟩,
  ⟨"GRP_OVERLOAD_CNT", 0x38, 1, 0x4, 0, 0, 0, 0, 0, 0, 0, 0⟩,
  ⟨"TILE_PEAK_INHIBIT_CNT", 0x3C, 1, 0x4, 0, 0, 0, 0, 0, 0, 0, 0⟩,
  ⟨"TILE_IDLE_DIAG", 0x40, 1, 0x4, 0xFFFF, 0, 0, 0, 0, 0x64, 0, 0x1⟩,
  ⟨"LANE_CFG", 0x100, 8, 0x80, 0x4, 0x3, 0, 0, 0, 0x7, 0, 0xF⟩,
  ⟨"LANE_PEAK", 0x104, 8, 0x80, 0, 0xFFFFFFFF, 0, 0, 0, 0x3E8, 0, 0x10001⟩,
  ⟨"LANE_PEAK_TMAX", 0x108, 8, 0x80, 0, 0xFFFFFF, 0, 0, 0, 0x61A8, 0, 0x1⟩,
  ⟨"LANE_HOLD", 0x10C, 8, 0x80, 0, 0xFFFFFFFF, 0, 0, 0, 0x7D0012C, 0, 0x10001⟩,
  ⟨"LANE_DECAY", 0x110, 8, 0x80, 0, 0xFFFF01FF, 0, 0, 0, 0xFA00000, 0, 0x10301⟩,
  ⟨"LANE_RELEASE", 0x114, 8, 0x80, 0, 0xFFFFFF, 0, 0, 0, 0x61A8, 0, 0x1⟩,
  ⟨"LANE_DIAG_CFG", 0x118, 8, 0x80, 0xFFFFFFFF, 0, 0, 0, 0, 0x13880032, 0, 0x10001⟩]

def rowsTile1 : List RegRow := [
  ⟨"LANE_OC", 0x11C, 8, 0x80, 0, 0xFFFF, 0, 0, 0, 0x1388, 0, 0x1⟩,
  ⟨"LANE_COIL_R20", 0x120, 8, 0x80, 0, 0xFFFFFF, 0, 0, 0, 0, 0, 0x1⟩,
  ⟨"LANE_TH_R", 0x124, 8, 0x80, 0xFFFFFFFF, 0, 0, 0, 0, 0x1F407D0, 0, 0x10001⟩,
  ⟨"LANE_TH_C", 0x128, 8, 0x80, 0xFFFFFFFF, 0, 0, 0, 0, 0x1388C350, 0, 0x10001⟩,
  ⟨"LANE_TH_LIM", 0x12C, 8, 0x80, 0xFFFFFFFF, 0, 0, 0, 0, 0x4100370, 0, 0x10001⟩,
  ⟨"LANE_TH_ACT", 0x130, 8, 0x80, 0xFFFFFF03, 0, 0, 0, 0, 0xC0005000, 0, 0x10105⟩,
  ⟨"LANE_TH_KMEAS", 0x134, 8, 0x80, 0xFFFF, 0, 0, 0, 0, 0x4000, 0, 0x1⟩,
  ⟨"LANE_TH_T", 0x138, 8, 0x80, 0, 0, 0, 0, 0, 0, 0, 0⟩,
  ⟨"LANE_COIL_RMEAS", 0x13C, 8, 0x80, 0, 0, 0, 0, 0, 0, 0, 0⟩,
  ⟨"LANE_COIL_TMEAS", 0x140, 8, 0x80, 0, 0, 0, 0, 0, 0, 0, 0⟩,
  ⟨"LANE_STAT", 0x144, 8, 0x80, 0, 0, 0, 0, 0, 0, 0, 0⟩,
  ⟨"LANE_DIAG", 0x148, 8, 0x80, 0, 0, 0x1FFF, 0, 0, 0, 0, 0⟩,
  ⟨"LANE_DIAG_EN", 0x14C, 8, 0x80, 0x1FFF, 0, 0, 0, 0, 0x7FF, 0, 0x1FFF⟩,
  ⟨"LANE_FIRINGS", 0x150, 8, 0x80, 0, 0, 0, 0, 0, 0, 0, 0⟩,
  ⟨"LANE_IGNORED", 0x154, 8, 0x80, 0, 0, 0, 0, 0, 0, 0, 0⟩,
  ⟨"LANE_REFUSED", 0x158, 8, 0x80, 0, 0, 0, 0, 0, 0, 0, 0⟩,
  ⟨"LANE_BOOST_TIMEOUT", 0x15C, 8, 0x80, 0, 0, 0, 0, 0, 0, 0, 0⟩,
  ⟨"LANE_OPEN_CNT", 0x160, 8, 0x80, 0, 0, 0, 0, 0, 0, 0, 0⟩,
  ⟨"LANE_SHORT_CNT", 0x164, 8, 0x80, 0, 0, 0, 0, 0, 0, 0, 0⟩,
  ⟨"LANE_OC_CNT", 0x168, 8, 0x80, 0, 0, 0, 0, 0, 0, 0, 0⟩,
  ⟨"LANE_RELEASE_OVERRUN", 0x16C, 8, 0x80, 0, 0, 0, 0, 0, 0, 0, 0⟩,
  ⟨"LANE_SHARED_CNT", 0x170, 8, 0x80, 0, 0, 0, 0, 0, 0, 0, 0⟩,
  ⟨"LANE_PEAK_TIME", 0x174, 8, 0x80, 0, 0, 0, 0, 0, 0, 0, 0⟩,
  ⟨"LANE_CLAMP_EMAX", 0x178, 8, 0x80, 0, 0, 0, 0, 0, 0, 0, 0⟩]

def rowsTile2 : List RegRow := [
  ⟨"LANE_CLAMP_PAVG", 0x17C, 8, 0x80, 0, 0, 0, 0, 0, 0, 0, 0⟩,
  ⟨"LRN_TILE_CFG", 0x80, 1, 0x4, 0x70003, 0, 0, 0, 0, 0x40003, 0, 0x10003⟩,
  ⟨"LRN_BAND_V0", 0x84, 1, 0x4, 0xFFFF, 0, 0, 0, 0, 0x5460, 0, 0x1⟩,
  ⟨"LRN_BAND_W", 0x88, 1, 0x4, 0xFFFF, 0, 0, 0, 0, 0x258, 0, 0x1⟩,
  ⟨"BURNISH_PERIOD", 0x8C, 1, 0x4, 0xFFFF, 0, 0, 0, 0, 0x3C, 0, 0x1⟩,
  ⟨"BURNISH_MAXAGE", 0x90, 1, 0x4, 0xFFFF, 0, 0, 0, 0, 0xE10, 0, 0x1⟩,
  ⟨"BURNISH_STAT", 0x94, 1, 0x4, 0, 0, 0, 0, 0, 0, 0, 0⟩,
  ⟨"LRN_BAND", 0xA00, 64, 0x4, 0, 0, 0, 0, 0, 0, 0, 0⟩,
  ⟨"LRN_CFG", 0x600, 8, 0x80, 0xFF1F, 0, 0, 0, 0, 0x817, 0, 0x1013F⟩,
  ⟨"LRN_OPEN_WIN", 0x604, 8, 0x80, 0xFFFFFFFF, 0, 0, 0, 0, 0x13880032, 0, 0x10001⟩,
  ⟨"LRN_CLOSE_WIN", 0x608, 8, 0x80, 0xFFFFFFFF, 0, 0, 0, 0, 0x27100014, 0, 0x10001⟩,
  ⟨"LRN_DETECT", 0x60C, 8, 0x80, 0xFFFFFFFF, 0, 0, 0, 0, 0x5400014, 0, 0x1010001⟩,
  ⟨"LRN_GAIN", 0x610, 8, 0x80, 0xFFFFFFFF, 0, 0, 0, 0, 0x10000800, 0, 0x10001⟩,
  ⟨"LRN_PLAUS", 0x614, 8, 0x80, 0xFFFFFFFF, 0, 0, 0, 0, 0x27102710, 0, 0x10001⟩,
  ⟨"LRN_OFS", 0x618, 8, 0x80, 0xFFFFFFFF, 0, 0, 0, 0, 0, 0, 0x10001⟩,
  ⟨"LRN_SEED_OPEN", 0x61C, 8, 0x80, 0, 0xFFFFFF, 0, 0, 0, 0, 0, 0x1⟩,
  ⟨"LRN_SEED_CLOSE", 0x620, 8, 0x80, 0, 0xFFFFFF, 0, 0, 0, 0, 0, 0x1⟩,
  ⟨"LRN_SEED_TC", 0x624, 8, 0x80, 0, 0xFFFFFFFF, 0, 0, 0, 0, 0, 0x10001⟩,
  ⟨"LRN_BASE_OPEN", 0x628, 8, 0x80, 0, 0, 0, 0, 0, 0, 0, 0⟩,
  ⟨"LRN_BASE_CLOSE", 0x62C, 8, 0x80, 0, 0, 0, 0, 0, 0, 0, 0⟩,
  ⟨"LRN_TC", 0x630, 8, 0x80, 0, 0, 0, 0, 0, 0, 0, 0⟩,
  ⟨"LRN_MEAS_OPEN", 0x634, 8, 0x80, 0, 0, 0, 0, 0, 0, 0, 0⟩,
  ⟨"LRN_MEAS_CLOSE", 0x638, 8, 0x80, 0, 0, 0, 0, 0, 0, 0, 0⟩,
  ⟨"LRN_STAT", 0x63C, 8, 0x80, 0, 0, 0, 0, 0, 0, 0, 0⟩]

def rowsTile3 : List RegRow := [
  ⟨"LRN_FLAGS", 0x640, 8, 0x80, 0, 0, 0x7F, 0, 0, 0, 0, 0⟩,
  ⟨"LRN_CMD", 0x644, 8, 0x80, 0, 0, 0, 0xF, 0, 0, 0, 0xF⟩,
  ⟨"LRN_UPDATES", 0x648, 8, 0x80, 0, 0, 0, 0, 0, 0, 0, 0⟩,
  ⟨"LRN_EXCLUDED", 0x64C, 8, 0x80, 0, 0, 0, 0, 0, 0, 0, 0⟩,
  ⟨"LRN_OUTLIER_OPEN", 0x650, 8, 0x80, 0, 0, 0, 0, 0, 0, 0, 0⟩,
  ⟨"LRN_OUTLIER_CLOSE", 0x654, 8, 0x80, 0, 0, 0, 0, 0, 0, 0, 0⟩,
  ⟨"LRN_NOKNEE", 0x658, 8, 0x80, 0, 0, 0, 0, 0, 0, 0, 0⟩,
  ⟨"LRN_NOCLOSE", 0x65C, 8, 0x80, 0, 0, 0, 0, 0, 0, 0, 0⟩,
  ⟨"LRN_SHIFT_MEAN", 0x660, 8, 0x80, 0, 0, 0, 0, 0, 0, 0, 0⟩,
  ⟨"BURNISH_I_CORR", 0x664, 8, 0x80, 0, 0, 0, 0, 0, 0, 0, 0⟩,
  ⟨"BURNISH_V_CORR", 0x668, 8, 0x80, 0, 0, 0, 0, 0, 0, 0, 0⟩,
  ⟨"BURNISH_DAC", 0x66C, 8, 0x80, 0, 0, 0, 0, 0, 0, 0, 0⟩,
  ⟨"BURNISH_AGE", 0x670, 8, 0x80, 0, 0, 0, 0, 0, 0xFFFFFFFF, 0, 0⟩,
  ⟨"BURNISH_DONE", 0x674, 8, 0x80, 0, 0, 0, 0, 0, 0, 0, 0⟩,
  ⟨"BURNISH_ABANDON", 0x678, 8, 0x80, 0, 0, 0, 0, 0, 0, 0, 0⟩]

/-- The rows of block `tile` (spec 06 Tables 8, 9 and 07 Tables 5, 6). -/
def rowsTile : List RegRow := rowsTile0 ++ rowsTile1 ++ rowsTile2 ++ rowsTile3

def rowsIntake0 : List RegRow := [
  ⟨"INTAKE_CTRL", 0x0, 1, 0x4, 0x13F, 0, 0, 0, 0, 0x30, 0, 0x351⟩,
  ⟨"INTAKE_STAT", 0x4, 1, 0x4, 0, 0, 0, 0, 0, 0, 0, 0⟩,
  ⟨"INTAKE_HWM", 0x8, 1, 0x4, 0, 0, 0, 0, 0, 0, 0, 0⟩,
  ⟨"INTAKE_FLOW", 0xC, 1, 0x4, 0xFFFFFFFF, 0, 0, 0, 0, 0xC000E000, 0, 0x10001⟩,
  ⟨"INTAKE_IMM_LEAD", 0x10, 1, 0x4, 0xFFFF, 0, 0, 0, 0, 0x7D0, 0, 0x1⟩,
  ⟨"INTAKE_IRQ_STAT", 0x14, 1, 0x4, 0, 0, 0x3F, 0, 0, 0, 0, 0⟩,
  ⟨"INTAKE_IRQ_EN", 0x18, 1, 0x4, 0x3F, 0, 0, 0, 0, 0, 0, 0x3F⟩,
  ⟨"INTAKE_CNT_CLEAR", 0x1C, 1, 0x4, 0, 0, 0, 0x1, 0, 0, 0, 0x1⟩,
  ⟨"INTAKE_BADFRAME", 0x20, 1, 0x4, 0, 0, 0, 0, 0, 0, 0, 0⟩,
  ⟨"INTAKE_S_CFG", 0x100, 4, 0x40, 0xFFFFFF02, 0, 0, 0x1, 0, 0x80A00000, 0, 0x9010107⟩,
  ⟨"INTAKE_S_FALL_DROP", 0x104, 4, 0x40, 0xFFFFFFFF, 0, 0, 0, 0, 0x30D40, 0, 0x1⟩,
  ⟨"INTAKE_S_BELT_DIST", 0x108, 4, 0x40, 0xFFFFFFFF, 0, 0, 0, 0, 0, 0, 0x1⟩,
  ⟨"INTAKE_S_BELT_SCALE", 0x10C, 4, 0x40, 0xFFFFFFFF, 0, 0, 0, 0, 0x10000, 0, 0x1⟩,
  ⟨"INTAKE_S_BELT_VMIN", 0x110, 4, 0x40, 0xFFFFFFFF, 0, 0, 0, 0, 0x3E8, 0, 0x1⟩,
  ⟨"INTAKE_S_LAT_ORIGIN", 0x114, 4, 0x40, 0xFFFFFFFF, 0, 0, 0, 0, 0, 0, 0x1⟩,
  ⟨"INTAKE_S_LAT_PITCH", 0x118, 4, 0x40, 0xFFFF, 0, 0, 0, 0, 0x186A, 0, 0x1⟩,
  ⟨"INTAKE_S_LAT_CTRL", 0x11C, 4, 0x40, 0x1F00FFFF, 0, 0, 0, 0, 0x4000000, 0, 0x21010001⟩,
  ⟨"INTAKE_S_SEQ", 0x120, 4, 0x40, 0, 0, 0, 0, 0, 0, 0, 0⟩,
  ⟨"INTAKE_S_FRAMES", 0x124, 4, 0x40, 0, 0, 0, 0, 0, 0, 0, 0⟩,
  ⟨"INTAKE_S_LOST", 0x128, 4, 0x40, 0, 0, 0, 0, 0, 0, 0, 0⟩,
  ⟨"INTAKE_S_STALE", 0x12C, 4, 0x40, 0, 0, 0, 0, 0, 0, 0, 0⟩,
  ⟨"INTAKE_S_BADFRAME", 0x130, 4, 0x40, 0, 0, 0, 0, 0, 0, 0, 0⟩,
  ⟨"INTAKE_S_FULLDROP", 0x134, 4, 0x40, 0, 0, 0, 0, 0, 0, 0, 0⟩,
  ⟨"INTAKE_S_TRANSIT", 0x138, 4, 0x40, 0, 0, 0, 0, 0, 0, 0, 0⟩]

def rowsIntake1 : List RegRow := [
  ⟨"INTAKE_S_STAT", 0x13C, 4, 0x40, 0, 0, 0, 0, 0, 0, 0, 0⟩,
  ⟨"INTAKE_ACC", 0x200, 16, 0x4, 0xFFFF, 0, 0, 0, 0, 0x2652, 0, 0x1⟩,
  ⟨"INTAKE_TGT_W", 0x300, 4, 0x4, 0, 0, 0, 0xFFFFFFFF, 0, 0, 0, 0x1⟩,
  ⟨"INTAKE_TGT_CFG", 0x310, 1, 0x4, 0x3, 0, 0, 0, 0, 0, 0, 0x1⟩,
  ⟨"INTAKE_TGT_CNT", 0x318, 1, 0x4, 0, 0, 0, 0, 0, 0, 0, 0⟩,
  ⟨"INTAKE_TGT_REFUSED", 0x31C, 1, 0x4, 0, 0, 0, 0, 0, 0, 0, 0⟩,
  ⟨"INTAKE_REJ_MODEL", 0x400, 1, 0x4, 0, 0, 0, 0, 0, 0, 0, 0⟩,
  ⟨"INTAKE_REJ_FIELD", 0x404, 1, 0x4, 0, 0, 0, 0, 0, 0, 0, 0⟩,
  ⟨"INTAKE_REJ_LANE_RANGE", 0x408, 1, 0x4, 0, 0, 0, 0, 0, 0, 0, 0⟩,
  ⟨"INTAKE_REJ_REF_STALE", 0x40C, 1, 0x4, 0, 0, 0, 0, 0, 0, 0, 0⟩,
  ⟨"INTAKE_REJ_REF_FUTURE", 0x410, 1, 0x4, 0, 0, 0, 0, 0, 0, 0, 0⟩,
  ⟨"INTAKE_REJ_BELT_INVALID", 0x414, 1, 0x4, 0, 0, 0, 0, 0, 0, 0, 0⟩,
  ⟨"INTAKE_REJ_NO_ARRIVAL", 0x418, 1, 0x4, 0, 0, 0, 0, 0, 0, 0, 0⟩,
  ⟨"INTAKE_REJ_RANGE", 0x41C, 1, 0x4, 0, 0, 0, 0, 0, 0, 0, 0⟩,
  ⟨"INTAKE_REJ_DISAGREE", 0x420, 1, 0x4, 0, 0, 0, 0, 0, 0, 0, 0⟩,
  ⟨"INTAKE_REJ_LAT_MISS", 0x424, 1, 0x4, 0, 0, 0, 0, 0, 0, 0, 0⟩,
  ⟨"INTAKE_CNT_LANE_CLIP", 0x428, 1, 0x4, 0, 0, 0, 0, 0, 0, 0, 0⟩,
  ⟨"INTAKE_CNT_LAT_CAP", 0x42C, 1, 0x4, 0, 0, 0, 0, 0, 0, 0, 0⟩,
  ⟨"SOLVER_OK0", 0x500, 1, 0x4, 0, 0, 0, 0, 0, 0, 0, 0⟩,
  ⟨"SOLVER_OK1", 0x504, 1, 0x4, 0, 0, 0, 0, 0, 0, 0, 0⟩,
  ⟨"SOLVER_DISAGREE0", 0x508, 1, 0x4, 0, 0, 0, 0, 0, 0, 0, 0⟩,
  ⟨"SOLVER_DISAGREE1", 0x50C, 1, 0x4, 0, 0, 0, 0, 0, 0, 0, 0⟩,
  ⟨"SOLVER_MAXDIFF", 0x510, 1, 0x4, 0, 0, 0, 0, 0, 0, 0, 0⟩,
  ⟨"INTAKE_S_BELT_SPEED", 0x600, 4, 0x4, 0, 0, 0, 0, 0, 0, 0, 0⟩]

/-- The rows of block `intake` (spec 03 Table 5). -/
def rowsIntake : List RegRow := rowsIntake0 ++ rowsIntake1

def rowsStitch0 : List RegRow := [
  ⟨"STITCH_CTRL", 0x0, 1, 0x4, 0x1, 0, 0, 0, 0, 0, 0, 0x1⟩,
  ⟨"STITCH_STAT", 0x4, 1, 0x4, 0, 0, 0, 0, 0, 0, 0, 0⟩,
  ⟨"STITCH_IRQ_STAT", 0x8, 1, 0x4, 0, 0, 0xFF, 0, 0, 0, 0, 0⟩,
  ⟨"STITCH_IRQ_EN", 0xC, 1, 0x4, 0xFF, 0, 0, 0, 0, 0, 0, 0xFF⟩,
  ⟨"STITCH_CMD", 0x10, 1, 0x4, 0, 0, 0, 0x3, 0, 0, 0, 0x3⟩,
  ⟨"STITCH_FILL_HWM", 0x14, 1, 0x4, 0, 0, 0, 0, 0, 0, 0, 0⟩,
  ⟨"STITCH_UNMAPPED", 0x20, 1, 0x4, 0, 0, 0, 0, 0, 0, 0, 0⟩,
  ⟨"STITCH_DISABLED_DROP", 0x24, 1, 0x4, 0, 0, 0, 0, 0, 0, 0, 0⟩,
  ⟨"STITCH_INTEGRITY", 0x28, 1, 0x4, 0, 0, 0, 0, 0, 0, 0, 0⟩,
  ⟨"STITCH_CANCELLED", 0x2C, 1, 0x4, 0, 0, 0, 0, 0, 0, 0, 0⟩,
  ⟨"STITCH_CANCEL_MISS", 0x30, 1, 0x4, 0, 0, 0, 0, 0, 0, 0, 0⟩,
  ⟨"STITCH_CANCEL_LATE", 0x34, 1, 0x4, 0, 0, 0, 0, 0, 0, 0, 0⟩,
  ⟨"STITCH_LATE_CLOSE", 0x38, 1, 0x4, 0, 0, 0, 0, 0, 0, 0, 0⟩,
  ⟨"STITCH_ISSUE_FAIL", 0x3C, 1, 0x4, 0, 0, 0, 0, 0, 0, 0, 0⟩,
  ⟨"STITCH_SAFE_DISCARD", 0x40, 1, 0x4, 0, 0, 0, 0, 0, 0, 0, 0⟩,
  ⟨"STITCH_FLUSHED", 0x44, 1, 0x4, 0, 0, 0, 0, 0, 0, 0, 0⟩,
  ⟨"STITCH_RETIME", 0x48, 1, 0x4, 0, 0, 0, 0, 0, 0, 0, 0⟩,
  ⟨"STITCH_POOL_FULL", 0x4C, 1, 0x4, 0, 0, 0, 0, 0, 0, 0, 0⟩,
  ⟨"STITCH_CAL_SEL", 0x60, 1, 0x4, 0x3F00FF, 0, 0, 0, 0, 0, 0, 0x10001⟩,
  ⟨"STITCH_CAL_OPEN_LO", 0x64, 1, 0x4, 0, 0, 0, 0, 0, 0, 0, 0⟩,
  ⟨"STITCH_CAL_OPEN_HI", 0x68, 1, 0x4, 0, 0, 0, 0, 0, 0, 0, 0⟩,
  ⟨"STITCH_CAL_CLOSE_LO", 0x6C, 1, 0x4, 0, 0, 0, 0, 0, 0, 0, 0⟩,
  ⟨"STITCH_CAL_CLOSE_HI", 0x70, 1, 0x4, 0, 0, 0, 0, 0, 0, 0, 0⟩,
  ⟨"STITCH_CAL_INFO", 0x74, 1, 0x4, 0, 0, 0, 0, 0, 0, 0, 0⟩]

def rowsStitch1 : List RegRow := [
  ⟨"STITCH_GRP_CFG", 0x800, 20, 0x10, 0xFFFFF, 0, 0, 0, 0, 0x80000, 0, 0x110001⟩,
  ⟨"STITCH_GRP_STAGGERED", 0x804, 20, 0x10, 0, 0, 0, 0, 0, 0, 0, 0⟩,
  ⟨"STITCH_GRP_CONTENTION", 0x808, 20, 0x10, 0, 0, 0, 0, 0, 0, 0, 0⟩,
  ⟨"STITCH_GRP_STAGGER_MAX", 0x80C, 20, 0x10, 0, 0, 0, 0, 0, 0, 0, 0⟩,
  ⟨"STITCH_LANE_CFG", 0x1000, 160, 0x40, 0x103, 0, 0, 0, 0, 0x1, 0, 0x307⟩,
  ⟨"STITCH_LANE_GUARD", 0x1004, 160, 0x40, 0xFFFFFFFF, 0, 0, 0, 0, 0, 0, 0x10001⟩,
  ⟨"STITCH_LANE_MIN", 0x1008, 160, 0x40, 0xFFFFFFFF, 0, 0, 0, 0, 0x1388, 0, 0x10001⟩,
  ⟨"STITCH_LANE_PWM", 0x100C, 160, 0x40, 0xFFFFFFFF, 0, 0, 0, 0, 0x27100000, 0, 0x10001⟩,
  ⟨"STITCH_LANE_DUTY", 0x1010, 160, 0x40, 0xFFFF, 0, 0, 0, 0, 0, 0, 0x10001⟩,
  ⟨"STITCH_LANE_LAT_OPEN", 0x1014, 160, 0x40, 0, 0, 0, 0, 0, 0, 0, 0⟩,
  ⟨"STITCH_LANE_LAT_CLOSE", 0x1018, 160, 0x40, 0, 0, 0, 0, 0, 0, 0, 0⟩,
  ⟨"STITCH_CAL_STAT", 0x101C, 160, 0x40, 0, 0, 0, 0, 0, 0, 0, 0⟩,
  ⟨"STITCH_LANE_NEXT_LO", 0x1020, 160, 0x40, 0, 0, 0, 0, 0, 0xFFFFFFFF, 0, 0⟩,
  ⟨"STITCH_LANE_NEXT_HI", 0x1024, 160, 0x40, 0, 0, 0, 0, 0, 0xFFFFFFFF, 0, 0⟩,
  ⟨"STITCH_LANE_LATE_FIRE", 0x1028, 160, 0x40, 0, 0, 0, 0, 0, 0, 0, 0⟩,
  ⟨"STITCH_LANE_LATE_DROP", 0x102C, 160, 0x40, 0, 0, 0, 0, 0, 0, 0, 0⟩,
  ⟨"STITCH_LANE_MERGED", 0x1030, 160, 0x40, 0, 0, 0, 0, 0, 0, 0, 0⟩,
  ⟨"STITCH_LANE_WIDENED", 0x1034, 160, 0x40, 0, 0, 0, 0, 0, 0, 0, 0⟩,
  ⟨"STITCH_LANE_OVERFLOW", 0x1038, 160, 0x40, 0, 0, 0, 0, 0, 0, 0, 0⟩,
  ⟨"STITCH_LANE_DEFERRED", 0x103C, 160, 0x40, 0, 0, 0, 0, 0, 0, 0, 0⟩]

/-- The rows of block `stitch` (spec 05 Table 2). -/
def rowsStitch : List RegRow := rowsStitch0 ++ rowsStitch1

def rowsGnd0 : List RegRow := [
  ⟨"GND_CTRL", 0x0, 1, 0x4, 0xF33, 0, 0, 0, 0, 0x730, 0, 0x1F77⟩,
  ⟨"GND_STAT", 0x4, 1, 0x4, 0, 0, 0, 0, 0, 0x4, 0, 0⟩,
  ⟨"GND_PERIOD", 0x8, 1, 0x4, 0xFFFFFFFF, 0, 0, 0, 0, 0x3E8, 0, 0x1⟩,
  ⟨"GND_LEAD", 0xC, 1, 0x4, 0xFFFF, 0, 0, 0, 0, 0x7D0, 0, 0x1⟩,
  ⟨"GND_VS_MAXAGE", 0x10, 1, 0x4, 0xFFFFFFFF, 0, 0, 0, 0, 0x64, 0, 0x1⟩,
  ⟨"GND_VMIN", 0x14, 1, 0x4, 0xFFFF, 0, 0, 0, 0, 0xBB8, 0, 0x1⟩,
  ⟨"GND_VREF", 0x18, 1, 0x4, 0xFFFFFFFF, 0, 0, 0, 0, 0x186A0, 0, 0x1⟩,
  ⟨"GND_THRESH", 0x1C, 1, 0x4, 0xFFFFFFFF, 0, 0, 0, 0, 0x80004000, 0, 0x10001⟩,
  ⟨"GND_EDGE_DIST", 0x20, 1, 0x4, 0xFFFFFFFF, 0, 0, 0, 0, 0x2FAF080, 0, 0x1⟩,
  ⟨"GND_SAMP", 0x24, 1, 0x4, 0xFF, 0, 0, 0, 0, 0x24, 0, 0x11⟩,
  ⟨"GND_IRQ_STAT", 0x28, 1, 0x4, 0, 0, 0x1FF, 0, 0, 0, 0, 0⟩,
  ⟨"GND_IRQ_EN", 0x2C, 1, 0x4, 0x1FF, 0, 0, 0, 0, 0, 0, 0x1FF⟩,
  ⟨"GND_CMD", 0x30, 1, 0x4, 0, 0, 0, 0xF, 0, 0, 0, 0xF⟩,
  ⟨"GND_VS_DT_LO", 0x40, 1, 0x4, 0, 0, 0, 0xFFFFFFFF, 0, 0, 0, 0x1⟩,
  ⟨"GND_VS_DT_HI", 0x44, 1, 0x4, 0, 0, 0, 0xFFFFFFFF, 0, 0, 0, 0x1⟩,
  ⟨"GND_VS_E_LO", 0x48, 1, 0x4, 0, 0, 0, 0xFFFFFFFF, 0, 0, 0, 0x1⟩,
  ⟨"GND_VS_E_HI", 0x4C, 1, 0x4, 0, 0, 0, 0xFFFFFFFF, 0, 0, 0, 0x1⟩,
  ⟨"GND_VS_N_LO", 0x50, 1, 0x4, 0, 0, 0, 0xFFFFFFFF, 0, 0, 0, 0x1⟩,
  ⟨"GND_VS_N_HI", 0x54, 1, 0x4, 0, 0, 0, 0xFFFFFFFF, 0, 0, 0, 0x1⟩,
  ⟨"GND_VS_HEAD", 0x58, 1, 0x4, 0, 0, 0, 0xFFFFFFFF, 0, 0, 0, 0x1⟩,
  ⟨"GND_VS_SPEED", 0x5C, 1, 0x4, 0, 0, 0, 0xFFFFFFFF, 0, 0, 0, 0x1⟩,
  ⟨"GND_VS_YAW", 0x60, 1, 0x4, 0, 0, 0, 0xFFFFFFFF, 0, 0, 0, 0x1⟩,
  ⟨"GND_CUR_DT_LO", 0x80, 1, 0x4, 0, 0, 0, 0, 0, 0, 0, 0⟩,
  ⟨"GND_CUR_DT_HI", 0x84, 1, 0x4, 0, 0, 0, 0, 0, 0, 0, 0⟩]

def rowsGnd1 : List RegRow := [
  ⟨"GND_CUR_E_LO", 0x88, 1, 0x4, 0, 0, 0, 0, 0, 0, 0, 0⟩,
  ⟨"GND_CUR_E_HI", 0x8C, 1, 0x4, 0, 0, 0, 0, 0, 0, 0, 0⟩,
  ⟨"GND_CUR_N_LO", 0x90, 1, 0x4, 0, 0, 0, 0, 0, 0, 0, 0⟩,
  ⟨"GND_CUR_N_HI", 0x94, 1, 0x4, 0, 0, 0, 0, 0, 0, 0, 0⟩,
  ⟨"GND_CUR_HEAD", 0x98, 1, 0x4, 0, 0, 0, 0, 0, 0, 0, 0⟩,
  ⟨"GND_CUR_SPEED", 0x9C, 1, 0x4, 0, 0, 0, 0, 0, 0, 0, 0⟩,
  ⟨"GND_CUR_YAW", 0xA0, 1, 0x4, 0, 0, 0, 0, 0, 0, 0, 0⟩,
  ⟨"GND_VS_AGE", 0xA4, 1, 0x4, 0, 0, 0, 0, 0, 0xFFFFFFFF, 0, 0⟩,
  ⟨"GND_GEO_LAT", 0xC0, 1, 0x4, 0xFFFFFFFF, 0, 0, 0, 0, 0, 0, 0x1⟩,
  ⟨"GND_GEO_LON", 0xC4, 1, 0x4, 0xFFFFFFFF, 0, 0, 0, 0, 0, 0, 0x1⟩,
  ⟨"GND_ANT_X", 0xC8, 1, 0x4, 0xFFFFFFFF, 0, 0, 0, 0, 0, 0, 0x1⟩,
  ⟨"GND_ANT_Y", 0xCC, 1, 0x4, 0xFFFFFFFF, 0, 0, 0, 0, 0, 0, 0x1⟩,
  ⟨"GND_WHEEL_CFG", 0xD0, 1, 0x4, 0x177, 0, 0, 0, 0, 0, 0, 0x111⟩,
  ⟨"GND_WHEEL_SCALE", 0xD4, 1, 0x4, 0xFFFFFFFF, 0, 0, 0, 0, 0x10000, 0, 0x1⟩,
  ⟨"GND_TRACK", 0xD8, 1, 0x4, 0xFFFFFFFF, 0, 0, 0, 0, 0x1B7740, 0, 0x1⟩,
  ⟨"GND_FUSE_GAIN", 0xDC, 1, 0x4, 0xFFFFFFFF, 0, 0, 0, 0, 0x20001000, 0, 0x10001⟩,
  ⟨"GND_COG_VMIN", 0xE0, 1, 0x4, 0xFFFFFFFF, 0, 0, 0, 0, 0x2710, 0, 0x1⟩,
  ⟨"GND_DR_MAX", 0xE4, 1, 0x4, 0xFFFFFFFF, 0, 0, 0, 0, 0x2710, 0, 0x1⟩,
  ⟨"GND_RST_BASE", 0x100, 1, 0x4, 0, 0, 0, 0, 0, 0x12800000, 0, 0⟩,
  ⟨"GND_RST_CELL", 0x104, 1, 0x4, 0xFFFFFFFF, 0, 0, 0, 0, 0xFA, 0, 0x1⟩,
  ⟨"GND_RST_ORG_E_LO", 0x108, 1, 0x4, 0xFFFFFFFF, 0, 0, 0, 0, 0, 0, 0x1⟩,
  ⟨"GND_RST_ORG_E_HI", 0x10C, 1, 0x4, 0xFFFFFFFF, 0, 0, 0, 0, 0, 0, 0x1⟩,
  ⟨"GND_RST_ORG_N_LO", 0x110, 1, 0x4, 0xFFFFFFFF, 0, 0, 0, 0, 0, 0, 0x1⟩,
  ⟨"GND_RST_ORG_N_HI", 0x114, 1, 0x4, 0xFFFFFFFF, 0, 0, 0, 0, 0, 0, 0x1⟩]

def rowsGnd2 : List RegRow := [
  ⟨"GND_RST_WIN", 0x118, 1, 0x4, 0, 0, 0, 0, 0, 0, 0, 0⟩,
  ⟨"GND_RST_WIN_NEXT", 0x11C, 1, 0x4, 0xFFFFFFFF, 0, 0, 0, 0, 0, 0, 0x1⟩,
  ⟨"GND_EV_LAT_ORIGIN", 0x120, 1, 0x4, 0xFFFFFFFF, 0, 0, 0, 0, 0, 0, 0x1⟩,
  ⟨"GND_EV_MARGIN", 0x124, 1, 0x4, 0xFFFFFFFF, 0, 0, 0, 0, 0, 0, 0x1⟩,
  ⟨"GND_EV", 0x140, 16, 0x4, 0xFFFFFFFF, 0, 0, 0, 0, 0, 0, 0x1⟩,
  ⟨"GND_CNT_STALE", 0x200, 1, 0x4, 0, 0, 0, 0, 0, 0, 0, 0⟩,
  ⟨"GND_VS_ORDER", 0x204, 1, 0x4, 0, 0, 0, 0, 0, 0, 0, 0⟩,
  ⟨"GND_VS_FUTURE", 0x208, 1, 0x4, 0, 0, 0, 0, 0, 0, 0, 0⟩,
  ⟨"GND_FIX_LATE", 0x20C, 1, 0x4, 0, 0, 0, 0, 0, 0, 0, 0⟩,
  ⟨"GND_DISAGREE", 0x210, 1, 0x4, 0, 0, 0, 0, 0, 0, 0, 0⟩,
  ⟨"GND_EV_DROP", 0x214, 1, 0x4, 0, 0, 0, 0, 0, 0, 0, 0⟩,
  ⟨"GND_EV_STALE", 0x218, 1, 0x4, 0, 0, 0, 0, 0, 0, 0, 0⟩,
  ⟨"GND_SPOT_EXCL", 0x21C, 1, 0x4, 0, 0, 0, 0, 0, 0, 0, 0⟩,
  ⟨"GND_CACHE_MISS", 0x220, 1, 0x4, 0, 0, 0, 0, 0, 0, 0, 0⟩,
  ⟨"GND_WB_LOST", 0x224, 1, 0x4, 0, 0, 0, 0, 0, 0, 0, 0⟩,
  ⟨"GND_DUTY_CLIP", 0x228, 1, 0x4, 0, 0, 0, 0, 0, 0, 0, 0⟩,
  ⟨"GND_OVERRUN", 0x22C, 1, 0x4, 0, 0, 0, 0, 0, 0, 0, 0⟩,
  ⟨"GND_LANE_CFG", 0x1000, 160, 0x20, 0x103, 0, 0, 0, 0, 0, 0, 0x305⟩,
  ⟨"GND_LANE_X", 0x1004, 160, 0x20, 0xFFFFFFFF, 0, 0, 0, 0, 0, 0, 0x1⟩,
  ⟨"GND_LANE_Y", 0x1008, 160, 0x20, 0xFFFFFFFF, 0, 0, 0, 0, 0, 0, 0x1⟩,
  ⟨"GND_LANE_FOOT", 0x100C, 160, 0x20, 0xFFFFFFFF, 0, 0, 0, 0, 0xC8012C, 0, 0x10001⟩,
  ⟨"GND_LANE_DELAY", 0x1010, 160, 0x20, 0xFFFFFF, 0, 0, 0, 0, 0, 0, 0x1⟩,
  ⟨"GND_LANE_DREF", 0x1014, 160, 0x20, 0xFFFF, 0, 0, 0, 0, 0x8000, 0, 0x1⟩,
  ⟨"GND_LANE_DLIM", 0x1018, 160, 0x20, 0xFFFFFFFF, 0, 0, 0, 0, 0xFFFF0000, 0, 0x10001⟩]

def rowsGnd3 : List RegRow := [
  ⟨"GND_LANE_STAT", 0x101C, 160, 0x20, 0, 0, 0, 0, 0, 0, 0, 0⟩]

/-- The rows of block `gnd` (spec 04 Table 5). -/
def rowsGnd : List RegRow := rowsGnd0 ++ rowsGnd1 ++ rowsGnd2 ++ rowsGnd3

def rowsAxis0 : List RegRow := [
  ⟨"AX_CTRL", 0x0, 1, 0x4, 0x33773, 0, 0, 0, 0, 0x40, 0, 0x77995⟩,
  ⟨"AX_STAT", 0x4, 1, 0x4, 0, 0, 0, 0, 0, 0, 0, 0⟩,
  ⟨"AX_EVENT", 0x8, 1, 0x4, 0, 0, 0x3FFFF, 0, 0, 0, 0, 0⟩,
  ⟨"AX_EVENT_EN", 0xC, 1, 0x4, 0x3FFFF, 0, 0, 0, 0, 0, 0, 0x3FFFF⟩,
  ⟨"AX_CMD", 0x10, 1, 0x4, 0, 0, 0, 0x1F, 0, 0, 0, 0x1F⟩,
  ⟨"AX_XTARGET_LO", 0x20, 1, 0x4, 0xFFFFFFFF, 0, 0, 0, 0, 0, 0, 0x1⟩,
  ⟨"AX_XTARGET_HI", 0x24, 1, 0x4, 0xFFFFFFFF, 0, 0, 0, 0, 0, 0, 0x1⟩,
  ⟨"AX_XACTUAL_LO", 0x28, 1, 0x4, 0, 0, 0, 0, 0, 0, 0, 0⟩,
  ⟨"AX_XACTUAL_HI", 0x2C, 1, 0x4, 0, 0, 0, 0, 0, 0, 0, 0⟩,
  ⟨"AX_VTARGET", 0x30, 1, 0x4, 0xFFFFFFFF, 0, 0, 0, 0, 0, 0, 0x1⟩,
  ⟨"AX_VACTUAL", 0x34, 1, 0x4, 0, 0, 0, 0, 0, 0, 0, 0⟩,
  ⟨"AX_AACTUAL", 0x38, 1, 0x4, 0, 0, 0, 0, 0, 0, 0, 0⟩,
  ⟨"AX_VMAX", 0x40, 1, 0x4, 0xFFFFFFFF, 0, 0, 0, 0, 0x19000, 0, 0x1⟩,
  ⟨"AX_AMAX", 0x44, 1, 0x4, 0xFFFFFFFF, 0, 0, 0, 0, 0x64000, 0, 0x1⟩,
  ⟨"AX_DMAX", 0x48, 1, 0x4, 0xFFFFFFFF, 0, 0, 0, 0, 0x64000, 0, 0x1⟩,
  ⟨"AX_DLIMIT", 0x4C, 1, 0x4, 0xFFFFFFFF, 0, 0, 0, 0, 0xC8000, 0, 0x1⟩,
  ⟨"AX_JMAX", 0x50, 1, 0x4, 0xFFFFFFFF, 0, 0, 0, 0, 0xFA0000, 0, 0x1⟩,
  ⟨"AX_VSTOP", 0x54, 1, 0x4, 0xFFFF, 0, 0, 0, 0, 0, 0, 0x1⟩,
  ⟨"AX_XMIN_LO", 0x60, 1, 0x4, 0xFFFFFFFF, 0, 0, 0, 0, 0, 0, 0x1⟩,
  ⟨"AX_XMIN_HI", 0x64, 1, 0x4, 0xFFFFFFFF, 0, 0, 0, 0, 0, 0, 0x1⟩,
  ⟨"AX_XMAX_LO", 0x68, 1, 0x4, 0xFFFFFFFF, 0, 0, 0, 0, 0, 0, 0x1⟩,
  ⟨"AX_XMAX_HI", 0x6C, 1, 0x4, 0xFFFFFFFF, 0, 0, 0, 0, 0, 0, 0x1⟩,
  ⟨"AX_XSET_LO", 0x70, 1, 0x4, 0xFFFFFFFF, 0, 0, 0, 0, 0, 0, 0x1⟩,
  ⟨"AX_XSET_HI", 0x74, 1, 0x4, 0xFFFFFFFF, 0, 0, 0, 0, 0, 0, 0x1⟩]

def rowsAxis1 : List RegRow := [
  ⟨"AX_CURRENT", 0x80, 1, 0x4, 0, 0xFFFFFFFF, 0, 0, 0, 0x32000C8, 0, 0x10001⟩,
  ⟨"AX_HOLD_DELAY", 0x84, 1, 0x4, 0xFFFF, 0, 0, 0, 0, 0xC8, 0, 0x1⟩,
  ⟨"AX_CHOP", 0x88, 1, 0x4, 0xFFFF00FF, 0, 0, 0, 0, 0x7D00040, 0, 0x10001⟩,
  ⟨"AX_ADAPT_V", 0x90, 4, 0x4, 0xFFFFFFFF, 0, 0, 0, 0, 0x19000, 0x19000, 0x1⟩,
  ⟨"AX_ENC_CFG", 0xC0, 1, 0x4, 0xF, 0, 0, 0, 0, 0xF, 0, 0x1⟩,
  ⟨"AX_ENC_RATIO", 0xC4, 1, 0x4, 0xFFFFFFFF, 0, 0, 0, 0, 0x10000, 0, 0x1⟩,
  ⟨"AX_DEV_WIN", 0xC8, 1, 0x4, 0xFFFFFFFF, 0, 0, 0, 0, 0x2000400, 0, 0x1000001⟩,
  ⟨"AX_DEV", 0xCC, 1, 0x4, 0, 0, 0, 0, 0, 0, 0, 0⟩,
  ⟨"AX_DEV_MAX", 0xD0, 1, 0x4, 0, 0, 0, 0, 0, 0, 0, 0⟩,
  ⟨"AX_STALL_CFG", 0xD4, 1, 0x4, 0x30033, 0, 0, 0, 0, 0, 0, 0x50155⟩,
  ⟨"AX_LA_VMIN", 0xD8, 1, 0x4, 0xFFFFFFFF, 0, 0, 0, 0, 0xC800, 0, 0x1⟩,
  ⟨"AX_LOAD", 0xDC, 1, 0x4, 0, 0, 0, 0, 0, 0, 0, 0⟩,
  ⟨"AX_ENC_OFS_LO", 0xE0, 1, 0x4, 0, 0, 0, 0, 0, 0, 0, 0⟩,
  ⟨"AX_ENC_OFS_HI", 0xE4, 1, 0x4, 0, 0, 0, 0, 0, 0, 0, 0⟩,
  ⟨"AX_LA_STALL", 0xE8, 1, 0x4, 0xFFFF, 0, 0, 0, 0, 0x80, 0, 0x1⟩,
  ⟨"AX_REVERSALS", 0x100, 1, 0x4, 0, 0, 0, 0, 0, 0, 0, 0⟩,
  ⟨"AX_OVERSHOOTS", 0x104, 1, 0x4, 0, 0, 0, 0, 0, 0, 0, 0⟩,
  ⟨"AX_LIMIT_DECELS", 0x108, 1, 0x4, 0, 0, 0, 0, 0, 0, 0, 0⟩,
  ⟨"AX_STALLS", 0x10C, 1, 0x4, 0, 0, 0, 0, 0, 0, 0, 0⟩,
  ⟨"AX_INTERP_JUMP", 0x110, 1, 0x4, 0, 0, 0, 0, 0, 0, 0, 0⟩,
  ⟨"AX_STEP_OVERRATE", 0x114, 1, 0x4, 0, 0, 0, 0, 0, 0, 0, 0⟩,
  ⟨"AX_STEP_DROP", 0x118, 1, 0x4, 0, 0, 0, 0, 0, 0, 0, 0⟩,
  ⟨"MOT_STAT", 0xC00, 1, 0x4, 0, 0, 0, 0, 0, 0, 0, 0⟩,
  ⟨"MOT_TEMP", 0xC04, 1, 0x4, 0, 0, 0, 0, 0, 0, 0, 0⟩]

def rowsAxis2 : List RegRow := [
  ⟨"MOT_VM", 0xC08, 1, 0x4, 0, 0, 0, 0, 0, 0, 0, 0⟩,
  ⟨"MOT_CMD", 0xC0C, 1, 0x4, 0, 0, 0, 0x3, 0, 0, 0, 0x3⟩]

/-- The rows of block `axis` (spec 08 Table 5). -/
def rowsAxis : List RegRow := rowsAxis0 ++ rowsAxis1 ++ rowsAxis2

def rowsFb0 : List RegRow := [
  ⟨"FB_CMD", 0x0, 1, 0x4, 0, 0, 0, 0x1, 0, 0, 0, 0x1⟩,
  ⟨"FB_STAT", 0x4, 1, 0x4, 0, 0, 0, 0, 0, 0, 0, 0⟩,
  ⟨"FB_ROUTE_FAIL", 0x8, 1, 0x4, 0, 0, 0, 0, 0, 0, 0, 0⟩,
  ⟨"ENC_CFG", 0x100, 8, 0x40, 0xFFFF9F3F, 0, 0, 0, 0, 0x1F40202, 0, 0xBF41⟩,
  ⟨"ENC_STAT", 0x104, 8, 0x40, 0, 0, 0, 0, 0, 0, 0, 0⟩,
  ⟨"ENC_EVENT", 0x108, 8, 0x40, 0, 0, 0x1F, 0, 0, 0, 0, 0⟩,
  ⟨"ENC_EVENT_EN", 0x10C, 8, 0x40, 0x1F, 0, 0, 0, 0, 0, 0, 0x1F⟩,
  ⟨"ENC_POS_LO", 0x110, 8, 0x40, 0, 0, 0, 0, 0, 0, 0, 0⟩,
  ⟨"ENC_POS_HI", 0x114, 8, 0x40, 0, 0, 0, 0, 0, 0, 0, 0⟩,
  ⟨"ENC_RAW_LO", 0x118, 8, 0x40, 0, 0, 0, 0, 0, 0, 0, 0⟩,
  ⟨"ENC_RAW_HI", 0x11C, 8, 0x40, 0, 0, 0, 0, 0, 0, 0, 0⟩,
  ⟨"ENC_INDEX_LO", 0x120, 8, 0x40, 0, 0, 0, 0, 0, 0, 0, 0⟩,
  ⟨"ENC_INDEX_HI", 0x124, 8, 0x40, 0, 0, 0, 0, 0, 0, 0, 0⟩,
  ⟨"ENC_LOAD_LO", 0x128, 8, 0x40, 0xFFFFFFFF, 0, 0, 0, 0, 0, 0, 0x1⟩,
  ⟨"ENC_LOAD_HI", 0x12C, 8, 0x40, 0xFFFFFFFF, 0, 0, 0, 0, 0, 0, 0x1⟩,
  ⟨"ENC_SPEED", 0x130, 8, 0x40, 0, 0, 0, 0, 0, 0, 0, 0⟩,
  ⟨"ENC_PHASE_ERR", 0x134, 8, 0x40, 0, 0, 0, 0, 0, 0, 0, 0⟩,
  ⟨"ENC_GLITCH", 0x138, 8, 0x40, 0, 0, 0, 0, 0, 0, 0, 0⟩,
  ⟨"ENC_CMD", 0x13C, 8, 0x40, 0, 0, 0, 0x3, 0, 0, 0, 0x3⟩,
  ⟨"Q_CFG", 0x400, 4, 0x40, 0xFFFFFF3F, 0, 0, 0, 0, 0x641300, 0, 0x10175⟩,
  ⟨"Q_FMT", 0x404, 4, 0x40, 0xFF07073F, 0, 0, 0, 0, 0x14000018, 0, 0x10D0941⟩,
  ⟨"Q_STAT", 0x408, 4, 0x40, 0, 0, 0, 0, 0, 0, 0, 0⟩,
  ⟨"Q_EVENT", 0x40C, 4, 0x40, 0, 0, 0x1F, 0, 0, 0, 0, 0⟩,
  ⟨"Q_EVENT_EN", 0x410, 4, 0x40, 0x1F, 0, 0, 0, 0, 0, 0, 0x1F⟩]

def rowsFb1 : List RegRow := [
  ⟨"Q_POS_LO", 0x414, 4, 0x40, 0, 0, 0, 0, 0, 0, 0, 0⟩,
  ⟨"Q_POS_HI", 0x418, 4, 0x40, 0, 0, 0, 0, 0, 0, 0, 0⟩,
  ⟨"Q_TIME_LO", 0x41C, 4, 0x40, 0, 0, 0, 0, 0, 0, 0, 0⟩,
  ⟨"Q_TIME_HI", 0x420, 4, 0x40, 0, 0, 0, 0, 0, 0, 0, 0⟩,
  ⟨"Q_CRC_CNT", 0x424, 4, 0x40, 0, 0, 0, 0, 0, 0, 0, 0⟩,
  ⟨"Q_ERRBIT_CNT", 0x428, 4, 0x40, 0, 0, 0, 0, 0, 0, 0, 0⟩,
  ⟨"Q_TIMEOUT_CNT", 0x42C, 4, 0x40, 0, 0, 0, 0, 0, 0, 0, 0⟩,
  ⟨"Q_FRAMES", 0x430, 4, 0x40, 0, 0, 0, 0, 0, 0, 0, 0⟩,
  ⟨"Q_OVERRUN", 0x434, 4, 0x40, 0, 0, 0, 0, 0, 0, 0, 0⟩,
  ⟨"PRB_CFG", 0x800, 8, 0x40, 0xFFFFFF3F, 0, 0, 0, 0, 0x3E8F004, 0, 0x11741⟩,
  ⟨"PRB_STAT", 0x804, 8, 0x40, 0, 0, 0, 0, 0, 0, 0, 0⟩,
  ⟨"PRB_EVENT", 0x808, 8, 0x40, 0, 0, 0xF, 0, 0, 0, 0, 0⟩,
  ⟨"PRB_EVENT_EN", 0x80C, 8, 0x40, 0xF, 0, 0, 0, 0, 0, 0, 0xF⟩,
  ⟨"PRB_CAP_INFO", 0x810, 8, 0x40, 0, 0, 0, 0, 0, 0, 0, 0⟩,
  ⟨"PRB_CAP_DT_LO", 0x814, 8, 0x40, 0, 0, 0, 0, 0, 0, 0, 0⟩,
  ⟨"PRB_CAP_DT_HI", 0x818, 8, 0x40, 0, 0, 0, 0, 0, 0, 0, 0⟩,
  ⟨"PRB_CAP_POS_LO", 0x81C, 8, 0x40, 0, 0, 0, 0, 0, 0, 0, 0⟩,
  ⟨"PRB_CAP_POS_HI", 0x820, 8, 0x40, 0, 0, 0, 0, 0, 0, 0, 0⟩,
  ⟨"PRB_CMD", 0x824, 8, 0x40, 0, 0, 0, 0x3, 0, 0, 0, 0x3⟩,
  ⟨"PRB_OVERRATE", 0x828, 8, 0x40, 0, 0, 0, 0, 0, 0, 0, 0⟩,
  ⟨"PRB_LOST", 0x82C, 8, 0x40, 0, 0, 0, 0, 0, 0, 0, 0⟩,
  ⟨"PRB_LATCHES", 0x830, 8, 0x40, 0, 0, 0, 0, 0, 0, 0, 0⟩,
  ⟨"CMP_CFG", 0xC00, 8, 0x40, 0xFFFF073F, 0, 0, 0, 0, 0xC80008, 0, 0x1095F⟩,
  ⟨"CMP_STAT", 0xC04, 8, 0x40, 0, 0, 0, 0, 0, 0, 0, 0⟩]

def rowsFb2 : List RegRow := [
  ⟨"CMP_EVENT", 0xC08, 8, 0x40, 0, 0, 0x1F, 0, 0, 0, 0, 0⟩,
  ⟨"CMP_EVENT_EN", 0xC0C, 8, 0x40, 0x1F, 0, 0, 0, 0, 0, 0, 0x1F⟩,
  ⟨"CMP_VAL_LO", 0xC10, 8, 0x40, 0xFFFFFFFF, 0, 0, 0, 0, 0, 0, 0x1⟩,
  ⟨"CMP_VAL_HI", 0xC14, 8, 0x40, 0xFFFFFFFF, 0, 0, 0, 0, 0, 0, 0x1⟩,
  ⟨"CMP_SPACING", 0xC18, 8, 0x40, 0xFFFFFFFF, 0, 0, 0, 0, 0x1, 0, 0x1⟩,
  ⟨"CMP_HITS", 0xC1C, 8, 0x40, 0, 0, 0, 0, 0, 0, 0, 0⟩,
  ⟨"CMP_SKIPPED", 0xC20, 8, 0x40, 0, 0, 0, 0, 0, 0, 0, 0⟩,
  ⟨"CMP_LATE", 0xC24, 8, 0x40, 0, 0, 0, 0, 0, 0, 0, 0⟩,
  ⟨"CMP_HIT_DT_LO", 0xC28, 8, 0x40, 0, 0, 0, 0, 0, 0, 0, 0⟩,
  ⟨"CMP_HIT_DT_HI", 0xC2C, 8, 0x40, 0, 0, 0, 0, 0, 0, 0, 0⟩,
  ⟨"CMP_ROUTE", 0xC30, 8, 0x40, 0xC00FFFFF, 0, 0, 0, 0, 0x40000000, 0, 0xC0000001⟩,
  ⟨"CMP_LANES", 0xC34, 8, 0x40, 0xFFFFFFFF, 0, 0, 0, 0, 0x10000, 0, 0x10101⟩,
  ⟨"CMP_LEAD", 0xC38, 8, 0x40, 0xFFFF, 0, 0, 0, 0, 0x7D0, 0, 0x1⟩,
  ⟨"CMP_MERGED", 0xC3C, 8, 0x40, 0, 0, 0, 0, 0, 0, 0, 0⟩]

/-- The rows of block `fb` (spec 09 Table 3). -/
def rowsFb : List RegRow := rowsFb0 ++ rowsFb1 ++ rowsFb2

def rowsSw0 : List RegRow := [
  ⟨"SW_STAT", 0x0, 1, 0x4, 0, 0, 0, 0, 0, 0, 0, 0⟩,
  ⟨"SW_IRQ_STAT", 0x4, 1, 0x4, 0, 0, 0xF00, 0, 0, 0, 0, 0⟩,
  ⟨"SW_IRQ_EN", 0x8, 1, 0x4, 0xF3F, 0, 0, 0, 0, 0xF3F, 0, 0xF3F⟩,
  ⟨"SW_CMD", 0xC, 1, 0x4, 0, 0, 0, 0x1, 0, 0, 0, 0x1⟩,
  ⟨"SW_VBAT", 0x10, 1, 0x4, 0, 0, 0, 0, 0, 0, 0, 0⟩]

/-- The rows of block `sw` (spec 10 Table 5). -/
def rowsSw : List RegRow := rowsSw0

def rowsSwcl0 : List RegRow := [
  ⟨"SW_CL_CFG", 0x0, 1, 0x4, 0, 0xFFFF, 0, 0, 0, 0x4D8, 0, 0x1⟩,
  ⟨"SW_CL_STAT", 0x4, 1, 0x4, 0, 0, 0, 0, 0, 0, 0, 0⟩,
  ⟨"SW_CL_TEMP", 0x8, 1, 0x4, 0, 0, 0, 0, 0, 0, 0, 0⟩,
  ⟨"SW_CL_EVENT", 0xC, 1, 0x4, 0, 0, 0x1, 0, 0, 0, 0, 0⟩,
  ⟨"SW_CL_EVENT_EN", 0x10, 1, 0x4, 0x1, 0, 0, 0, 0, 0, 0, 0x1⟩,
  ⟨"SW_CL_OT_CNT", 0x14, 1, 0x4, 0, 0, 0, 0, 0, 0, 0, 0⟩,
  ⟨"SW_CH_CTRL", 0x100, 4, 0x80, 0x1, 0, 0, 0, 0, 0, 0, 0x1⟩,
  ⟨"SW_CH_CFG", 0x104, 4, 0x80, 0, 0xF03, 0, 0, 0, 0x300, 0, 0x1107⟩,
  ⟨"SW_CH_ILIM", 0x108, 4, 0x80, 0, 0xFFFFFFFF, 0, 0, 0, 0x3A981770, 0, 0x10001⟩,
  ⟨"SW_CH_TIME", 0x10C, 4, 0x80, 0, 0xFFFFFFFF, 0, 0, 0, 0x1F40064, 0, 0x10001⟩,
  ⟨"SW_CH_RETRY", 0x110, 4, 0x80, 0, 0xFFFFFFFF, 0, 0, 0, 0x3E80064, 0, 0x10001⟩,
  ⟨"SW_CH_OPEN", 0x114, 4, 0x80, 0xFFFFFFFF, 0, 0, 0, 0, 0x640032, 0, 0x10001⟩,
  ⟨"SW_CH_TRST", 0x118, 4, 0x80, 0, 0xFFFF, 0, 0, 0, 0x4B0, 0, 0x1⟩,
  ⟨"SW_CH_STAT", 0x11C, 4, 0x80, 0, 0, 0, 0, 0, 0, 0, 0⟩,
  ⟨"SW_CH_EVENT", 0x120, 4, 0x80, 0, 0, 0x7FF, 0, 0, 0, 0, 0⟩,
  ⟨"SW_CH_EVENT_EN", 0x124, 4, 0x80, 0x7FF, 0, 0, 0, 0, 0, 0, 0x7FF⟩,
  ⟨"SW_CH_CMD", 0x128, 4, 0x80, 0, 0, 0, 0x3, 0, 0, 0, 0x3⟩,
  ⟨"SW_CH_IMEAS", 0x12C, 4, 0x80, 0, 0, 0, 0, 0, 0, 0, 0⟩,
  ⟨"SW_CH_VOUT", 0x130, 4, 0x80, 0, 0, 0, 0, 0, 0, 0, 0⟩,
  ⟨"SW_CH_TEMP", 0x134, 4, 0x80, 0, 0, 0, 0, 0, 0, 0, 0⟩,
  ⟨"SW_CH_TRIPS", 0x138, 4, 0x80, 0, 0, 0, 0, 0, 0, 0, 0⟩,
  ⟨"SW_CH_LATCHES", 0x13C, 4, 0x80, 0, 0, 0, 0, 0, 0, 0, 0⟩,
  ⟨"SW_CH_OPEN_CNT", 0x140, 4, 0x80, 0, 0, 0, 0, 0, 0, 0, 0⟩,
  ⟨"SW_CH_LIMIT_CNT", 0x144, 4, 0x80, 0, 0, 0, 0, 0, 0, 0, 0⟩]

def rowsSwcl1 : List RegRow := [
  ⟨"SW_CH_PAUSE_LEFT", 0x148, 4, 0x80, 0, 0, 0, 0, 0, 0, 0, 0⟩]

/-- The rows of block `swcl` (spec 10 Tables 6, 7). -/
def rowsSwcl : List RegRow := rowsSwcl0 ++ rowsSwcl1

def rowsCan0 : List RegRow := [
  ⟨"CAN_CTRL", 0x0, 1, 0x4, 0x7, 0, 0, 0, 0, 0x1, 0, 0x3⟩,
  ⟨"CAN_CFG", 0x4, 1, 0x4, 0, 0xF, 0, 0, 0x100, 0x100, 0, 0x31F⟩,
  ⟨"CAN_NBT", 0x8, 1, 0x4, 0, 0x3FFF7F7F, 0, 0, 0, 0x23F1010, 0, 0x1010101⟩,
  ⟨"CAN_DBT", 0xC, 1, 0x4, 0, 0x1F1F0F0F, 0, 0, 0, 0x11F0808, 0, 0x1010101⟩,
  ⟨"CAN_TDC", 0x10, 1, 0x4, 0, 0x8000007F, 0, 0, 0, 0, 0, 0x80010001⟩,
  ⟨"CAN_STAT", 0x14, 1, 0x4, 0, 0, 0, 0, 0, 0, 0, 0⟩,
  ⟨"CAN_ERR", 0x18, 1, 0x4, 0, 0, 0, 0, 0, 0, 0, 0⟩,
  ⟨"CAN_EVENT", 0x1C, 1, 0x4, 0, 0, 0xFFFF, 0, 0, 0, 0, 0⟩,
  ⟨"CAN_EVENT_EN", 0x20, 1, 0x4, 0xFFFF, 0, 0, 0, 0, 0, 0, 0xFFFF⟩,
  ⟨"CAN_CMD", 0x24, 1, 0x4, 0, 0, 0, 0x7, 0, 0, 0, 0x7⟩,
  ⟨"CAN_TX_OK", 0x40, 1, 0x4, 0, 0, 0, 0, 0, 0, 0, 0⟩,
  ⟨"CAN_RX_OK", 0x44, 1, 0x4, 0, 0, 0, 0, 0, 0, 0, 0⟩,
  ⟨"CAN_RX_NOMATCH", 0x48, 1, 0x4, 0, 0, 0, 0, 0, 0, 0, 0⟩,
  ⟨"CAN_RX_LOST", 0x4C, 1, 0x4, 0, 0, 0, 0, 0, 0, 0, 0⟩,
  ⟨"CAN_TX_ABORTED", 0x50, 1, 0x4, 0, 0, 0, 0, 0, 0, 0, 0⟩,
  ⟨"CAN_ERR_CNT", 0x54, 1, 0x4, 0, 0, 0, 0, 0, 0, 0, 0⟩,
  ⟨"CAN_BUSOFF_CNT", 0x58, 1, 0x4, 0, 0, 0, 0, 0, 0, 0, 0⟩,
  ⟨"CAN_AUTH_FAIL", 0x5C, 1, 0x4, 0, 0, 0, 0, 0, 0, 0, 0⟩,
  ⟨"CAN_TM_REJECT", 0x60, 1, 0x4, 0, 0, 0, 0, 0, 0, 0, 0⟩,
  ⟨"CAN_TM_CONFLICT", 0x64, 1, 0x4, 0, 0, 0, 0, 0, 0, 0, 0⟩,
  ⟨"CAN_TM_CFG", 0x80, 1, 0x4, 0, 0xDFFFFFFF, 0, 0, 0, 0, 0, 0xC0000001⟩,
  ⟨"CAN_TM_PERIOD", 0x84, 1, 0x4, 0xFFFF, 0, 0, 0, 0, 0x3E8, 0, 0x1⟩,
  ⟨"CAN_TS_DELAY", 0x88, 1, 0x4, 0xFFFFFFFF, 0, 0, 0, 0, 0, 0, 0x1⟩,
  ⟨"CAN_TM_STAT", 0x8C, 1, 0x4, 0, 0, 0, 0, 0, 0, 0, 0⟩]

def rowsCan1 : List RegRow := [
  ⟨"CAN_TM_LAST_LO", 0x90, 1, 0x4, 0, 0, 0, 0, 0, 0, 0, 0⟩,
  ⟨"CAN_TM_LAST_HI", 0x94, 1, 0x4, 0, 0, 0, 0, 0, 0, 0, 0⟩,
  ⟨"CAN_AUTH_CFG", 0xA0, 1, 0x4, 0, 0x80FF0007, 0, 0, 0, 0x100000, 0, 0x80010001⟩,
  ⟨"CAN_FIFO_CFG", 0x108, 7, 0x8, 0x1, 0, 0, 0, 0, 0, 0, 0x1⟩,
  ⟨"CAN_FIFO_STAT", 0x10C, 7, 0x8, 0, 0, 0, 0, 0, 0, 0, 0⟩,
  ⟨"CAN_FIFO_POP", 0x140, 1, 0x4, 0, 0, 0, 0x7F07, 0, 0, 0, 0x101⟩,
  ⟨"OBJ_CTRL", 0x1000, 128, 0x50, 0xFB8FFF20, 0, 0xDC, 0, 0, 0, 0, 0xFC9101FF⟩,
  ⟨"OBJ_ID", 0x1004, 128, 0x50, 0xDFFFFFFF, 0, 0, 0, 0, 0, 0, 0xE0000001⟩,
  ⟨"OBJ_MASK", 0x1008, 128, 0x50, 0x9FFFFFFF, 0, 0, 0, 0, 0, 0, 0xA0000001⟩,
  ⟨"OBJ_TS", 0x100C, 128, 0x50, 0, 0, 0, 0, 0, 0, 0, 0⟩,
  ⟨"OBJ_DATA0", 0x1010, 128, 0x50, 0xFFFFFFFF, 0, 0, 0, 0, 0, 0, 0x1⟩,
  ⟨"OBJ_DATA1", 0x1014, 128, 0x50, 0xFFFFFFFF, 0, 0, 0, 0, 0, 0, 0x1⟩,
  ⟨"OBJ_DATA2", 0x1018, 128, 0x50, 0xFFFFFFFF, 0, 0, 0, 0, 0, 0, 0x1⟩,
  ⟨"OBJ_DATA3", 0x101C, 128, 0x50, 0xFFFFFFFF, 0, 0, 0, 0, 0, 0, 0x1⟩,
  ⟨"OBJ_DATA4", 0x1020, 128, 0x50, 0xFFFFFFFF, 0, 0, 0, 0, 0, 0, 0x1⟩,
  ⟨"OBJ_DATA5", 0x1024, 128, 0x50, 0xFFFFFFFF, 0, 0, 0, 0, 0, 0, 0x1⟩,
  ⟨"OBJ_DATA6", 0x1028, 128, 0x50, 0xFFFFFFFF, 0, 0, 0, 0, 0, 0, 0x1⟩,
  ⟨"OBJ_DATA7", 0x102C, 128, 0x50, 0xFFFFFFFF, 0, 0, 0, 0, 0, 0, 0x1⟩,
  ⟨"OBJ_DATA8", 0x1030, 128, 0x50, 0xFFFFFFFF, 0, 0, 0, 0, 0, 0, 0x1⟩,
  ⟨"OBJ_DATA9", 0x1034, 128, 0x50, 0xFFFFFFFF, 0, 0, 0, 0, 0, 0, 0x1⟩,
  ⟨"OBJ_DATA10", 0x1038, 128, 0x50, 0xFFFFFFFF, 0, 0, 0, 0, 0, 0, 0x1⟩,
  ⟨"OBJ_DATA11", 0x103C, 128, 0x50, 0xFFFFFFFF, 0, 0, 0, 0, 0, 0, 0x1⟩,
  ⟨"OBJ_DATA12", 0x1040, 128, 0x50, 0xFFFFFFFF, 0, 0, 0, 0, 0, 0, 0x1⟩,
  ⟨"OBJ_DATA13", 0x1044, 128, 0x50, 0xFFFFFFFF, 0, 0, 0, 0, 0, 0, 0x1⟩]

def rowsCan2 : List RegRow := [
  ⟨"OBJ_DATA14", 0x1048, 128, 0x50, 0xFFFFFFFF, 0, 0, 0, 0, 0, 0, 0x1⟩,
  ⟨"OBJ_DATA15", 0x104C, 128, 0x50, 0xFFFFFFFF, 0, 0, 0, 0, 0, 0, 0x1⟩,
  ⟨"CAN_FV", 0x3800, 128, 0x4, 0xFFFFFFFF, 0, 0, 0, 0, 0, 0, 0x1⟩]

/-- The rows of block `can` (spec 12 Tables 3, 8). -/
def rowsCan : List RegRow := rowsCan0 ++ rowsCan1 ++ rowsCan2

def rowsGnss0 : List RegRow := [
  ⟨"GNSS_CTRL", 0x0, 1, 0x4, 0xFF077F, 0, 0, 0, 0, 0xA037C, 0, 0x10109FF⟩,
  ⟨"GNSS_STAT", 0x4, 1, 0x4, 0, 0, 0, 0, 0, 0, 0, 0⟩,
  ⟨"GNSS_IRQ_STAT", 0x8, 1, 0x4, 0, 0, 0xFF, 0, 0, 0, 0, 0⟩,
  ⟨"GNSS_IRQ_EN", 0xC, 1, 0x4, 0xFF, 0, 0, 0, 0, 0, 0, 0xFF⟩,
  ⟨"GNSS_CMD", 0x10, 1, 0x4, 0, 0, 0, 0x7F, 0, 0, 0, 0x7F⟩,
  ⟨"GNSS_ANT_CFG", 0x14, 1, 0x4, 0x1, 0, 0, 0, 0, 0, 0, 0x1⟩,
  ⟨"GNSS_ANT_STAT", 0x18, 1, 0x4, 0, 0, 0, 0, 0, 0, 0, 0⟩,
  ⟨"GNSS_TCXO_UNC", 0x1C, 1, 0x4, 0xFF, 0, 0, 0, 0, 0x19, 0, 0x1⟩,
  ⟨"GNSS_AID_DT_LO", 0x20, 1, 0x4, 0xFFFFFFFF, 0, 0, 0, 0, 0, 0, 0x1⟩,
  ⟨"GNSS_AID_DT_HI", 0x24, 1, 0x4, 0xFFFFFFFF, 0, 0, 0, 0, 0, 0, 0x1⟩,
  ⟨"GNSS_AID_GPST_LO", 0x28, 1, 0x4, 0xFFFFFFFF, 0, 0, 0, 0, 0, 0, 0x1⟩,
  ⟨"GNSS_AID_GPST_HI", 0x2C, 1, 0x4, 0xFFFFFFFF, 0, 0, 0, 0, 0, 0, 0x1⟩,
  ⟨"GNSS_AID_TUNC", 0x30, 1, 0x4, 0xFFFFFFFF, 0, 0, 0, 0, 0xFFFFFFFF, 0, 0x1⟩,
  ⟨"GNSS_AID_LAT", 0x34, 1, 0x4, 0xFFFFFFFF, 0, 0, 0, 0, 0, 0, 0x1⟩,
  ⟨"GNSS_AID_LON", 0x38, 1, 0x4, 0xFFFFFFFF, 0, 0, 0, 0, 0, 0, 0x1⟩,
  ⟨"GNSS_AID_HGT", 0x3C, 1, 0x4, 0xFFFFFFFF, 0, 0, 0, 0, 0, 0, 0x1⟩,
  ⟨"GNSS_AID_PUNC", 0x40, 1, 0x4, 0xFFFFFFFF, 0, 0, 0, 0, 0xFFFFFFFF, 0, 0x1⟩,
  ⟨"GNSS_AID_NAV_HDR", 0x50, 1, 0x4, 0xFF00FFFF, 0, 0, 0, 0, 0, 0, 0x1000101⟩,
  ⟨"GNSS_AID_NAV_DATA", 0x54, 1, 0x4, 0, 0, 0, 0xFFFFFFFF, 0, 0, 0, 0x1⟩,
  ⟨"GNSS_AID_NAV_STAT", 0x58, 1, 0x4, 0, 0, 0, 0, 0, 0, 0, 0⟩,
  ⟨"GNSS_EPOCH_STAT", 0x60, 1, 0x4, 0, 0, 0, 0, 0, 0, 0, 0⟩,
  ⟨"GNSS_NAV_STAT", 0x64, 1, 0x4, 0, 0, 0, 0, 0, 0, 0, 0⟩,
  ⟨"GNSS_SOL_DT_LO", 0x100, 1, 0x4, 0, 0, 0, 0, 0, 0, 0, 0⟩,
  ⟨"GNSS_SOL_DT_HI", 0x104, 1, 0x4, 0, 0, 0, 0, 0, 0, 0, 0⟩]

def rowsGnss1 : List RegRow := [
  ⟨"GNSS_SOL_LAT", 0x108, 1, 0x4, 0, 0, 0, 0, 0, 0, 0, 0⟩,
  ⟨"GNSS_SOL_LON", 0x10C, 1, 0x4, 0, 0, 0, 0, 0, 0, 0, 0⟩,
  ⟨"GNSS_SOL_HGT", 0x110, 1, 0x4, 0, 0, 0, 0, 0, 0, 0, 0⟩,
  ⟨"GNSS_SOL_VE", 0x114, 1, 0x4, 0, 0, 0, 0, 0, 0, 0, 0⟩,
  ⟨"GNSS_SOL_VN", 0x118, 1, 0x4, 0, 0, 0, 0, 0, 0, 0, 0⟩,
  ⟨"GNSS_SOL_VU", 0x11C, 1, 0x4, 0, 0, 0, 0, 0, 0, 0, 0⟩,
  ⟨"GNSS_SOL_INFO", 0x120, 1, 0x4, 0, 0, 0, 0, 0, 0, 0, 0⟩,
  ⟨"GNSS_SOL_HACC", 0x124, 1, 0x4, 0, 0, 0, 0, 0, 0xFFFFFFFF, 0, 0⟩,
  ⟨"GNSS_NAV_OVERFLOW", 0x200, 1, 0x4, 0, 0, 0, 0, 0, 0, 0, 0⟩,
  ⟨"GNSS_PARITY_FAIL", 0x204, 1, 0x4, 0, 0, 0, 0, 0, 0, 0, 0⟩,
  ⟨"GNSS_ANT_SHORT_CNT", 0x208, 1, 0x4, 0, 0, 0, 0, 0, 0, 0, 0⟩,
  ⟨"GNSS_BANK0", 0x1000, 521, 0x4, 0, 0, 0, 0, 0, 0, 0, 0⟩,
  ⟨"GNSS_BANK1", 0x2000, 521, 0x4, 0, 0, 0, 0, 0, 0, 0, 0⟩,
  ⟨"GNSS_NAV_WIN", 0x3000, 16, 0x4, 0, 0, 0, 0, 0, 0, 0, 0⟩]

/-- The rows of block `gnss` (spec 11 Table 9). -/
def rowsGnss : List RegRow := rowsGnss0 ++ rowsGnss1

def rowsDt0 : List RegRow := [
  ⟨"DT_NOW_FRAC", 0x0, 1, 0x4, 0, 0, 0, 0, 0, 0, 0, 0⟩,
  ⟨"DT_NOW_LO", 0x4, 1, 0x4, 0, 0, 0, 0, 0, 0, 0, 0⟩,
  ⟨"DT_NOW_HI", 0x8, 1, 0x4, 0, 0, 0, 0, 0, 0, 0, 0⟩,
  ⟨"DT_CTRL", 0x10, 1, 0x4, 0x13F, 0, 0, 0, 0, 0x3F, 0, 0x355⟩,
  ⟨"DT_STAT", 0x14, 1, 0x4, 0, 0, 0, 0, 0, 0xC, 0, 0⟩,
  ⟨"DT_IRQ_STAT", 0x18, 1, 0x4, 0, 0, 0x1F, 0, 0, 0, 0, 0⟩,
  ⟨"DT_IRQ_EN", 0x1C, 1, 0x4, 0x1F, 0, 0, 0, 0, 0, 0, 0x1F⟩,
  ⟨"DT_CMD", 0x20, 1, 0x4, 0, 0, 0, 0x3, 0, 0, 0, 0x3⟩,
  ⟨"DT_PHASE_ERR", 0x24, 1, 0x4, 0, 0, 0, 0, 0, 0, 0, 0⟩,
  ⟨"DT_FREQ_ADJ", 0x28, 1, 0x4, 0, 0, 0, 0, 0, 0, 0, 0⟩,
  ⟨"DT_EST_ERR", 0x2C, 1, 0x4, 0, 0, 0, 0, 0, 0xFFFFFFFF, 0, 0⟩,
  ⟨"DT_EST_WARN", 0x30, 1, 0x4, 0xFFFFFFFF, 0, 0, 0, 0, 0x1388, 0, 0x1⟩,
  ⟨"DT_HO_TIME", 0x34, 1, 0x4, 0, 0, 0, 0, 0, 0, 0, 0⟩,
  ⟨"DT_HO_FUNC", 0x38, 1, 0x4, 0xFFFFFFFF, 0, 0, 0, 0, 0x1388, 0, 0x1⟩,
  ⟨"DT_HO_AGEUNC", 0x3C, 1, 0x4, 0xFFFFFFFF, 0, 0, 0, 0, 0x1D4C0, 0, 0x1⟩,
  ⟨"DT_AGE_RATE", 0x40, 1, 0x4, 0, 0, 0, 0, 0, 0, 0, 0⟩,
  ⟨"DT_LOOP", 0x44, 1, 0x4, 0xFFFF, 0, 0, 0, 0, 0xA, 0, 0x1⟩,
  ⟨"DT_PPS_CFG", 0x48, 1, 0x4, 0x1FFFF, 0, 0, 0, 0, 0, 0, 0x10001⟩,
  ⟨"DT_GNSS_DELAY", 0x4C, 1, 0x4, 0xFFFFFFFF, 0, 0, 0, 0, 0, 0, 0x1⟩,
  ⟨"DT_CAN_SRC", 0x50, 1, 0x4, 0x3, 0, 0, 0, 0, 0, 0, 0x1⟩,
  ⟨"DT_UTC_OFS", 0x54, 1, 0x4, 0, 0, 0, 0, 0, 0, 0, 0⟩,
  ⟨"DT_STEP_LO", 0x58, 1, 0x4, 0, 0, 0, 0, 0, 0, 0, 0⟩,
  ⟨"DT_STEP_HI", 0x5C, 1, 0x4, 0, 0, 0, 0, 0, 0, 0, 0⟩,
  ⟨"DT_STEP_CNT", 0x60, 1, 0x4, 0, 0, 0, 0, 0, 0, 0, 0⟩]

def rowsDt1 : List RegRow := [
  ⟨"DT_SRC_LOSS_CNT", 0x64, 1, 0x4, 0, 0, 0, 0, 0, 0, 0, 0⟩,
  ⟨"DT_TP_CFG", 0x100, 2, 0x20, 0x73, 0, 0, 0, 0, 0x62, 0, 0x97⟩,
  ⟨"DT_TP_PERIOD", 0x104, 2, 0x20, 0xFFFFFFFF, 0, 0, 0, 0, 0x3B9ACA00, 0, 0x1⟩,
  ⟨"DT_TP_WIDTH", 0x108, 2, 0x20, 0xFFFFFFFF, 0, 0, 0, 0, 0x5F5E100, 0, 0x1⟩,
  ⟨"DT_TP_OFS", 0x10C, 2, 0x20, 0xFFFFFFFF, 0, 0, 0, 0, 0, 0, 0x1⟩,
  ⟨"DT_TP_LAST_LO", 0x110, 2, 0x20, 0, 0, 0, 0, 0, 0, 0, 0⟩,
  ⟨"DT_TP_LAST_HI", 0x114, 2, 0x20, 0, 0, 0, 0, 0, 0, 0, 0⟩,
  ⟨"DT_TP_SEQ", 0x118, 2, 0x20, 0, 0, 0, 0, 0, 0, 0, 0⟩]

/-- The rows of block `dt` (spec 11 Table 12). -/
def rowsDt : List RegRow := rowsDt0 ++ rowsDt1

def rowsPorts0 : List RegRow := [
  ⟨"PORT_CFG", 0x0, 1, 0x4, 0, 0, 0, 0, 0x7, 0, 0, 0⟩,
  ⟨"PORT_IRQ_STAT", 0x4, 1, 0x4, 0, 0, 0xFF, 0, 0, 0, 0, 0⟩,
  ⟨"PORT_IRQ_EN", 0x8, 1, 0x4, 0xFF, 0, 0, 0, 0, 0, 0, 0xFF⟩,
  ⟨"PORT_CMD", 0xC, 1, 0x4, 0, 0, 0, 0x1, 0, 0, 0, 0x1⟩,
  ⟨"PORT_ERR_ADDR", 0x10, 3, 0x10, 0, 0, 0, 0, 0, 0, 0, 0⟩,
  ⟨"PORT_ERR_INFO", 0x14, 3, 0x10, 0, 0, 0, 0, 0, 0, 0, 0⟩,
  ⟨"PORT_ERR_CNT", 0x18, 3, 0x10, 0, 0, 0, 0, 0, 0, 0, 0⟩,
  ⟨"ETH_CTRL", 0x100, 1, 0x100, 0, 0x133, 0, 0, 0, 0x123, 0, 0x357⟩,
  ⟨"ETH_CTRL1", 0x200, 1, 0x100, 0, 0x133, 0, 0, 0, 0x103, 0, 0x357⟩,
  ⟨"ETH_STAT", 0x104, 2, 0x100, 0, 0, 0, 0, 0, 0, 0, 0⟩,
  ⟨"ETH_MAC_LO", 0x108, 2, 0x100, 0, 0xFFFFFFFF, 0, 0, 0, 0, 0, 0x1⟩,
  ⟨"ETH_MAC_HI", 0x10C, 2, 0x100, 0, 0xFFFF, 0, 0, 0, 0, 0, 0x1⟩,
  ⟨"ETH_PEER_LO", 0x110, 2, 0x100, 0, 0xFFFFFFFF, 0, 0, 0, 0, 0, 0x1⟩,
  ⟨"ETH_PEER_HI", 0x114, 2, 0x100, 0, 0xFFFF, 0, 0, 0, 0, 0, 0x1⟩,
  ⟨"ETH_PAUSE", 0x118, 2, 0x100, 0xFFFFFFFF, 0, 0, 0, 0, 0x3E8FFFF, 0, 0x10001⟩,
  ⟨"ETH_NOTIFY", 0x11C, 2, 0x100, 0x8000FFFF, 0, 0, 0, 0, 0x64, 0, 0x80000001⟩,
  ⟨"ETH_REPLAY_WIN", 0x120, 2, 0x100, 0, 0xFFFFFFFF, 0, 0, 0, 0, 0, 0x1⟩,
  ⟨"ETH_RX_OK", 0x140, 2, 0x100, 0, 0, 0, 0, 0, 0, 0, 0⟩,
  ⟨"ETH_RX_FCS", 0x144, 2, 0x100, 0, 0, 0, 0, 0, 0, 0, 0⟩,
  ⟨"ETH_RX_OVERSIZE", 0x148, 2, 0x100, 0, 0, 0, 0, 0, 0, 0, 0⟩,
  ⟨"ETH_RX_FILTER", 0x14C, 2, 0x100, 0, 0, 0, 0, 0, 0, 0, 0⟩,
  ⟨"ETH_SEC_UNPROT", 0x150, 2, 0x100, 0, 0, 0, 0, 0, 0, 0, 0⟩,
  ⟨"ETH_SEC_ICV", 0x154, 2, 0x100, 0, 0, 0, 0, 0, 0, 0, 0⟩,
  ⟨"ETH_SEC_REPLAY", 0x158, 2, 0x100, 0, 0, 0, 0, 0, 0, 0, 0⟩]

def rowsPorts1 : List RegRow := [
  ⟨"ETH_SEC_NOSA", 0x15C, 2, 0x100, 0, 0, 0, 0, 0, 0, 0, 0⟩,
  ⟨"ETH_TX_OK", 0x160, 2, 0x100, 0, 0, 0, 0, 0, 0, 0, 0⟩,
  ⟨"ETH_PAUSE_TX", 0x164, 2, 0x100, 0, 0, 0, 0, 0, 0, 0, 0⟩,
  ⟨"ETH_PAUSE_RX", 0x168, 2, 0x100, 0, 0, 0, 0, 0, 0, 0, 0⟩,
  ⟨"ETH1_REQ_DROP", 0x270, 1, 0x4, 0, 0, 0, 0, 0, 0, 0, 0⟩,
  ⟨"ETH1_REQ_RESENT", 0x274, 1, 0x4, 0, 0, 0, 0, 0, 0, 0, 0⟩,
  ⟨"ETH1_NOTIFY_TX", 0x278, 1, 0x4, 0, 0, 0, 0, 0, 0, 0, 0⟩,
  ⟨"QSPI_STAT", 0x300, 1, 0x4, 0, 0, 0, 0, 0, 0, 0, 0⟩,
  ⟨"QSPI_WR_DROP", 0x304, 1, 0x4, 0, 0, 0, 0, 0, 0, 0, 0⟩,
  ⟨"QSPI_CRC_ERR", 0x308, 1, 0x4, 0, 0, 0, 0, 0, 0, 0, 0⟩,
  ⟨"QSPI_FORMAT_ERR", 0x30C, 1, 0x4, 0, 0, 0, 0, 0, 0, 0, 0⟩,
  ⟨"USB_STAT", 0x400, 1, 0x4, 0, 0, 0, 0, 0, 0, 0, 0⟩,
  ⟨"USB_CMD_CNT", 0x404, 1, 0x4, 0, 0, 0, 0, 0, 0, 0, 0⟩,
  ⟨"USB_ERR_CNT", 0x408, 1, 0x4, 0, 0, 0, 0, 0, 0, 0, 0⟩]

/-- The rows of block `ports` (spec 13 Table 10). -/
def rowsPorts : List RegRow := rowsPorts0 ++ rowsPorts1

def rowsMss0 : List RegRow := [
  ⟨"MSS_STAT", 0x0, 1, 0x4, 0, 0, 0, 0, 0, 0x1, 0, 0⟩,
  ⟨"MSS_CMD", 0x4, 1, 0x4, 0, 0, 0, 0x3, 0, 0, 0, 0x3⟩,
  ⟨"MSS_RESTART_CNT", 0x8, 1, 0x4, 0, 0, 0, 0, 0, 0, 0, 0⟩,
  ⟨"STORE_IRQ_STAT", 0xC, 1, 0x4, 0, 0, 0x7F, 0, 0, 0, 0, 0⟩,
  ⟨"STORE_IRQ_EN", 0x10, 1, 0x4, 0x7F, 0, 0, 0, 0, 0, 0, 0x7F⟩,
  ⟨"SRAM_CE_CNT", 0x14, 1, 0x4, 0, 0, 0, 0, 0, 0, 0, 0⟩,
  ⟨"SRAM_UE_CNT", 0x18, 1, 0x4, 0, 0, 0, 0, 0, 0, 0, 0⟩,
  ⟨"STORE_CE_CNT", 0x1C, 1, 0x4, 0, 0, 0, 0, 0, 0, 0, 0⟩,
  ⟨"STORE_UE_CNT", 0x20, 1, 0x4, 0, 0, 0, 0, 0, 0, 0, 0⟩,
  ⟨"SRAM_SCRUB_PASSES", 0x24, 1, 0x4, 0, 0, 0, 0, 0, 0, 0, 0⟩,
  ⟨"STORE_SCRUB_POS", 0x28, 1, 0x4, 0, 0, 0, 0, 0, 0, 0, 0⟩,
  ⟨"STORE_SCRUB_PASSES", 0x2C, 1, 0x4, 0, 0, 0, 0, 0, 0, 0, 0⟩,
  ⟨"SCRUB_LATE_CNT", 0x30, 1, 0x4, 0, 0, 0, 0, 0, 0, 0, 0⟩,
  ⟨"BG_WAIT_MAX", 0x34, 1, 0x4, 0, 0, 0, 0, 0, 0, 0, 0⟩,
  ⟨"PWR_HOURS", 0x40, 1, 0x4, 0, 0, 0, 0, 0, 0, 0, 0⟩,
  ⟨"PWR_CYCLES", 0x44, 1, 0x4, 0, 0, 0, 0, 0, 0, 0, 0⟩,
  ⟨"MGT_TEMP0", 0x100, 28, 0x4, 0, 0, 0, 0, 0, 0, 0, 0⟩]

/-- The rows of block `mss` (spec 16 Table 11). -/
def rowsMss : List RegRow := rowsMss0

/-- One block of the address map (01 R52, Table 9): its base, how often it repeats at which stride, and its rows. -/
structure RegBlock where
  base : Nat
  count : Nat
  stride : Nat
  rows : List RegRow
  deriving DecidableEq, Repr

/-- The blocks of the address map that hold registers. The switch block's block-wide registers and its clusters are
two entries; the store window is no register block. -/
def regBlocks : List RegBlock := [
  ⟨0x000000, 1, 0x10000, rowsSys⟩, ⟨0x010000, 1, 0x10000, rowsClk⟩, ⟨0x020000, 1, 0x10000, rowsFm⟩,
  ⟨0x030000, 1, 0x10000, rowsSec⟩, ⟨0x040000, 1, 0x10000, rowsRec⟩, ⟨0x050000, 1, 0x10000, rowsLdr⟩,
  ⟨0x100000, 20, 0x10000, rowsTile⟩, ⟨0x300000, 1, 0x10000, rowsIntake⟩, ⟨0x310000, 1, 0x10000, rowsStitch⟩,
  ⟨0x320000, 1, 0x10000, rowsGnd⟩, ⟨0x400000, 8, 0x1000, rowsAxis⟩, ⟨0x410000, 1, 0x10000, rowsFb⟩,
  ⟨0x500000, 1, 0x1000, rowsSw⟩, ⟨0x501000, 6, 0x1000, rowsSwcl⟩, ⟨0x600000, 4, 0x4000, rowsCan⟩,
  ⟨0x700000, 1, 0x10000, rowsGnss⟩, ⟨0x710000, 1, 0x10000, rowsDt⟩, ⟨0x800000, 1, 0x10000, rowsPorts⟩,
  ⟨0x900000, 1, 0x10000, rowsMss⟩]

/-- A register found at an address: its row, the number of its block, and its number within the row. -/
structure RegHit where
  row : RegRow
  inst : Nat
  idx : Nat
  deriving DecidableEq, Repr

/-- The number of the repetition of row `r` that lies at offset `off` of its block. -/
def RegRow.idx? (r : RegRow) (off : Nat) : Option Nat :=
  if r.off ≤ off ∧ off < r.off + r.count * r.stride ∧ (off - r.off) % r.stride = 0 then
    some ((off - r.off) / r.stride)
  else none

/-- The first row of a table that has a register at offset `off`. -/
def rowAt? : List RegRow → Nat → Option (RegRow × Nat)
  | [], _ => none
  | r :: rs, off =>
    match r.idx? off with
    | some i => some (r, i)
    | none => rowAt? rs off

/-- The block of the address map that holds address `a`. -/
def blockAt? : List RegBlock → Nat → Option RegBlock
  | [], _ => none
  | b :: bs, a => if b.base ≤ a ∧ a < b.base + b.count * b.stride then some b else blockAt? bs a

/-- The source codes of 14 Table 3; every other code of 0–127 is reserved (R551). -/
def faultCodes : List Nat := [
  0x01, 0x02, 0x03, 0x04, 0x05, 0x06, 0x07, 0x08, 0x09, 0x0A, 0x0B, 0x0C, 0x10, 0x11, 0x12, 0x18, 0x19, 0x1A, 0x1B,
  0x1C, 0x1D, 0x1E, 0x1F, 0x20, 0x21, 0x22, 0x23, 0x24, 0x25, 0x28, 0x29, 0x2A, 0x2B, 0x2C] ++ [
  0x30, 0x31, 0x32, 0x33, 0x34, 0x38, 0x39, 0x3A, 0x3B, 0x3C, 0x3D, 0x3E, 0x40, 0x41, 0x42, 0x43, 0x44]

/-- The register at a byte address, if one is defined there (R12). The motion tile registers exist in the blocks of
axes 0 and 4 alone (08 R361). -/
def regHit? (a : Nat) : Option RegHit :=
  match blockAt? regBlocks a with
  | none => none
  | some b =>
    let off := (a - b.base) % b.stride
    let inst := (a - b.base) / b.stride
    match rowAt? b.rows off with
    | none => none
    | some (r, i) =>
      if b.base = 0x400000 ∧ 0xC00 ≤ off ∧ inst % 4 ≠ 0 then none else some ⟨r, inst, i⟩

/-- The reset value of the register at address `a`, and 0 where none is defined. The switch current limits differ
between clusters 0–3 and 4–5 (10 Table 7); the words of a reserved fault source read 0 (14, after Table 3); SYS_REV is
Config.sysRev. A register whose reset value the spec states as "per device", "per slot", "per firmware", "from
records", "from OTP", "from store" or "from backup domain" holds 0: DESIGN CHOICE (log 3). -/
def resetWord (a : Nat) : Word :=
  match regHit? a with
  | none => 0
  | some h =>
    if 0x505000 ≤ a ∧ a < 0x507000 ∧ h.row.off = 0x108 then 0x75302EE0
    else if 0x21000 ≤ a ∧ a < 0x23000 ∧ h.row.off = 0x1000 ∧ h.idx ∉ faultCodes then 0
    else if a = R.SYS_REV then Config.sysRev
    else h.row.reset + h.row.step * BitVec.ofNat 32 h.idx

/-- The island that answers for address `a` (01 Table 9): the port registers of 13 R546 and everything of the system
blocks lie in island 37, the Cinch and safe-state registers in island 38 (14 R587). -/
def islandOf (a : Nat) : Nat :=
  if a < 0x20800 then 37
  else if a < 0x21000 then 38
  else if a < 0x100000 then 37
  else if a < 0x240000 then (a - 0x100000) / 0x10000
  else if a < 0x310000 then 29
  else if a < 0x320000 then 30
  else if a < 0x400000 then 31
  else if a < 0x404000 then 20
  else if a < 0x408000 then 21
  else if a < 0x500000 then 22
  else if a < 0x501000 then 23
  else if a < 0x507000 then 23 + (a - 0x501000) / 0x1000
  else if a < 0x600000 then 37
  else if a < 0x610000 then 35
  else if a < 0x710000 then 33
  else if a < 0x800000 then 32
  else if a < 0x800100 then 37
  else if a < 0x800300 then 34
  else if a < 0x800500 then 37
  else if a < 0x810000 then 34
  else 37

/-- Address `a` lies in a range of the block address map or in the store window (01 R52, R53). -/
def inMap (a : Nat) : Bool :=
  a < 0x60000 || (0x100000 ≤ a && a < 0x240000) || (0x300000 ≤ a && a < 0x330000) ||
  (0x400000 ≤ a && a < 0x408000) || (0x410000 ≤ a && a < 0x420000) || (0x500000 ≤ a && a < 0x510000) ||
  (0x600000 ≤ a && a < 0x610000) || (0x700000 ≤ a && a < 0x720000) || (0x800000 ≤ a && a < 0x810000) ||
  (0x900000 ≤ a && a < 0x910000) || (0x10000000 ≤ a && a < 0x18000000)

end Sys2Proof.Machine
end

