-- ==== Sys2Proof/Machine/State.lean ====
section
/-!
DEFINITION. The state of the block as plain data. Every register of the spec's register tables lives in `regs`, at its
address; what the chapters give the device beside its registers lives in the structures below.
-/
namespace Sys2Proof.Machine

/-- What the block sends out during one command (13_host_ports.md and the pins of the chapters). -/
inductive Out where
  /-- A register read answered on a port: address, value, error code. -/
  | read (p : Port) (a : Nat) (v : Word) (code : Nat)
  /-- A register write answered on a port: address, error code. -/
  | wrote (p : Port) (a : Nat) (code : Nat)
  /-- A frame sent on an Ethernet port: destination (low word, high word), subtype, payload, and the bytes that follow the addresses on
  the wire, without the FCS. -/
  | eth (e : EthPort) (dstLo dstHi : Word) (subtype : Nat) (payload wire : List Byte)
  /-- A PAUSE frame sent on ETH0 with a pause time. -/
  | pause (quanta : Nat)
  /-- A boundary transfer delivered, or reported as failed to its sender. -/
  | link (src dst : Nat) (delivered : Bool)
  /-- The MISO bytes of a Cinch transaction. -/
  | cinch (bytes : List Byte)
  /-- The bytes a QSPI transaction drives. -/
  | qspi (bytes : List Byte)
  /-- A USB status block of 16 bytes (13 R540), after the IN data that moved. -/
  | usb (status data : List Byte)
  /-- A frame of an object, and a reference message, sent by a CAN controller; the acknowledgement of a frame received; and an error
  flag, active or passive. -/
  | can (c m : Nat) (f : CanFrame)
  | canRef (c : Nat) (f : CanFrame)
  | canAck (c : Nat)
  | canFlag (c : Nat) (passive : Bool)
  deriving DecidableEq, Repr

/-- The restart of an island (01 R40): none asked for, held until its clock is good, or running. -/
inductive RestartPhase where
  | none
  | held
  | running
  deriving DecidableEq, Repr

/-- The system block beside its registers (01_architecture.md). -/
structure SysSt where
  /-- Per island: its restart (R40). -/
  restart : Tab RestartPhase
  /-- Per island: consecutive 1 µs monitor windows with its clock within ±3 % of nominal (R40). -/
  goodWin : Tab Nat
  /-- Per island: what it gave SYS_IRQ_STAT when it was isolated (R57). -/
  heldIrq : Tab Word
  /-- Per island: its local DT less DT, ns (R42). -/
  localDt : Tab Int
  /-- Per island: its clock has stopped and it has not been declared down yet (R702). -/
  stopped : Tab Bool
  /-- SYS_HS_TIMEOUT, and SYS_HS_PARITY, changed since it was last read (01 Table 12, ISLAND). -/
  timeoutNew : Bool
  parityNew : Bool
  /-- The links (sender, receiver) whose next transfer fails, and the accesses (port, address) that fail next: what LINK_TRANSFER and
  HANDSHAKE_TIMEOUT have reported, until the row that sends it comes (R34, R35). -/
  failing : List (Nat × Nat)
  failingAcc : List (Port × Nat)
  /-- Per link (sender × 64 + receiver): the payload delivered last (R33). -/
  delivered : Tab (BitVec 72)
  /-- Ground is lost (06 R277). -/
  gndLost : Bool
  /-- The supply monitor reports VBAT above 45 V (06 R275). -/
  inhibit : Bool
  deriving DecidableEq, Repr

/-- A fault capture (14 R557): instance, level, class, repeats, detail and DT of the first occurrence. -/
structure Capture where
  inst : Nat
  level : Nat
  lasting : Bool
  rep : Nat
  detail : Word
  dt : Nat
  deriving DecidableEq, Repr

/-- A fault report record (14 R568, Table 4). -/
structure Report where
  src : Nat
  secondary : Bool
  lasting : Bool
  level : Nat
  rseq : Nat
  inst : Nat
  detail : Word
  dt : Nat
  deriving DecidableEq, Repr

/-- The fault manager beside its registers (14_safety_and_faults.md). -/
structure FmSt where
  /-- Per source: the primary capture (R557). -/
  prim : Tab (Option Capture)
  /-- Per source: the secondary capture. -/
  seco : Tab (Option Capture)
  /-- Per source: FM_SRC_STAT.OVERFLOW. -/
  ovf : Tab Nat
  /-- Per source × 65536 + instance: the leaky bucket (R552). -/
  bucket : Tab Nat
  /-- Per source × 65536 + instance: lasting (R553). -/
  lasting : Tab Bool
  /-- The window capture of R560: the source and its nine words. -/
  capWin : Option (Nat × List Word)
  /-- Records waiting for the next report frame, at most 32 (R568). -/
  ethQ : List Report
  /-- Records waiting for the CAN report object, at most 16 (R569). -/
  canQ : List Report
  /-- FSEQ of the last report frame. -/
  fseq : Nat
  /-- When the last report frame was sent. -/
  lastFrame : Option Nat
  /-- When the running pin test ends (R566). -/
  pinTest : Option Nat
  /-- The level, asserted or not, at which something outside holds FAULT_N; none where the ball follows its driver (R566). -/
  ballF : Option Bool
  /-- The same for SAFE_N. -/
  ballS : Option Bool
  /-- FAULT_N, SAFE_N and IRQ_N are held asserted until a device reset (R565, R703). -/
  pinsLatched : Bool
  deriving DecidableEq, Repr

/-- Cinch beside its registers (14 R571–R579). -/
structure CinchSt where
  /-- The cause of the window's first bad answer: 1 wrong or out of order, 2 early (R577). -/
  bad : Option Nat
  /-- Answer 3 has arrived and the window is good so far (R575). -/
  done : Bool
  /-- The running window is the first one (R578). -/
  first : Bool
  /-- SAFE_N stays asserted until Cinch reaches RUN (R564). -/
  awaitRun : Bool
  /-- When the running window opened (R575). -/
  start : Nat
  deriving DecidableEq, Repr

/-- The safe-state controller beside its registers (14 R580–R586). Channels: physical lane n is n, switch HSn is
160 + n, axis a is 184 + a, compare unit c is 192 + c. -/
structure SafeSt where
  /-- The islands whose ISLAND cause is in force. -/
  islands : List Nat
  /-- Per channel: the stored state in force, none while its line is released. -/
  applied : Tab (Option Nat)
  /-- Island 38 has stopped: every stage applies its stored state (R703). -/
  toggleLost : Bool
  deriving DecidableEq, Repr

/-- A PERMIT item (02 Table 5). -/
structure Permit where
  addr : Nat
  openMask : Word
  lsb : Nat
  width : Nat
  signed : Bool
  lo : Word
  hi : Word
  deriving DecidableEq, Repr

/-- A MACsec secure association (13 R524, 15 R610): its number and the highest packet number it has carried. -/
structure Sa where
  an : Nat
  /-- The highest packet number accepted, or the last one sent. -/
  pn : Nat
  /-- The SAK, and for the XPN suite the salt and the SSCI of its sender (15 R609). -/
  sak : List Byte
  salt : List Byte
  ssci : Nat
  deriving DecidableEq, Repr

/-- A frame that waits for transmission (13 R526): whether it goes under MACsec, its destination, subtype and payload. -/
structure TxFrame where
  sec : Bool
  dstLo : Word
  dstHi : Word
  subtype : Nat
  payload : List Byte
  deriving DecidableEq, Repr

/-- An Ethernet port beside its registers (13 R522–R526, 15 R610). -/
structure EthSt where
  /-- The receive association in use. -/
  rx : Option Sa
  /-- The next receive association, installed and not yet used. -/
  rxNext : Option Sa
  /-- The old receive association, kept after the switch, and when it is deleted (15 R610). -/
  rxOld : Option (Sa × Nat)
  /-- The transmit association in use. -/
  tx : Option Sa
  /-- The next transmit association, taken at the first frame under `rxNext`. -/
  txNext : Option Sa
  /-- Until when a received PAUSE frame holds transmission (13 R526). -/
  pauseUntil : Nat
  /-- NSEQ of the last notification, its SYS_IRQ_PEND and when it was sent (13 R534). -/
  nseq : Nat
  notified : Word
  notifyAt : Option Nat
  /-- Frames that wait for the end of a pause, oldest first (13 R526). -/
  waiting : List TxFrame
  deriving DecidableEq, Repr

/-- The Ethernet port at reset: no association, nothing sent. -/
def EthSt.init : EthSt := ⟨none, none, none, none, none, 0, 0, 0, none, []⟩

/-- A request that ETH1 has queued (13 R531): the address it came from, and its payload. -/
structure EthReq where
  src : BitVec 48
  body : List Byte
  deriving DecidableEq, Repr

/-- A write word in the buffer of the QSPI port (13 R537): its address, the word, the transaction it belongs to, and what the outside
reports of it. -/
structure QWord where
  addr : Nat
  data : Word
  tx : Nat
  env : WriteEnv
  deriving DecidableEq, Repr

/-- Host port state beside the registers (13_host_ports.md). -/
structure PortSt where
  /-- ETH0 and ETH1. -/
  eth0 : EthSt
  eth1 : EthSt
  /-- Per port × 2³² + address: a lower word held for a multi-word write (00 R18). -/
  held : Tab (Option Word)
  /-- Per port × 2³² + address: the captured value of a multi-word register's word (00 R17). -/
  caps : Tab (Option Word)
  /-- The SEQ of the last request executed on ETH1, and its response (13 R530). -/
  lastReq : Option (Nat × List Byte)
  /-- The last QSPI write transaction: its first non-zero status and the words executed (13 R538). -/
  qStat : Nat
  qDone : Nat
  /-- Requests that wait on ETH1, oldest first, at most 8 (13 R531). -/
  reqs : List EthReq
  /-- The buffer of QSPI write words, oldest first, at most 128, and the number of the last write transaction (13 R537). -/
  qBuf : List QWord
  qTx : Nat
  /-- A STAGE_COMMIT whose status block is due: its command block, and whether it waits for the loader or for a slot (13 R544, 15
  R618). -/
  usbWait : Option (UsbBlk × Bool)
  deriving DecidableEq, Repr

/-- An item of an image section (02 Table 5). A SET writes under a mask of all ones, and a SET_RUN is a run of SETs. -/
inductive Item where
  | set (addr : Nat) (mask value : Word)
  | permit (q : Permit)
  | map (logical physical : Nat) (carry : Bool)
  | spare (physical : Nat)
  deriving DecidableEq, Repr

/-- A section of an image: its type and instance (02 Table 1), and its items in stored order. -/
structure Sect where
  type : Nat
  inst : Nat
  items : List Item
  deriving DecidableEq, Repr

/-- The Trellis loader beside its registers (02_trellis_images.md). -/
structure LdrSt where
  /-- Boot loading has ended. -/
  bootEnded : Bool
  /-- The PERMIT items in force (R80). -/
  permits : List Permit
  /-- Per Trellis slot (0 A, 1 B): how many patch-log entries, counted from the first, are marked valid (R94). -/
  marked : Tab Nat
  /-- The sections in force, by type and instance, patches included (R74, R76). -/
  inForce : List Sect
  /-- The sections of the verified partial image, and the shadow banks that the tiles build from them (R90). -/
  staged : List Sect
  shadow : Tab Word
  /-- When the shadow banks were loaded (R92). -/
  loadEnd : Nat
  /-- The T_h that the search has found, none while it waits (R92). -/
  th : Option Int
  /-- The patches in force: their image digests, oldest first (15 Table 8). -/
  digests : List (List Byte)
  /-- The image digest of the verified partial image. -/
  stagedDigest : List Byte
  /-- The banks have been swapped at T_h, and the patch log is not marked yet (R94). -/
  swapped : Bool
  /-- ROLLBACK of the full image in force (R68 step 7). -/
  rb : Nat
  /-- When boot loading ended (R78). -/
  endAt : Nat
  deriving DecidableEq, Repr

/-- A value added to an open recorder interval: its quantity, the value, its DT, and, for a fault count, the level. -/
structure RecVal where
  qty : Nat
  val : Int
  dt : Nat
  deriving DecidableEq, Repr

/-- A LANE_TRACE capture that runs (16 R646): its lane, the instant of entry 0 and the time between entries, the samples, the compare
hits routed to the tile (09 R392), and when a fail-safe line or a loss of ground has cut it short. -/
structure TraceRun where
  lane : Nat
  start : Int
  step : Int
  words : List Word
  hits : List Int
  stop : Option Int
  /-- How many of its entries have been added to an interval. -/
  taken : Nat
  deriving DecidableEq, Repr

/-- The event recorder beside its registers (16_management_and_recorder.md). -/
structure RecSt where
  /-- Per code number k (Table 9 in table order) × 256 + instance: values of the open interval. -/
  vals : Tab (List RecVal)
  /-- Per code number k × 256 + instance: the interval's trigger has come (R644). -/
  due : Tab Bool
  /-- When the lane models were copied last (07 R311). -/
  copyAt : Nat
  /-- When the intervals opened: at the end of boot loading, and per code number × 256 + instance since. -/
  openAll : Nat
  openAt : Tab (Option Nat)
  /-- Per code number × 256 + instance: a close that waits for the MSS, with its cause (R645). -/
  waits : Tab (Option Nat)
  /-- Per code number × 256 + instance: the index of the last record written, while it has not been overwritten (R647). -/
  lastAt : Tab (Option Nat)
  /-- Per code number: the tokens in units of 1/3,600,000,000,000, and when they were counted; none while full (R648). -/
  toks : Tab (Option (Nat × Nat))
  /-- Per code number k × 256 + instance: how many values each QTY of the last record written stands for (R647). -/
  weights : Tab (List Nat)
  /-- Per code number: records suppressed since the last written one (R648). -/
  supp : Tab Nat
  /-- REC_WIN0 has been read and REC_WIN63 not since (R652). -/
  armed : Bool
  /-- The running capture (R646). -/
  trace : Option TraceRun
  deriving DecidableEq, Repr

/-- Clocks, power and reset beside their registers (17_clocks_power_reset.md). -/
structure ClkSt where
  /-- The device is held in reset; a rail has fallen below its reset threshold since it last ran (R670). -/
  inReset : Bool
  rails : Bool
  /-- Since when TCXO_OK is 1 (R664); SOF marks arrive (Table 2). -/
  tcxoAt : Option Nat
  sof : Bool
  /-- The reference has fallen back and stays on the IRO (R663); SEL_MAIN waits for lock (R664). -/
  fallback : Bool
  selWait : Bool
  /-- The gate whose idle handshake runs, and since when (R667). -/
  gate : Option (Nat × Nat)
  /-- When RST_KEY was written with the key, and by which port (R676). -/
  key : Option (Nat × Port)
  /-- The backup domain: the DT latched last, and whether the backup clock has run since (R675). -/
  latch : Option Nat
  rtcOk : Bool
  /-- When the IRO took its last trim step (R659, Table 2). -/
  trimAt : Nat
  deriving DecidableEq, Repr

/-- Clocks at reset. -/
def ClkSt.init : ClkSt := ⟨false, false, none, false, false, false, none, none, none, false, 0⟩

/-- Management beside its registers (16_management_and_recorder.md): the SRAM scrub position, a word index over the regions of
Table 3; when the SRAM and the store pass began and whether each was late; uncorrectable store words by word index; when
the last powered hour was counted. -/
structure MgtSt where
  sramPos : Nat
  sramAt : Nat
  sramLate : Bool
  storeAt : Nat
  storeLate : Bool
  poison : Tab Bool
  hourAt : Nat
  /-- The power-down marker (R640). -/
  marker : Bool
  /-- A debugger halts the MSS (15 R614). -/
  halted : Bool
  /-- Uncorrectable SRAM words by word index over the regions of Table 3, until their owner writes them (R632). -/
  sramBad : Tab Bool
  /-- Per 256 bytes of the store window: when the device wrote them, on its own count of ns, in the last hour (R638). -/
  wear : Tab (List Nat)
  deriving DecidableEq, Repr

/-- A key slot of the security block (15 R600): empty, or a usage (1 CAN_CMAC, 2 IMAGE_KW) and the key. -/
structure KeySlot where
  usage : Nat
  key : List Byte
  deriving DecidableEq, Repr

/-- A session handshake in progress at a port (15 R605–R608): SID, when its last message came, and the peer's Ethernet address; the
HELLO and the REPLY, the x-coordinate Z of the shared point, and a FINISH that waits for the MSS (16 R628). -/
structure Hand where
  sid : Nat
  at_ : Nat
  src : BitVec 48
  hello : List Byte
  reply : List Byte
  z : List Byte
  fin : Option (List Byte)
  deriving DecidableEq, Repr

/-- What the security records hold (R589): the owner key records and whether the previous owner key still verifies (R592, R595), the
confirmed anti-rollback pairs of images and of firmware (15, Anti-rollback), the slot states (Table 10), the key slots (Table 1), the
tamper settings and the count of detections (R615, Table 12), and whether the identity and transport keys are erased (R616). -/
structure SecData where
  recs : Tab (List Byte)
  prevOk : Bool
  imgRb : Nat
  fwRb : Nat
  slots : Nat
  keys : Tab (Option KeySlot)
  tamperCfg : Word
  tamperCnt : Word
  idLost : Bool
  deriving DecidableEq, Repr

/-- Nothing recorded. -/
def SecData.init : SecData := ⟨[], false, 0, 0, 0, [], 0, 0, false⟩

/-- A copy of the security records: its sequence number and what it holds (R589). -/
structure SecCopy where
  seq : Nat
  data : SecData
  deriving DecidableEq, Repr

/-- The security block beside its registers (15_security_and_update.md): key slots, OTP, records, backup domain, sessions,
debug and updates. -/
structure SecSt where
  /-- Key slots 0–7 that hold a key. -/
  keys : Tab (Option KeySlot)
  /-- OTP (Table 2): the burned OWNER_HASHes in order, OWNER_REVOKED, GRN_REVOKED and DEBUG_DISABLE. -/
  owners : List (List Byte)
  revoked : BitVec 4
  grnRevoked : BitVec 4
  debugOff : Bool
  /-- Security records: the owner key stored for each OWNER_HASH, and whether the previous owner key still verifies (R595). -/
  recs : Tab (List Byte)
  prevOk : Bool
  /-- The identity and transport private keys are erased for life (R616). -/
  idLost : Bool
  /-- The backup domain: its key has been lost since the last boot (R617); detections not yet reported (R616). -/
  bkLost : Bool
  latched : BitVec 5
  /-- Per port (0 ETH0, 1 ETH1, 2 USB): a handshake in progress, and the KEK of the last session completed there (R600, R609); empty
  for none. -/
  hands : Tab (Option Hand)
  keks : Tab (List Byte)
  /-- The USB service session is open (R611), and when the last command block came. -/
  usbOpen : Bool
  blkAt : Nat
  /-- What SESSION_IN and GET_REPORT return. -/
  usbOut : List Byte
  report : List Byte
  /-- The debug challenge in force, and when it was issued (R613). -/
  challenge : Option (List Byte × Nat)
  /-- A tamper detection has latched since reset (Table 8). -/
  tampered : Bool
  /-- When the running trials began: image, firmware (R623). -/
  imgTrial : Option Nat
  fwTrial : Option Nat
  /-- When FW_ACTIVATE restarted the MSS, until the firmware is ready (R621). -/
  fwWait : Option Nat
  /-- The firmware slot running (0 A, 1 B), and per slot the digest of its signed region at its last verification (Table 8). -/
  fwSlot : Nat
  fwDigest : Tab (List Byte)
  /-- The identity and transport private keys (Table 1), and the boot ROM's hashes of the Grenyan firmware keys (R597). -/
  idKey : Nat
  tpKey : Nat
  grnHash : List (List Byte)
  /-- The update commit in progress: its target, its slot, and whether a SEC_CMD began it (R618, R619). -/
  commit : Option (Nat × Nat × Bool)
  /-- Per target: the slot whose base region was written last (R618). -/
  staged : Tab (Option Nat)
  /-- The image trial has been reverted, and the device not reset since (R623). -/
  imgReverted : Bool
  /-- The two copies of the security records (R589). -/
  copies : SecCopy × SecCopy
  deriving DecidableEq, Repr

/-- The security block of a device that nobody owns, with nothing loaded. -/
def SecSt.init : SecSt :=
  ⟨[], [], 0, 0, false, [], false, false, false, 0, [], [], false, 0, [], [], none, false, none, none, none, 0, [], 1, 1,
    List.replicate 4 (List.replicate 48 0), none, [], false, (⟨0, SecData.init⟩, ⟨0, SecData.init⟩)⟩

/-- An entry of the intake FIFO (03, The intake FIFO): the 16 bytes of a record, its stream, its t_rx, and whether the
host wrote it. -/
structure FifoEntry where
  data : List Byte
  stream : Nat
  trx : Nat
  host : Bool
  deriving DecidableEq, Repr

/-- A sample of a belt's history (03 R122). -/
structure BeltSample where
  dt : Nat
  pos : Int
  deriving DecidableEq, Repr

/-- The intake beside its registers (03_targets_and_trajectories.md). -/
structure IntakeSt where
  /-- Waiting records, oldest first. -/
  fifo : List FifoEntry
  /-- Per stream: the belt history, newest first, at most 4,096 samples. -/
  belts : Tab (List BeltSample)
  /-- Per stream: consecutive good belt samples (R123). -/
  good : Tab Nat
  /-- INTAKE_TGT_W0–W2 as written. -/
  tgt : Tab Word
  /-- The pipeline that took the last target (R117). -/
  lastPipe : Nat
  /-- When ETH0 last sent a PAUSE frame (13 R526). -/
  pauseAt : Nat
  deriving DecidableEq, Repr

/-- What put a member on a calendar (05, The calendar; R203). -/
inductive MemKind where
  | fall
  | belt
  | immediate
  | spot
  | sect
  | pwm
  deriving DecidableEq, Repr

/-- A member of a calendar entry (05, The calendar). -/
structure Member where
  kind : MemKind
  tag : Nat
  stream : Nat
  /-- Its leading and trailing arrivals in 1/256 ns; no trailing arrival where it is open-ended. -/
  lead : Int
  trail : Option Int
  /-- Its opening, or its closing, is taken as it stands: no latency, no guard (R176, R215, R222). -/
  rawOpen : Bool
  rawClose : Bool
  /-- Belt positions in 1/256 count. -/
  pLead : Int
  pTrail : Int
  /-- The event of a spot pulse. -/
  key : Nat
  /-- The issued instant of a section-on (05 R217). -/
  asked : Int
  deriving DecidableEq, Repr

/-- An entry of a calendar. -/
structure Entry where
  /-- It has no instants (R198). -/
  held : Bool
  opn : Int
  /-- None where it is open-ended. -/
  close : Option Int
  members : List Member
  opq : Bool
  widened : Bool
  deferred : Bool
  late : Bool
  /-- By how much widening, deferral and a late fire have moved its open and its close instant, ns (R182). -/
  adj : Int × Int
  /-- The parity of its words holds (R182). -/
  sound : Bool
  deriving DecidableEq, Repr

/-- A fire member's tag and instants, kept for a committed pulse (R212). -/
structure Kept where
  tag : Nat
  immediate : Bool
  opn : Int
  close : Option Int
  deriving DecidableEq, Repr

/-- Stitch's record of a committed pulse. -/
structure Commit where
  lane : Nat
  phys : Nat
  opn : Int
  close : Option Int
  /-- It holds the lane's section member. -/
  sect : Bool
  /-- The valve-open interval of the PWM on-intervals it holds. -/
  on : Option (Int × Int)
  kept : List Kept
  deriving DecidableEq, Repr

/-- A target handed to Stitch (03 Table 4), or a spot pulse of the GROUND block (04 R161). -/
structure Target where
  cancel : Bool
  kind : MemKind
  tag : Nat
  model : Nat
  cls : Nat
  lanes : List Nat
  lead : Int
  trail : Int
  held : Bool
  stream : Nat
  pLead : Int
  pTrail : Int
  key : Nat
  deriving DecidableEq, Repr

/-- What waits to be taken by Stitch, in the order it was handed (03 R118). -/
inductive HandOff where
  | target (t : Target)
  /-- A section action: on or off, lanes, its instant or arrival in 1/256 ns, and whether it is taken as it stands. -/
  | sectAct (on : Bool) (tag : Nat) (lanes : List Nat) (arr : Int) (raw : Bool)
  | duty (lane d : Nat)
  /-- A spot pulse with a new interval, or withdrawn. -/
  | respot (lane key : Nat) (iv : Option (Int × Int))
  deriving DecidableEq, Repr

/-- A lane's section state (05 R217): the state shown, and the actions whose instants are to come, in order of their instants, with
the state each brings. -/
structure SectSt where
  shown : Bool
  due : List (Int × Bool)
  deriving DecidableEq, Repr

/-- A PWM chain (05 R218–R223): the issued instant of its section-on; where its first on-interval begins; when the on-interval after the one placed last is due to be
placed, none while the duty is 0; and the end of the period placed last. -/
structure PwmAt where
  asked : Int
  first : Int
  due : Option Int
  fin : Int
  /-- Its section-off: the valve-close instant w, at or after which no on-interval begins, and the issued close instant (R222). -/
  stop : Option (Int × Int)
  deriving DecidableEq, Repr

/-- The grid that a PWM lane had before the last write of its period or phase (05 R223): T, φ, and the end of the period that was
running then. -/
structure OldGrid where
  t : Int
  phi : Int
  fin : Int
  deriving DecidableEq, Repr

/-- A lane with no section. -/
def SectSt.init : SectSt := ⟨false, []⟩

/-- Stitch beside its registers (05_stitch_scheduling.md). -/
structure StitchSt where
  inbox : List HandOff
  /-- Per logical lane: its calendar, timed entries by open instant, then HELD entries by P_lead. -/
  cal : Tab (List Entry)
  committed : List Commit
  sects : Tab SectSt
  /-- Per logical lane: the duty the GROUND block handed last (R220). -/
  duty : Tab Nat
  /-- Per logical lane: its PWM chains, one per section that is on or to come, in order of time. -/
  pwm : Tab (List PwmAt)
  /-- Per logical lane: the PWM grid that a write has replaced (R223). -/
  grids : Tab (Option OldGrid)
  /-- Per physical lane × 2 + side (0 opening, 1 closing): the latency sent last, 10 ns (07 R300). -/
  lat : Tab Nat
  /-- The physical lanes whose latencies have changed since their lanes' entries were computed last (R175). -/
  changed : List Nat
  /-- How far steps of DT have moved the PWM grids, ns (11 R466). -/
  gridOfs : Int
  /-- The calendar capture of R184: open low, open high, close low, close high, info. -/
  capWin : Option (List Word)
  deriving DecidableEq, Repr

/-- The vehicle state (04, Vehicle state): t_s, E_v, N_v in µm, ψ in 2⁻³² turn, v in 0.1 mm/s, ω in µrad/s. -/
structure VState where
  t : Nat
  e : Int
  n : Int
  psi : Nat
  v : Int
  w : Int
  deriving DecidableEq, Repr

/-- A navigation solution as the MSS delivers it (04, Fused source): whether it is a 3D fix, its epoch t_f, east and
north in µm, speed in 0.1 mm/s and course over ground in 2⁻³² turn. -/
structure Fix where
  ok : Bool
  t : Nat
  e : Int
  n : Int
  v : Int
  cog : Nat
  deriving DecidableEq, Repr

/-- A MODEL 3 record in the event queue (04 Table 3): its 16 bytes, its stream and its t_ref. -/
structure GndEvent where
  data : List Byte
  stream : Nat
  tref : Int
  deriving DecidableEq, Repr

/-- A pending fire event (R159–R163): its world point, what its record said, its lanes once they are fixed, and the
lanes whose pulse Stitch holds. -/
structure SpotEvent where
  key : Nat
  e : Int
  n : Int
  tag : Nat
  cls : Nat
  lateral : Bool
  named : List Nat
  extent : Nat
  width : Nat
  lanes : Option (List Nat)
  handed : List Nat
  deriving DecidableEq, Repr

/-- A stretch in which a lane delivers (R169): the issued open instant it began with, and its beginning and end at the ground. -/
structure Spray where
  opn : Int
  start : Int
  stop : Option Int
  deriving DecidableEq, Repr

/-- A COVER lane beside its registers: the duty handed last (R158), the stretches in which it delivers (R169), and its rear edge at
the previous evaluation (R170). -/
structure GndLane where
  duty : Option Nat
  sprays : List Spray
  rear : Option ((Int × Int) × (Int × Int))
  deriving DecidableEq, Repr

/-- A lane not evaluated yet. -/
def GndLane.init : GndLane := ⟨none, [], none⟩

/-- The GROUND block beside its registers (04_ground_sections_and_coverage.md). -/
structure GndSt where
  /-- The source in use (R138). -/
  fused : Bool
  /-- A state exists for extrapolation. -/
  have_ : Bool
  /-- The fused source has passed GND_DR_MAX, and the state that dead reckoning goes on with beside the one in force (R144). -/
  drOver : Bool
  dead : Option VState
  /-- When a solution was used last, on the device's own count of ns (R144). -/
  lastFix : Nat
  /-- The state in force at the last 1,024 DT multiples of 1 ms, newest first (R145). -/
  hist : List VState
  /-- Solutions delivered by the MSS and not yet used. -/
  fixes : List Fix
  /-- The last solution, and the rate of its course over ground, µrad/s (R141). -/
  sol : Option Fix
  cogRate : Int
  /-- The start of the last period, and when the running pass ends (R151, R152). -/
  period : Option Nat
  passEnd : Int
  lanes : Tab GndLane
  /-- The event queue, oldest first (R159), and the pending fire events. -/
  queue : List GndEvent
  events : List SpotEvent
  nextKey : Nat
  /-- When an event was taken from the queue last, on the device's own count of ns (R159). -/
  takenAt : Option Nat
  /-- Island 30 has restarted: the next pass hands every decision and duty again (05 R705). -/
  again : Bool
  /-- The raster's window of the running PAGE, and whether its eviction is complete (R172). -/
  next : Word
  ready : Bool
  /-- The block at the centre of the cache (R168). -/
  centre : Option (Int × Int)
  /-- Per slot: when its first unwritten mark was made, and its unwritten marks by cell index (R170, R171). -/
  marks : Tab (Option (Nat × List Nat))
  deriving DecidableEq, Repr

/-- The GROUND block at reset. -/
def GndSt.init : GndSt :=
  ⟨false, false, false, none, 0, [], [], none, 0, none, 0, [], [], [], 0, none, false, 0, false, none, []⟩

/-- The switch states of a lane (06 Table 1). -/
inductive Sw where
  | on
  | slow
  | off
  deriving DecidableEq, Repr

/-- A committed pulse that awaits its open instant in a tile (06 R256). -/
structure TilePulse where
  opn : Int
  close : Option Int
  contended : Bool
  late : Bool
  pwm : Bool
  /-- The opening latency in force at its commit, 10 ns (07 R314). -/
  lat : Int
  deriving DecidableEq, Repr

/-- The profile and learner words in force at an open instant (06 R240, 07 R321). -/
structure Profile where
  peak : Word
  tmax : Word
  hold : Word
  decay : Word
  release : Word
  diag : Word
  oc : Word
  gain : Word
  plaus : Word
  detect : Word
  openWin : Word
  closeWin : Word
  ofs : Word
  deriving DecidableEq, Repr

/-- A firing (06 R230–R250, 07 R288–R301). -/
structure Firing where
  opn : Int
  /-- The close instant asked for, and the one at which the release began. -/
  close : Option Int
  closed : Option Int
  /-- When the firing ends. -/
  endAt : Option Int
  contended : Bool
  pwm : Bool
  holdOnly : Bool
  shared : Bool
  /-- Rows 1 and 2 of 07 Table 2. -/
  cut : Bool
  diag2 : Bool
  /-- An over-current keeps the lane OFF to the end of the firing (06 Table 6). -/
  dead : Bool
  tmo : Bool
  trunc : Bool
  /-- When the peak threshold was first reached, when the lane has left the ON state of its peak phase without reaching it (07
  R288), and when its hold phase began (06 R260). -/
  peakAt : Option Int
  leftAt : Option Int
  holdAt : Option Int
  /-- The firing began with a peak phase, so that a knee was sought; the search has ended; the knee, where one was
  found. -/
  sought : Bool
  kneeDone : Bool
  knee : Option Int
  seatDone : Bool
  seat : Option Int
  /-- The OPEN detector is armed (R706), and has made its check at OPEN_T (06 R269). -/
  armed : Bool
  checked : Bool
  /-- The model has taken it in (07 R297). -/
  used : Bool
  /-- tw in 0.125 °C and the band in force at the open instant (07 R301). -/
  tw : Int
  band : Nat
  /-- The opening latency in force when Stitch committed it, 10 ns (07 R314). -/
  lat : Int
  prof : Profile
  deriving DecidableEq, Repr

/-- The configuration that a lane keeps across a handover swap (02 R95, R99): the registers of the bank its tile has left, in force
before `upTo`, and without one to the end of the running firing. -/
structure OldBank where
  upTo : Option Int
  regs : Tab Word
  deriving DecidableEq, Repr

/-- A measurement window of resistance in hold (06 R260): its opening, the first change to ON in it, the end of the last chopping
cycle completed in it, and whether it has closed. -/
structure RWin where
  opens : Int
  first : Option Int
  last : Int
  shut : Bool
  deriving DecidableEq, Repr

/-- A physical lane beside its registers (06_lane_drive.md, 07_latency_learning.md). -/
structure LaneSt where
  pulses : List TilePulse
  firing : Option Firing
  /-- Ended firings whose samples have not been used yet, oldest first (07 R301). -/
  done : List Firing
  sw : Sw
  /-- The lane's last change to ON, and the beginning of the off part of the present chopping cycle (06 R236). -/
  onAt : Int
  offAt : Option Int
  /-- Its measurement windows in hold, oldest first (06 R260). -/
  wins : List RWin
  old : Option OldBank
  /-- A released fail-safe HOLD counts as a firing until then (06 R279). -/
  busyUntil : Option Int
  /-- The latency model: bases in 1/256 of 10 ns, TC in 1/4,096 of 10 ns per °C, band offsets in 1/256 of 10 ns by side ×
  8 + band (07 R298). -/
  baseO : Int
  baseC : Int
  tcO : Int
  tcC : Int
  bands : Tab Int
  /-- Updates applied per side since the last clear, and since acquisition last started (R302, R303). -/
  appliedO : Nat
  appliedC : Nat
  acqO : Nat
  acqC : Nat
  /-- The residuals of the running outlier run per side (R305). -/
  runO : List Int
  runC : List Int
  /-- ACT_TIME, ns, and since when it is running (R308). -/
  act : Nat
  actSince : Option Int
  /-- tw and tb with 16 fraction bits below 0.125 °C (06 R264). -/
  tw : Int
  tb : Int
  /-- A plausible measurement completed in the present 1 ms, 0.125 °C. -/
  tMeas : Option Int
  /-- The host has asked for a calibration (R315). -/
  calNow : Bool
  /-- The threshold at which the lane regulates, mA (06 R236). -/
  thr : Nat
  /-- When the last calibration was accepted, on the device's own count of ns, and whether BURNISH_STALE has been
  reported since (07 R318, R319). -/
  burnAt : Option Nat
  stale : Bool
  /-- The latencies of both sides that the tile has last sent to Stitch (07 R300). -/
  sent : Option (Nat × Nat)
  deriving DecidableEq, Repr

/-- A physical lane at reset. -/
def LaneSt.init : LaneSt :=
  ⟨[], none, [], .off, 0, none, [], none, none, 0, 0, 0, 0, [], 0, 0, 0, 0, [], [], 0, none, 0, 0, none, false, 0, none, false, none⟩

/-- A lane tile beside its registers. -/
structure TileSt where
  /-- The latest of the three instants of 06 R229. -/
  ghLast : Int
  /-- When the group high-side was last commanded off (R246). -/
  ghOff : Int
  /-- The stuck-on group has been detected since then (R246). -/
  stuck : Bool
  /-- The running idle test began then on those lanes (R272), and when the last one that has completed began (R273). -/
  idle : Option (Int × List Nat)
  idleAt : Int
  /-- The band in force, none until the first 1 ms mean (07 R299). -/
  band : Option Nat
  /-- The group current is in an excursion above 8 A (R245). -/
  overload : Bool
  /-- The running calibration began then (07 R315). -/
  burn : Option Int
  /-- The calibrations that have ended in the last 200 ms: the position of the lane, the beginning and the end (07 R287). -/
  burnt : List (Nat × Int × Int)
  /-- The compare hits of the last 2 ms routed to it (09 R392). -/
  hits : List Int
  deriving DecidableEq, Repr

/-- A lane tile at reset. -/
def TileSt.init : TileSt := ⟨0, 0, false, none, 0, none, false, none, [], []⟩

/-- The chopper of one phase of an axis (08 R325): driving or decaying, since when, and the phase current measured last,
mA. -/
structure Chop where
  drive : Bool
  since : Nat
  i : Int
  deriving DecidableEq, Repr

/-- A motion axis beside its registers (08_motion_axes.md). -/
structure AxisSt where
  /-- Position in 2⁻²⁴ × 10⁻¹⁰ microstep, velocity in 2⁻²⁴ × 10⁻⁵ microstep/s, acceleration in 2⁻²⁴ microstep/s² (R323): an update
  of 10 µs adds the acceleration to the velocity and the velocity to the position. -/
  x : Int
  v : Int
  a : Int
  /-- When the generator last updated, local DT (R330). -/
  upAt : Option Int
  /-- A stop by R331 waits for the next update. -/
  stop : Bool
  /-- The effective target that the next three refer to. -/
  aim : Option Int
  braking : Bool
  passed : Bool
  reversing : Bool
  /-- The deceleration of a ramp braked by R343. -/
  limDec : Option Nat
  /-- It has come to rest at a limit (R342), and it is at its target in position mode (R336). -/
  atLimit : Bool
  reached : Bool
  /-- The target for which TARGET_CLIPPED was set (R342). -/
  clip : Option Int
  /-- The stop position of a HOLD that brakes or holds (R354). -/
  hold : Option Int
  /-- It waits for a new target after a fail-safe line (R358). -/
  await : Bool
  /-- The table position that the bridges keep while a fail-safe line is applied (R358). -/
  kept : Option Int
  /-- A stall turned the bridges off (R352). -/
  stallOff : Bool
  /-- The interpolator (R339): microsteps outstanding, how many their step had, when it came, its period P in 10 ns, and
  when the last coarse step came since standstill. -/
  left : Int
  stepN : Nat
  stepT : Nat
  per : Option Nat
  stepAt : Option Nat
  /-- The last qualified STEP edge, and the last step emitted in mode 0b10 (R340). -/
  edgeAt : Option Nat
  emitAt : Option Nat
  /-- The change of the current amplitude (R324): the amplitude at its start, 2⁻¹⁶ mA; its steps made so far, 16 at rest; and since
  when the axis stands still. -/
  ampFrom : Int
  ramp : Nat
  still : Option Nat
  /-- The next margin starts m_f (R351). -/
  laFresh : Bool
  /-- Deviation (R348, R349, R353): updates in a row outside the window, re-evaluation awaited, ENC_SYNC written. -/
  devRun : Nat
  devWait : Bool
  sync : Bool
  chopA : Chop
  chopB : Chop
  deriving DecidableEq, Repr

/-- A chopper and an axis at reset. -/
def Chop.init : Chop := ⟨false, 0, 0⟩
def AxisSt.init : AxisSt :=
  ⟨0, 0, 0, none, false, none, false, false, false, none, false, false, none, none, false, none, false, 0, 0, 0, none, none, none, none,
    0, 16, none, true, 0, false, false, Chop.init, Chop.init⟩

/-- An encoder channel beside its registers (09 R362–R374): the levels of A and B accepted last, the instants of the last
counts, the last excess of R365, the history of the reported position, newest first, and the running speed window: its
start, its length in µs and the raw count at its start; and whether the last count went down (R366). -/
structure EncSt where
  la : Bool
  lb : Bool
  recent : List Int
  rateAt : Option Nat
  hist : List (Int × Int)
  win : Option (Int × Nat × Int)
  lastDn : Bool
  /-- The level of Z accepted last. -/
  lz : Bool
  deriving DecidableEq, Repr

/-- A serial port beside its registers (09 R375–R382): the latch instant of the frame in progress, and the position value
of the last good frame. -/
structure SerSt where
  frame : Option Nat
  prev : Nat
  deriving DecidableEq, Repr

/-- A captured probe edge (09 R384): whether it rises, its DT and the position. -/
structure ProbeCap where
  rising : Bool
  dt : Int
  pos : Int
  deriving DecidableEq, Repr

/-- A probe beside its registers (09 R383–R386): its captures, oldest first, when its level was last accepted, and the words of the
entry captured last by a read, which all ports share (13 R520). -/
structure ProbeSt where
  fifo : List ProbeCap
  since : Nat
  cap : List Word
  deriving DecidableEq, Repr

/-- The feedback tile beside its registers (09_position_feedback.md). -/
structure FbSt where
  encs : Tab EncSt
  sers : Tab SerSt
  probes : Tab ProbeSt
  /-- Per compare unit: when its running pin pulse ends (R392). -/
  pulses : Tab (Option Nat)
  deriving DecidableEq, Repr

/-- The units of the feedback tile at reset. -/
def EncSt.init : EncSt := ⟨false, false, [], none, [], none, false, false⟩
def SerSt.init : SerSt := ⟨none, 0⟩
def ProbeSt.init : ProbeSt := ⟨[], 0, []⟩

/-- A switch channel beside its registers (10_load_switches.md): when its pause and its inrush window end, when its limit
time began, when its window closed and when it turned on and off last; STUCK_ON and SHORT_VBAT detected since; cut off
while its cluster was isolated (R429). -/
structure SwChSt where
  pause : Option Nat
  inrush : Option Nat
  lim : Option Nat
  winEnd : Nat
  onAt : Nat
  offAt : Nat
  stuck : Bool
  short : Bool
  isoOff : Bool
  deriving DecidableEq, Repr

/-- A switch channel at reset. -/
def SwChSt.init : SwChSt := ⟨none, none, none, 0, 0, 0, false, false, false⟩

/-- The switch block beside its registers: its channels, undervoltage and reverse battery in force, and VBAT in mV. -/
structure SwSt where
  chans : Tab SwChSt
  uv : Bool
  rev : Bool
  vbat : Int
  deriving DecidableEq, Repr

/-- A time aid (11 R436): DT itself, or the relation GPS time `gpst` at DT `dt`, with its uncertainty, ns. -/
structure TimeAid where
  live : Bool
  dt : Nat
  gpst : Nat
  unc : Nat
  deriving DecidableEq, Repr

/-- A position aid (11 R437). -/
structure PosAid where
  lat : Word
  lon : Word
  hgt : Word
  unc : Nat
  deriving DecidableEq, Repr

/-- The aids in force, or retained (11 R436–R440). -/
structure GnssAids where
  time : Option TimeAid
  pos : Option PosAid
  navs : List NavAid
  deriving DecidableEq, Repr

/-- No aids. -/
def GnssAids.init : GnssAids := ⟨none, none, []⟩

/-- A tracking channel (11 R444, R447–R449): signal, satellite, elevation in degrees, lock bits, carrier lock losses, since
when carrier lock holds, the last loss of bit synchronisation, and the last unit delivered. -/
structure GnssChan where
  sig : Nat
  sv : Nat
  elev : Int
  lock : BitVec 6
  slips : Nat
  carrierAt : Option Nat
  lossAt : Int
  lastUnit : Option Int
  /-- Bit synchronisation was lost, and no frame or page synchronisation has come since (R449). -/
  lost : Bool
  /-- The carrier loop's count at the first epoch of the present lock (R448). -/
  carrier0 : BitVec 64
  /-- What the last epoch's record holds: none without a valid one, else C/N0, 0.01 dB-Hz, and AMBIG. -/
  last : Option (Nat × Nat)
  /-- The satellite broadcasts L5 or E5a; and the Doppler and code phase from which the channel was started (R444). -/
  second : Bool
  seed : Nat × Nat
  deriving DecidableEq, Repr

/-- The GNSS receiver beside its registers (11_gnss_and_device_time.md): aids in force and retained, when they were
retained, the words written for a navigation aid, the channels, the navigation units waiting, oldest first, the sequence
number of the last epoch, and whether SBAS corrections have been received with their check passed (R452). -/
structure GnssSt where
  aids : GnssAids
  kept : GnssAids
  keptAt : Nat
  aidBuf : List Word
  chans : Tab (Option GnssChan)
  fifo : List (List Byte)
  seq : Nat
  sbas : Bool
  deriving DecidableEq, Repr

/-- The sums of the linear fit of f_int over a LOCKED period (11 R462): count, Σt, Σf, Σt², Σtf, with t in ns. -/
structure Fit where
  n : Int
  t : Int
  f : Int
  tt : Int
  tf : Int
  deriving DecidableEq, Repr

/-- No measurement yet. -/
def Fit.init : Fit := ⟨0, 0, 0, 0, 0⟩

/-- Device time beside its registers (11 R455–R471). -/
structure DtSt where
  /-- f_int, 0.1 ppb. -/
  fint : Int
  /-- |e| of the last 60 s with the time of each, newest first. -/
  hist : List (Nat × Nat)
  fit : Fit
  /-- When the present LOCKED period, and the last HOLDOVER, began; EST0. -/
  lockAt : Nat
  hoAt : Nat
  est0 : Nat
  /-- Per source: consecutive good events, and when the last good one came. -/
  runs : Tab Nat
  lastGood : Tab Nat
  /-- The last PPS edge. -/
  ppsAt : Option Nat
  /-- The change of source that waits, and its second boundary (R458). -/
  change : Option (Nat × Nat)
  /-- The next measurement is a return (R465). -/
  ret : Bool
  /-- The step that waits, and its second boundary (R460, R465). -/
  step : Option (Int × Int)
  /-- DT right after the last step, and how many there have been. -/
  stepAt : Option Nat
  steps : Nat
  /-- Per time pulse output: when its running pulse ends (R468). -/
  pulses : Tab (Option Nat)
  deriving DecidableEq, Repr

/-- Device time at reset. -/
def DtSt.init : DtSt := ⟨0, [], Fit.init, 0, 0, 0, [], [], none, none, false, none, none, 0, []⟩

/-- A frame that a CAN controller may send next (12 R491): an object's, or the reference message. -/
inductive TxPick where
  | obj (m : Nat)
  | ref
  deriving DecidableEq, Repr

/-- A CAN controller beside its registers (12_can_fd.md). -/
structure CanSt where
  /-- What the controller would have selected, with the DT until which that held, newest first (R491). -/
  past : List (Nat × Option TxPick)
  /-- The object whose frame is on the bus although its request was withdrawn (R493). -/
  onBus : Option Nat
  /-- The captured object and its words (R482), and per object: a frame stored since its capture (R486). -/
  cap : Option (Nat × List Word)
  dirty : Tab Bool
  /-- Per FIFO: the member filled last (R488). -/
  tails : Tab (Option Nat)
  /-- The DT from which it takes part in the bus; INIT was set while a frame that it still completes was in progress (R478); and when
  bus-off recovery began. -/
  intAt : Nat
  busy : Bool
  recAt : Nat
  /-- The pending reference request and its DT (R501); whether the one before was sent; the next cycle count; the steps of DT
  up to the message sent last, and the stamp of that message (R502, R503). -/
  ref : Option Nat
  refOk : Bool
  cycle : Nat
  refSteps : Nat
  ownStamp : Nat
  /-- The last reference message received: its cycle count and own stamp (R504); the e accepted last, and the second of the
  last hand-off (R505). -/
  prev : Option (Nat × Nat)
  lastE : Option Int
  handAt : Option Nat
  deriving DecidableEq, Repr

/-- A CAN controller at reset. -/
def CanSt.init : CanSt := ⟨[], none, none, [], [], 0, false, 0, none, false, 0, 0, 0, none, none, none⟩

/-- The state of the block. -/
structure State where
  /-- Every register, by address; an unlisted one holds its reset value. -/
  regs : Tab Word
  /-- Device time, ns (R5, R6). -/
  dt : Nat
  /-- The fraction of device time, 1/256 ns (R6). -/
  dtFrac : Nat
  /-- The count of nanoseconds of the device's reference clock; a step of DT does not move it. -/
  now : Nat
  /-- The fraction of that count, over the rate of DT (11 R457). -/
  nowRem : Nat
  /-- The bytes of the persistent store, by window address (16 Table 4); an unlisted byte reads 0 (log 7). -/
  store : Tab Byte
  /-- Commands waiting, first in, first out. -/
  pending : List Instr
  /-- What the last command sent out, in order. -/
  out : List Out
  /-- The model's own counter of free values drawn (log 5). -/
  free : Nat
  sys : SysSt
  intake : IntakeSt
  gnd : GndSt
  stitch : StitchSt
  /-- Per physical lane. -/
  lanes : Tab LaneSt
  /-- Per lane tile. -/
  tiles : Tab TileSt
  /-- Per motion axis. -/
  axes : Tab AxisSt
  fb : FbSt
  sw : SwSt
  gnss : GnssSt
  time : DtSt
  /-- Per CAN controller. -/
  cans : Tab CanSt
  fm : FmSt
  cinch : CinchSt
  safe : SafeSt
  port : PortSt
  ldr : LdrSt
  rcd : RecSt
  mgt : MgtSt
  sec : SecSt
  clk : ClkSt
  /-- Per register: the bits that the hardware has set in the present clock cycle, that is with no time passed since (R16). -/
  fresh : Tab Word
  /-- The fault sources whose acknowledgement of the present clock cycle has taken effect before its command (14 R559). -/
  acked : List Nat
  /-- Per block of 64 KB of the register space: the results that saturated at a field's end (R8). No register shows them. -/
  sats : Tab Nat
  deriving DecidableEq, Repr

/-- Why a command stops the block. No rule of the spec stops it for good, so no meaning raises one. -/
inductive Fault where
  /-- The command names a unit the device does not have (R6 of the model's log); nobody raises it while operands carry
  their bounds in their types. Safe. -/
  | noSuchUnit
  deriving DecidableEq, Repr

/-- Why a command has no meaning. -/
inductive Refusal where
  /-- Raised by exec's arm for a command whose meaning is not written yet. Safe: the block does not go on. -/
  | notModelled (mnemonic : String)
  deriving DecidableEq, Repr

/-- The block right after reset: every register at its reset value, every unit idle, every queue empty. -/
def State.reset : State where
  regs := []
  dt := 0
  dtFrac := 0
  now := 0
  nowRem := 0
  store := []
  pending := []
  out := []
  free := 0
  sys := ⟨[], [], [], [], [], false, false, [], [], [], false, false⟩
  intake := ⟨[], [], [], [], 1, 0⟩
  gnd := GndSt.init
  stitch := ⟨[], [], [], [], [], [], [], [], [], 0, none⟩
  lanes := []
  tiles := []
  axes := []
  fb := ⟨[], [], [], []⟩
  sw := ⟨[], false, false, 0⟩
  gnss := ⟨GnssAids.init, GnssAids.init, 0, [], [], [], 0, false⟩
  time := DtSt.init
  cans := []
  fm := ⟨[], [], [], [], [], none, [], [], 0, none, none, none, none, false⟩
  cinch := ⟨none, false, false, false, 0⟩
  safe := ⟨[], [], false⟩
  port := ⟨EthSt.init, EthSt.init, [], [], none, 0, 0, [], [], 0, none⟩
  ldr := ⟨false, [], [], [], [], [], 0, none, [], [], false, 0, 0⟩
  rcd := ⟨[], [], 0, 0, [], [], [], [], [], [], false, none⟩
  mgt := ⟨0, 0, false, 0, false, [], 0, false, false, [], []⟩
  sec := SecSt.init
  clk := ClkSt.init
  fresh := []
  acked := []
  sats := []

end Sys2Proof.Machine
end

