-- ==== Sys2Proof/Machine/Ops.lean ====
section
/-!
DEFINITION. The named operations every family uses: reading and writing registers by address, counting, events,
islands, time, and what a command sends out.
-/
namespace Sys2Proof.Machine

/-- The word held by the register at address `a`. -/
def State.reg (s : State) (a : Nat) : Word := Tab.get resetWord s.regs a

/-- The register at address `a` takes `v`. -/
def State.setReg (s : State) (a : Nat) (v : Word) : State := { s with regs := Tab.set resetWord s.regs a v }

/-- A field of a register. -/
def State.rfld (s : State) (a lo wid : Nat) : Nat := fld (s.reg a) lo wid

/-- A two's complement field of a register. -/
def State.rsfld (s : State) (a lo wid : Nat) : Int := sfld (s.reg a) lo wid

/-- Bit `i` of a register. -/
def State.rbit (s : State) (a i : Nat) : Bool := (s.reg a).getLsbD i

/-- A field of a register takes `v`, modulo its width. -/
def State.setFld (s : State) (a lo wid v : Nat) : State := s.setReg a (Machine.setFld (s.reg a) lo wid v)

/-- Bit `i` of a register takes `b`. -/
def State.setBit (s : State) (a i : Nat) (b : Bool) : State := s.setReg a (Machine.setBit (s.reg a) i b)

/-- The bits of the register at `a` that the hardware has set in the present clock cycle (R16): two commands between which no
nanosecond passes fall in one cycle (DESIGN CHOICE, log 137). -/
def State.freshBits (s : State) (a : Nat) : Word := Tab.get (fun _ => 0) s.fresh a

/-- An event: bit `i` of a W1C register sets (R13, R16, R55). -/
def State.event (s : State) (a i : Nat) : State :=
  { s.setReg a (s.reg a ||| bit i) with fresh := Tab.set (fun _ => 0) s.fresh a (s.freshBits a ||| bit i) }

/-- A counter counts `n`, saturating at 0xFFFF_FFFF (R21). -/
def State.count (s : State) (a n : Nat) : State := s.setReg a (wordN (satN 32 ((s.reg a).toNat + n)))

/-- A result of the block that holds the register at `a` has saturated when `c` holds, and the block counts it (R8). -/
def State.noteSat (s : State) (a : Nat) (c : Bool) : State :=
  if c then { s with sats := Tab.set (fun _ => 0) s.sats (a / 65536) (Tab.get (fun _ => 0) s.sats (a / 65536) + 1) } else s

/-- A register takes a computed value as a two's complement word, and as an unsigned one, saturated and counted (R8). -/
def State.setRegI (s : State) (a : Nat) (v : Int) : State := (s.noteSat a (satI 32 v != v)).setReg a (wordI (satI 32 v))
def State.setRegN (s : State) (a v : Nat) : State := (s.noteSat a (satN 32 v != v)).setReg a (wordN (satN 32 v))

/-- A field takes a computed value as two's complement, and as unsigned, saturated and counted (R8). -/
def State.setFldI (s : State) (a lo wid : Nat) (v : Int) : State :=
  (s.noteSat a (satI wid v != v)).setFld a lo wid (BitVec.ofInt wid (satI wid v)).toNat
def State.setFldN (s : State) (a lo wid v : Nat) : State := (s.noteSat a (satN wid v != v)).setFld a lo wid (satN wid v)

/-- The registers at the addresses of a list return to 0. -/
def State.clearRegs (s : State) : List Nat → State
  | [] => s
  | a :: r => (s.setReg a 0).clearRegs r

/-- The registers at the addresses of a list return to their reset values. -/
def State.resetRegs (s : State) : List Nat → State
  | [] => s
  | a :: r => (s.setReg a (resetWord a)).resetRegs r

/-- The signed 48-bit value of a register pair (R19). -/
def State.reg48 (s : State) (a : Nat) : Int := i48 (s.reg a) (s.reg (a + 4))

/-- A register pair takes a signed 48-bit value (R19). -/
def State.setReg48 (s : State) (a : Nat) (v : Int) : State := (s.setReg a (loW v)).setReg (a + 4) (hiW48 v)

/-- The 64-bit value of a register pair (R20). -/
def State.reg64 (s : State) (a : Nat) : Nat := n64 (s.reg a) (s.reg (a + 4))

/-- A register pair takes a 64-bit value (R20). -/
def State.setReg64 (s : State) (a v : Nat) : State := (s.setReg a (loW v)).setReg (a + 4) (hiW64 v)

/-- A register pair takes a computed two's complement 48-bit value, saturated and counted (R8, R19). -/
def State.setReg48I (s : State) (a : Nat) (v : Int) : State := (s.noteSat a (satI 48 v != v)).setReg48 a (satI 48 v)

/-- How fast DT runs against the reference, in 10⁻¹⁰: 1 + DT_FREQ_ADJ × 10⁻¹⁰ (11 R457). -/
def State.dtRate (s : State) : Nat := (10000000000 + (s.reg R.DT_FREQ_ADJ).toInt).toNat

/-- `el` ns of device time pass before a command, and the reference advances by what they take at the present rate of DT (11 R457).
The record of what is sent out starts anew, and a clock cycle ends with it (R16). -/
def State.begin (s : State) (el : Nat) : State :=
  let x := el * 10000000000 + s.nowRem
  { s with dt := s.dt + el, now := s.now + x / s.dtRate, nowRem := x % s.dtRate, out := [],
           fresh := if el = 0 then s.fresh else [], acked := if el = 0 then s.acked else [] }

/-- Something is sent out. -/
def State.send (s : State) (o : Out) : State := { s with out := s.out ++ [o] }

/-- A free value is drawn (log 5): the word for place `tag`, and the counter moves on. -/
def State.draw (s : State) (tag : Nat) : Word × State := (Config.freeWord tag s.free, { s with free := s.free + 1 })

/-- The island reports itself up (SYS_ISLAND_UP0, SYS_ISLAND_UP1; 01 R40), and the device is not held in reset (17 R677). An
island that is not up is isolated. -/
def State.up (s : State) (i : Nat) : Bool :=
  !s.clk.inReset && if i < 32 then s.rbit R.SYS_ISLAND_UP0 i else s.rbit R.SYS_ISLAND_UP1 (i - 32)

/-- The island's bit in SYS_ISLAND_UP0 or SYS_ISLAND_UP1 takes `b`. -/
def State.setUp (s : State) (i : Nat) (b : Bool) : State :=
  if i < 32 then s.setBit R.SYS_ISLAND_UP0 i b else s.setBit R.SYS_ISLAND_UP1 (i - 32) b

/-- The local DT of an island (01 R42): DT and what its own copy differs from it by. Lane tiles, motion tiles, the feedback tile
and Stitch act on it; the other islands act on DT itself (DESIGN CHOICE, log 21). -/
def State.localDt (s : State) (i : Nat) : Int := (s.dt : Int) + Tab.get (fun _ => 0) s.sys.localDt i

/-- Clock gate `g` is on (17 R666–R668). -/
def State.gateOn (s : State) (g : Nat) : Bool :=
  if g < 32 then s.rbit R.CLK_GATE_STAT0 g else s.rbit R.CLK_GATE_STAT1 (g - 32)

/-- The gate of island `i` is on: lane tiles, motion tiles, the feedback tile and GNSS have one (17 Table 5). -/
def State.gateOpen (s : State) (i : Nat) : Bool :=
  if i < 20 then s.gateOn (20 + i)
  else if i < 23 then s.gateOn (i - 19)
  else if i = 33 then s.gateOn 9
  else true

/-- A full image is in force (LDR_STAT.IMAGE_OK; 02 R77). -/
def State.imageOk (s : State) : Bool := s.rbit R.LDR_STAT 30

/-- Island `i` has left reset: its sections are applied (02 R76). Islands 34 and 36–38 work without an image: ETH1 and the blocks of
island 37 answer then (02 R77). -/
def State.released (s : State) (i : Nat) : Bool := s.imageOk || decide (i = 34 ∨ 36 ≤ i)

/-- The clock of island `i` has stopped (01 R702). -/
def State.stopped (s : State) (i : Nat) : Bool := Tab.get (fun _ => false) s.sys.stopped i

/-- Island `i` works: it has left reset, and its clock is neither gated nor stopped. -/
def State.ungated (s : State) (i : Nat) : Bool := s.gateOpen i && !s.stopped i && s.released i

/-- A transfer to island `i` arrives there and is acted upon: the island is up and works (01 R35, R37). -/
def State.works (s : State) (i : Nat) : Bool := s.up i && s.ungated i

/-- A link has timed out and is counted (01 R35). -/
def State.linkTimeout (s : State) : State :=
  let t := s.count R.SYS_HS_TIMEOUT 1
  { t with sys := { t.sys with timeoutNew := true } }

/-- A row's transfer from island `src` to island `dst`: `yes` where it is delivered, `no` where it fails. It fails where a
LINK_TRANSFER or a HANDSHAKE_TIMEOUT before has said so (01 R34, R35), where the receiver is isolated (R37), and where the receiver's
clock has stopped: then its handshake times out and is counted (R35, R702). -/
def State.carry {α : Type} (s : State) (src dst : Nat) (yes no : State → α) : α :=
  if (src, dst) ∈ s.sys.failing then no { s with sys := { s.sys with failing := s.sys.failing.erase (src, dst) } }
  else if s.works dst then yes s
  else if s.up dst && s.stopped dst then no s.linkTimeout
  else no s

/-- Do `f` when island `i` is up and works; an isolated, gated, stopped or unconfigured island carries nothing out, and does not make
up for it afterwards (01 R37, R702, 02 R76, 17 R668). -/
def State.onIsland (s : State) (i : Nat) (f : State → State) : State := if s.up i && s.ungated i then f s else s

/-- Do `f` when `b` holds. -/
def State.when (s : State) (b : Bool) (f : State → State) : State := if b then f s else s

/-- The device is sealed (LDR_STAT.SEALED; 02 R78). -/
def State.sealed (s : State) : Bool := s.rbit R.LDR_STAT 31

/-- The loader's state (LDR_STAT.STATE; 02 Table 7). -/
def State.ldrState (s : State) : Nat := s.rfld R.LDR_STAT 0 4

/-- The physical lane that logical lane `n` is mapped to (LDR_MAP; 02 R69), none where it is unmapped. -/
def State.physOf (s : State) (n : Nat) : Option Nat :=
  let b := s.rfld (R.LDR_MAP (n / 4)) (8 * (n % 4)) 8
  if b < 160 then some b else none

/-- The logical lanes that are mapped to physical lane `p`, lowest first. -/
def State.logicalsOf (s : State) (p : Nat) : List Nat := (List.range 160).filter fun n => s.physOf n == some p

/-- The logical lane mapped to physical lane `p` (02 R69: at most one). -/
def State.logicalOf (s : State) (p : Nat) : Option Nat := (s.logicalsOf p).head?

/-- Physical lane `p` is a spare (LDR_SPARE). -/
def State.isSpare (s : State) (p : Nat) : Bool := s.rbit (R.LDR_SPARE (p / 32)) (p % 32)

/-- An Ethernet port beside its registers. -/
def State.eth (s : State) (e : EthPort) : EthSt :=
  match e with
  | .eth0 => s.port.eth0
  | .eth1 => s.port.eth1

/-- An Ethernet port takes a new state. -/
def State.setEth (s : State) (e : EthPort) (v : EthSt) : State :=
  match e with
  | .eth0 => { s with port := { s.port with eth0 := v } }
  | .eth1 => { s with port := { s.port with eth1 := v } }

/-- The number of an Ethernet port in its register names. -/
def ethNum (e : EthPort) : Nat :=
  match e with
  | .eth0 => 0
  | .eth1 => 1

/-- The number of a host port in PORT_ERR_* and LDR_REFUSE_INFO (13 Table 10, 02 Table 15). -/
def portNum (p : Port) : Nat :=
  match p with
  | .eth1 => 0
  | .qspi => 1
  | .usb => 2

/-- The clock of an Ethernet port runs: ETH1 has a gate (17 Table 5). -/
def State.ethClock (s : State) (e : EthPort) : Bool :=
  match e with
  | .eth0 => true
  | .eth1 => s.gateOn 10

/-- An Ethernet port can send: island 34 works, the port is enabled and its link is up. -/
def State.ethUp (s : State) (e : EthPort) : Bool :=
  s.works 34 && s.ethClock e && s.rbit (R.ETH_CTRL (ethNum e)) 0 && s.rbit (R.ETH_STAT (ethNum e)) 31

/-- No PAUSE holds the transmission of a port (13 R526). -/
def State.ethFree (s : State) (e : EthPort) : Bool := decide ((s.eth e).pauseUntil ≤ s.now)

/-- The stored fail-safe state in force on a channel, none while its line is released (14 R580, R585). -/
def State.safeOn (s : State) (ch : Nat) : Option Nat := Tab.get (fun _ => none) s.safe.applied ch

/-- The fail-safe channel numbers: lanes, switch channels, axes and compare units. -/
def chLane (n : Nat) : Nat := n
def chSwitch (h : Nat) : Nat := 160 + h
def chAxis (a : Nat) : Nat := 184 + a
def chCmp (c : Nat) : Nat := 192 + c

end Sys2Proof.Machine
end

