-- ==== Sys2Proof/Machine/Belt.lean ====
section
/-!
DEFINITION. A belt's history and speed, and the instants predicted from them (03_targets_and_trajectories.md, R122–R127).
The solver and Stitch's re-timing share them.
-/
namespace Sys2Proof.Machine

/-- The belt history of a stream, newest first. -/
def State.belt (s : State) (k : Nat) : List BeltSample := Tab.get (fun _ => []) s.intake.belts k

/-- The speed window W in samples; 0 is read as 1 (03 Table 8). -/
def State.vwin (s : State) (k : Nat) : Nat := max 1 (s.rfld (R.INTAKE_S_CFG k) 27 5)

/-- The latest sample and the counts moved over the speed window (R125), none while the history is shorter than it. -/
def State.beltMove (s : State) (k : Nat) : Option (BeltSample × Int) :=
  match (s.belt k)[0]?, (s.belt k)[s.vwin k]? with
  | some a, some b => some (a, wrap48 (a.pos - b.pos))
  | _, _ => none

/-- BELT_SCALE of a stream, µm per count in Q16.16. -/
def State.beltScale (s : State) (k : Nat) : Nat := (s.reg (R.INTAKE_S_BELT_SCALE k)).toNat

/-- The belt speed in 0.1 mm/s (R125): counts over the window by BELT_SCALE, over W × 65,536 ns. -/
def State.beltSpeed (s : State) (k : Nat) : Int :=
  match s.beltMove k with
  | some (_, d) => roundDiv (d * s.beltScale k * 1000000000) (s.vwin k * 65536 * 65536 * 100)
  | none => 0

/-- The belt runs at BELT_VMIN, a two's complement velocity (00 R4), or faster, and in the direction of travel (R127). A belt at rest
predicts nothing, also where BELT_VMIN is 0 or less (DESIGN CHOICE, log 144). -/
def State.beltRuns (s : State) (k : Nat) (d : Int) : Bool :=
  decide (0 < d) && decide ((s.reg (R.INTAKE_S_BELT_VMIN k)).toInt * 100 * 65536 * 65536 * (s.vwin k : Int)
    ≤ d * s.beltScale k * 1000000000)

/-- The predicted instant at which the belt reaches position `p`, in 1/256 count; the instant is in 1/256 ns (R127).
None below BELT_VMIN. The distance P − p_k is not taken modulo 2⁴⁸ counts (DESIGN CHOICE, log 145). -/
def State.beltWhen (s : State) (k : Nat) (p : Int) : Option Int :=
  match s.beltMove k with
  | some (a, d) =>
    if s.beltRuns k d then
      some ((a.dt : Int) * 256 + roundDiv ((p - 256 * a.pos) * (s.vwin k * 65536)) d.toNat)
    else none
  | none => none

/-- A stream's belt is valid (INTAKE_Sn_STAT.BELT_VALID; R123). -/
def State.beltValid (s : State) (k : Nat) : Bool := s.rbit (R.INTAKE_S_STAT k) 1

/-- A belt sample has failed, or its encoder reports a fault (R123); BELT_INVALID sets each time. -/
def State.beltLost (s : State) (k : Nat) : State :=
  let s1 := { s with intake := { s.intake with good := Tab.set (fun _ => 0) s.intake.good k 0 } }
  (s1.setBit (R.INTAKE_S_STAT k) 1 false).event R.INTAKE_IRQ_STAT 4

/-- Encoder `e` reports a fault: the belts that it counts are lost at once (R123). -/
def State.beltFault (s : State) (e : Nat) : State :=
  s.onIsland 29 fun u => forN (fun k t =>
    t.when (t.rbit (R.INTAKE_S_CFG k) 1 && t.rfld (R.INTAKE_S_CFG k) 24 3 == e) fun v => v.beltLost k) 4 u

/-- BELT_EN of a stream has been cleared: no samples arrive any more, and the belt is not valid (R123). -/
def State.beltEnWritten (s old : State) (k : Nat) : State :=
  s.when (old.rbit (R.INTAKE_S_CFG k) 1 && !s.rbit (R.INTAKE_S_CFG k) 1) fun t =>
    { t.setBit (R.INTAKE_S_STAT k) 1 false with intake := { t.intake with good := Tab.set (fun _ => 0) t.intake.good k 0 } }

/-- The position a belt has reached at its last sample, in 1/256 count. DEDUCED (log 11): the present position is that
of the latest sample. -/
def State.beltPos (s : State) (k : Nat) : Option Int := ((s.belt k).head?).map fun b => b.pos * 256

end Sys2Proof.Machine
end

