-- ==== Sys2Proof/Machine/Aes.lean ====
section
/-!
DEFINITION. AES-256 with what the spec builds on it: AES-CMAC (12 R509), AES-KW (15 Table 4, R600) and GCM (02 R63, 13 R524). The
spec names the functions and leaves their definition to their standards: FIPS 197, NIST SP 800-38B, 800-38F and 800-38D, PRESUMED
(log 138).
-/
namespace Sys2Proof.Machine

/-- The S-box and its inverse, as numbers whose byte `i` is the value of `i`: 32 bytes in each. -/
def sboxes : List Nat := [
  0xc072a49cafa2d4adf04759fa7dc982ca76abd7fe2b670130c56f6bf27b777c63,
  0x75b227ebe28012079a059618c323c7041531d871f1e5a534ccf73f362693fdb7,
  0xcf584c4a39becb6a5bb1fc20ed00d153842fe329b3d63b52a05a6e1b1a2c8309,
  0xd2f3ff1021dab6bcf5389d928f40a351a89f3c507f02f94585334d43fbaaefd0,
  0xdb0b5ede14b8ee4688902a22dc4f816073195d643d7ea7c41744975fec130ccd,
  0x08ae7a65eaf4566ca94ed58d6d37c8e779e4959162acd3c25c2406490a3a32e0,
  0x9e1dc186b95735610ef6034866b53e708a8bbd4b1f74dde8c6b4a61c2e2578ba,
  0x16bb54b00f2d99416842e6bf0d89a18cdf2855cee9871e9b948ed9691198f8e1]
def sboxesInv : List Nat := [
  0xcbe9dec444438e3487ff2f9b8239e37cfbd7f3819ea340bf38a53630d56a0952,
  0x25d18b6d49a25b76b224d92866a12e084ec3fa420b954cee3d23c2a632947b54,
  0x849d8da75746155edab9edfd5048706c92b6655dcc5ca4d41698688664f6f872,
  0x6b8a130103bdafc1020f3fca8f1e2cd00645b3b80558e4f70ad3bc8c00abd890,
  0x6edf751ce837f9e28535ade72274ac9673e6b4f0cecff297eadc674f4111913a,
  0xf45acd78fec0db9a2079d2c64b3e56fc1bbe18aa0e62b76f89c5291d711af147,
  0xef9cc9939f7ae52d0d4ab519a97f51605fec8027591012b131c7078833a8dd1f,
  0x7d0c2155631469e126d677ba7e042b17619953833cbbebc8b0f52aae4d3be0a0]
def sbox (b : Byte) : Byte := BitVec.ofNat 8 (sboxes.getD (b.toNat / 32) 0 >>> (8 * (b.toNat % 32)))
def sboxInv (b : Byte) : Byte := BitVec.ofNat 8 (sboxesInv.getD (b.toNat / 32) 0 >>> (8 * (b.toNat % 32)))

/-- Bytes added in GF(2). -/
def xorBytes (a b : List Byte) : List Byte := List.zipWith (· ^^^ ·) a b

/-- A byte times x in GF(2⁸), and a byte times the number `n` < 16. -/
def xtime (b : Byte) : Byte := if b.getLsbD 7 then (b <<< 1) ^^^ 0x1B else b <<< 1
def gmul (n : BitVec 4) (b : Byte) : Byte :=
  let b2 := xtime b
  let b4 := xtime b2
  (if n.getLsbD 0 then b else 0) ^^^ (if n.getLsbD 1 then b2 else 0) ^^^ (if n.getLsbD 2 then b4 else 0) ^^^
    (if n.getLsbD 3 then xtime b4 else 0)

/-- `n` more round keys' words, from the last eight words: word 8j takes the round constant `rc`, word 8j + 4 the S-box alone. -/
def keyGrow : Nat → Byte → List (List Byte) → List (List Byte)
  | 0, _, _ => []
  | n + 1, rc, w =>
    let g := match w.getD 7 [] with
      | [a, b, c, d] => [sbox b ^^^ rc, sbox c, sbox d, sbox a]
      | l => l
    let w0 := xorBytes (w.getD 0 []) g
    let w1 := xorBytes (w.getD 1 []) w0
    let w2 := xorBytes (w.getD 2 []) w1
    let w3 := xorBytes (w.getD 3 []) w2
    let w4 := xorBytes (w.getD 4 []) (w3.map sbox)
    let w5 := xorBytes (w.getD 5 []) w4
    let w6 := xorBytes (w.getD 6 []) w5
    let w7 := xorBytes (w.getD 7 []) w6
    let v := [w0, w1, w2, w3, w4, w5, w6, w7]
    v ++ keyGrow n (xtime rc) v

/-- A list cut into `n` pieces of `k` bytes. -/
def pieces (k : Nat) : Nat → List Byte → List (List Byte)
  | 0, _ => []
  | n + 1, l => l.take k :: pieces k n (l.drop k)

/-- The 15 round keys of a 32-byte key. -/
def roundKeys (key : List Byte) : List (List Byte) :=
  let w := pieces 4 8 (fit 32 key)
  pieces 16 15 (w ++ keyGrow 7 1 w).flatten

/-- The columns of a block, each turned by a 4 × 4 matrix that is cyclic with first row `r`. -/
def mixWith (r : List (BitVec 4)) (l : List Byte) : List Byte :=
  (pieces 4 4 l).flatMap fun c => (List.range 4).map fun i =>
    (List.range 4).foldl (fun x j => x ^^^ gmul (r.getD ((j + 4 - i) % 4) 0) (c.getD j 0)) 0

/-- The rows of a block shifted left by their number, and back. -/
def shiftRows (l : List Byte) : List Byte := (List.range 16).map fun i => l.getD ((5 * i) % 16) 0
def shiftRowsInv (l : List Byte) : List Byte := (List.range 16).map fun i => l.getD ((13 * i) % 16) 0

/-- One block enciphered and deciphered. -/
def aesRounds : List (List Byte) → List Byte → List Byte
  | [], b => b
  | [k], b => xorBytes (shiftRows (b.map sbox)) k
  | k :: ks, b => aesRounds ks (xorBytes (mixWith [2, 3, 1, 1] (shiftRows (b.map sbox))) k)
def aesEnc (keys : List (List Byte)) (b : List Byte) : List Byte := aesRounds keys.tail (xorBytes b (keys.headD []))
def aesBack : List (List Byte) → List Byte → List Byte
  | [], b => b
  | [k], b => xorBytes ((shiftRowsInv b).map sboxInv) k
  | k :: ks, b => aesBack ks (mixWith [14, 11, 13, 9] (xorBytes ((shiftRowsInv b).map sboxInv) k))
def aesDec (keys : List (List Byte)) (b : List Byte) : List Byte :=
  let r := keys.reverse
  aesBack r.tail (xorBytes b (r.headD []))

/-- A CMAC subkey from the one before it. -/
def cmacSub (l : List Byte) : List Byte :=
  let n := 2 * beNat l
  beBytes 16 (if 2 ^ 128 ≤ n then (n - 2 ^ 128) ^^^ 0x87 else n)

/-- AES-CMAC of a message under a 32-byte key: 16 bytes. -/
def cmac (key m : List Byte) : List Byte :=
  let ks := roundKeys key
  let k1 := cmacSub (aesEnc ks (List.replicate 16 0))
  let n := max 1 ((m.length + 15) / 16)
  let last := m.drop (16 * (n - 1))
  let lastX := if last.length = 16 then xorBytes last k1 else xorBytes (fit 16 (last ++ [0x80])) (cmacSub k1)
  aesEnc ks (xorBytes ((pieces 16 (n - 1) m).foldl (fun c b => aesEnc ks (xorBytes c b)) (List.replicate 16 0)) lastX)

/-- One step of the AES-KW unwrap for the number `t`: the register A and the `n` key halves, the last one first in turn. -/
def kwStep (ks : List (List Byte)) (q : List Byte × List (List Byte)) (t : Nat) : List Byte × List (List Byte) :=
  match q.2.reverse with
  | [] => q
  | r :: rs =>
    let b := aesDec ks (xorBytes q.1 (beBytes 8 t) ++ r)
    (b.take 8, b.drop 8 :: rs.reverse)

/-- AES-KW unwrap of 40 bytes under a 32-byte key-encryption key: the 32-byte key, none where it does not unwrap. -/
def kwUnwrap (kek w : List Byte) : Option (List Byte) :=
  let q := ((List.range 24).map (24 - ·)).foldl (kwStep (roundKeys kek)) (w.take 8, pieces 8 4 (w.drop 8))
  if w.length = 40 ∧ q.1 = List.replicate 8 0xA6 then some q.2.flatten else none

/-- The product of two blocks in the field of GHASH, the first bit the most significant. -/
def ghashMul (x y : BitVec 128) : BitVec 128 :=
  ((List.range 128).foldl (fun (q : BitVec 128 × BitVec 128) i =>
    (if x.getMsbD i then q.1 ^^^ q.2 else q.1,
      if q.2.getLsbD 0 then (q.2 >>> 1) ^^^ (0xE1#128 <<< 120) else q.2 >>> 1)) (0, y)).1

/-- Bytes filled up with zeros to whole blocks. -/
def pad16 (l : List Byte) : List Byte := l ++ List.replicate ((16 - l.length % 16) % 16) 0

/-- The `n` key-stream blocks after counter `c` of an IV of 12 bytes. -/
def gcmStream (ks : List (List Byte)) (iv : List Byte) : Nat → Nat → List Byte
  | 0, _ => []
  | n + 1, c => aesEnc ks (iv ++ beBytes 4 c) ++ gcmStream ks iv n (c + 1)

/-- The tag of a ciphertext with its additional authenticated data. -/
def gcmTag (ks : List (List Byte)) (iv aad c : List Byte) : List Byte :=
  let h := BitVec.ofNat 128 (beNat (aesEnc ks (List.replicate 16 0)))
  let d := pad16 aad ++ pad16 c ++ beBytes 8 (8 * aad.length) ++ beBytes 8 (8 * c.length)
  let s := (pieces 16 (d.length / 16) d).foldl (fun x b => ghashMul (x ^^^ BitVec.ofNat 128 (beNat b)) h) 0
  xorBytes (aesEnc ks (iv ++ beBytes 4 1)) (beBytes 16 s.toNat)

/-- AES-256-GCM: the ciphertext of `m` followed by its 16-byte tag. -/
def gcmSeal (key iv aad m : List Byte) : List Byte :=
  let ks := roundKeys key
  let c := xorBytes m (gcmStream ks iv ((m.length + 15) / 16) 2)
  c ++ gcmTag ks iv aad c

/-- The plaintext of a ciphertext with its tag, none where the tag does not verify. -/
def gcmOpen (key iv aad x : List Byte) : Option (List Byte) :=
  let ks := roundKeys key
  let c := x.take (x.length - 16)
  if 16 ≤ x.length ∧ gcmTag ks iv aad c = x.drop (x.length - 16) then
    some (xorBytes c (gcmStream ks iv ((c.length + 15) / 16) 2))
  else none

end Sys2Proof.Machine
end

