-- ==== Sys2Proof/Machine/CanTx.lean ====
section
/-!
DEFINITION. CAN message objects as register words, and setting an object's transmit request (12 R490, R508–R513). The
fault manager's CAN report object uses it (14 R569), so it stands before the CAN family.
-/
namespace Sys2Proof.Machine

/-- The payload length that a DLC code gives (ISO 11898-1; 12 R490: a classical frame with DLC 9–15 carries 8 bytes). -/
def canLen (fdf : Bool) (dlc : Nat) : Nat :=
  if dlc ≤ 8 then dlc
  else if !fdf then 8
  else match dlc with
    | 9 => 12
    | 10 => 16
    | 11 => 20
    | 12 => 24
    | 13 => 32
    | 14 => 48
    | _ => 64

/-- Payload byte `i` of an object (12 Table 3). -/
def State.objByte (s : State) (c m i : Nat) : Byte := (s.reg (R.OBJ_DATA c m (i / 4))).extractLsb' (8 * (i % 4)) 8

/-- Payload byte `i` of an object takes `b`. -/
def State.setObjByte (s : State) (c m i : Nat) (b : Byte) : State :=
  s.setFld (R.OBJ_DATA c m (i / 4)) (8 * (i % 4)) 8 b.toNat

/-- Payload bytes from `i` on take the bytes of a list. -/
def State.setObjBytes (s : State) (c m : Nat) : Nat → List Byte → State
  | _, [] => s
  | i, b :: r => (s.setObjByte c m i b).setObjBytes c m (i + 1) r

/-- The first `n` payload bytes of an object. -/
def State.objBytes (s : State) (c m n : Nat) : List Byte := (List.range n).map fun i => s.objByte c m i

/-- The key in the slot that CAN_AUTH_CFG.KEY names, when it holds a CAN key (12 R509, R513). -/
def State.canKey (s : State) (c : Nat) : Option (List Byte) :=
  match Tab.get (fun _ => none) s.sec.keys (s.rfld (R.CAN_AUTH_CFG c) 0 3) with
  | some k => if k.usage = 1 then some k.key else none
  | none => none

/-- The object is authenticated: its AUTH and its controller's CAN_AUTH_CFG.EN are 1 (12 R508). -/
def State.objAuth (s : State) (c m : Nat) : Bool := s.rbit (R.OBJ_CTRL c m) 29 && s.rbit (R.CAN_AUTH_CFG c) 31

/-- The input of the CMAC (12 R509). -/
def canMacInput (id : Word) (dlc : Nat) (fdf : Bool) (data : List Byte) (fv : Word) : List Byte :=
  bytesOfWord id ++ [BitVec.ofNat 8 dlc, BitVec.ofNat 8 (b2n fdf)] ++ data ++ bytesOfWord fv

/-- A controller beside its registers. -/
def State.can (s : State) (c : Nat) : CanSt := Tab.get (fun _ => CanSt.init) s.cans c
def State.updCan (s : State) (c : Nat) (f : CanSt → CanSt) : State :=
  { s with cans := Tab.set (fun _ => CanSt.init) s.cans c (f (s.can c)) }

/-- An object is authenticated and its controller's key slot is empty or zeroized: it neither sends nor accepts frames (12 R513). -/
def State.keyless (s : State) (c m : Nat) : Bool := s.objAuth c m && (s.canKey c).isNone

/-- TX_REQ of an object may not be set: the format cases of 12 R490, the length of R508 and the freshness of R512. -/
def State.txRefused (s : State) (c m : Nat) : Bool :=
  let ctrl := s.reg (R.OBJ_CTRL c m)
  let fdf := ctrl.getLsbD 28
  (fdf && (!s.rbit (R.CAN_CFG c) 0 || s.rbit (R.OBJ_ID c m) 30)) ||
    (s.objAuth c m && (decide (canLen fdf (fld ctrl 16 4) < 5) || !ctrl.getLsbD 1))

/-- A refused TX_REQ sets CFG_REFUSED, and AUTH_NOKEY where the key is missing (12 R490, R513). -/
def State.txRefuse (s : State) (c m : Nat) : State :=
  let t := s.when (s.txRefused c m) fun u => u.event (R.CAN_EVENT c) 13
  t.when (s.keyless c m) fun u => u.event (R.CAN_EVENT c) 9

/-! Selection (12 R491). -/

/-- CAN_CTRL.INIT, MODE, and CAN_STAT.STATE. -/
def State.canInit (s : State) (c : Nat) : Bool := s.rbit (R.CAN_CTRL c) 0
def State.canMode (s : State) (c : Nat) : Nat := s.rfld (R.CAN_CTRL c) 1 2
def State.canState (s : State) (c : Nat) : Nat := s.rfld (R.CAN_STAT c) 30 2

/-- The transmit objects with a request. -/
def State.txObjs (s : State) (c : Nat) : List Nat :=
  (List.range 128).filter fun m => s.rbit (R.OBJ_CTRL c m) 30 && s.rbit (R.OBJ_CTRL c m) 5

/-- The rank of a frame in arbitration: the identifier, then RTR or SRR, then IDE, then the rest; the lowest wins (ISO
11898-1). -/
def arbKey (w : Word) : Nat :=
  let base := fld w 18 11 * 2 ^ 21
  let rtr := b2n (w.getLsbD 30)
  if w.getLsbD 31 then base + 2 ^ 20 + 2 ^ 19 + fld w 0 18 * 2 + rtr else base + rtr * 2 ^ 20

/-- The identifier word of a reference message (12 R502). -/
def State.refIdWord (s : State) (c : Nat) : Word :=
  (if s.rbit (R.CAN_TM_CFG c) 30 then bit 31 else 0) ||| (s.reg (R.CAN_TM_CFG c) &&& 0x1FFFFFFF)

/-- The rank of a candidate under CAN_CFG.TX_ORDER. -/
def State.txRank (s : State) (c : Nat) (k : TxPick) : Nat :=
  if s.rbit (R.CAN_CFG c) 3 then
    match k with
    | .ref => 0
    | .obj m => 1 + s.rfld (R.OBJ_CTRL c m) 8 8
  else
    match k with
    | .ref => arbKey (s.refIdWord c)
    | .obj m => arbKey (s.reg (R.OBJ_ID c m))

/-- The first candidate of lowest rank. -/
def State.bestOf (s : State) (c : Nat) (l : List TxPick) : Option TxPick :=
  l.foldl (fun b k => match b with
    | none => some k
    | some x => if s.txRank c k < s.txRank c x then some k else b) none

/-- An object may send: one that is authenticated has its freshness value and a key (12 R512, R513). -/
def State.maySend (s : State) (c m : Nat) : Bool := !s.objAuth c m || (s.rbit (R.OBJ_CTRL c m) 1 && (s.canKey c).isSome)

/-- The frame that the controller selects if the bus becomes free now. -/
def State.pickNow (s : State) (c : Nat) : Option TxPick :=
  let refs := if (s.can c).ref.isSome then [TxPick.ref] else []
  s.bestOf c (refs ++ ((s.txObjs c).filter fun m => s.maySend c m).map TxPick.obj)

/-- A change of what may be sent has been made to `old`: what would have been selected until now is kept for a frame that is on the
bus. A frame lasts less than 1 s. -/
def State.notePick (s old : State) (c : Nat) : State :=
  s.updCan c fun q => { q with past := (s.dt, old.pickNow c) :: q.past.filter fun e => decide (s.dt ≤ e.1 + 1000000000) }

/-- The freshness value rises by 1 and the last five payload bytes take it and the MAC (12 R508–R510). -/
def State.signObj (s : State) (c m : Nat) (key : List Byte) : State :=
  let ctrl := s.reg (R.OBJ_CTRL c m)
  let fdf := ctrl.getLsbD 28
  let dlc := fld ctrl 16 4
  let l := canLen fdf dlc
  let fv := s.reg (R.CAN_FV c m) + 1
  let mac := cmac key (canMacInput (s.reg (R.OBJ_ID c m)) dlc fdf (s.objBytes c m (l - 5)) fv)
  (s.setReg (R.CAN_FV c m) fv).setObjBytes c m (l - 5) (fv.extractLsb' 0 8 :: mac.take 4)

/-- A key slot has changed: what the controllers would have selected until now is kept. -/
def State.notePicks (s old : State) : State := forN (fun c t => t.notePick old c) 4 s

/-- TX_REQ of an object is set, or refused with TX_REQ left at 0 and CFG_REFUSED or AUTH_NOKEY set (12 R490, R513).
Answers whether it was set. -/
def State.setTxReq (s : State) (c m : Nat) : Bool × State :=
  if s.txRefused c m || s.keyless c m then (false, s.txRefuse c m)
  else
    let s1 := if s.objAuth c m then
        match s.canKey c with
        | some key => s.signObj c m key
        | none => s
      else s
    (true, (s1.setBit (R.OBJ_CTRL c m) 5 true).notePick s c)

end Sys2Proof.Machine
end

