-- ==== Sys2Proof/Machine/Eth.lean ====
section
/-!
DEFINITION. The Ethernet ports (13 R522, R524–R526): MACsec, what a MAC does with a received frame before anybody reads it, PAUSE, the
frames sent, and the change of secure associations at the first frame under a new one (15 R610). The frame format and the cipher
suites are those of the standard that R524 names, IEEE 802.1AE, PRESUMED (log 205).
-/
namespace Sys2Proof.Machine

/-! MACsec (R524). -/

/-- The six bytes of an address in the order sent. -/
def macBytes (a : BitVec 48) : List Byte := leBytes 6 a.toNat

/-- The initialisation vector of a frame: with XPN the SSCI and the 64-bit packet number, masked with the salt; else the SCI, which is
the sender's address with port number 1, and the 32-bit packet number. -/
def Sa.iv (a : Sa) (xpn : Bool) (src : BitVec 48) (pn : Nat) : List Byte :=
  if xpn then xorBytes (beBytes 4 a.ssci ++ beBytes 8 pn) (fit 12 a.salt) else macBytes src ++ [0, 1] ++ beBytes 4 pn

/-- The SecTAG of a frame that a port sends, after its EtherType: an end station's, encrypted, without an SCI; and the number of bytes
of its secure data where they are fewer than 48. -/
def secTag (an pn n : Nat) : List Byte := leBytes 1 (0x4C + an % 4) ++ leBytes 1 (if n < 48 then n else 0) ++ beBytes 4 pn

/-- A protected frame as a port sends it, after the addresses: its SecTAG, and EtherType and payload sealed with the ICV. -/
def Sa.seal (a : Sa) (xpn : Bool) (dst src : BitVec 48) (pn : Nat) (m : List Byte) : List Byte :=
  let tag := [0x88, 0xE5] ++ secTag a.an pn m.length
  tag ++ gcmSeal a.sak (a.iv xpn src pn) (macBytes dst ++ macBytes src ++ tag) m

/-- A received SecTAG, after its EtherType: TCI and AN, SL, the packet number and the SCI where there is one; and the secure data with
its ICV, without padding. -/
structure SecTag where
  tci : Nat
  sl : Nat
  pn : Nat
  tag : List Byte
  data : List Byte
  deriving DecidableEq, Repr

/-- The SecTAG of a frame's bytes, none where they are too short or of another version. -/
def parseTag (b : List Byte) : Option SecTag :=
  let tci := leAt b 0 1
  let sl := leAt b 1 1
  let k := if tci / 32 % 2 = 1 then 14 else 6
  if b.length < k + 16 ∨ 128 ≤ tci then none
  else
    let d := b.drop k
    some ⟨tci, sl, beNat ((b.drop 2).take 4), b.take k, if sl = 0 then d else d.take (sl + 16)⟩

/-- The packet number of a received frame in full length, from the lowest acceptable one. -/
def recoverPn (xpn : Bool) (lowest pn : Nat) : Nat :=
  if xpn then
    let hi := lowest / 2 ^ 32
    (if lowest.testBit 31 && !pn.testBit 31 then hi + 1 else hi) * 2 ^ 32 + pn
  else pn

/-- EtherType and payload of a protected frame with the full packet number `pn`, none where its ICV does not verify or where it is not
encrypted. -/
def Sa.open_ (a : Sa) (xpn : Bool) (f : RxFrame) (t : SecTag) (pn : Nat) : Option (List Byte) :=
  if t.tci / 4 % 4 = 3 then
    gcmOpen a.sak (a.iv xpn f.src pn) (macBytes f.dst ++ macBytes f.src ++ [0x88, 0xE5] ++ t.tag) t.data
  else none

/-- The suite of a port is GCM-AES-XPN-256 (ETHn_CTRL.XPN). -/
def State.xpn (s : State) (e : EthPort) : Bool := s.rbit (R.ETH_CTRL (ethNum e)) 8

/-- The packet number of an association in use goes from `old` to `pn`: PN_WARN is set as it passes 0xC000_0000 (13 R525). -/
def State.pnWarn (s : State) (e : EthPort) (old pn : Nat) : State :=
  let n := ethNum e
  let low (x : Nat) : Nat := if s.rbit (R.ETH_CTRL n) 8 then x else x % 2 ^ 32
  s.when (decide (low old ≤ 0xC0000000 ∧ 0xC0000000 < low pn)) fun t =>
    (t.setBit (R.ETH_STAT n) 28 true).event R.PORT_IRQ_STAT 3


/-- The MAC control address 01-80-C2-00-00-01, its first byte in bits [7:0]. -/
def macControl : BitVec 48 := 0x010000C28001

/-- The station address of a port. -/
def State.ethMac (s : State) (e : EthPort) : BitVec 48 :=
  BitVec.ofNat 48 (n64 (s.reg (R.ETH_MAC_LO (ethNum e))) (s.reg (R.ETH_MAC_HI (ethNum e))))

/-- A port receives: island 34 works, the port is enabled and its link is up. -/
def State.ethRxUp (s : State) (e : EthPort) : Bool :=
  s.works 34 && s.ethClock e && s.rbit (R.ETH_CTRL (ethNum e)) 0 && s.rbit (R.ETH_STAT (ethNum e)) 31

/-- One pause quantum, 512 bit times, in 1/10 ns at the port's speed (IEEE 802.3 clause 31). -/
def State.quantum (s : State) (e : EthPort) : Nat :=
  match s.rfld (R.ETH_STAT (ethNum e)) 0 2 with
  | 0 => 51200
  | 1 => 5120
  | _ => 512

/-- A received PAUSE frame (R526): ETH1 stops its transmission for the time it names; ETH0 counts and ignores it. -/
def State.pauseRx (s : State) (e : EthPort) (body : List Byte) : State :=
  match e with
  | .eth0 => s.count (R.ETH_PAUSE_RX 0) 1
  | .eth1 =>
    let q := (body.getD 2 0).toNat * 256 + (body.getD 3 0).toNat
    s.setEth .eth1 { s.eth .eth1 with pauseUntil := s.now + q * s.quantum .eth1 / 10 }

/-- A MACsec drop (R524). -/
def State.secDrop (s : State) (a : Nat) : State := (s.count a 1).event R.PORT_IRQ_STAT 2

/-- The packet number of a frame that passed becomes the highest accepted of its association. The first frame under the
next association makes it the one in use, switches the transmit association, and keeps the old one for 1 s (15 R610). -/
def State.acceptPn (s : State) (e : EthPort) (an pn : Nat) : State :=
  let h := s.eth e
  let hit (a : Sa) : Bool := a.an == an
  let up (a : Sa) : Sa := if hit a then { a with pn := max a.pn pn } else a
  match h.rxNext.filter hit with
  | some x =>
    ((s.setEth e { h with
      rx := some (up x), rxNext := none, rxOld := h.rx.map (fun o => (o, s.now + 1000000000)),
      tx := h.txNext, txNext := none }).setBit (R.ETH_STAT (ethNum e)) 28 false).pnWarn e x.pn (up x).pn
  | none =>
    let t := s.setEth e { h with rx := h.rx.map up, rxOld := h.rxOld.map fun o => (up o.1, o.2) }
    match h.rx with
    | some a => t.pnWarn e a.pn (up a).pn
    | none => t

/-- The installed receive association a SecTAG names. -/
def State.rxSa (s : State) (e : EthPort) (an : Nat) : Option Sa :=
  let h := s.eth e
  ([h.rxNext, h.rx, h.rxOld.map (·.1)].filterMap id).find? fun a => a.an == an

/-- The subtype of a payload (13 Table 2). -/
def subtypeOf (body : List Byte) : Nat := leAt body 0 2

/-- A subtype that a port may receive (13 Table 2). -/
def rxSubtype (e : EthPort) (t : Nat) : Bool :=
  t == 0x5A40 || (match e with
    | .eth0 => t == 0x5A17
    | .eth1 => t == 0x5A30)

/-! Transmission (R524–R526). -/

/-- A frame goes out: under MACsec it takes the next packet number of the transmit association, and without an association nothing is
sent. -/
def State.ethPut (s : State) (e : EthPort) (f : TxFrame) : State :=
  let m := [0x88, 0xB5] ++ f.payload
  let sent (t : State) (wire : List Byte) : State :=
    (t.send (.eth e f.dstLo f.dstHi f.subtype f.payload wire)).count (R.ETH_TX_OK (ethNum e)) 1
  if f.sec then
    match (s.eth e).tx with
    | none => s
    | some sa =>
      let pn := sa.pn + 1
      let wire := sa.seal (s.xpn e) (BitVec.ofNat 48 (n64 f.dstLo f.dstHi)) (s.ethMac e) pn m
      (sent (s.setEth e { s.eth e with tx := some { sa with pn := pn } }) wire).pnWarn e sa.pn pn
  else sent s m

/-- The frames that waited for the end of a pause go out, in order (R526). -/
def State.ethFlush (s : State) (e : EthPort) : State :=
  if s.ethUp e && s.ethFree e then
    forL (fun f t => t.ethPut e f) (s.eth e).waiting (s.setEth e { s.eth e with waiting := [] })
  else s

/-- A frame is given to a port: it goes out at once, or waits for the end of a pause. -/
def State.ethGive (s : State) (e : EthPort) (f : TxFrame) : State :=
  let t := s.ethFlush e
  if t.ethFree e then t.ethPut e f else t.setEth e { t.eth e with waiting := (t.eth e).waiting ++ [f] }

/-- A frame under MACsec is given to a port. A port that is down, or that has no transmit association, takes none. Answers whether it
was taken. -/
def State.ethSend (s : State) (e : EthPort) (dstLo dstHi : Word) (subtype : Nat) (payload : List Byte) : Bool × State :=
  if s.ethUp e && (s.eth e).tx.isSome then (true, s.ethGive e ⟨true, dstLo, dstHi, subtype, payload⟩) else (false, s)

/-! Reception (R522). -/

/-- The frame of a port's payload: the counter that a drop counts, or EtherType and payload in the clear; and the state (R524). -/
def State.macSec (s : State) (e : EthPort) (f : RxFrame) : (Nat ⊕ (Nat × List Byte)) × State :=
  let n := ethNum e
  if f.etherType = 0x88E5 then
    match parseTag f.body with
    | none => (.inl (R.ETH_SEC_NOSA n), s)
    | some tag =>
      match s.rxSa e (tag.tci % 4) with
      | none => (.inl (R.ETH_SEC_NOSA n), s)
      | some sa =>
        let low := sa.pn + 1 - (s.reg (R.ETH_REPLAY_WIN n)).toNat
        let pn := recoverPn (s.xpn e) low tag.pn
        match sa.open_ (s.xpn e) f tag pn with
        | none => (.inl (R.ETH_SEC_ICV n), s)
        | some m =>
          if pn + (s.reg (R.ETH_REPLAY_WIN n)).toNat < sa.pn then (.inl (R.ETH_SEC_REPLAY n), s)
          else (.inr (beNat (m.take 2), m.drop 2), s.acceptPn e sa.an pn)
  else if f.etherType = 0x88B5 ∧ subtypeOf f.body = 0x5A40 then (.inr (0x88B5, f.body), s)
  else (.inl (R.ETH_SEC_UNPROT n), s)

/-- The six steps of R522: the payload of a frame that passes, and the state with what the steps count. -/
def State.macRx (s0 : State) (e : EthPort) (f : RxFrame) : Option (List Byte) × State :=
  let n := ethNum e
  let s := s0.ethFlush e
  if !s.ethRxUp e then (none, s)
  else if !f.fcsOk then (none, s.count (R.ETH_RX_FCS n) 1)
  else if 1600 < f.len then (none, s.count (R.ETH_RX_OVERSIZE n) 1)
  else if f.vlan || !(f.dst == s.ethMac e || (f.dst == macControl && f.etherType == 0x8808)) then
    (none, s.count (R.ETH_RX_FILTER n) 1)
  else if f.etherType == 0x8808 then
    if f.body.getD 0 0 == 0 && f.body.getD 1 0 == 1 then (none, s.pauseRx e f.body)
    else (none, s.count (R.ETH_RX_FILTER n) 1)
  else
    match s.macSec e f with
    | (.inl a, t) => (none, t.secDrop a)
    | (.inr (ty, m), t) =>
      if ty == 0x88B5 && rxSubtype e (subtypeOf m) then (some m, t.count (R.ETH_RX_OK n) 1)
      else (none, t.count (R.ETH_RX_FILTER n) 1)

/-- ETH0 sends a PAUSE frame (R526). PAUSE frames are sent outside MACsec. -/
def State.pauseTx (s : State) (quanta : Nat) : State :=
  if s.ethUp .eth0 then (s.send (.pause quanta)).count (R.ETH_PAUSE_TX 0) 1 else s

end Sys2Proof.Machine
end

