-- ==== Sys2Proof/Machine/Norm.lean ====
section
/-!
DEFINITION. What a register stores of a value written to it: the fields the register tables call "stored clamped", the
fields where 0 stores 1, and the codes that store another code.
-/
namespace Sys2Proof.Machine

/-- How a field of a written word is stored. -/
inductive Norm where
  /-- An unsigned field held within [lo, hi]. -/
  | rng (at_ wid lo hi : Nat)
  /-- A two's complement field held within [lo, hi]. -/
  | srng (at_ wid : Nat) (lo hi : Int)
  /-- Codes above `top` store `other`. -/
  | top (at_ wid top other : Nat)
  deriving DecidableEq, Repr

/-- A word with the field stored. -/
def Norm.apply (n : Norm) (w : Word) : Word :=
  match n with
  | .rng a wid lo hi => setFld w a wid (clampN lo hi (fld w a wid))
  | .srng a wid lo hi => setFld w a wid (BitVec.ofInt wid (clampI lo hi (sfld w a wid))).toNat
  | .top a wid t o => if t < fld w a wid then setFld w a wid o else w

/-- The first `n` fields of 2 bits, each storing code `other` above code `t`. -/
def tops2 (n t other : Nat) : List Norm := (List.range n).map fun i => .top (2 * i) 2 t other

/-- The stored forms of one register: its block's base, its offset, and the forms of its fields. -/
structure NormRow where
  base : Nat
  off : Nat
  forms : List Norm
  deriving DecidableEq, Repr

/-- Blocks of the system, lanes, intake, Stitch and GROUND (14, 15, 16, 17, 06, 07, 05, 04). -/
def normRows0 : List NormRow := [
  ⟨0x010000, 0x10C, [.rng 0 16 5000 36000]⟩,
  ⟨0x020000, 0x040, [.rng 0 16 10 65535]⟩,
  ⟨0x020000, 0x800, [.rng 16 3 1 7]⟩,
  ⟨0x020000, 0x804, [.rng 16 16 100 10000, .rng 8 8 2 100]⟩,
  ⟨0x020000, 0xC10, tops2 16 1 0⟩,
  ⟨0x020000, 0xC40, tops2 16 2 0⟩,
  ⟨0x020000, 0xC44, tops2 8 2 0⟩,
  ⟨0x020000, 0xC48, tops2 8 2 0⟩,
  ⟨0x020000, 0x1000, [.rng 16 16 1 65535, .rng 8 8 1 255, .top 2 2 2 2, .top 0 2 2 2]⟩,
  ⟨0x030000, 0x01C, [.rng 0 16 10 3600]⟩,
  ⟨0x030000, 0x038, tops2 5 2 2⟩,
  ⟨0x040000, 0x084, [.srng 0 32 (-1000) 20000]⟩,
  ⟨0x040000, 0x400, [.rng 0 17 1 86400]⟩,
  ⟨0x100000, 0x024, [.rng 16 16 1000 16000]⟩,
  ⟨0x100000, 0x040, [.rng 0 16 1 1000]⟩,
  ⟨0x100000, 0x104, [.rng 0 16 100 4000]⟩,
  ⟨0x100000, 0x108, [.rng 0 24 1000 1000000]⟩,
  ⟨0x100000, 0x10C, [.rng 16 16 100 2000, .rng 0 16 50 1500]⟩,
  ⟨0x100000, 0x110, [.rng 16 16 50 4000]⟩,
  ⟨0x100000, 0x114, [.rng 0 24 1000 500000]⟩,
  ⟨0x100000, 0x118, [.rng 16 16 100 65535, .rng 0 16 20 1000]⟩,
  ⟨0x100000, 0x11C, [.rng 0 16 500 6000]⟩,
  ⟨0x100000, 0x604, [.rng 16 16 1 20000]⟩,
  ⟨0x300000, 0x010, [.rng 0 16 2000 65535]⟩,
  ⟨0x100000, 0x088, [.rng 0 16 1 65535]⟩,
  ⟨0x100000, 0x08C, [.rng 0 16 1 65535]⟩,
  ⟨0x100000, 0x090, [.rng 0 16 1 65535]⟩,
  ⟨0x100000, 0x130, [.top 0 2 2 0]⟩,
  ⟨0x100000, 0x600, [.rng 8 8 1 255]⟩,
  ⟨0x310000, 0x800, [.rng 16 4 1 8, .rng 0 16 0 5000]⟩,
  ⟨0x310000, 0x1008, [.rng 0 16 5000 65535]⟩,
  ⟨0x310000, 0x100C, [.rng 16 16 1000 20000]⟩,
  ⟨0x320000, 0x008, [.rng 0 32 250 20000]⟩,
  ⟨0x320000, 0x00C, [.rng 0 16 2000 65535]⟩,
  ⟨0x320000, 0x010, [.rng 0 32 10 1000]⟩,
  ⟨0x320000, 0x014, [.rng 0 16 100 65535]⟩,
  ⟨0x320000, 0x018, [.rng 0 32 1 0xFFFFFFFF]⟩,
  ⟨0x320000, 0x104, [.rng 0 32 50 500]⟩,
  ⟨0x320000, 0x1000, [.top 0 2 2 0]⟩]

/-- Blocks of the axes, the feedback tile, the switches, GNSS, time, CAN and the ports (08, 09, 10, 11, 12, 13). -/
def normRows1 : List NormRow := [
  ⟨0x400000, 0x000, [.top 8 3 4 4, .top 4 3 4 4]⟩,
  ⟨0x400000, 0x040, [.srng 0 32 1 12800000]⟩,
  ⟨0x400000, 0x044, [.rng 0 32 1 1000000000]⟩,
  ⟨0x400000, 0x048, [.rng 0 32 1 1000000000]⟩,
  ⟨0x400000, 0x050, [.rng 0 32 1 0xFFFFFFFF]⟩,
  ⟨0x400000, 0x080, [.rng 16 16 0 2000, .rng 0 16 0 2000]⟩,
  ⟨0x400000, 0x088, [.rng 16 16 100 2000]⟩,
  ⟨0x400000, 0x0C8, [.rng 24 8 1 255]⟩,
  ⟨0x400000, 0x0D4, [.top 4 2 2 0]⟩,
  ⟨0x400000, 0x0E8, [.srng 0 16 (-1440) 1440]⟩,
  ⟨0x410000, 0x100, [.rng 15 17 10 100000]⟩,
  ⟨0x410000, 0x400, [.rng 16 16 10 10000, .rng 8 8 9 99, .top 2 2 2 0, .top 0 2 2 0]⟩,
  ⟨0x410000, 0x404, [.rng 24 8 1 255, .top 8 3 4 4, .rng 0 6 8 40]⟩,
  ⟨0x410000, 0x800, [.top 12 4 7 15, .top 10 2 2 0]⟩,
  ⟨0x410000, 0xC00, [.rng 16 16 1 65535, .top 4 2 2 0]⟩,
  ⟨0x410000, 0xC18, [.rng 0 32 1 0xFFFFFFFF]⟩,
  ⟨0x410000, 0xC34, [.rng 16 16 1 65535]⟩,
  ⟨0x410000, 0xC38, [.rng 0 16 2000 65535]⟩,
  ⟨0x501000, 0x000, [.srng 0 16 960 1320]⟩,
  ⟨0x501000, 0x104, [.rng 8 4 1 15]⟩,
  ⟨0x501000, 0x10C, [.rng 16 16 10 10000, .rng 0 16 0 500]⟩,
  ⟨0x501000, 0x110, [.rng 16 16 1 65535, .rng 0 16 1 10000]⟩,
  ⟨0x501000, 0x114, [.rng 16 16 1 65535, .rng 0 16 10 2000]⟩,
  ⟨0x501000, 0x118, [.srng 0 16 800 1280]⟩,
  ⟨0x600000, 0x008, [.rng 24 6 1 63, .rng 16 8 2 255, .rng 8 7 1 127, .rng 0 7 1 127]⟩,
  ⟨0x600000, 0x00C, [.rng 24 5 1 31, .rng 16 5 1 31, .rng 8 4 1 15, .rng 0 4 1 15]⟩,
  ⟨0x600000, 0x084, [.rng 0 16 10 1000]⟩,
  ⟨0x600000, 0x0A0, [.rng 16 8 1 255]⟩,
  ⟨0x700000, 0x000, [.rng 16 8 0 60, .top 8 3 6 6]⟩,
  ⟨0x710000, 0x044, [.rng 0 16 1 1000]⟩,
  ⟨0x710000, 0x104, [.rng 0 32 1000 1000000000]⟩,
  ⟨0x800000, 0x118, [.rng 16 16 100 65535]⟩,
  ⟨0x800000, 0x11C, [.rng 0 16 10 65535]⟩]

/-- The stored forms of a register. -/
def normsOf (base off : Nat) : List Norm :=
  match (normRows0 ++ normRows1).find? fun r => r.base == base && r.off == off with
  | some r => r.forms
  | none => []

/-- The fields of a response setting, each kept at the higher of the old and the new (15 R615). -/
def raiseOnly (old v : Word) : Nat → Word
  | 0 => v
  | n + 1 =>
    let w := raiseOnly old v n
    setFld w (2 * n) 2 (max (fld old (2 * n) 2) (fld w (2 * n) 2))

/-- The upper words of the writable 48-bit signed values: vehicle state and raster origin, axis positions, ENC_LOAD and CMP_VAL
(R19). -/
def signedHigh (base off : Nat) : Bool :=
  (base == 0x320000 && [0x4C, 0x54, 0x10C, 0x114].contains off) ||
  (base == 0x400000 && [0x24, 0x64, 0x6C, 0x74].contains off) ||
  (base == 0x410000 && [0x12C, 0xC14].contains off)

/-- A word written to the upper word of a 48-bit signed value: its bits [31:16] are ignored and read as copies of bit 47 (R19). -/
def extHi (base off : Nat) (v : Word) : Word := if signedHigh base off then (v.extractLsb' 0 16).signExtend 32 else v

/-- The word that the register at `a` stores when `v` reaches its writable fields: the ranges that depend on another
field or on the old word, then the forms of the tables. -/
def State.stored (s : State) (a : Nat) (v : Word) : Word :=
  match blockAt? regBlocks a, regHit? a with
  | some b, some h =>
    let off := h.row.off
    let v1 := (normsOf b.base off).foldl (fun w n => n.apply w) (extHi b.base off v)
    if b.base = 0x020000 ∧ off = 0x804 then Machine.setFld v1 0 8 (min (fld v1 0 8) (fld v1 8 8 - 1))
    else if b.base = 0x030000 ∧ off = 0x038 then raiseOnly (s.reg a) v1 5
    else if b.base = 0x100000 ∧ off = 0x610 then
      if 65536 < fld v1 16 16 + fld v1 0 16 then Machine.setFld v1 0 16 (65536 - fld v1 16 16) else v1
    else if b.base = 0x400000 ∧ off = 0x000 then
      if fld v1 0 2 = 3 then Machine.setFld v1 0 2 (fld (s.reg a) 0 2) else v1
    else if b.base = 0x501000 ∧ off = 0x108 then
      let big := decide (4 ≤ h.inst)
      let lim := if big then clampN 1000 15000 (fld v1 0 16) else clampN 500 7500 (fld v1 0 16)
      Machine.setFld (Machine.setFld v1 0 16 lim) 16 16 (clampN lim (if big then 40000 else 20000) (fld v1 16 16))
    else if b.base = 0x600000 ∧ off = 0x008 then Machine.setFld v1 0 7 (min (fld v1 0 7) (fld v1 8 7))
    else if b.base = 0x600000 ∧ off = 0x00C then Machine.setFld v1 0 4 (min (fld v1 0 4) (fld v1 8 4))
    else if b.base = 0x600000 ∧ off = 0x1000 then if v1.getLsbD 30 then Machine.setFld v1 23 3 0 else v1
    else if b.base = 0x710000 ∧ off = 0x108 then
      let per := (s.reg (a - 4)).toNat
      if per ≤ v1.toNat then wordN (per / 2) else v1
    else if b.base = 0x800000 ∧ off = 0x100 then Machine.setFld v1 4 2 2
    else if b.base = 0x800000 ∧ off = 0x200 then if 1 < fld v1 4 2 then Machine.setFld v1 4 2 0 else v1
    else v1
  | _, _ => v

end Sys2Proof.Machine
end

