-- ==== Sys2Proof/Machine/Store.lean ====
section
/-!
DEFINITION. The bytes of the persistent store by window address, and the coverage raster that lies in them: cells, the
window and its slots, unwritten marks, and host writes (04_ground_sections_and_coverage.md, R165–R172).
-/
namespace Sys2Proof.Machine

/-- A byte of the store; the word at a window address. -/
def State.storeByte (s : State) (a : Nat) : Byte := Tab.get (fun _ => 0) s.store a
def State.storeWordAt (s : State) (a : Nat) : Word :=
  wordN (leNat [s.storeByte a, s.storeByte (a + 1), s.storeByte (a + 2), s.storeByte (a + 3)])

/-- The index of the 64-bit store word at a window address. -/
def wordOf (a : Nat) : Nat := (a - 0x10000000) / 8

/-- A store word is uncorrectable (16 R636), and becomes so or readable again. -/
def State.poisoned (s : State) (word : Nat) : Bool := Tab.get (fun _ => false) s.mgt.poison word
def State.setPoison (s : State) (word : Nat) (b : Bool) : State :=
  { s with mgt := { s.mgt with poison := Tab.set (fun _ => false) s.mgt.poison word b } }

/-- The uncorrectable words among the `n` bytes from address `a` on. -/
def State.poisonIn (s : State) (a n : Nat) : List Nat :=
  (s.mgt.poison.filter fun e => e.2 && decide (0 < n) && decide (wordOf a ≤ e.1 ∧ e.1 ≤ wordOf (a + n - 1))).map Prod.fst

/-- The words of `n` bytes from address `a` on have been written: they are readable again (16 R632, R636). -/
def State.clearPoison (s : State) (a n : Nat) : State := forL (fun w t => t.setPoison w false) (s.poisonIn a n) s

/-- A byte, and a run of bytes, of the store take values. A word that is written is readable again (16 R632, R636). -/
def State.setStoreByte (s : State) (a : Nat) (b : Byte) : State :=
  { s with store := Tab.set (fun _ => 0) s.store a b
           mgt := { s.mgt with poison := Tab.set (fun _ => false) s.mgt.poison (wordOf a) false } }
def State.setStoreBytes (s : State) (a : Nat) : List Byte → State
  | [] => s
  | b :: r => (s.setStoreByte a b).setStoreBytes (a + 1) r

/-- A byte of the store as a block of the device reads it, and `n` bytes from address `a` on. A poisoned word is never used as data
(16 R631, R636): it reads 0, and what is checked over it fails (log 204). -/
def State.devByte (s : State) (a : Nat) : Byte := if s.poisoned (wordOf a) then 0 else s.storeByte a
def State.storeBytes (s : State) (a n : Nat) : List Byte := (List.range n).map fun i => s.devByte (a + i)

/-- The device writes the 256 bytes of the store that hold address `a`, where it has written them fewer than 3,600 times within the last
hour (R638); else the write is left out for now (DESIGN CHOICE, log 211). -/
def State.wearFree (s : State) (a : Nat) : Bool :=
  decide (((Tab.get (fun _ => []) s.mgt.wear (a / 256)).filter fun t => decide (s.now < t + 3600000000000)).length < 3600)
def State.noteWear (s : State) (a : Nat) : State :=
  let l := (Tab.get (fun _ => []) s.mgt.wear (a / 256)).filter fun t => decide (s.now < t + 3600000000000)
  { s with mgt := { s.mgt with wear := Tab.set (fun _ => []) s.mgt.wear (a / 256) (s.now :: l) } }
def State.wearing (s : State) (a : Nat) (f : State → State) : State := if s.wearFree a then f (s.noteWear a) else s

/-- The raster region of the store window (16 Table 4; GND_RST_BASE). -/
abbrev rasterBase : Nat := 0x12800000
def isRaster (a : Nat) : Bool := decide (0x12800000 ≤ a ∧ a < 0x16800000)

/-- The cell size in µm, and the global cell of a point (R165). -/
def State.cellSize (s : State) : Nat := (s.reg R.GND_RST_CELL).toNat * 1000
def State.cellOf (s : State) (e n : Int) : Int × Int :=
  (floorDiv (e - s.reg48 R.GND_RST_ORG_E_LO) s.cellSize, floorDiv (n - s.reg48 R.GND_RST_ORG_N_LO) s.cellSize)

/-- Global block (bi, bj) lies in the window that `w` names (R165). -/
def inWin (w : Word) (bi bj : Int) : Bool :=
  decide (sfld w 0 16 ≤ bi) && decide (bi ≤ sfld w 0 16 + 255) && decide (sfld w 16 16 ≤ bj) &&
    decide (bj ≤ sfld w 16 16 + 255) && decide (-32768 ≤ bi) && decide (bi ≤ 32767) && decide (-32768 ≤ bj) &&
    decide (bj ≤ 32767)

/-- The slot of a global block, and the global block that a slot holds in a window (R165). -/
def slotOf (bi bj : Int) : Nat := ((bj % 256) * 256 + bi % 256).toNat
def blockOf (w : Word) (slot : Nat) : Int × Int :=
  (sfld w 0 16 + ((slot % 256 : Nat) - sfld w 0 16) % 256, sfld w 16 16 + ((slot / 256 : Nat) - sfld w 16 16) % 256)

/-- A page move is under way, and slot `n` is absent: its global block changes (R172). -/
def State.paging (s : State) : Bool := s.rbit R.GND_STAT 4
def State.absent (s : State) (n : Nat) : Bool :=
  s.paging && decide (blockOf (s.reg R.GND_RST_WIN) n ≠ blockOf s.gnd.next n)

/-- Where a global cell lies: its slot and its index in the block; none outside the window or in an absent slot. -/
def State.cellPlace (s : State) (i j : Int) : Option (Nat × Nat) :=
  let n := slotOf (i / 64) (j / 64)
  if inWin (s.reg R.GND_RST_WIN) (i / 64) (j / 64) && !s.absent n then
    some (n, ((j % 64) * 64 + i % 64).toNat)
  else none

/-- The unwritten marks of a slot. -/
def State.marksOf (s : State) (n : Nat) : Option (Nat × List Nat) := Tab.get (fun _ => none) s.gnd.marks n
def State.setMarks (s : State) (n : Nat) (v : Option (Nat × List Nat)) : State :=
  { s with gnd := { s.gnd with marks := Tab.set (fun _ => none) s.gnd.marks n v } }

/-- The APPLIED bits that unwritten marks add to a byte of a block (R167, R170). -/
def State.markByte (s : State) (n b : Nat) : Byte :=
  match s.marksOf n with
  | none => 0
  | some (_, l) => l.foldl (fun x k => if k / 4 = b then x ||| BitVec.twoPow 8 (2 * (k % 4) + 1) else x) 0

/-- A byte of the region of the GNSS retained aids (16 Table 5): 0 with nothing retained. The spec gives their content and not its
layout, so the byte of what was saved last is a free value (log 199). -/
def State.aidByte (s : State) (a : Nat) : Byte :=
  if s.gnss.kept = GnssAids.init then 0 else (Config.freeWord a s.gnss.keptAt).setWidth 8

/-- A byte of the store control state (16 Table 5): the power-down marker, PWR_HOURS, PWR_CYCLES and the recorder pointers. The spec
gives no layout: a free value that depends on what is held (log 199). -/
def State.controlByte (s : State) (a : Nat) : Byte :=
  let held := [(s.reg R.PWR_HOURS).toNat, (s.reg R.PWR_CYCLES).toNat, (s.reg R.REC_STAT).toNat, (s.reg R.REC_SEQ_LO).toNat,
    (s.reg R.REC_SEQ_HI).toNat].foldl (fun x w => x * 2 ^ 32 + w) (b2n s.mgt.marker)
  (Config.freeWord a held).setWidth 8

/-- A byte of the store as a host reads it: in the raster, with the marks not yet written back (R167). -/
def State.curByte (s : State) (a : Nat) : Byte :=
  if isRaster a then
    s.devByte a ||| s.markByte ((a - rasterBase) / 1024) ((a - rasterBase) % 1024)
  else if 0x16810000 ≤ a ∧ a < 0x16820000 then s.aidByte a
  else if 0x16820000 ≤ a ∧ a < 0x16821000 then s.controlByte a
  else s.devByte a
def State.curWord (s : State) (a : Nat) : Word :=
  wordN (leNat [s.curByte a, s.curByte (a + 1), s.curByte (a + 2), s.curByte (a + 3)])

/-- The bits of a cell: bit 0 EXCLUDED, bit 1 APPLIED. -/
def State.cellBits (s : State) (n k : Nat) : Nat :=
  ((s.curByte (rasterBase + n * 1024 + k / 4)).toNat / 4 ^ (k % 4)) % 4

/-- A cell is marked APPLIED, as an unwritten mark of its block (R170, R171). -/
def State.mark (s : State) (n k : Nat) : State :=
  if s.cellBits n k / 2 % 2 = 1 then s
  else match s.marksOf n with
    | none => s.setMarks n (some (s.dt, [k]))
    | some (t, l) => s.setMarks n (some (t, l ++ [k]))

/-- A marked block is written back to the store (R171), as often as 16 R638 allows. -/
def State.writeBack (s : State) (n : Nat) : State :=
  match s.marksOf n with
  | none => s
  | some (_, l) => s.wearing (rasterBase + n * 1024) fun u =>
    (forL (fun k t =>
      let a := rasterBase + n * 1024 + k / 4
      t.setStoreByte a (t.storeByte a ||| BitVec.twoPow 8 (2 * (k % 4) + 1))) l u).setMarks n none

/-- Every marked block is written back. -/
def State.writeBackAll (s : State) : State := forL (fun e t => t.writeBack e.1) s.gnd.marks s

/-- A host write to bytes of the raster (R167). -/
def State.rasterHost (s : State) (a : Nat) : List Byte → State
  | [] => s
  | v :: r =>
    let n := (a - rasterBase) / 1024
    let b := (a - rasterBase) % 1024
    let s1 :=
      if s.absent n then s.setStoreByte a v
      else if s.rbit R.GND_CTRL 11 && !s.rbit R.GND_CTRL 10 then
        let t := s.setStoreByte a v
        match t.marksOf n with
        | none => t
        | some (d, l) =>
          let l1 := l.filter fun k => k / 4 != b
          t.setMarks n (if l1.isEmpty then none else some (d, l1))
      else s.setStoreByte a ((v &&& 0x55) ||| ((s.curByte a ||| v) &&& 0xAA))
    s1.rasterHost (a + 1) r

end Sys2Proof.Machine
end

