-- ==== Sys2Proof/Machine/Guard.lean ====
section
/-!
DEFINITION. What guards a register from a port: the checks of an access in order, the store window guard, sealing and the
permission table (00 R11–R15, 01 R41, R53, 02 R77–R83, R100, 13 R515–R519, 15 R603, 17 R668); and the acknowledgements of a fault
source that stand in the queue with no time before them (14 R559).
-/
namespace Sys2Proof.Machine

/-- The port error codes (13 Table 1). -/
abbrev errAddress : Nat := 1
abbrev errIslandDown : Nat := 2
abbrev errNoImage : Nat := 3
abbrev errBusy : Nat := 4
abbrev errNotOwner : Nat := 5
abbrev errRefused : Nat := 6
abbrev errFormat : Nat := 7
abbrev errCrc : Nat := 8
abbrev errTimeout : Nat := 9
abbrev errNotRun : Nat := 10
abbrev errMssBusy : Nat := 11

/-- The blocks that answer while the device runs unconfigured (02 R77); the store window answers with the store
control (log 8). -/
def answersUnconfigured (a : Nat) : Bool :=
  a < 0x20000 || (0x30000 ≤ a && a < 0x60000) || (0x900000 ≤ a && a < 0x910000) || 0x10000000 ≤ a

/-- The gate that stops the block at address `a`, none for a block without a gate (17 Table 5). -/
def gateOf (a : Nat) : Option Nat :=
  if 0x100000 ≤ a ∧ a < 0x240000 then some (20 + (a - 0x100000) / 0x10000)
  else if 0x400000 ≤ a ∧ a < 0x408000 then some (1 + (a - 0x400000) / 0x4000)
  else if 0x410000 ≤ a ∧ a < 0x420000 then some 3
  else if 0x600000 ≤ a ∧ a < 0x610000 then some (5 + (a - 0x600000) / 0x4000)
  else if 0x700000 ≤ a ∧ a < 0x710000 then some 9
  else if 0x800200 ≤ a ∧ a < 0x800300 then some 10
  else if 0x800400 ≤ a ∧ a < 0x800500 then some 11
  else none

/-- The clock of the block at address `a` runs (17 R668). -/
def State.clocked (s : State) (a : Nat) : Bool :=
  match gateOf a with
  | some g => s.gateOn g
  | none => true

/-- Port `p` may write registers (13 R515–R518). -/
def State.mayWrite (s : State) (p : Port) : Bool :=
  match p with
  | .usb => s.rbit R.PORT_CFG 1 && s.sec.usbOpen
  | .eth1 => !s.imageOk || (s.up 34 && !s.rbit R.PORT_CFG 0)
  | .qspi => !s.imageOk || !s.up 34 || s.rbit R.PORT_CFG 0

/-- Address `a` lies in a tile of the handover set while the loader is in FINAL (02 R100). -/
def State.inFinalSet (s : State) (a : Nat) : Bool :=
  s.ldrState == 5 &&
  if 0x100000 ≤ a ∧ a < 0x240000 then s.rbit R.LDR_SET ((a - 0x100000) / 0x10000)
  else if 0x400000 ≤ a ∧ a < 0x408000 then s.rbit R.LDR_SET (20 + (a - 0x400000) / 0x4000)
  else false

/-- State of a slot (15 Table 10): 0 image A, 1 image B, 2 firmware A, 3 firmware B. -/
def State.slot (s : State) (i : Nat) : Nat := s.rfld R.SEC_UPD_STAT (4 * i) 4

/-- The security block beside its registers takes a new value. -/
def State.updSec (s : State) (f : SecSt → SecSt) : State := { s with sec := f s.sec }

/-- What the security records are to hold at present (15 R589). -/
def State.secData (s : State) : SecData :=
  ⟨s.sec.recs, s.sec.prevOk, s.rfld R.SEC_IMG_RB 16 16, s.rfld R.SEC_FW_RB 16 16, s.rfld R.SEC_UPD_STAT 0 16, s.sec.keys,
    s.reg R.SEC_TAMPER_CFG, s.reg R.SEC_TAMPER_CNT, s.sec.idLost⟩

/-- The store words of a copy of the security records: each copy has half of the region (15 R589; log 206). -/
def copyBase (i : Nat) : Nat := 0x168F0000 + 0x8000 * i

/-- The security records take what they are to hold: the older copy is written, with the next sequence number (15 R589). -/
def State.putRec (s : State) : State :=
  let (a, b) := s.sec.copies
  let d := s.secData
  let second := decide (b.seq < a.seq)
  if (if second then a else b).data = d then s
  else
    let c : SecCopy := ⟨max a.seq b.seq + 1, d⟩
    let i := if second then 1 else 0
    { s with sec := { s.sec with copies := if second then (a, c) else (c, b) } }.clearPoison (copyBase i) 0x8000

/-- A slot takes a state of Table 10. -/
def State.setSlot (s : State) (i v : Nat) : State := (s.setFld R.SEC_UPD_STAT (4 * i) 4 v).putRec

/-- The Trellis slot in use (LDR_STAT.SLOT). -/
def State.trellisSlot (s : State) : Nat := b2n (s.rbit R.LDR_STAT 29)

/-- The window address of the next patch-log entry of the slot in use, none where the log is full, where no full image
is in force, or where the slot's trial has been reverted (02 R86, 15 R623). -/
def State.stageAddr (s : State) : Option Nat :=
  let k := s.trellisSlot
  let n := s.rfld R.LDR_PATCH 0 6
  if s.imageOk && n < 32 && !s.sec.imgReverted then some (0x10000000 + k * 0x800000 + 0x600000 + n * 0x10000) else none

/-- The store window lets a word be written at `a` (15 Table 5). -/
def State.windowWritable (s : State) (a : Nat) : Bool :=
  if a < 0x11000000 then
    let k := (a - 0x10000000) / 0x800000
    let off := (a - 0x10000000) % 0x800000
    if off < 0x600000 then s.slot k != 4 && s.slot k != 3
    else s.ldrState == 0 && (match s.stageAddr with
      | some e => decide (e ≤ a ∧ a < e + 0x10000)
      | none => false)
  else if a < 0x11800000 then
    let k := (a - 0x11000000) / 0x400000
    let other := 1 - k
    s.slot (2 + k) != 4 && s.slot (2 + k) != 3 && !(s.slot (2 + k) == 5 && s.slot (2 + other) == 3)
  else if a < 0x12800000 then false
  else if a < 0x16800000 then true
  else if a < 0x16900000 then false
  else true

/-- The store window lets a word be read at `a` (15 Table 5). -/
def windowReadable (a : Nat) : Bool := !(0x168F0000 ≤ a && a < 0x16900000)

/-- The transfer that carries the next access of port `p` to `a` fails (01 R34, R35). -/
def State.accFails (s : State) (p : Port) (a : Nat) : Bool := decide ((p, a) ∈ s.sys.failingAcc)

/-- The code an access is refused with before the block decides about it, 0 where it passes. The order is alignment
(R11), map (R53), configuration (R77, R607), island and clock (R41, R668, and a transfer that fails or a clock that has stopped:
TIMEOUT, R34, R35, R702), ownership (R515–R518), handover (R100), and last the register or the window guard (R12, R603). DEDUCED, log 9: the
spec gives no order. -/
def State.accessErr (s : State) (p : Port) (a : Nat) (write : Bool) : Nat :=
  if a % 4 ≠ 0 then errAddress
  else if !inMap a then errAddress
  else if (!s.imageOk || (p == .eth1 && s.rbit R.SEC_SESS_STAT 16)) && !answersUnconfigured a then errNoImage
  else if !s.up (islandOf a) || !s.clocked a then errIslandDown
  else if s.accFails p a || s.stopped (islandOf a) then errTimeout
  else if write && !s.mayWrite p then errNotOwner
  else if write && s.inFinalSet a then errBusy
  else if 0x10000000 ≤ a then
    if (if write then s.windowWritable a else windowReadable a) then 0 else errAddress
  else if (regHit? a).isNone then errAddress
  else 0

/-- The lowest bits of the writable fields, as bit numbers. -/
def fieldLows (r : RegRow) : List Nat := (List.range 32).filter fun i => r.flo.getLsbD i

/-- The writable fields of a register as masks, from the list of their lowest bits. -/
def fieldMasks (m : Word) : List Nat → List Word
  | [] => []
  | [a] => [m &&& fldMask a (32 - a)]
  | a :: b :: r => (m &&& fldMask a (b - a)) :: fieldMasks m (b :: r)

/-- The bits of the register at `a` that PERMIT items leave closed (02 R80). -/
def State.closedMask (s : State) (a : Nat) : Word :=
  let l := s.ldr.permits.filter fun q => q.addr == a
  if l.isEmpty then (if s.rbit R.LDR_SEAL_CFG 8 then BitVec.allOnes 32 else 0)
  else ~~~ (l.foldl (fun m q => m ||| q.openMask) 0)

/-- A field value lies outside a PERMIT bound (02 R81). -/
def Permit.outOf (q : Permit) (v : Word) : Bool :=
  if q.signed then
    decide (sfld v q.lsb q.width < q.lo.toInt) || decide (q.hi.toInt < sfld v q.lsb q.width)
  else decide (fld v q.lsb q.width < q.lo.toNat) || decide (q.hi.toNat < fld v q.lsb q.width)

/-- What sealing leaves of a write: the word that reaches the register, and the reasons of a refusal (bit 0 sealed RWS,
1 CLOSED, 2 BOUND). -/
structure Screened where
  v : Word
  reasons : Nat
  deriving DecidableEq, Repr

/-- A host write of `v` to the register of row `r` at `a`, screened by sealing and the permission table (00 R15, 02
R80–R83). A refused RW or RWS field keeps its value; a refused WO field reads 0. -/
def State.screen (s : State) (r : RegRow) (a : Nat) (w : Word) : Screened :=
  let v := match blockAt? regBlocks a with
    | some b => extHi b.base r.off w
    | none => w
  if s.sealed then
    let old := s.reg a &&& ~~~ r.wo
    let m := r.rw ||| r.wo
    let closed := s.closedMask a &&& m
    let ch := (fieldMasks m (fieldLows r)).filter fun f => (old ^^^ v) &&& f &&& closed != 0
    let chM := ch.foldl (fun x f => x ||| f) 0
    let bd := s.ldr.permits.filter fun q =>
      q.addr == a && q.width != 0 && (old ^^^ v) &&& fldMask q.lsb q.width &&& m != 0 && q.outOf v
    let bdM := bd.foldl (fun x q => x ||| (fldMask q.lsb q.width &&& m)) 0
    let keep := r.rws ||| chM ||| bdM
    ⟨(v &&& ~~~ keep) ||| (old &&& keep),
      b2n (r.rws != 0) + 2 * b2n (!ch.isEmpty) + 4 * b2n (!bd.isEmpty)⟩
  else ⟨v, 0⟩

/-- Command `c` acknowledges fault source `src` through port `p` with the word `w`: the row FM_SRC_ACK, or a REGISTER_WRITE of that
register (14 R558). -/
def ackOf (src : Nat) : Instr → Option (Port × Word)
  | .fmSrcAck _ p n => if n.val = src then some (p, 1) else none
  | .registerWrite _ p a w _ => if a = R.FM_SRC_ACK src then some (p, w) else none
  | _ => none

/-- Command `c` is an acknowledgement of source `src` that its port carries out. -/
def State.takesAck (s : State) (src : Nat) (c : Instr) : Bool :=
  match ackOf src c, regHit? (R.FM_SRC_ACK src) with
  | some (p, w), some h =>
    s.accessErr p (R.FM_SRC_ACK src) true == 0 && (s.screen h.row (R.FM_SRC_ACK src) w).v.getLsbD 0
  | _, _ => false

/-- How many acknowledgements of source `src` the queue holds before the first command that lets time pass: those that fall in the
clock cycle of the command that acts (14 R559, log 137). -/
def State.acksDue (s : State) (src : Nat) : Nat :=
  ((s.pending.takeWhile fun c => c.el == 0).filter (s.takesAck src)).length

end Sys2Proof.Machine
end

