-- ==== Sys2Proof/Machine/Faults.lean ====
section
/-!
DEFINITION. The fault manager (14_safety_and_faults.md, R551–R570): an occurrence, its bucket, class, level and capture,
the report records it makes, and the pins; the meanings of the fault manager's own commands.
-/
namespace Sys2Proof.Machine

/-- The source codes that other families report (14 Table 3). -/
abbrev srcIslandClock : Nat := 0x01
abbrev srcDtDiverge : Nat := 0x02
abbrev srcSramUe : Nat := 0x03
abbrev srcStoreUe : Nat := 0x04
abbrev srcSupply : Nat := 0x05
abbrev srcClockSource : Nat := 0x06
abbrev srcMssLockstep : Nat := 0x07
abbrev srcCinchMiss : Nat := 0x08
abbrev srcSafeState : Nat := 0x09
abbrev srcSealRefusal : Nat := 0x0A
abbrev srcGndLoss : Nat := 0x0B
abbrev srcTamper : Nat := 0x0C
abbrev srcSolverDisagree : Nat := 0x10
abbrev srcStitchIntegrity : Nat := 0x11
abbrev srcGroundDisagree : Nat := 0x12
abbrev srcLaneOpen : Nat := 0x18
abbrev srcLaneShort : Nat := 0x19
abbrev srcLaneOc : Nat := 0x1A
abbrev srcClamp : Nat := 0x1B
abbrev srcCoilLimit : Nat := 0x1C
abbrev srcGroupTrip : Nat := 0x1D
abbrev srcGroupStuck : Nat := 0x1E
abbrev srcTileOt : Nat := 0x1F
abbrev srcStuckValve : Nat := 0x20
abbrev srcValveCloseMiss : Nat := 0x21
abbrev srcLatencyShift : Nat := 0x22
abbrev srcModelRestore : Nat := 0x23
abbrev srcAdcCal : Nat := 0x24
abbrev srcAdcCalStale : Nat := 0x25
abbrev srcAxisOc : Nat := 0x28
abbrev srcAxisOpen : Nat := 0x29
abbrev srcAxisVmUv : Nat := 0x2A
abbrev srcAxisStall : Nat := 0x2B
abbrev srcMotionOt : Nat := 0x2C
abbrev srcEncBreak : Nat := 0x30
abbrev srcEncPhase : Nat := 0x31
abbrev srcEncRate : Nat := 0x32
abbrev srcSerialSensor : Nat := 0x33
abbrev srcProbeStuck : Nat := 0x34
abbrev srcSwitchOc : Nat := 0x38
abbrev srcSwitchOt : Nat := 0x39
abbrev srcClusterOt : Nat := 0x3A
abbrev srcSwitchLatched : Nat := 0x3B
abbrev srcSwitchOpen : Nat := 0x3C
abbrev srcSwitchStuck : Nat := 0x3D
abbrev srcSwitchShortVbat : Nat := 0x3E
abbrev srcGnssAntShort : Nat := 0x40
abbrev srcDtStep : Nat := 0x41
abbrev srcCanPassive : Nat := 0x42
abbrev srcCanBusOff : Nat := 0x43
abbrev srcCanAuth : Nat := 0x44

/-- The place of an instance of a source in the fault manager's tables. -/
def fmKey (src inst : Nat) : Nat := src * 65536 + inst

/-- A source's primary and secondary captures. -/
def State.prim (s : State) (src : Nat) : Option Capture := Tab.get (fun _ => none) s.fm.prim src
def State.seco (s : State) (src : Nat) : Option Capture := Tab.get (fun _ => none) s.fm.seco src

/-- A source's captures take new values. -/
def State.setPrim (s : State) (src : Nat) (c : Option Capture) : State :=
  { s with fm := { s.fm with prim := Tab.set (fun _ => none) s.fm.prim src c } }
def State.setSeco (s : State) (src : Nat) (c : Option Capture) : State :=
  { s with fm := { s.fm with seco := Tab.set (fun _ => none) s.fm.seco src c } }

/-- FM_SRC_STAT.OVERFLOW of a source. -/
def State.ovf (s : State) (src : Nat) : Nat := Tab.get (fun _ => 0) s.fm.ovf src
def State.setOvf (s : State) (src n : Nat) : State :=
  { s with fm := { s.fm with ovf := Tab.set (fun _ => 0) s.fm.ovf src n } }

/-- The leaky bucket and the class of an instance (R552, R553). -/
def State.bucket (s : State) (src inst : Nat) : Nat := Tab.get (fun _ => 0) s.fm.bucket (fmKey src inst)
def State.lasting (s : State) (src inst : Nat) : Bool := Tab.get (fun _ => false) s.fm.lasting (fmKey src inst)
def State.setBucket (s : State) (src inst n : Nat) : State :=
  { s with fm := { s.fm with bucket := Tab.set (fun _ => 0) s.fm.bucket (fmKey src inst) n } }
def State.setLasting (s : State) (src inst : Nat) (b : Bool) : State :=
  { s with fm := { s.fm with lasting := Tab.set (fun _ => false) s.fm.lasting (fmKey src inst) b } }

/-- A value enters the open recorder interval of code number `k` (16 Table 9 in table order) and an instance. Nothing
is kept while REC_CTRL.EN or the code's EN is 0, or before boot loading has ended (16 R644). -/
def State.recAdd (s : State) (k inst qty : Nat) (v : Int) : State :=
  if s.ldr.bootEnded && s.rbit R.REC_CTRL 0 && s.rbit (R.REC_CODE_CFG k) 31 then
    let key := k * 256 + inst
    let old := Tab.get (fun _ => []) s.rcd.vals key
    { s with rcd := { s.rcd with vals := Tab.set (fun _ => []) s.rcd.vals key (old ++ [⟨qty, v, s.dt⟩]) } }
  else s

/-- The trigger of a recorder code has come: its interval closes (16 R644). -/
def State.recTrigger (s : State) (k inst : Nat) : State :=
  { s with rcd := { s.rcd with due := Tab.set (fun _ => false) s.rcd.due (k * 256 + inst) true } }

/-- The running capture of a lane trace is cut short at an instant, for the lanes that `f` names (16 R646). -/
def State.traceStop (s : State) (f : Nat → Bool) (d : Int) : State :=
  { s with rcd := { s.rcd with trace := s.rcd.trace.map fun c => if f c.lane && c.stop.isNone then { c with stop := some d } else c } }

/-- The FLAGS byte of a report record (14 Table 4). -/
def Report.flags (r : Report) : Nat := b2n r.secondary + 2 * b2n r.lasting + 4 * (r.level % 4) + 16 * (r.rseq % 16)

/-- A record as it stands in a report frame (14 Table 4). -/
def Report.bytes (r : Report) : List Byte :=
  leBytes 1 r.src ++ leBytes 1 r.flags ++ leBytes 2 r.inst ++ bytesOfWord r.detail ++ leBytes 8 r.dt

/-- The payload of the CAN report object (14 Table 5). -/
def Report.canBytes (r : Report) : List Byte :=
  leBytes 1 r.src ++ leBytes 1 r.flags ++ leBytes 2 r.inst ++ leBytes 4 r.dt

/-- A report record that could not be kept: FM_REPORT_LOST counts it (R568, R569). -/
def State.reportLost (s : State) : State := (s.count R.FM_REPORT_LOST 1).event R.FM_IRQ_STAT 4

/-- The CAN report object takes a record: DLC 8 and FDF 0, or with AUTH DLC 10, FDF 1 and bytes 8–10 at 0; then TX_REQ is set, and a
refused one loses the record (R569). -/
def State.canGive (s : State) (c m : Nat) (r : Report) : State :=
  let auth := s.rbit (R.OBJ_CTRL c m) 29
  let t := (s.setFld (R.OBJ_CTRL c m) 16 4 (if auth then 10 else 8)).setBit (R.OBJ_CTRL c m) 28 auth
  match (t.setObjBytes c m 0 (r.canBytes ++ if auth then [0, 0, 0] else [])).setTxReq c m with
  | (true, u) => u
  | (false, u) => u.reportLost

/-- The waiting records are given to the CAN report object, oldest first, while its TX_REQ is 0 (R569). -/
def State.canReportDrain (s : State) : State :=
  let cfg := s.reg R.FM_REPORT
  let c := fld cfg 28 2
  let m := fld cfg 16 7
  forL (fun r t =>
    if cfg.getLsbD 30 && t.works 35 && !t.rbit (R.OBJ_CTRL c m) 5 then
      ({ t with fm := { t.fm with canQ := t.fm.canQ.tail } }).canGive c m r
    else t) s.fm.canQ s

/-- A report record is made: RSEQ rises, and the record is queued for ETH1 and for CAN (R568, R569). -/
def State.report (s : State) (src : Nat) (secondary : Bool) (c : Capture) : State :=
  let rseq := (s.reg R.FM_RSEQ + 1).toNat
  let r : Report := ⟨src, secondary, c.lasting, c.level, rseq, c.inst, c.detail, c.dt⟩
  let s0 := s.setReg R.FM_RSEQ (wordN rseq)
  let s1 := if s0.rbit R.FM_REPORT 31 then
      if s0.fm.ethQ.length < 32 then { s0 with fm := { s0.fm with ethQ := s0.fm.ethQ ++ [r] } } else s0.reportLost
    else s0
  if s1.rbit R.FM_REPORT 30 then
    if s1.fm.canQ.length < 16 then
      ({ s1 with fm := { s1.fm with canQ := s1.fm.canQ ++ [r] } }).canReportDrain
    else s1.reportLost
  else s1

/-- Some source holds a primary (R562). -/
def State.anyPrimary (s : State) : Bool := s.fm.prim.any fun e => e.2.isSome

/-- Some source holds a capture at SAFE level (R563). -/
def State.anySafeCapture (s : State) : Bool :=
  (s.fm.prim.any fun e => match e.2 with | some c => c.level == 2 | none => false) ||
  (s.fm.seco.any fun e => match e.2 with | some c => c.level == 2 | none => false)

/-- Some fail-safe line is applied (R563). -/
def State.anyLine (s : State) : Bool := s.safe.toggleLost || !s.safe.applied.isEmpty

/-- FAULT_N is driven asserted (R562, R564, R565, R566). -/
def State.faultPin (s : State) : Bool :=
  s.fm.pinsLatched || !s.ldr.bootEnded || s.fm.pinTest.isSome || s.anyPrimary

/-- SAFE_N is driven asserted (R563, R564, R565, R566). -/
def State.safePin (s : State) : Bool :=
  s.fm.pinsLatched || !s.ldr.bootEnded || s.cinch.awaitRun || s.fm.pinTest.isSome || s.anySafeCapture || s.anyLine

/-- The levels of FAULT_N and SAFE_N as asserted or not: the level at which something outside holds the ball, and else the level
driven (R566). -/
def State.pinsShown (s : State) : Bool × Bool := (s.fm.ballF.getD s.faultPin, s.fm.ballS.getD s.safePin)

/-- A level read back that differs from the level driven sets PIN_MISMATCH (R566). -/
def State.pinLatch (s : State) : State :=
  s.when (s.pinsShown != (s.faultPin, s.safePin) && s.up 37) fun t => t.event R.FM_IRQ_STAT 8

/-- The levels read back from the balls at an instant: a ball that differs from the level driven is held at its level by something
outside from then on, the other follows its driver (R566, log 202). -/
def State.pinsRead (s : State) (b : Bool × Bool) : State :=
  ({ s with fm := { s.fm with ballF := if b.1 = s.faultPin then none else some b.1,
                              ballS := if b.2 = s.safePin then none else some b.2 } }).pinLatch

/-- A capture of an instance that has become lasting takes the lasting class and LEVEL_L, and makes a record (R556). -/
def State.lastingChange (s : State) (src inst level : Nat) : State :=
  let s1 := match s.prim src with
    | some c => if c.inst = inst then
        let c' := { c with lasting := true, level := level }
        (s.setPrim src (some c')).report src false c'
      else s
    | none => s
  match s1.seco src with
  | some c => if c.inst = inst then
      let c' := { c with lasting := true, level := level }
      (s1.setSeco src (some c')).report src true c'
    else s1
  | none => s1

/-- The repeat count of a capture rises, saturating at 4,095 (R557). -/
def Capture.again (c : Capture) : Capture := { c with rep := if c.rep < 4095 then c.rep + 1 else 4095 }

/-- A captured occurrence is placed (R557). -/
def State.place (s : State) (src : Nat) (c : Capture) : State :=
  match s.prim src with
  | none => ((s.setPrim src (some c)).event R.FM_IRQ_STAT 0).report src false c
  | some q =>
    if q.inst = c.inst ∧ q.detail = c.detail then s.setPrim src (some q.again)
    else match s.seco src with
      | none => ((s.setSeco src (some c)).event R.FM_IRQ_STAT 1).report src true c
      | some r =>
        if r.inst = c.inst ∧ r.detail = c.detail then s.setSeco src (some r.again)
        else (s.setOvf src (satN 16 (s.ovf src + 1))).event R.FM_IRQ_STAT 2

/-- The primary of a source is released: the secondary moves into it, and OVERFLOW is added to FM_LOST (R558). -/
def State.ack (s : State) (src : Nat) : State :=
  match s.prim src with
  | none => s
  | some _ => ((((s.setPrim src (s.seco src)).setSeco src none).count R.FM_LOST (s.ovf src)).setOvf src 0).pinLatch

/-- The acknowledgements of a source that fall in the clock cycle of an occurrence take effect before it (R559); each is remembered
and does nothing more when its command comes. -/
def State.ackFirst (s : State) (src : Nat) : State :=
  forN (fun _ t => { t.ack src with acked := t.acked ++ [src] }) (s.acksDue src - s.acked.count src) s

/-- One occurrence of a fault source is processed: bucket, class, level, count, recorder, capture (R552–R557, R570). A
reserved code raises none (R551), an acknowledgement of the same clock cycle takes effect first (R559), and while island 37 is isolated or its clock stands still no occurrence reaches the fault manager (R565). -/
def State.fault (a : State) (src inst : Nat) (detail : Word) : State :=
  if src ∈ faultCodes ∧ a.works 37 then
    let s := a.ackFirst src
    let cfg := s.reg (R.FM_SRC_CFG src)
    let b := if s.bucket src inst < 255 then s.bucket src inst + 1 else 255
    let was := s.lasting src inst
    let is := was || decide (fld cfg 8 8 ≤ b)
    let level := if is then fld cfg 2 2 else fld cfg 0 2
    let s1 := ((s.setBucket src inst b).setLasting src inst is).count (R.FM_SRC_COUNT src) 1
    let s2 := ((s1.recAdd 5 0 src level).when (level == 2) fun t => t.recTrigger 5 0).when (src == srcSupply && decide (inst < 14)) fun t =>
      t.recTrigger 3 (inst / 8)
    let s3 := s2.when (is && !was) fun t => (t.event R.FM_IRQ_STAT 3).lastingChange src inst level
    (s3.when (decide (1 ≤ level)) fun t => t.place src ⟨inst, level, is, 0, detail, s.dt⟩).pinLatch
  else a

/-- FAULT_OCCURRENCE (R554): an occurrence of a source, with its instance and detail. -/
def execFaultOccurrence (el : Nat) (src : Fin 128) (inst : BitVec 16) (detail : Word) (s : State) :
    Host.Outcome State Fault Refusal :=
  .next ((s.begin el).fault src inst.toNat detail)

/-- The bucket of one instance loses 1, and at 0 the instance is transient again (R552, R553). -/
def State.leakOne (s : State) (src inst : Nat) : State :=
  let b := s.bucket src inst
  let s1 := s.setBucket src inst (b - 1)
  if b ≤ 1 then s1.setLasting src inst false else s1

/-- Every non-zero bucket of a source loses 1 (R552). -/
def State.leak (s : State) (src : Nat) : State :=
  forL (fun e t => if e.1 / 65536 = src then t.leakOne src (e.1 % 65536) else t) s.fm.bucket s

/-- BUCKET_LEAK (R552): at every DT multiple of FM_SRC_CFG.WIN milliseconds. -/
def execBucketLeak (el : Nat) (src : Fin 128) (s : State) : Host.Outcome State Fault Refusal :=
  .next ((s.begin el).onIsland 37 fun t =>
    if t.dt % (t.rfld (R.FM_SRC_CFG src) 16 16 * 1000000) = 0 then t.leak src else t)

/-- The payload of a report frame (14 Table 4). -/
def reportPayload (s : State) (fseq : Nat) (rs : List Report) : List Byte :=
  leBytes 2 0x5A32 ++ leBytes 1 1 ++ leBytes 1 rs.length ++ leBytes 4 fseq ++ leBytes 8 s.dt ++
    (rs.map Report.bytes).flatten

/-- REPORT_FRAME_TX (R568): a frame holds every record made since the last one, no sooner than HOLDOFF µs after it. -/
def execReportFrameTx (el : Nat) (s : State) : Host.Outcome State Fault Refusal :=
  .next ((s.begin el).onIsland 37 fun t =>
    let ready := match t.fm.lastFrame with
      | none => true
      | some l => decide (l + t.rfld R.FM_REPORT 0 16 * 1000 ≤ t.now)
    if t.rbit R.FM_REPORT 31 && ready && t.ethFree .eth1 && !t.fm.ethQ.isEmpty then
      match t.ethSend .eth1 (t.reg (R.ETH_PEER_LO 1)) (t.reg (R.ETH_PEER_HI 1)) 0x5A32
          (reportPayload t (t.fm.fseq + 1) t.fm.ethQ) with
      | (true, u) => { u with fm := { u.fm with ethQ := [], fseq := u.fm.fseq + 1, lastFrame := some u.now } }
      | (false, u) => u
    else t)

/-- FM_SRC_STAT of a source (14 Table 10). -/
def State.srcStat (s : State) (src : Nat) : Word :=
  Machine.setBit (Machine.setBit (wordN (s.ovf src)) 30 (s.seco src).isSome) 31 (s.prim src).isSome

/-- A capture as its words: INFO, DETAIL, DT low and high; zeros where there is none. -/
def capWords (c : Option Capture) : List Word :=
  match c with
  | none => [0, 0, 0, 0]
  | some c => [wordN (c.inst * 65536 + c.level * 16384 + b2n c.lasting * 8192 + c.rep), c.detail, loW c.dt, hiW64 c.dt]

/-- FM_SRC_STAT and the eight capture words of a source, at present. -/
def State.srcWords (s : State) (src : Nat) : List Word :=
  s.srcStat src :: (capWords (s.prim src) ++ capWords (s.seco src))

/-- Reading FM_SRC_STAT captures it and the capture words of its source (R560). A reserved source reads 0. -/
def State.readSrcStat (s : State) (src : Nat) : Word × State :=
  if src ∈ faultCodes then
    (s.srcStat src, { s with fm := { s.fm with capWin := some (src, s.srcWords src) } })
  else (0, s)

/-- The counters of the fault block (R587): FM_REPORT_LOST, FM_LOST, the Cinch counters, SAFE_APPLY_CNT and the
sources' FM_SRC_COUNT. -/
def fmCounters : List Nat :=
  [R.FM_REPORT_LOST, R.FM_LOST, R.CINCH_MISS, R.CINCH_BAD_ANS, R.CINCH_CRC_ERR, R.CINCH_EXPIRIES, R.SAFE_APPLY_CNT] ++
    (List.range 128).map R.FM_SRC_COUNT

/-- Both pins are asserted for 1 ms; a level read back that differs from the level driven sets PIN_MISMATCH (R566). -/
def State.pinTestStart (s : State) (faultLow safeLow : Bool) : State :=
  ({ s with fm := { s.fm with pinTest := some (s.now + 1000000) } }).pinsRead (faultLow, safeLow)

/-- PIN_TEST_END (R566): 1 ms after PIN_TEST the pins follow their rules again. `e` holds the levels read back then. -/
def execPinTestEnd (e : Seen (Bool × Bool)) (s : State) : Host.Outcome State Fault Refusal :=
  let t := s.begin e.el
  .next (match t.fm.pinTest with
    | none => t
    | some d => if d ≤ t.now then ({ t with fm := { t.fm with pinTest := none } }).pinsRead e.val else t)

end Sys2Proof.Machine
end

