-- ==== Sys2Proof/Machine/Access.lean ====
section
/-!
DEFINITION. How a port reaches a register: what a failed access leaves behind, refused words, and multi-word values (00 R11–R21,
01 R35, 02 R83–R85, R100, 13 R519–R521, 15 R603).
-/
namespace Sys2Proof.Machine

/-- Bits of STORE_IRQ_STAT (16 Table 11). -/
abbrev sqSramCe : Nat := 0
abbrev sqSramUe : Nat := 1
abbrev sqStoreCe : Nat := 2
abbrev sqStoreUe : Nat := 3
abbrev sqScrubLate : Nat := 4
abbrev sqIncomplete : Nat := 5
abbrev sqRestart : Nat := 6

/-- The store region of a window offset (16 Table 4), and the region's first offset. -/
def storeRegion (o : Nat) : Nat × Nat :=
  if o < 0x800000 then (0, 0)
  else if o < 0x1000000 then (1, 0x800000)
  else if o < 0x1400000 then (2, 0x1000000)
  else if o < 0x1800000 then (3, 0x1400000)
  else if o < 0x2800000 then (4, 0x1800000)
  else if o < 0x6800000 then (5, 0x2800000)
  else if o < 0x68F0000 then (6, 0x6800000)
  else if o < 0x6900000 then (7, 0x68F0000)
  else (8, 0x6900000)

/-- An uncorrectable store word is met (16 R636). -/
def State.storeUe (s : State) (word : Nat) : State :=
  let r := storeRegion (8 * word)
  ((s.count R.STORE_UE_CNT 1).event R.STORE_IRQ_STAT sqStoreUe).fault srcStoreUe r.1 (wordN (8 * word - r.2))

/-- The device reads the `n` bytes of the store from address `a` on (16 R630, R636): each word in error among `hits` is corrected, or
becomes uncorrectable; and every uncorrectable word met is reported. -/
def State.devRead (s : State) (hits : List EccHit) (a n : Nat) : State :=
  let t := forL (fun h u =>
    if 0 < n ∧ wordOf a ≤ h.word ∧ h.word ≤ wordOf (a + n - 1) then
      if h.ue then u.setPoison h.word true
      else if u.poisoned h.word then u
      else (u.count R.STORE_CE_CNT 1).event R.STORE_IRQ_STAT sqStoreCe
    else u) hits s
  forL (fun w u => u.storeUe w) (t.poisonIn a n) t

/-- The port's failure registers (13 R521). -/
def State.portFail (s : State) (p : Port) (a code : Nat) : State :=
  let n := portNum p
  (((s.setReg (R.PORT_ERR_ADDR n) (wordN a)).setReg (R.PORT_ERR_INFO n) (wordN code)).count
    (R.PORT_ERR_CNT n) 1).event R.PORT_IRQ_STAT 7

/-- What a refused access leaves behind: the port's failure registers, SEC_WIN_REFUSED for the window guard (15 R603),
LDR_WARN.HANDOVER_WRITE for a write while FINAL (02 R100), and HS_TIMEOUT for a block whose clock has stopped (01 R35). A transfer
that LINK_TRANSFER or HANDSHAKE_TIMEOUT has reported as failed is counted there. -/
def State.accessFail (s : State) (p : Port) (a code : Nat) : State :=
  let s0 := (s.portFail p a code).when (code == errTimeout && !s.accFails p a) State.linkTimeout
  let s1 := { s0 with sys := { s0.sys with failingAcc := s0.sys.failingAcc.erase (p, a) } }
  let s2 := s1.when (decide (0x10000000 ≤ a) && code == errAddress && inMap a && a % 4 == 0) fun t =>
    t.count R.SEC_WIN_REFUSED 1
  s2.when (code == errBusy && s.inFinalSet a) fun t => (t.event R.LDR_WARN 3).event R.LDR_IRQ_STAT 5

/-- The first reason in the order sealed RWS, CLOSED, BOUND (02 R85). -/
def firstReason (n : Nat) : Nat := if n % 2 = 1 then 0 else if n / 2 % 2 = 1 then 1 else 2

/-- A refused word is captured, counted, flagged and raised as a fault (02 R85). Nothing is merged, for the capture has
no repeat field: DEDUCED (log 10). -/
def State.refuse (s : State) (p : Port) (a : Nat) (v : Word) (reasons : Nat) : State :=
  let info := wordN (reasons * 2 ^ 18 + firstReason reasons * 2 ^ 16 + 256 + portNum p)
  let s1 :=
    if !s.rbit R.LDR_REFUSE_INFO 8 then
      ((s.setReg R.LDR_REFUSE_ADDR (wordN a)).setReg R.LDR_REFUSE_DATA v).setReg R.LDR_REFUSE_INFO
        ((s.reg R.LDR_REFUSE_INFO &&& 0xFF000000) ||| info)
    else if !s.rbit R.LDR_REFUSE_INFO2 8 then
      ((s.setReg R.LDR_REFUSE_ADDR2 (wordN a)).setReg R.LDR_REFUSE_DATA2 v).setReg R.LDR_REFUSE_INFO2 info
    else s.setFld R.LDR_REFUSE_INFO 24 8 (satN 8 (s.rfld R.LDR_REFUSE_INFO 24 8 + 1))
  ((s1.count R.LDR_REFUSE_CNT 1).event R.LDR_IRQ_STAT 4).fault srcSealRefusal (portNum p) (wordN a)

/-- A multi-word value (00 R17–R20): the address of its first word in the first unit, its words, and how it repeats. -/
structure Span where
  lo : Nat
  words : Nat
  count : Nat
  stride : Nat
  deriving DecidableEq, Repr

/-- The multi-word values of the register tables. Values that a block captures in a window of its own (05 R184, 14
R560) are not among them. -/
def spans : List Span := [
  ⟨0x30060, 12, 1, 48⟩, ⟨0x50050, 12, 1, 48⟩, ⟨0x30054, 2, 1, 8⟩, ⟨0x40014, 2, 1, 8⟩, ⟨0x40024, 2, 1, 8⟩, ⟨0x50020, 2, 1, 8⟩, ⟨0x50028, 2, 1, 8⟩,
  ⟨0x311020, 2, 160, 0x40⟩, ⟨0x320040, 2, 1, 8⟩, ⟨0x320048, 2, 1, 8⟩, ⟨0x320050, 2, 1, 8⟩, ⟨0x320080, 2, 1, 8⟩,
  ⟨0x320088, 2, 1, 8⟩, ⟨0x320090, 2, 1, 8⟩, ⟨0x320108, 2, 1, 8⟩, ⟨0x320110, 2, 1, 8⟩] ++ [
  ⟨0x400020, 2, 8, 0x1000⟩, ⟨0x400028, 2, 8, 0x1000⟩, ⟨0x400060, 2, 8, 0x1000⟩, ⟨0x400068, 2, 8, 0x1000⟩,
  ⟨0x400070, 2, 8, 0x1000⟩, ⟨0x4000E0, 2, 8, 0x1000⟩, ⟨0x410110, 2, 8, 0x40⟩, ⟨0x410118, 2, 8, 0x40⟩,
  ⟨0x410120, 2, 8, 0x40⟩, ⟨0x410128, 2, 8, 0x40⟩, ⟨0x410414, 2, 4, 0x40⟩, ⟨0x41041C, 2, 4, 0x40⟩,
  ⟨0x410C10, 2, 8, 0x40⟩, ⟨0x410C28, 2, 8, 0x40⟩] ++ [
  ⟨0x600090, 2, 4, 0x4000⟩, ⟨0x700020, 2, 1, 8⟩, ⟨0x700028, 2, 1, 8⟩, ⟨0x700100, 2, 1, 8⟩, ⟨0x710000, 3, 1, 12⟩,
  ⟨0x701008, 2, 1, 8⟩, ⟨0x701028, 2, 64, 0x20⟩,
  ⟨0x701030, 2, 64, 0x20⟩, ⟨0x702008, 2, 1, 8⟩, ⟨0x702028, 2, 64, 0x20⟩, ⟨0x702030, 2, 64, 0x20⟩, ⟨0x703008, 2, 1, 8⟩, ⟨0x710058, 2, 1, 8⟩, ⟨0x710110, 2, 2, 0x20⟩, ⟨0x800108, 2, 2, 0x100⟩, ⟨0x800110, 2, 2, 0x100⟩]

/-- The multi-word value that address `a` is a word of: the address of its first word, and its words. -/
def spanAt? : List Span → Nat → Option (Nat × Nat)
  | [], _ => none
  | q :: qs, a =>
    if q.lo ≤ a ∧ a < q.lo + q.count * q.stride ∧ (a - q.lo) % q.stride < 4 * q.words then
      some (a - (a - q.lo) % q.stride, q.words)
    else spanAt? qs a

/-- The place of a port's word in the tables of held and captured words (13 R520). -/
def portKey (p : Port) (a : Nat) : Nat := portNum p * 2 ^ 32 + a

/-- A lower word held for a multi-word write, and a captured word. -/
def State.held (s : State) (p : Port) (a : Nat) : Option Word := Tab.get (fun _ => none) s.port.held (portKey p a)
def State.cap (s : State) (p : Port) (a : Nat) : Option Word := Tab.get (fun _ => none) s.port.caps (portKey p a)
def State.setHeld (s : State) (p : Port) (a : Nat) (w : Option Word) : State :=
  { s with port := { s.port with held := Tab.set (fun _ => none) s.port.held (portKey p a) w } }
def State.setCap (s : State) (p : Port) (a : Nat) (w : Option Word) : State :=
  { s with port := { s.port with caps := Tab.set (fun _ => none) s.port.caps (portKey p a) w } }

/-- The bits that a write stores: RW, RWS, and the WO words of the vehicle state record, which set values that cannot
be read back (04 R139). Every other WO field is a command. -/
def RegRow.stores (r : RegRow) (a : Nat) : Word :=
  r.rw ||| r.rws ||| if 0x320040 ≤ a ∧ a < 0x320064 then r.wo else 0

/-- A screened word reaches a register: RW, RWS and WO fields take it as stored, W1C bits written 1 clear (00 R13) unless the
hardware sets them in the same clock cycle (00 R16). -/
def State.storeWord (s : State) (r : RegRow) (a : Nat) (v : Word) : State :=
  let m := r.stores a
  let old := s.reg a
  let w := s.stored a ((old &&& ~~~ m) ||| (v &&& m))
  s.setReg a (((old &&& ~~~ m) ||| (w &&& m)) &&& ~~~ (v &&& r.w1c &&& ~~~ s.freshBits a))

/-- The lower words that a port holds for the value whose highest word is `a` take effect (00 R18), as far as sealing and the
permission table leave their fields open when they do (00 R13, R15). -/
def State.commitHeld (s : State) (p : Port) (lo : Nat) : Nat → State
  | 0 => s
  | n + 1 =>
    let t := s.commitHeld p lo n
    let x := lo + 4 * n
    match t.held p x, regHit? x with
    | some w, some h => (t.storeWord h.row x (t.screen h.row x w).v).setHeld p x none
    | _, _ => t

/-- The default effect of an accepted write of a register: a lower word of a multi-word value is held, the highest word
commits it, and any other register stores its word. -/
def State.storeAt (s : State) (p : Port) (a : Nat) (v : Word) : State :=
  match regHit? a with
  | none => s
  | some h =>
    match spanAt? spans a with
    | some (lo, n) =>
      if h.row.stores a = 0 then s.storeWord h.row a v
      else if a = lo + 4 * (n - 1) then (s.commitHeld p lo (n - 1)).storeWord h.row a v
      else s.setHeld p a (some v)
    | none => s.storeWord h.row a v

/-- How many patch-log entries of a Trellis slot are marked valid (02 R94). -/
def State.marked (s : State) (k : Nat) : Nat := Tab.get (fun _ => 0) s.ldr.marked k
def State.setMarked (s : State) (k n : Nat) : State :=
  { s with ldr := { s.ldr with marked := Tab.set (fun _ => 0) s.ldr.marked k n } }

/-- A slot of a target has been written last: content staged there is what a commit verifies (15 R618). -/
def State.noteStaged (s : State) (target k : Nat) : State :=
  { s with sec := { s.sec with staged := Tab.set (fun _ => none) s.sec.staged target (some k) } }

/-- The first write into a slot's base region sets the slot EMPTY and clears its patch log (15 R604). A slot that is
EMPTY already stays so. -/
def State.touchSlot (s : State) (a : Nat) : State :=
  if a < 0x11000000 then
    let k := (a - 0x10000000) / 0x800000
    if (a - 0x10000000) % 0x800000 < 0x600000 then
      ((s.setSlot k 0).setMarked k 0).noteStaged 0 k
    else s
  else if a < 0x11800000 then
    let k := 2 + (a - 0x11000000) / 0x400000
    (s.setSlot k 0).noteStaged 2 k
  else s

/-- What a register's own rules do with an accepted write: the screened word, to a port error code and the state. -/
abbrev WriteAct := Word → State → Nat × State

/-- A host write of one word: the access checks, sealing, and then the register's own rules (13 R519, R521). Answers the
port error code. -/
def State.hostWrite (s : State) (p : Port) (a : Nat) (v : Word) (act : WriteAct) : Nat × State :=
  let e := s.accessErr p a true
  if e ≠ 0 then (e, s.accessFail p a e)
  else match regHit? a with
    | none => (0, if isRaster a then s.rasterHost a (bytesOfWord v) else (s.touchSlot a).setStoreBytes a (bytesOfWord v))
    | some h =>
      let sc := s.screen h.row a v
      let r := act sc.v s
      let code := if r.1 ≠ 0 then r.1 else if sc.reasons ≠ 0 then errRefused else 0
      let s1 := r.2.when (sc.reasons != 0) fun t => t.refuse p a v sc.reasons
      (code, s1.when (code != 0) fun t => t.portFail p a code)

/-- The register's own rules where it has none beyond its access types. -/
def plainWrite (p : Port) (a : Nat) : WriteAct := fun v s => (0, s.storeAt p a v)

/-- Do `f` where port `p` and the arbiter of island 37 work (13 R519). ETH1 lies in island 34: while that island does not work
nothing reaches it, and while only island 37 is isolated its request is refused (01 R37, R41) and answered with `deaf`. The other
ports lie in island 37 and answer nothing then. -/
def State.atPort (s : State) (p : Port) (deaf : Out) (f : State → State) : State :=
  if p = .eth1 ∧ !(s.up 34 && s.ungated 34) then s
  else if s.up 37 && s.ungated 37 then f s
  else if p = .eth1 then s.send deaf
  else s

/-- A command that writes one command register: the write goes through a port and its outcome is answered there. -/
def State.writeCmd (s : State) (p : Port) (a : Nat) (v : Word) (act : Word → State → State) : State :=
  s.atPort p (.wrote p a errIslandDown) fun s0 =>
    let r := s0.hostWrite p a v fun w t => (0, act w (t.storeAt p a w))
    r.2.send (.wrote p a r.1)

/-- What a register's own rules do with an accepted read: its value, and the state after it. -/
abbrev ReadAct := State → Word × State

/-- A host read of one word: the access checks, and then the register's own rules (13 R519, R521). Answers the port error
code and the value, 0 for a failed access. -/
def State.hostRead (s : State) (p : Port) (a : Nat) (act : ReadAct) : Nat × Word × State :=
  let e := s.accessErr p a false
  if e ≠ 0 then (e, 0, s.accessFail p a e)
  else
    let r := act s
    (0, r.1, r.2)

/-- A command that reads one register through a port. -/
def State.readCmd (s : State) (p : Port) (a : Nat) (act : ReadAct) : State :=
  s.atPort p (.read p a 0 errIslandDown) fun s0 =>
    let r := s0.hostRead p a act
    r.2.2.send (.read p a r.2.1 r.1)

end Sys2Proof.Machine
end

