-- ==== Sys2Proof/Machine/TileOps.lean ====
section
/-!
DEFINITION. What Stitch and the other blocks need of a lane tile: its lanes' state, the profile words, taking a
committed pulse, and what a commitment or a fail-safe line ends (06_lane_drive.md, 07_latency_learning.md).
-/
namespace Sys2Proof.Machine

/-- A physical lane and a lane tile beside their registers. -/
def State.lane (s : State) (n : Nat) : LaneSt := Tab.get (fun _ => LaneSt.init) s.lanes n
def State.setLane (s : State) (n : Nat) (v : LaneSt) : State :=
  { s with lanes := Tab.set (fun _ => LaneSt.init) s.lanes n v }
def State.tile (s : State) (t : Nat) : TileSt := Tab.get (fun _ => TileSt.init) s.tiles t
def State.setTile (s : State) (t : Nat) (v : TileSt) : State :=
  { s with tiles := Tab.set (fun _ => TileSt.init) s.tiles t v }

/-- The release allowance and the boost time limit of a physical lane, ns (06 R249, R206). -/
def State.releaseOf (s : State) (n : Nat) : Int := (s.rfld (R.LANE_RELEASE n) 0 24 : Int) * 10
def State.boostOf (s : State) (n : Nat) : Int := (s.rfld (R.LANE_PEAK_TMAX n) 0 24 : Int) * 10

/-- The latency in force that Stitch holds for a physical lane and a side, 10 ns (07 R300). -/
def State.latPhys (s : State) (p : Nat) (sd : Side) : Nat :=
  Tab.get (fun _ => 0) s.stitch.lat (2 * p + match sd with | .opening => 0 | .closing => 1)

/-- The lanes of a tile. -/
def tileLanes (t : Nat) : List Nat := (List.range 8).map fun j => 8 * t + j

/-- The role of a physical lane by the lane map in force: 0 disabled, 1 mapped, 2 spare (06 LANE_STAT.ROLE). -/
def State.role (s : State) (p : Nat) : Nat :=
  if (s.logicalOf p).isSome then 1 else if s.isSpare p then 2 else 0

/-- The lane counts as in a firing (06 R229, R279, Table 5 row 5). -/
def State.laneBusy (s : State) (n : Nat) : Bool :=
  (s.lane n).firing.isSome ||
  (match (s.lane n).busyUntil with
    | some e => decide ((s.localDt (n / 8)) < e)
    | none => false)

/-- The pulses a tile holds for a lane: those that wait, and the firing. -/
def LaneSt.holds (l : LaneSt) : Nat := l.pulses.length + b2n l.firing.isSome

/-- A running idle test ends without a result (06 R273). -/
def State.idleAbort (s : State) (t : Nat) : State := s.setTile t { s.tile t with idle := none }

/-- The running calibration of a tile ends: its lane's channel delivers samples again (07 R287, R316). -/
def State.burnEnd (s : State) (t : Nat) : State :=
  let now := s.localDt t
  let q := s.tile t
  (s.setReg (R.BURNISH_STAT t) 0).setTile t { q with
    burn := none
    burnt := (q.burnt.filter fun x => decide (now - 200000000 ≤ x.2.2)) ++ (match q.burn with
      | some b => [(s.rfld (R.BURNISH_STAT t) 8 3, b, min now (b + 496000))]
      | none => []) }

/-- A Burnish step occupies a lane's channel at `at_` (07 R287). -/
def State.occupied (s : State) (n : Nat) (at_ : Int) : Bool :=
  let q := s.tile (n / 8)
  q.burnt.any (fun x => x.1 == n % 8 && decide (x.2.1 ≤ at_) && decide (at_ < x.2.2)) ||
  (match q.burn with
    | some b => s.rfld (R.BURNISH_STAT (n / 8)) 8 3 == n % 8 && decide (b ≤ at_) && decide (at_ < b + 496000)
    | none => false)

/-- A running calibration of lane `n` is abandoned (07 R317). -/
def State.burnAbandon (s : State) (n : Nat) : State :=
  let t := n / 8
  if s.rbit (R.BURNISH_STAT t) 31 && s.rfld (R.BURNISH_STAT t) 8 3 == n % 8 then
    (s.burnEnd t).count (R.BURNISH_ABANDON n) 1
  else s

/-- A running calibration of any lane of a tile is abandoned (07 R317). -/
def State.burnAbandonTile (s : State) (t : Nat) : State :=
  if s.rbit (R.BURNISH_STAT t) 31 then s.burnAbandon (8 * t + s.rfld (R.BURNISH_STAT t) 8 3) else s

/-- A tile receives a committed pulse: it takes it when it holds at most one other for the lane, and refuses the
transfer otherwise (06 R256). A pulse taken ends an idle test of the tile (R273) and a calibration of the lane (07
R317). Answers whether it was taken. -/
def State.tileTake (s : State) (n : Nat) (q : TilePulse) : Bool × State :=
  let t := n / 8
  let l := s.lane n
  s.carry 30 t (fun u =>
    if l.holds ≤ 1 then
      (true, (((u.setLane n { l with pulses := l.pulses ++ [q] }).idleAbort t).burnAbandon n).setBit (R.LANE_STAT n) 9 true)
    else (false, u)) fun u => (false, u)

/-- A tile receives a close amendment for the pulse that opens at `opn`: a waiting pulse takes it, and a running firing
takes it before its close instant (06 R259). Answers whether the transfer was taken. -/
def State.tileAmend (s : State) (n : Nat) (opn : Int) (close : Option Int) : Bool × State :=
  s.carry 30 (n / 8) (fun u =>
    let l := u.lane n
    let ps := l.pulses.map fun q => if q.opn = opn then { q with close := close } else q
    let f := l.firing.map fun g => if g.opn = opn && g.closed.isNone then { g with close := close } else g
    (true, u.setLane n { l with pulses := ps, firing := f })) fun u => (false, u)

/-- The GND_LOSS, group and tile conditions of 06 Table 5 row 2: the group is latched off, the tile is latched by
over-temperature, or ground is lost. -/
def State.tileBlocked (s : State) (t : Nat) : Bool :=
  s.rbit (R.TILE_STAT t) 1 || s.rbit (R.TILE_STAT t) 3 || s.sys.gndLost

end Sys2Proof.Machine
end

