-- ==== Sys2Proof/Machine/Stitch.lean ====
section
/-!
DEFINITION. Stitch (05_stitch_scheduling.md, R174–R225, R705): instants, the calendar, coalescing, late targets, commit,
group peak concurrency, cancels, sections and PWM, and the search for the handover instant that follows a calendar (02
R91–R93).
-/
namespace Sys2Proof.Machine

/-- The first instant of the 10 ns grid at or after `a` ns. -/
def up10 (a : Int) : Int := -((-a) / 10) * 10

/-- Present DT. -/
def State.dtI (s : State) : Int := s.localDt 30

/-- The calendar of a logical lane. -/
def State.cal (s : State) (n : Nat) : List Entry := Tab.get (fun _ => []) s.stitch.cal n

/-- Entries on all calendars, and the members they list (STITCH_STAT). -/
def State.fillAll (s : State) : Nat := (s.stitch.cal.map fun e => e.2.length).sum
def State.poolAll (s : State) : Nat := (s.stitch.cal.map fun e => (e.2.map fun x => x.members.length).sum).sum

/-- A member of a fire target. -/
def Member.fire (m : Member) : Bool := m.kind != .sect && m.kind != .pwm

/-- Fire members in the pool. -/
def State.poolFire (s : State) : Nat :=
  (s.stitch.cal.map fun e => (e.2.map fun x => (x.members.filter Member.fire).length).sum).sum

/-- The member pool holds a free record for a fire member: 320 of its 12,288 records are kept for section actions and
PWM on-intervals (R177). -/
def State.poolFree (s : State) : Bool := decide (s.poolFire < 12288 - 320)

/-- A calendar takes a new list of entries, and STITCH_FILL_HWM follows. -/
def State.setCal (s : State) (n : Nat) (l : List Entry) : State :=
  let s1 := { s with stitch := { s.stitch with cal := Tab.set (fun _ => []) s.stitch.cal n l } }
  if (s1.reg R.STITCH_FILL_HWM).toNat < s1.fillAll then s1.setReg R.STITCH_FILL_HWM (wordN s1.fillAll) else s1

/-- Stitch's record of committed pulses takes a new value. -/
def State.setCommitted (s : State) (l : List Commit) : State := { s with stitch := { s.stitch with committed := l } }

/-- A lane's section state. -/
def State.sect (s : State) (n : Nat) : SectSt := Tab.get (fun _ => SectSt.init) s.stitch.sects n
def State.setSect (s : State) (n : Nat) (v : SectSt) : State :=
  { s with stitch := { s.stitch with sects := Tab.set (fun _ => SectSt.init) s.stitch.sects n v } }

/-- A lane's PWM chains, and a chain that takes a new value. -/
def State.chains (s : State) (n : Nat) : List PwmAt := Tab.get (fun _ => []) s.stitch.pwm n
def State.setChains (s : State) (n : Nat) (l : List PwmAt) : State :=
  { s with stitch := { s.stitch with pwm := Tab.set (fun _ => []) s.stitch.pwm n l } }
def State.putChain (s : State) (n : Nat) (q q' : PwmAt) : State :=
  s.setChains n ((s.chains n).map fun z => if z = q then q' else z)

/-- A logical lane of the GROUND block beside its registers, and its delivery delay D, ns (04, Lane geometry). -/
def State.glane (s : State) (n : Nat) : GndLane := Tab.get (fun _ => GndLane.init) s.gnd.lanes n
def State.setGlane (s : State) (n : Nat) (v : GndLane) : State :=
  { s with gnd := { s.gnd with lanes := Tab.set (fun _ => GndLane.init) s.gnd.lanes n v } }
def State.laneDelay (s : State) (n : Nat) : Int := (s.rfld (R.GND_LANE_DELAY n) 0 24 : Int) * 10

/-- The lane delivers at `t` (04 R169). -/
def GndLane.delivers (g : GndLane) (t : Int) : Bool :=
  g.sprays.any fun y => decide (y.start ≤ t) && (match y.stop with
    | none => true
    | some e => decide (t < e))

/-- A lane begins to deliver, and a stretch ends (04 R169). What has ended before the present DT is forgotten. -/
def State.sprayOn (s : State) (n : Nat) (y : Spray) : State :=
  s.setGlane n { s.glane n with sprays := ((s.glane n).sprays.filter fun z => match z.stop with
    | none => true
    | some e => decide (s.dtI < e)) ++ [y] }
def State.sprayOff (s : State) (n : Nat) (f : Spray → Bool) (stop : Option Int) : State :=
  s.setGlane n { s.glane n with sprays := (s.glane n).sprays.map fun z => if f z then { z with stop := stop } else z }

/-- Island `src` hands something to Stitch. A transfer that fails is not recovered (01 R34, R35, R37, R705). -/
def State.handOff (s : State) (src : Nat) (h : HandOff) : State :=
  s.carry src 30 (fun t => { t with stitch := { t.stitch with inbox := t.stitch.inbox ++ [h] } }) id

/-- A lane runs PWM (STITCH_LANE_CFG.MODE). -/
def State.isPwm (s : State) (n : Nat) : Bool := s.rbit (R.STITCH_LANE_CFG n) 1

/-- The MAP item of the staged image for a logical lane: its new physical lane and CARRY_MODEL. -/
def stagedMap (l : List Sect) (n : Nat) : Option (Nat × Bool) :=
  l.foldl (fun acc sec =>
    if sec.type = 2 then
      sec.items.foldl (fun a i => match i with
        | .map lo p c => if lo = n then some (p, c) else a
        | _ => a) acc
    else acc) none

/-- The physical lane of a logical lane for a pulse that opens at `o`: from T_h on, once T_h is final, that of the new
map (02 R98). -/
def State.physAt (s : State) (n : Nat) (o : Int) : Option Nat :=
  match s.ldrState, s.ldr.th, stagedMap s.ldr.staged n with
  | 5, some th, some (p, _) => if th ≤ o then (if p < 160 then some p else none) else s.physOf n
  | _, _, _ => s.physOf n

/-- The physical lane whose latencies a computation uses: that of the map in force (R175), and once T_h is final that of
the new map where the model is not carried (02 R97). -/
def State.latLane (s : State) (n : Nat) : Option Nat :=
  match s.ldrState, stagedMap s.ldr.staged n with
  | 5, some (p, false) => if p < 160 then some p else none
  | _, _ => s.physOf n

/-- The latency of a logical lane, 10 ns; 0 while it is unmapped (R225). -/
def State.latOf (s : State) (n : Nat) (sd : Side) : Int :=
  match s.latLane n with
  | some p => (s.latPhys p sd : Int)
  | none => 0

/-- The word of a register of physical lane `p` that is in force for a pulse that opens at `o`: that of the shadow bank from T_h on,
once T_h is final (02 R90, R98). -/
def State.regAt (s : State) (p a : Nat) (o : Int) : Word :=
  match s.ldrState, s.ldr.th with
  | 5, some th =>
    if th ≤ o && s.ldr.staged.any fun q => q.type == 0x10 && q.inst == p / 8 then Tab.get resetWord s.ldr.shadow a else s.reg a
  | _, _ => s.reg a

/-- The release allowance and the boost time limit of a physical lane for a pulse that opens at `o`, ns (06 R249, R206). -/
def State.releaseAt (s : State) (p : Nat) (o : Int) : Int := (fld (s.regAt p (R.LANE_RELEASE p) o) 0 24 : Int) * 10
def State.boostAt (s : State) (p : Nat) (o : Int) : Int := (fld (s.regAt p (R.LANE_PEAK_TMAX p) o) 0 24 : Int) * 10

/-- A member's open instant, ns (R174, R176, R215, R219): its leading arrival less the latency and the guard, rounded to
the 10 ns grid; a raw instant is taken at the first grid instant at or after it. -/
def State.memOpen (s : State) (n : Nat) (m : Member) : Int :=
  if m.rawOpen then up10 (-((-m.lead) / 256))
  else
    let g : Int := if m.kind = .pwm then 0 else (s.rfld (R.STITCH_LANE_GUARD n) 0 16 : Int)
    roundDiv (m.lead - 2560 * (s.latOf n .opening + g)) 2560 * 10

/-- A member's close instant, ns; none where it is open-ended. -/
def State.memClose (s : State) (n : Nat) (m : Member) : Option Int :=
  match m.trail with
  | none => none
  | some t =>
    if m.kind = .immediate then some (s.memOpen n m + (t - m.lead) / 256)
    else if m.rawClose then some (up10 (-((-t) / 256)))
    else
      let g : Int := if m.kind = .pwm then 0 else (s.rfld (R.STITCH_LANE_GUARD n) 16 16 : Int)
      some (roundDiv (t - 2560 * (s.latOf n .closing - g)) 2560 * 10)

/-- The later of two close instants; open-ended is later than every instant (R190). -/
def maxClose : Option Int → Option Int → Option Int
  | some a, some b => some (max a b)
  | _, _ => none

/-- The earliest open and the latest close of a list of members. -/
def State.spanOf (s : State) (n : Nat) : List Member → Option (Int × Option Int)
  | [] => none
  | m :: r =>
    match s.spanOf n r with
    | none => some (s.memOpen n m, s.memClose n m)
    | some (o, c) => some (min (s.memOpen n m) o, maxClose (s.memClose n m) c)

/-- The effective gap of a logical lane after a pulse that opens at `o`, ns (R185). -/
def State.gapOf (s : State) (n : Nat) (o : Int) : Int :=
  let mg : Int := (s.rfld (R.STITCH_LANE_MIN n) 16 16 : Int) * 10
  match s.physAt n o with
  | some p => max mg (s.releaseAt p o)
  | none => mg

/-- The rate spacing, ns (R185). -/
def rateSpacing : Int := 333340

/-- MIN_PULSE of a logical lane, ns. -/
def State.minPulse (s : State) (n : Nat) : Int := (s.rfld (R.STITCH_LANE_MIN n) 0 16 : Int) * 10

/-- Interval (o, c) and a later one that opens at `o2` merge (R186). -/
def State.mergesAfter (s : State) (n : Nat) (o : Int) (c : Option Int) (o2 : Int) : Bool :=
  (match c with
    | none => true
    | some x => decide (o2 - x < s.gapOf n o)) || decide (o2 - o < rateSpacing)

/-- An entry shorter than MIN_PULSE is widened (R188). -/
def State.wide (s : State) (n : Nat) (e : Entry) : Entry :=
  match e.close with
  | none => e
  | some c =>
    let extra := (s.minPulse n - (c - e.opn)) / 10
    if 0 < s.minPulse n - (c - e.opn) then
      { e with opn := e.opn - extra / 2 * 10, close := some (c + (extra - extra / 2) * 10), widened := true }
    else e

/-- An entry is widened, and the widening counts once per entry (R188). -/
def State.widen (s : State) (n : Nat) (e : Entry) : State × Entry :=
  (s.when ((s.wide n e).widened && !e.widened) fun t => t.count (R.STITCH_LANE_WIDENED n) 1, s.wide n e)

/-- The listed members of a merged entry: at most 8, the section member first, then the PWM member, then fire members by
open instant (R187). -/
def State.listed (s : State) (n : Nat) (l : List Member) : List Member × Bool :=
  let byOpen := sortBy (fun a b => decide (s.memOpen n a ≤ s.memOpen n b)) l
  if l.length ≤ 8 then (byOpen, false)
  else
    let pr := (byOpen.filter fun m => m.kind == .sect) ++ (byOpen.filter fun m => m.kind == .pwm) ++
      byOpen.filter Member.fire
    (sortBy (fun a b => decide (s.memOpen n a ≤ s.memOpen n b)) (pr.take 8), true)

/-- Two entries merged (R186, R187). -/
def State.unionE (s : State) (n : Nat) (a b : Entry) : Entry :=
  let l := s.listed n (a.members ++ b.members)
  { held := false, opn := min a.opn b.opn, close := maxClose a.close b.close, members := l.1,
    opq := a.opq || b.opq || l.2, widened := a.widened || b.widened, deferred := a.deferred || b.deferred,
    late := a.late || b.late, adj := (0, 0), sound := true }

/-- The entry with its instants recomputed from its listed members (R189). An OPAQUE entry never opens later nor closes
earlier than it did (R187); one that was HELD had no instants (R198). -/
def State.recomputed (s : State) (n : Nat) (e : Entry) : Entry :=
  match s.spanOf n e.members with
  | none => e
  | some (o, c) =>
    if e.opq && !e.held then { e with opn := min e.opn o, close := maxClose e.close c }
    else { e with held := false, opn := o, close := c }

/-- The entry, with the adjustments that its flags record: by how much its instants differ from those of its members (R182). -/
def State.noted (s : State) (n : Nat) (e : Entry) : Entry :=
  match s.spanOf n e.members with
  | some (o, c) =>
    if !e.held && (e.widened || e.deferred || e.late) then
      { e with adj := (e.opn - o, match e.close, c with
        | some a, some b => a - b
        | _, _ => 0) }
    else { e with adj := (0, 0) }
  | none => { e with adj := (0, 0) }

/-- The second path of a commit (R182, R183): the instants recomputed from the entry's members, with the latencies and guards in
force and the adjustments its flags record, agree with the entry within 10 ns. An OPAQUE entry contains those of every listed
member. -/
def State.secondPath (s : State) (n : Nat) (e : Entry) : Bool :=
  match s.spanOf n e.members with
  | none => true
  | some (o, c) =>
    if e.opq then
      decide (e.opn ≤ max o (o + e.adj.1)) && (match e.close, c with
        | none, _ => true
        | some _, none => false
        | some a, some b => decide (min b (b + e.adj.2) ≤ a))
    else
      decide ((e.opn - (o + e.adj.1)).natAbs ≤ 10) && (match e.close, c with
        | none, none => true
        | some a, some b => decide ((a - (b + e.adj.2)).natAbs ≤ 10)
        | _, _ => false)

/-- The P_lead by which a HELD entry stands in its calendar (R178): that of the first BELT member it lists (DESIGN
CHOICE, log 192). -/
def Entry.pLead (e : Entry) : Int := ((e.members.find? fun m => m.kind == .belt).map (·.pLead)).getD 0

/-- Where an entry stands among the others (R178). -/
def Entry.before (a b : Entry) : Bool :=
  if a.held == b.held then (if a.held then decide (a.pLead ≤ b.pLead) else decide (a.opn ≤ b.opn)) else !a.held

/-- An entry enters a calendar in order. -/
def insertE (e : Entry) : List Entry → List Entry
  | [] => [e]
  | x :: r => if x.before e then x :: insertE e r else e :: x :: r

/-- A calendar without its first entry equal to `e`. -/
def removeE (e : Entry) (l : List Entry) : List Entry := l.erase e

/-- The last timed entry that opens at or before `o`, and the first that opens after it. -/
def prevE (l : List Entry) (o : Int) : Option Entry := (l.filter fun x => !x.held && decide (x.opn ≤ o)).getLast?
def nextE (l : List Entry) (o : Int) : Option Entry := l.find? fun x => !x.held && decide (o < x.opn)

/-- The pseudocode's merging loop (R190): entry `e`, not on the calendar, takes in its neighbours as long as they merge.
Answers the merged entry and how often it merged. -/
def State.mergeLoop (s : State) (n : Nat) : Nat → Entry → State × Entry × Nat
  | 0, e => (s, e, 0)
  | fuel + 1, e =>
    let l := s.cal n
    let step (x : Entry) : State × Entry × Nat :=
      let s1 := (s.setCal n (removeE x l)).count (R.STITCH_LANE_MERGED n) 1
      let w := s1.widen n (s1.unionE n x e)
      let r := State.mergeLoop w.1 n fuel w.2
      (r.1, r.2.1, r.2.2 + 1)
    match prevE l e.opn with
    | some p =>
      if s.mergesAfter n p.opn p.close e.opn then step p
      else match nextE l e.opn with
        | some q => if s.mergesAfter n e.opn e.close q.opn then step q else (s, e, 0)
        | none => (s, e, 0)
    | none =>
      match nextE l e.opn with
      | some q => if s.mergesAfter n e.opn e.close q.opn then step q else (s, e, 0)
      | none => (s, e, 0)

/-- The last committed pulse of a logical lane whose close instant has not come. -/
def State.lastCommit (s : State) (n : Nat) : Option Commit :=
  (s.stitch.committed.filter fun c => c.lane == n && (match c.close with
    | none => true
    | some x => decide (s.dtI < x))).getLast?

/-- A close lies at least 10 µs after the present DT; the open-ended mark does (R194). -/
def State.aheadClose (s : State) (c : Option Int) : Bool :=
  match c with
  | none => true
  | some x => decide (s.dtI + 10000 ≤ x)

/-- A committed close is amended by a transfer to the tile (R194, R195). -/
def State.amend (s : State) (x : Bool) (c : Commit) (close : Option Int) : State :=
  let r := s.tileAmend c.phys c.opn close
  if x && r.1 then
    (r.2.setCommitted (s.stitch.committed.map fun d =>
      if d.phys = c.phys && d.opn = c.opn then { d with close := close } else d)).sprayOff c.lane (fun z => z.opn == c.opn)
      (close.map fun t => t + s.latOf c.lane .closing * 10 + s.laneDelay c.lane)
  else (s.count R.STITCH_ISSUE_FAIL 1).event R.STITCH_IRQ_STAT 6

/-- The valve-open interval of the PWM on-intervals among some members, ns; and that of two such intervals together. -/
def onSpan (l : List Member) : Option (Int × Int) :=
  match (l.filter fun m => m.kind == .pwm).map fun m => (m.lead / 256, (m.trail.getD m.lead) / 256) with
  | [] => none
  | a :: r => some (r.foldl (fun b c => (min b.1 c.1, max b.2 c.2)) a)
def joinOn : Option (Int × Int) → Option (Int × Int) → Option (Int × Int)
  | some a, some b => some (min a.1 b.1, max a.2 b.2)
  | some a, none => some a
  | none, b => b

/-- A committed pulse takes in an entry (R190): its close becomes `nc`, and it holds the entry's section member and on-intervals.
It does so too where the amendment fails: what merged is part of the committed pulse then (DESIGN CHOICE, log 193). -/
def State.absorb (s : State) (x : Bool) (c : Commit) (e : Entry) (nc : Option Int) : State :=
  let s1 := if nc = c.close then s else s.amend x c nc
  s1.setCommitted (s1.stitch.committed.map fun d =>
    if d.phys = c.phys && d.opn = c.opn then
      { d with sect := d.sect || e.members.any (fun m => m.kind == .sect), on := joinOn d.on (onSpan e.members) }
    else d)

/-- A pulsed lane of a tile of the handover set is not at its boundary at `t`: the end of the firing window that contains
it, none where the window has no end (02 R91). PWM lanes and disabled lanes do not constrain T_h,
whatever they hold (02 R92). -/
def State.windowAt (s : State) (t : Int) : Option (Option Int) :=
  let inSet (p : Nat) : Bool := s.rbit R.LDR_SET (p / 8) && (match s.logicalOf p with
    | some n => !s.isPwm n
    | none => s.isSpare p)
  let ofCal := (List.range 160).filterMap fun n =>
    match s.physOf n with
    | some p =>
      if inSet p then
        ((s.cal n).find? fun e => !e.held && decide (e.opn ≤ t) && (match e.close with
          | none => true
          | some c => decide (t < c + s.releaseOf p))).map fun e => e.close.map fun c => c + s.releaseOf p
      else none
    | none => none
  let ofCom := s.stitch.committed.filterMap fun c =>
    if inSet c.phys && decide (c.opn ≤ t) && (match c.close with
      | none => true
      | some x => decide (t < x + s.releaseOf c.phys)) then some (c.close.map fun x => x + s.releaseOf c.phys)
    else none
  let ofFir := (List.range 160).filterMap fun p =>
    match (Tab.get (fun _ => LaneSt.init) s.lanes p).firing with
    | some f =>
      let e := match f.endAt with
        | some x => some x
        | none => f.close.map fun x => x + (fld f.prof.release 0 24 : Int) * 10
      if inSet p && decide (f.opn ≤ t) && (match e with
        | none => true
        | some x => decide (t < x)) then some e else none
    | none => none
  (ofCal ++ ofCom ++ ofFir).head?

/-- The search of 02 R92 from `t` on: the earliest grid instant at which every pulsed lane of the set is at its
boundary, none where a window has no end or the fuel runs out. -/
def State.searchTh (s : State) : Nat → Int → Option Int
  | 0, _ => none
  | fuel + 1, t =>
    match s.windowAt t with
    | none => some t
    | some none => none
    | some (some e) => s.searchTh fuel (up10 e)

/-- The loader's T_h takes a value, none while the search waits; LDR_TH shows it once it is final (02 R93). -/
def State.setTh (s : State) (t : Option Int) : State :=
  let s1 := { s with ldr := { s.ldr with th := t } }
  match t with
  | some x => if s.ldrState = 5 then (s1.setReg R.LDR_TH_LO (loW x)).setReg R.LDR_TH_HI (hiW64 x) else s1
  | none => s1

/-- The last T_h that a handover armed now may still take (02 R96). -/
def State.thLimit (s : State) : Int := (s.reg64 R.LDR_ARM_DT_LO : Int) + 100000000

/-- The search for T_h of a lane handover set, from the later of the end of LOADING and the present DT, plus 20 µs (02
R92). A T_h more than 100 ms after ARM is never final: it waits for a calendar change or for refusal. -/
def State.findTh (s : State) : Option Int :=
  s.searchTh 12000 (up10 (max ((s.ldr.loadEnd : Int) + 20000) (s.dtI + 20000)))

/-- A lane's physical lane, of the old or the new map, lies in a tile of the set. -/
def State.laneInSet (s : State) (n : Nat) : Bool :=
  match s.physOf n with
  | some p => s.rbit R.LDR_SET (p / 8)
  | none => false

/-- A calendar of a lane in the set has changed before T_h is final: a new search, counted when T_h moves (02 R93). -/
def State.research (s : State) (n : Nat) : State :=
  if s.ldrState = 4 ∧ s.rfld R.LDR_SET 20 2 = 0 ∧ s.laneInSet n then
    let t := s.findTh
    (s.setTh t).when (decide (t ≠ s.ldr.th)) fun u => u.count R.LDR_RESEARCH 1
  else s

/-- Committed pulses of group `g` whose peak windows overlap [t, t + w) (R206, R207). -/
def State.overlapping (s : State) (g : Nat) (t w : Int) : Nat :=
  (s.stitch.committed.filter fun c =>
    c.phys / 8 == g && decide (c.opn < t + w) && decide (t < c.opn + s.boostAt c.phys c.opn)).length

/-- Fewer than K peak windows of the group overlap that of a pulse of logical lane `n` that opens at `t`, on the physical lane that
carries it out then (R207, 02 R98). -/
def State.peakFree (s : State) (n : Nat) (t : Int) : Bool :=
  match s.physAt n t with
  | some p => decide (s.overlapping (p / 8) t (s.boostAt p t) < s.rfld (R.STITCH_GRP_CFG (p / 8)) 16 4)
  | none => true

/-- Candidate open instants of a stagger, rising: the pulse's own, T_h, and the ends of the other peak windows (R207: the search gives
the first grid instant; the count falls only at one of these). -/
def State.candidates (s : State) (o lim : Int) : List Int :=
  let ends := (s.stitch.committed.map fun c => up10 (c.opn + s.boostAt c.phys c.opn)) ++ s.ldr.th.toList
  sortBy (fun a b => decide (a ≤ b)) (o :: (ends.filter fun t => decide (o < t) && decide (t ≤ lim)))

/-- Records of committed pulses whose close instant and peak window have passed are dropped. -/
def State.prune (s : State) : State :=
  s.setCommitted (s.stitch.committed.filter fun c => (match c.close with
    | none => true
    | some x => decide (s.dtI < x)) || decide (s.dtI < c.opn + s.boostAt c.phys c.opn))

/-- A pulse is sent to its tile and recorded (R191, R195, R212), and the lane delivers from it on (04 R169). A failed transfer
removes the entry. -/
def State.issue (s : State) (x : Bool) (n p : Nat) (e : Entry) (contended : Bool) : State :=
  let on := onSpan e.members
  let q : TilePulse := ⟨e.opn, e.close, contended, e.late, on.isSome, s.latOf n .opening⟩
  let kept := (e.members.filter Member.fire).map fun m =>
    (⟨m.tag, m.kind == .immediate, s.memOpen n m, s.memClose n m⟩ : Kept)
  let r := s.tileTake p q
  if x && r.1 then
    (r.2.setCommitted (s.stitch.committed ++ [⟨n, p, e.opn, e.close, e.members.any fun m => m.kind == .sect, on, kept⟩])).when
      on.isNone fun t => t.sprayOn n ⟨e.opn, e.opn + s.latOf n .opening * 10 + s.laneDelay n,
        e.close.map fun c => c + s.latOf n .closing * 10 + s.laneDelay n⟩
  else (s.count R.STITCH_ISSUE_FAIL 1).event R.STITCH_IRQ_STAT 6

/-- The group's part of a commit (R206–R209): the pulse is delayed within MAX_STAGGER until fewer than K peak windows of
its group overlap its own, or committed CONTENDED at its own open instant. -/
def State.stagger (s : State) (n p : Nat) (e : Entry) : State × Entry × Bool :=
  let g := p / 8
  let lim := e.opn + (s.rfld (R.STITCH_GRP_CFG g) 0 16 : Int) * 10
  match (s.candidates e.opn lim).find? (s.peakFree n) with
  | some t =>
    let e1 := { e with opn := t, close := e.close.map fun c => max c (t + s.minPulse n) }
    if e.opn < t then
      let d := ((t - e.opn) / 10).toNat
      let s1 := s.count (R.STITCH_GRP_STAGGERED g) 1
      (s1.setReg (R.STITCH_GRP_STAGGER_MAX g) (wordN (max d (s1.reg (R.STITCH_GRP_STAGGER_MAX g)).toNat)), e1, false)
    else (s, e1, false)
  | none => ((s.count (R.STITCH_GRP_CONTENTION g) 1).event R.STITCH_IRQ_STAT 4, e, true)

/-- The on-interval of a PWM chain is committed: the next one is due (R220). -/
def State.chainCommitted (s : State) (n : Nat) (e : Entry) : State :=
  match onSpan e.members with
  | none => s
  | some (a, _) => s.setChains n ((s.chains n).map fun q =>
      if q.due.isSome && decide (q.first ≤ a) && decide (a < q.fin) then { q with due := some s.dtI } else q)

/-- An entry fails its check, and its members are discarded (R183). -/
def State.broken (s : State) (n : Nat) : State :=
  ((s.count R.STITCH_INTEGRITY 1).event R.STITCH_IRQ_STAT 3).fault srcStitchIntegrity n 0

/-- The entries of a lane's calendar are read, and those whose parity fails are discarded (R182, R183). Whatever works on a lane's
calendar reads all its entries (DESIGN CHOICE, log 194). -/
def State.sift (s : State) (n : Nat) : State :=
  let l := (s.cal n).filter fun e => !e.sound
  if l.isEmpty then s
  else forL (fun e t => (t.chainCommitted n e).broken n) l (s.setCal n ((s.cal n).filter fun e => e.sound))

/-- Words of the entries `l`, each a lane and a place on its calendar, have lost their parity. -/
def State.upset (s : State) (l : List (Nat × Nat)) : State :=
  forL (fun z t => t.setCal z.1 ((t.cal z.1).mapIdx fun i e => if i = z.2 then { e with sound := false } else e)) l s

/-- The fire members of an entry whose lane has no physical lane are dropped as unmapped (R213). -/
def State.dropUnmapped (s : State) (l : List Member) : State :=
  let f := (l.filter Member.fire).length
  s.when (decide (0 < f)) fun t => (t.count R.STITCH_UNMAPPED f).event R.STITCH_IRQ_STAT 7

/-- A commit (R182, R183, R191–R196): the entry, already off the calendar, is checked, discarded where its lane is in its
fail-safe state, staggered and sent to the physical lane that is in force at its open instant (02 R98). `x` says that the
transfers are delivered. -/
def State.commit (s0 : State) (x : Bool) (n : Nat) (e : Entry) : State :=
  let s := s0.chainCommitted n e
  if !(e.sound && s.secondPath n e) then s.broken n
  else match s.physAt n e.opn with
    | none => s.dropUnmapped e.members
    | some p =>
      if (s.safeOn (chLane p)).isSome then s.count R.STITCH_SAFE_DISCARD 1
      else
        let r := s.prune.stagger n p e
        match r.1.physAt n r.2.1.opn with
        | none => r.1.dropUnmapped e.members
        | some p1 => r.1.issue x n p1 r.2.1 r.2.2

/-- The arrival of a fire member has passed (R203). A spot member carries its arrival less the delivery delay D (04 R162). -/
def State.passed (s : State) (n : Nat) (m : Member) : Bool :=
  match m.kind with
  | .belt => match s.beltPos m.stream with
    | some p => decide (m.pLead ≤ p)
    | none => false
  | .sect => false
  | .pwm => false
  | .spot => decide (m.lead + s.laneDelay n * 256 ≤ s.dtI * 256)
  | _ => decide (m.lead ≤ s.dtI * 256)

/-- The entry enters the calendar. -/
def State.enter (s : State) (n : Nat) (e : Entry) : State := s.setCal n (insertE (s.noted n e) (s.cal n))

/-- The late-target rules (R202–R205), and the calendar. -/
def State.settle (s : State) (x : Bool) (n : Nat) (e : Entry) : State :=
  if e.opn < s.dtI + 10000 then
    let gone := e.members.filter fun m => m.fire && s.passed n m
    let left := e.members.filter fun m => !(m.fire && s.passed n m)
    let s1 := s.when (!gone.isEmpty) fun t =>
      (t.count (R.STITCH_LANE_LATE_DROP n) gone.length).event R.STITCH_IRQ_STAT 0
    if left.isEmpty && !e.opq then s1
    else
      let w := if gone.isEmpty then (s1, e) else s1.widen n (s1.recomputed n { e with members := left })
      if w.2.opn < w.1.dtI + 10000 then
        let o := up10 (w.1.dtI + 2000)
        let e1 := { w.2 with opn := o, close := w.2.close.map fun c => max c (o + w.1.minPulse n), late := true }
        let s2 := if e.late then w.1 else (w.1.count (R.STITCH_LANE_LATE_FIRE n) 1).event R.STITCH_IRQ_STAT 0
        s2.commit x n (s2.noted n e1)
      else
        let r := w.1.mergeLoop n 70 w.2
        r.1.enter n r.2.1
  else s.enter n e

/-- The pool has no record for a fire member (R177). -/
def State.poolFull (s : State) : State := (s.count R.STITCH_POOL_FULL 1).event R.STITCH_IRQ_STAT 2

/-- How many entries of a lane's calendar are of fire origin (R179). -/
def State.fireEntries (s : State) (n : Nat) : Nat := ((s.cal n).filter fun z => z.members.all Member.fire).length

/-- The committed pulse of the lane that an entry merges with (R190). -/
def State.clash (s : State) (n : Nat) (e : Entry) : Option Commit :=
  (s.lastCommit n).filter fun c => s.mergesAfter n c.opn c.close e.opn

/-- The close of a committed pulse may be amended to take in an entry (R190, R194). -/
def State.amendable (s : State) (c : Commit) (e : Entry) : Bool := s.aheadClose c.close && s.aheadClose (maxClose c.close e.close)

/-- The entry deferred behind a committed pulse, and widened (R190). -/
def State.behind (s : State) (n : Nat) (c : Commit) (e : Entry) : Entry :=
  s.wide n { e with opn := max ((c.close.getD 0) + s.gapOf n c.opn) (c.opn + rateSpacing), deferred := true }

/-- An entry as widening and a committed pulse leave its instants, before it merges with others (R188, R190). -/
def State.fitted (s : State) (n : Nat) (e : Entry) : Entry :=
  let w := s.wide n e
  match s.clash n w with
  | some c => if s.amendable c w then w else s.behind n c w
  | none => w

/-- An entry, off the calendar and with its instants computed, is widened, coalesced, deferred behind a committed pulse,
counted out of a full calendar or pool, and put on the calendar or treated as late (R177, R180, R186–R190, R202–R204).
`new` says that it is a new fire entry, `listed` that the pool had a record for it. A deferred entry coalesces again with the
entries it has come near (R186; DEDUCED, log 146). -/
def State.placeE (s0 : State) (x : Bool) (n : Nat) (new listed : Bool) (e0 : Entry) : State :=
  let w := s0.widen n e0
  let r := w.1.mergeLoop n 70 w.2
  let s := r.1
  let e := r.2.1
  let go (t : State) (z : Entry) (k : Nat) : State :=
    if new && k == 0 && !listed then
      t.poolFull.count (R.STITCH_LANE_OVERFLOW n) 1
    else if new && k == 0 && decide (62 ≤ t.fireEntries n) then
      (t.count (R.STITCH_LANE_OVERFLOW n) 1).event R.STITCH_IRQ_STAT 2
    else (t.when (!listed) State.poolFull).settle x n z
  match s.clash n e with
  | some c =>
    if s.amendable c e then
      ((s.absorb x c e (maxClose c.close e.close)).count (R.STITCH_LANE_MERGED n) 1).when (!listed && 0 < r.2.2) State.poolFull
    else
      let d := s.behind n c e
      let s1 := s.when (d.widened && !e.widened) fun t => t.count (R.STITCH_LANE_WIDENED n) 1
      let s2 := s1.when (!e.deferred) fun t => (t.count (R.STITCH_LANE_DEFERRED n) 1).event R.STITCH_IRQ_STAT 1
      let m := s2.mergeLoop n 70 d
      go m.1 m.2.1 (r.2.2 + m.2.2)
  | none => go s e r.2.2

/-- The duty in force for a logical lane (R220). -/
def State.dutyOf (s : State) (n : Nat) : Nat :=
  if s.rfld (R.GND_LANE_CFG n) 0 2 = 1 then Tab.get (fun _ => 0) s.stitch.duty n
  else s.rfld (R.STITCH_LANE_DUTY n) 0 16

/-- The PWM period T and grid offset φ of a logical lane, ns (R218), moved by the steps of DT since (11 R466). -/
def State.pwmT (s : State) (n : Nat) : Int := (s.rfld (R.STITCH_LANE_PWM n) 16 16 : Int) * 10000
def State.pwmPhi (s : State) (n : Nat) : Int :=
  let ph := s.rfld (R.STITCH_LANE_PWM n) 0 16
  let p := if s.rbit (R.STITCH_LANE_CFG n) 8 then (ph + 8192 * (((s.physOf n).getD 0) % 8)) % 65536 else ph
  roundDiv ((p : Int) * s.pwmT n) 655360 * 10 + s.stitch.gridOfs

/-- The last instant of the grid k·`t` + `phi` at or before `a`, and its first at or after `a`. -/
def gridFloor (t phi a : Int) : Int := if t = 0 then a else (a - phi) / t * t + phi
def gridCeil (t phi a : Int) : Int := -gridFloor t (-phi) (-a)

/-- The grid that a write has replaced on a lane, moved by the steps of DT, and the first instant of the new grid (R223). -/
def State.oldGrid (s : State) (n : Nat) : Option (OldGrid × Int) :=
  (Tab.get (fun _ => none) s.stitch.grids n).map fun (g : OldGrid) =>
    ({ g with phi := g.phi + s.stitch.gridOfs }, gridCeil (s.pwmT n) (s.pwmPhi n) g.fin)

/-- The period that contains instant `a`: its beginning, its T, and the next grid instant (R218, R223). -/
def State.period (s : State) (n : Nat) (a : Int) : Int × Int × Int :=
  let new := gridFloor (s.pwmT n) (s.pwmPhi n) a
  match s.oldGrid n with
  | some (o, sw) =>
    if a < sw then
      let g := min (gridFloor o.t o.phi a) (o.fin - o.t)
      (g, o.t, if g + o.t < o.fin then g + o.t else sw)
    else (new, s.pwmT n, new + s.pwmT n)
  | none => (new, s.pwmT n, new + s.pwmT n)

/-- The first grid instant at or after `a`. -/
def State.gridFrom (s : State) (n : Nat) (a : Int) : Int :=
  let p := s.period n a
  if p.1 = a then a else p.2.2

/-- The period or the phase of a PWM lane has been written (R223): the grid of `old` holds to the end of the present period, and the
new one from its first instant at or after it. -/
def State.gridWritten (s old : State) (n : Nat) : State :=
  let keep := match old.oldGrid n with
    | some (_, sw) => decide (s.dtI < sw)
    | none => false
  if keep || (s.pwmT n == old.pwmT n && s.pwmPhi n == old.pwmPhi n) then s
  else
    let g : OldGrid := ⟨old.pwmT n, old.pwmPhi n - old.stitch.gridOfs, (old.period n old.dtI).2.2⟩
    { s with stitch := { s.stitch with grids := Tab.set (fun _ => none) s.stitch.grids n (some g) } }

/-- The on-time of a period of length `t` at duty `d`, 1/256 ns (R219). -/
def onTime (t : Int) (d : Nat) : Int := roundDiv ((d : Int) * t) 256

/-- The close of an on-interval that ends at `b`, in 1/256 ns: a section-off with its valve-close instant within closes it at the
issued close instant, as it stands (R222). -/
def pwmClose (b : Int) (stop : Option (Int × Int)) : Int × Bool :=
  match stop with
  | some (w, c) => if w * 256 ≤ b then (c * 256, true) else (b, false)
  | none => (b, false)

/-- An on-interval whose valve-open interval is [a, b], in 1/256 ns, is placed (R219–R222), and DUTY_NOW shows its
duty. -/
def State.placePwm (s : State) (x : Bool) (n d : Nat) (a b : Int) (stop : Option (Int × Int)) : State :=
  let c := pwmClose b stop
  let m : Member := ⟨.pwm, 0, 0, a, some c.1, false, c.2, 0, 0, 0, 0⟩
  let s1 := s.setFld (R.STITCH_LANE_DUTY n) 16 16 d
  s1.placeE x n false true ⟨false, s1.memOpen n m, s1.memClose n m, [m], false, false, false, false, (0, 0), true⟩

/-- The next on-interval of a chain is due to be placed: its time has come, and the one before has left the calendar. -/
def State.chainDue (s : State) (n : Nat) (q : PwmAt) : Bool :=
  (match q.due with
    | some t => decide (t ≤ s.dtI)
    | none => false) &&
  !(s.cal n).any fun e => e.members.any fun m => m.kind == .pwm && decide (m.lead < q.fin * 256)

/-- The chains of a PWM lane go on (R220): where the next period is due, its on-interval is placed with the duty in force. At
duty 0 the period has no entry and the chain waits for a duty (log 12). A chain ends where the next period would begin at
or after the section-off (R222). -/
def State.pwmStep (x : Bool) (n : Nat) : Nat → State → State
  | 0, s => s
  | fuel + 1, s =>
    if !(s.isPwm n && (s.physOf n).isSome) then s
    else match (s.chains n).find? (s.chainDue n) with
      | none => s
      | some q =>
        let g := s.gridFrom n q.fin
        let d := s.dutyOf n
        if (q.stop.map fun w => decide (w.1 ≤ g)).getD false then
          State.pwmStep x n fuel (s.setChains n ((s.chains n).filter fun z => z != q))
        else if d = 0 then
          State.pwmStep x n fuel ((s.putChain n q { q with due := none }).setFld (R.STITCH_LANE_DUTY n) 16 16 0)
        else
          let p := s.period n g
          let s1 := s.putChain n q { q with due := some (g - s.latOf n .opening * 10 - 10000), fin := p.2.2 }
          State.pwmStep x n fuel (s1.placePwm x n d (g * 256) (g * 256 + onTime p.2.1 d) q.stop)

/-- What follows a change of a lane's calendar: the PWM chains, and the search for a handover instant (02 R93). -/
def State.after (s : State) (x : Bool) (n : Nat) : State := (State.pwmStep x n 8 s).research n

/-- The PWM chains of a lane whose calendar is as it was: a placement causes a new search (02 R93). -/
def State.pwmAfter (s : State) (x : Bool) (n : Nat) : State :=
  let t := State.pwmStep x n 8 s
  t.when (decide (t.stitch ≠ s.stitch)) fun u => u.research n

/-- A waiting chain takes up a duty that is no longer 0, at the first grid instant at or after the present DT (log 12). -/
def State.pwmResume (s : State) (x : Bool) (n : Nat) : State :=
  (s.setChains n ((s.chains n).map fun q =>
    if q.due.isNone then { q with due := some s.dtI, fin := max q.fin s.dtI } else q)).pwmAfter x n

/-- A lane's timed entries are recomputed and placed again in order (R175, R189); HELD entries stay. -/
def State.recomputeLane (s0 : State) (x : Bool) (n : Nat) : State :=
  let s := s0.sift n
  let l := (s.cal n).filter fun e => !e.held
  forL (fun e t => t.placeE x n false true (t.recomputed n e)) l (s.setCal n ((s.cal n).filter fun e => e.held))

/-- An entry, off the calendar, whose members have changed: recomputed and placed again, or gone where no member is left.
An OPAQUE entry keeps its unlisted members, and an entry that still holds a BELT member of a stopped belt stays HELD. -/
def State.replaceE (s : State) (x : Bool) (n : Nat) (e : Entry) : State :=
  if e.members.isEmpty then (if e.opq then s.enter n e else s)
  else if e.held && e.members.any fun m => m.kind == .belt then s.enter n e
  else s.placeE x n false true (s.recomputed n e)

/-- A target or action naming lane `n` is dropped where the lane is unmapped or disabled (R213): none where it is not. -/
def State.dropped (s : State) (n : Nat) : Option State :=
  if (s.physOf n).isNone then some ((s.count R.STITCH_UNMAPPED 1).event R.STITCH_IRQ_STAT 7)
  else if !(s.rbit R.STITCH_CTRL 0 && s.rbit (R.STITCH_LANE_CFG n) 0) then
    some ((s.count R.STITCH_DISABLED_DROP 1).event R.STITCH_IRQ_STAT 7)
  else none

/-- The member a target brings to a lane's calendar. -/
def Target.member (t : Target) : Member :=
  ⟨t.kind, t.tag, t.stream, t.lead, some t.trail, t.kind == .immediate, t.kind == .immediate, t.pLead, t.pTrail, t.key, 0⟩

/-- A fire target is placed on one lane. A HELD target takes an entry without instants (R127, R198). -/
def State.placeTarget (s0 : State) (x : Bool) (t : Target) (n : Nat) : State :=
  let s := s0.sift n
  match s.dropped n with
  | some s1 => s1
  | none =>
    let m := t.member
    let free := s.poolFree
    if t.held then
      if !free then s.poolFull.count (R.STITCH_LANE_OVERFLOW n) 1
      else if 62 ≤ s.fireEntries n then (s.count (R.STITCH_LANE_OVERFLOW n) 1).event R.STITCH_IRQ_STAT 2
      else (s.enter n ⟨true, 0, none, [m], false, false, false, false, (0, 0), true⟩).research n
    else
      (s.placeE x n true free ⟨false, s.memOpen n m, s.memClose n m, if free then [m] else [], !free, false, false,
        false, (0, 0), true⟩).after x n

/-- Two instant intervals overlap; an open-ended one has no end. -/
def overlaps (a : Int) (b : Option Int) (c : Int) (d : Option Int) : Bool :=
  (match d with
    | some y => decide (a < y)
    | none => true) &&
  (match b with
    | some y => decide (c < y)
    | none => true)

/-- A cancel matches an uncommitted member (R210). A MODEL 0 cancel matches an IMMEDIATE member, and one of the GROUND
block a spot member, whatever its instants; a cancel or member that is HELD has no instants, and belt positions stand
for them (log 13). -/
def State.cancels (s : State) (t : Target) (n : Nat) (held : Bool) (m : Member) : Bool :=
  m.fire && m.tag == t.tag &&
  match t.kind with
  | .immediate => m.kind == .immediate
  | .spot => m.kind == .spot
  | _ =>
    if m.kind == .belt && (t.held || held) then
      m.stream == t.stream && decide (m.pLead < t.pTrail) && decide (t.pLead < m.pTrail)
    else !t.held && overlaps (s.memOpen n m) (s.memClose n m) (s.memOpen n t.member) (s.memClose n t.member)

/-- A cancel matches a fire member that a committed pulse listed (R212). -/
def State.cancelsKept (s : State) (t : Target) (n : Nat) (k : Kept) : Bool :=
  k.tag == t.tag &&
  match t.kind with
  | .immediate => k.immediate
  | _ => !t.held && overlaps k.opn k.close (s.memOpen n t.member) (s.memClose n t.member)

/-- A cancel on one lane (R210–R213). A committed pulse is tested until its close instant (R212). -/
def State.cancelLane (s0 : State) (x : Bool) (t : Target) (n : Nat) : State :=
  let s := s0.sift n
  match s.dropped n with
  | some s1 => s1
  | none =>
    let hit (e : Entry) : List Member := e.members.filter fun m => s.cancels t n e.held m
    let l := (s.cal n).filter fun e => !(hit e).isEmpty
    if l.isEmpty then
      if s.stitch.committed.any fun c => c.lane == n && (match c.close with
          | none => true
          | some y => decide (s.dtI < y)) && c.kept.any fun k => s.cancelsKept t n k then
        s.count R.STITCH_CANCEL_LATE 1
      else (s.count R.STITCH_CANCEL_MISS 1).event R.STITCH_IRQ_STAT 5
    else
      let s1 := (s.setCal n ((s.cal n).filter fun e => (hit e).isEmpty)).count R.STITCH_CANCELLED
        (l.map fun e => (hit e).length).sum
      (forL (fun e u => u.replaceE x n { e with members := e.members.filter fun m => !s.cancels t n e.held m }) l s1).after x n

/-- A lane's section state at an instant, by the actions accepted so far (R217). -/
def State.sectAt (s : State) (n : Nat) (t : Int) : Bool :=
  (((s.sect n).due.filter fun d => decide (d.1 ≤ t)).getLast?.map (·.2)).getD (s.sect n).shown

/-- The section state shown (STITCH_CAL_STAT.SECTION; R217). -/
def State.sectShown (s : State) (n : Nat) : Bool := s.sectAt n s.dtI

/-- A section action is accepted: the lane's section state changes at the action's instant (R217). -/
def State.askSect (s : State) (n : Nat) (on : Bool) (t : Int) : State :=
  s.setSect n ⟨s.sectShown n,
    putBy (fun a b => decide (a.1 < b.1)) (t, on) ((s.sect n).due.filter fun d => !decide (d.1 ≤ s.dtI))⟩

/-- An instant less than 10 µs ahead is issued at the first grid instant at or after the present DT plus 2 µs (R205). -/
def State.issued (s : State) (t : Int) : Int := if t < s.dtI + 10000 then up10 (s.dtI + 2000) else t

/-- The first on-interval of a section that opens a PWM lane at the issued instant `oi` (R220, R221). -/
def State.chainStart (s : State) (x : Bool) (n : Nat) (oi : Int) : State :=
  let u := oi + s.latOf n .opening * 10
  let d := s.dutyOf n
  let p := s.period n u
  let e := p.1 * 256 + onTime p.2.1 d
  let fin := if u * 256 ≤ e then e else min (u * 256 + onTime p.2.1 d) (p.2.2 * 256)
  let add (due : Option Int) : State :=
    (s.setChains n (s.chains n ++ [⟨oi, u, due, p.2.2, none⟩])).sprayOn n ⟨oi, u + s.laneDelay n, none⟩
  if d = 0 then (add none).setFld (R.STITCH_LANE_DUTY n) 16 16 0
  else (add (some (oi - 10000))).placePwm x n d (u * 256) fin none

/-- A section-on on one lane (R215–R217, R221): an open-ended entry on a PULSE lane, and the first on-interval on a PWM
lane. It has no effect where the state is already on at its instant (R217; DEDUCED, log 147). -/
def State.sectOn (s0 : State) (x : Bool) (tag : Nat) (arr : Int) (raw : Bool) (n : Nat) : State :=
  let s := s0.sift n
  match s.dropped n with
  | some s1 => s1
  | none =>
    let o := s.memOpen n ⟨.sect, tag, 0, arr, none, raw, raw, 0, 0, 0, 0⟩
    let oi := s.issued o
    let m : Member := ⟨.sect, tag, 0, arr, none, raw, raw, 0, 0, 0, oi⟩
    if s.sectAt n oi then s
    else
      let s1 := s.askSect n true oi
      (if s.isPwm n then s1.chainStart x n oi
        else s1.placeE x n false true ⟨false, o, none, [m], false, false, false, false, (0, 0), true⟩).after x n

/-- The close of a committed pulse for a section-off whose issued close instant is asked as `c` (R194, R205, R216). -/
def State.closeCommitted (s : State) (x : Bool) (k : Commit) (c : Int) : State :=
  if s.aheadClose k.close then
    let t := max (s.issued c) (k.opn + s.minPulse k.lane)
    let s1 := s.when (decide (c < s.dtI + 10000)) fun u => u.count R.STITCH_LATE_CLOSE 1
    if k.close = some t then s1 else s1.amend x k (some t)
  else s.when (decide (k.close ≠ some c)) fun u => u.count R.STITCH_LATE_CLOSE 1

/-- An entry of the calendar whose section member or on-interval a section-off has closed or removed, with its members then (R205,
R216, R222): it lasts no longer than its members ask. -/
def State.closeEntry (s : State) (x : Bool) (n : Nat) (e : Entry) (ms : List Member) (late : Bool) : State :=
  let s1 := (s.setCal n (removeE e (s.cal n))).when late fun u => u.count R.STITCH_LATE_CLOSE 1
  if ms.isEmpty then s1.replaceE x n { e with members := ms }
  else
    let r := s1.recomputed n { e with members := ms, opq := false }
    s1.placeE x n false true { r with opq := e.opq, opn := if e.opq then min e.opn r.opn else r.opn }

/-- A section-off with the issued close instant `ci` on a PWM lane (R222): the chain stops, on-intervals that would begin at or after
the valve-close instant go, and the one that contains it closes at `ci`. A section that begins later is left alone. A committed
on-interval that begins after w cannot be removed, and closes as early as R194 lets it (DESIGN CHOICE, log 195). -/
def State.pwmOff (s : State) (x : Bool) (n : Nat) (c ci : Int) (late : Bool) : State :=
  let w := ci + s.latOf n .closing * 10
  let later := ((s.chains n).filter fun q => decide (ci < q.asked)).head?.map (·.first)
  let mine (m : Member) : Bool := m.kind == .pwm && (match later with
    | some f => decide (m.lead < f * 256)
    | none => true)
  let cut (m : Member) : Bool := mine m && decide (m.lead < w * 256) && (m.trail.map fun t => decide (w * 256 ≤ t)).getD true
  let fate (m : Member) : Option Member :=
    if mine m && decide (w * 256 ≤ m.lead) then none
    else if cut m then
      some { m with trail := some ((if late then max ci (s.memOpen n m + s.minPulse n) else ci) * 256), rawClose := true }
    else some m
  let s1 := (s.setChains n ((s.chains n).map fun q =>
    if q.stop.isNone && decide (q.asked ≤ ci) then { q with stop := some (w, ci) } else q)).sprayOff n
      (fun y => y.stop.isNone && decide (y.opn ≤ ci)) (some (w + s.laneDelay n))
  let hit := (s1.cal n).filter fun e => e.members.any fun m => fate m != some m
  let s2 := forL (fun e t => t.closeEntry x n e (e.members.filterMap fate) (late && e.members.any cut)) hit s1
  forL (fun k t => t.closeCommitted x k c) (s2.stitch.committed.filter fun k => k.lane == n &&
    (k.on.map fun v => (later.map fun f => decide (v.1 < f)).getD true && decide (w ≤ v.2)).getD false) s2

/-- A section-off with the issued close instant `ci` on a PULSE lane (R216): the open-ended section member of a section-on that has come by then on the calendar closes, and
where it is committed already its pulse. -/
def State.pulseOff (s : State) (x : Bool) (n : Nat) (arr : Int) (raw : Bool) (c ci : Int) (late : Bool) : State :=
  let mine (m : Member) : Bool := m.kind == .sect && m.trail.isNone && decide (m.asked ≤ ci)
  match (s.cal n).find? fun e => e.members.any mine with
  | some e =>
    s.closeEntry x n e (e.members.map fun m =>
      if !mine m then m
      else if late then { m with trail := some (max ci (s.memOpen n m + s.minPulse n) * 256), rawClose := true }
      else { m with trail := some arr, rawClose := raw }) late
  | none =>
    let l := s.stitch.committed.filter fun (k : Commit) => k.lane == n && k.sect && (match k.close with
      | none => true
      | some t => decide (s.dtI < t))
    match ((l.filter fun k => k.close.isNone) ++ l).head? with
    | some k => s.closeCommitted x k c
    | none => s

/-- A section-off on one lane (R205, R215–R217, R222). It has no effect where the state is off at its instant (R217; DEDUCED, log
147). -/
def State.sectOff (s0 : State) (x : Bool) (arr : Int) (raw : Bool) (n : Nat) : State :=
  let s := s0.sift n
  match s.dropped n with
  | some s1 => s1
  | none =>
    let c := (s.memClose n ⟨.sect, 0, 0, arr, some arr, raw, raw, 0, 0, 0, 0⟩).getD 0
    let late := decide (c < s.dtI + 10000)
    let ci := s.issued c
    if !s.sectAt n ci then s
    else
      let s1 := s.askSect n false ci
      (if s.isPwm n then s1.pwmOff x n c ci late else s1.pulseOff x n arr raw c ci late).after x n

/-- A spot pulse on one lane takes a new interval or is withdrawn, where its member is still on the calendar (R200). -/
def State.respot (s0 : State) (x : Bool) (n key : Nat) (iv : Option (Int × Int)) : State :=
  let s := s0.sift n
  let mine (m : Member) : Bool := m.kind == .spot && m.key == key
  match (s.cal n).find? fun e => e.members.any mine with
  | none => s
  | some e =>
    let s1 := s.setCal n (removeE e (s.cal n))
    let ms := match iv with
      | some (a, b) => e.members.map fun m => if mine m then { m with lead := a, trail := some b } else m
      | none => e.members.filter fun m => !mine m
    (s1.replaceE x n { e with members := ms }).after x n

/-- The members of stream `k` take the arrivals predicted now (R197). -/
def State.retimed (s : State) (k : Nat) (m : Member) : Member :=
  if m.kind == .belt && m.stream == k then
    match s.beltWhen k m.pLead, s.beltWhen k m.pTrail with
    | some a, some b => { m with lead := a, trail := some b }
    | _, _ => m
  else m

/-- The belt of a stream runs, by its latest sample (R127, R198). -/
def State.beltOn (s : State) (k : Nat) : Bool :=
  match s.beltMove k with
  | some (_, d) => s.beltRuns k d
  | none => false

/-- The BELT entries of stream `k` on one lane are re-timed at a belt sample, become HELD below BELT_VMIN, and receive
instants when the speed returns (R197, R198). An entry is a BELT entry of every stream it holds a BELT member of (DEDUCED, log
148). -/
def State.retimeLane (s0 : State) (x : Bool) (k n : Nat) : State :=
  let s := s0.sift n
  let mine (e : Entry) : Bool := e.members.any fun m => m.kind == .belt && m.stream == k
  let l := (s.cal n).filter mine
  if l.isEmpty then s
  else
    let s1 := s.setCal n ((s.cal n).filter fun e => !mine e)
    (forL (fun e t =>
      let e0 := { e with members := e.members.map (t.retimed k) }
      if !t.beltOn k then t.enter n { e with held := true, opn := 0, close := none }
      else if e.held && e.members.any (fun m => m.kind == .belt && !t.beltOn m.stream) then t.enter n e0
      else
        let e1 := t.recomputed n e0
        (t.when (e.held || (t.fitted n e1).opn != e.opn) fun u => u.count R.STITCH_RETIME 1).placeE x n false true e1) l
      s1).after x n

/-- FLUSH on one lane (R214). -/
def State.flushLane (s0 : State) (n : Nat) : State :=
  let s := s0.sift n
  let l := s.cal n
  forL (fun e t =>
    let f := (e.members.filter Member.fire).length + b2n e.opq
    let left := e.members.filter fun m => !m.fire
    let t1 := t.count R.STITCH_FLUSHED f
    if left.isEmpty then t1
    else if f = 0 then t1.enter n e
    else t1.placeE true n false true (t1.recomputed n { e with members := left, opq := false }))
    l (s.setCal n [])

/-- A new lane map leaves a logical lane unmapped (R213): its uncommitted entries go, and its section state is off. -/
def State.unmapLane (s : State) (n : Nat) : State :=
  ((((s.dropUnmapped ((s.cal n).map (·.members)).flatten).setCal n []).setSect n SectSt.init).setChains n []).sprayOff n
    (fun y => y.stop.isNone) (some s.dtI)

/-- The counters of Stitch (05 Note): the block's, the groups' with their largest delay, and the lanes'. -/
def stitchCounters : List Nat :=
  [R.STITCH_UNMAPPED, R.STITCH_DISABLED_DROP, R.STITCH_INTEGRITY, R.STITCH_CANCELLED, R.STITCH_CANCEL_MISS,
    R.STITCH_CANCEL_LATE, R.STITCH_LATE_CLOSE, R.STITCH_ISSUE_FAIL, R.STITCH_SAFE_DISCARD, R.STITCH_FLUSHED,
    R.STITCH_RETIME, R.STITCH_POOL_FULL, R.STITCH_FILL_HWM] ++
  ((List.range 20).map fun g => [R.STITCH_GRP_STAGGERED g, R.STITCH_GRP_CONTENTION g,
    R.STITCH_GRP_STAGGER_MAX g]).flatten ++
  ((List.range 160).map fun n => [R.STITCH_LANE_LATE_FIRE n, R.STITCH_LANE_LATE_DROP n, R.STITCH_LANE_MERGED n,
    R.STITCH_LANE_WIDENED n, R.STITCH_LANE_OVERFLOW n, R.STITCH_LANE_DEFERRED n]).flatten

/-- What a restart of island 30 clears beside its registers (R705). A PWM lane, whose section is off, delivers no more. -/
def State.stitchClear (s : State) : State :=
  let s1 := forN (fun n t => t.when (!(t.chains n).isEmpty) fun u => u.sprayOff n (fun y => y.stop.isNone) (some s.dtI)) 160 s
  { s1 with stitch := ⟨[], [], [], [], [], [], [], [], [], 0, none⟩ }

/-- The words of a captured calendar entry (R184, Tables 2 and 5). -/
def State.calWords (s : State) (n : Nat) (e : Entry) : List Word :=
  let ones : Int := -1
  let o : Int := if e.held then 0 else e.opn
  let c : Int := if e.held then 0 else e.close.getD ones
  let first := (sortBy (fun a b => decide (s.memOpen n a ≤ s.memOpen n b)) e.members).head?
  let has (k : MemKind) : Nat := b2n (e.members.any fun m => m.kind == k)
  [loW o, hiW64 o, loW c, hiW64 c,
    wordN (2 ^ 31 + has .pwm * 2 ^ 30 + b2n e.held * 2 ^ 29 + has .sect * 2 ^ 28 + has .immediate * 2 ^ 27 +
      has .belt * 2 ^ 26 + b2n e.opq * 2 ^ 25 + b2n e.widened * 2 ^ 24 + b2n e.deferred * 2 ^ 23 + b2n e.late * 2 ^ 22 +
      e.members.length * 65536 + ((first.map (·.tag)).getD 0) % 32)]

/-- A read of STITCH_CAL_OPEN_LO captures the entry that STITCH_CAL_SEL selects (R184). -/
def calCapture : ReadAct := fun s0 =>
  let n := s0.rfld R.STITCH_CAL_SEL 0 8
  let s := s0.sift n
  let w := match (s.cal n)[s.rfld R.STITCH_CAL_SEL 16 6]? with
    | some e => s.calWords n e
    | none => [0, 0, 0, 0, 0]
  (w.getD 0 0, { s with stitch := { s.stitch with capWin := some w } })

/-- The head of Stitch's inbox is taken. -/
def State.takeInbox (s : State) : State := { s with stitch := { s.stitch with inbox := s.stitch.inbox.tail } }

/-- STITCH_PLACE (R174–R190, R202–R204, R213): the fire target at the head of the inbox is placed on each of its
lanes. -/
def execStitchPlace (el : Nat) (x : Bool) (s : State) : Host.Outcome State Fault Refusal :=
  .next ((s.begin el).onIsland 30 fun t =>
    match t.stitch.inbox.head? with
    | some (.target g) => if g.cancel then t else forL (fun n u => u.placeTarget x g n) g.lanes t.takeInbox
    | _ => t)

/-- STITCH_CANCEL (R210–R212): the cancel at the head of the inbox. -/
def execStitchCancel (el : Nat) (x : Bool) (s : State) : Host.Outcome State Fault Refusal :=
  .next ((s.begin el).onIsland 30 fun t =>
    match t.stitch.inbox.head? with
    | some (.target g) => if g.cancel then forL (fun n u => u.cancelLane x g n) g.lanes t.takeInbox else t
    | _ => t)

/-- SECTION_ON (R215–R217, R221): the section-on at the head of the inbox. -/
def execSectionOn (el : Nat) (x : Bool) (s : State) : Host.Outcome State Fault Refusal :=
  .next ((s.begin el).onIsland 30 fun t =>
    match t.stitch.inbox.head? with
    | some (.sectAct true tag lanes arr raw) => forL (fun n u => u.sectOn x tag arr raw n) lanes t.takeInbox
    | _ => t)

/-- SECTION_OFF (R215–R217, R222): the section-off at the head of the inbox. -/
def execSectionOff (el : Nat) (x : Bool) (s : State) : Host.Outcome State Fault Refusal :=
  .next ((s.begin el).onIsland 30 fun t =>
    match t.stitch.inbox.head? with
    | some (.sectAct false _ lanes arr raw) => forL (fun n u => u.sectOff x arr raw n) lanes t.takeInbox
    | _ => t)

/-- DUTY_UPDATE (R220): the duty at the head of the inbox is the one in force for the next on-interval placed. -/
def execDutyUpdate (el : Nat) (x : Bool) (s : State) : Host.Outcome State Fault Refusal :=
  .next ((s.begin el).onIsland 30 fun t =>
    match t.stitch.inbox.head? with
    | some (.duty n d) =>
      let u := t.takeInbox
      ({ u with stitch := { u.stitch with duty := Tab.set (fun _ => 0) u.stitch.duty n d } }).pwmResume x n
    | _ => t)

/-- SPOT_RETIME (R200): the spot pulse at the head of the inbox is re-timed or withdrawn. -/
def execSpotRetime (el : Nat) (x : Bool) (s : State) : Host.Outcome State Fault Refusal :=
  .next ((s.begin el).onIsland 30 fun t =>
    match t.stitch.inbox.head? with
    | some (.respot n key iv) => t.takeInbox.respot x n key iv
    | _ => t)

/-- Every uncommitted entry of the logical lane mapped to physical lane `p` is recomputed (R175). -/
def State.recomputePhys (s : State) (x : Bool) (p : Nat) : State :=
  let s1 := { s with stitch := { s.stitch with changed := s.stitch.changed.filter fun q => q != p } }
  match s1.logicalOf p with
  | some l => (s1.recomputeLane x l).after x l
  | none => s1

/-- LATENCY_RECOMPUTE (R175): every uncommitted entry of the logical lane mapped to physical lane `n` is recomputed. -/
def execLatencyRecompute (el : Nat) (n : Fin 160) (x : Bool) (s : State) : Host.Outcome State Fault Refusal :=
  .next ((s.begin el).onIsland 30 fun t => t.recomputePhys x n)

/-- No entry whose commit instant coincides with that of `e` waits on a lane with a lower physical lane (R191). -/
def State.commitTurn (s : State) (n : Nat) (e : Entry) : Bool :=
  (List.range 160).all fun m =>
    match (s.cal m).head?, s.physOf m, s.physOf n with
    | some f, some q, some p => !(decide (q < p) && !f.held && f.opn / 10 == e.opn / 10)
    | _, _, _ => true

/-- STITCH_COMMIT (R182, R183, R191–R196, R206–R209): the earliest timed entry of logical lane `n` is committed once its
commit instant has come and it is its turn. A recomputation that a change of latency has called for is complete by then (R175;
DEDUCED, log 149). `hurt` are the entries whose words have lost their
parity since the last row (R182). Where none is due, a PWM chain whose next period is due goes on (R220). -/
def execStitchCommit (el : Nat) (n : Fin 160) (hurt : List (Nat × Nat)) (x : Bool) (s : State) : Host.Outcome State Fault Refusal :=
  .next ((s.begin el).onIsland 30 fun t0 =>
    let t1 := (t0.upset hurt).sift n
    let t := match t1.physOf n with
      | some p => t1.when (t1.stitch.changed.contains p) fun u => u.recomputePhys x p
      | none => t1
    match (t.cal n).head? with
    | some e =>
      if !e.held && decide (e.opn - 10000 ≤ t.dtI) && t.commitTurn n e then
        ((t.setCal n (t.cal n).tail).commit x n e).after x n
      else t.pwmAfter x n
    | none => t.pwmAfter x n)

/-- STITCH_RETIME_BELT (R197–R199, R201): every lane's BELT entries of a stream follow its latest sample. -/
def execStitchRetimeBelt (el : Nat) (k : Fin 4) (x : Bool) (s : State) : Host.Outcome State Fault Refusal :=
  .next ((s.begin el).onIsland 30 fun t =>
    if t.beltValid k then forL (fun n u => u.retimeLane x k n) (List.range 160) t else t)

/-- A write of STITCH_CMD (R214): CNT_CLEAR first, then FLUSH. -/
def stitchCmd (w : Word) (s : State) : State :=
  let s1 := s.when (w.getLsbD 0) fun t => t.clearRegs stitchCounters
  s1.when (w.getLsbD 1) fun t => forL (fun n u => (u.flushLane n).research n) (List.range 160) t

/-- STITCH_FLUSH (R214): STITCH_CMD.FLUSH is written, with CNT_CLEAR where `both`. -/
def execStitchFlush (el : Nat) (p : Port) (both : Bool) (s : State) : Host.Outcome State Fault Refusal :=
  .next ((s.begin el).writeCmd p R.STITCH_CMD (if both then 3 else 2) stitchCmd)

/-- STITCH_CNT_CLEAR (R21): STITCH_CMD.CNT_CLEAR is written. -/
def execStitchCntClear (el : Nat) (p : Port) (s : State) : Host.Outcome State Fault Refusal :=
  .next ((s.begin el).writeCmd p R.STITCH_CMD 1 stitchCmd)

/-- STITCH_CAL_CAPTURE (R184): STITCH_CAL_OPEN_LO is read. -/
def execStitchCalCapture (el : Nat) (p : Port) (s : State) : Host.Outcome State Fault Refusal :=
  .next ((s.begin el).readCmd p R.STITCH_CAL_OPEN_LO calCapture)

end Sys2Proof.Machine
end

