-- ==== Sys2Proof/Machine/Trig.lean ====
section
/-!
DEFINITION. Sine and cosine in fixed point with 96 fraction bits, by their power series, for the GROUND block's exact
formulas (04_ground_sections_and_coverage.md, R137, R146). The series is carried far below the 1 µm to which results are
rounded (log 14).
-/
namespace Sys2Proof.Machine

/-- One, and π, with 96 fraction bits. -/
def oneQ : Int := 2 ^ 96
def piQ : Int := 248902613312231085230521944622

/-- The series from a term on: each term is the one before it times −x²/((k + 1)(k + 2)). -/
def sinTail (x : Int) : Nat → Int → Int → Int
  | 0, _, _ => 0
  | fuel + 1, k, t => t + sinTail x fuel (k + 2) (-(t * x / oneQ * x / oneQ) / ((k + 1) * (k + 2)))

/-- The sine of an angle in radians, both with 96 fraction bits. -/
def sinQ (x : Int) : Int :=
  let y := x % (2 * piQ)
  sinTail y 40 1 y

/-- The cosine. -/
def cosQ (x : Int) : Int := sinQ (x + piQ / 2)

/-- An angle of 2⁻³² turn, in radians with 96 fraction bits. -/
def turnQ (a : Int) : Int := a * 2 * piQ / 2 ^ 32

/-- An angle in radians with 96 fraction bits, in 2⁻³² turn, rounded. -/
def toTurn (x : Int) : Int := roundDiv (x * 2 ^ 32) (2 * piQ).toNat

/-- A length times a sine or cosine, rounded to the length's unit. -/
def mulQ (a b : Int) : Int := roundDiv (a * b) (2 ^ 96)

end Sys2Proof.Machine
end

