-- ==== Sys2Proof/Machine/Axes.lean ====
section
/-!
DEFINITION. Motion axes (08_motion_axes.md, R322–R361): the profile generator, the interpolator, the choppers, stall
detection, the handover hold and the fail-safe states. What the tile measures comes with the command.
-/
namespace Sys2Proof.Machine

/-- Bits of AX_STAT. -/
abbrev asFailsafe : Nat := 31
abbrev asHeld : Nat := 30
abbrev asStandstill : Nat := 29
abbrev asAtTarget : Nat := 28
abbrev asLimit : Nat := 27
abbrev asStalled : Nat := 26
abbrev asOcLatched : Nat := 25
abbrev asVmUv : Nat := 24
abbrev asEncValid : Nat := 23
abbrev asHoldCurrent : Nat := 22
/-- Bits of AX_EVENT. -/
abbrev aeHeld : Nat := 17
abbrev aeCmdRefused : Nat := 16
abbrev aeFailsafe : Nat := 15
abbrev aeStepOverrate : Nat := 14
abbrev aeStepDrop : Nat := 13
abbrev aeEncInvalid : Nat := 12
abbrev aeVmUv : Nat := 11
abbrev aeOpenB : Nat := 10
abbrev aeOpenA : Nat := 9
abbrev aeOc : Nat := 8
abbrev aeStall : Nat := 7
abbrev aeLimitRefused : Nat := 6
abbrev aeClipped : Nat := 5
abbrev aeLimitStop : Nat := 4
abbrev aeLimitDecel : Nat := 3
abbrev aeOvershoot : Nat := 2
abbrev aeReversal : Nat := 1
abbrev aeTarget : Nat := 0

/-- The stored fail-safe states of an axis (14 Table 6). -/
abbrev axCoast : Nat := 0
abbrev axHold : Nat := 1
abbrev axBrake : Nat := 2

/-- An axis beside its registers. -/
def State.axis (s : State) (a : Nat) : AxisSt := Tab.get (fun _ => AxisSt.init) s.axes a
def State.setAxis (s : State) (a : Nat) (v : AxisSt) : State :=
  { s with axes := Tab.set (fun _ => AxisSt.init) s.axes a v }
def State.updAxis (s : State) (a : Nat) (f : AxisSt → AxisSt) : State := s.setAxis a (f (s.axis a))

/-- The island of an axis, and the axes of a motion tile. -/
def axisIsland (a : Nat) : Nat := 20 + a / 4
def tileAxes (t : Nat) : List Nat := (List.range 4).map fun j => 4 * t + j

/-- A microstep/s², a microstep/s and a microstep in the units of `AxisSt.a`, `AxisSt.v` and `AxisSt.x`, and the span of a 48-bit
position in the last. -/
def aUnit : Int := 2 ^ 24
def vUnit : Int := 2 ^ 24 * 10 ^ 5
def xUnit : Int := 2 ^ 24 * 10 ^ 10
def xWrap (x : Int) : Int := (x + 2 ^ 47 * xUnit) % (2 ^ 48 * xUnit) - 2 ^ 47 * xUnit

/-- The mode in force (AX_STAT.MODE). -/
def State.axMode (s : State) (a : Nat) : Nat := s.rfld (R.AX_STAT a) 0 2

/-- The interpolator's output position. -/
def State.xActual (s : State) (a : Nat) : Int := s.reg48 (R.AX_XACTUAL_LO a)

/-- `v` moved toward `vt` by at most `r`. -/
def toward (v vt r : Int) : Int := if |vt - v| ≤ r then vt else if v < vt then v + r else v - r

/-- The change of velocity in one update of 10 µs at a rate in microstep/s². -/
def perUpdate (r : Nat) : Int := r * aUnit

/-- Stopping within distance `r` from velocity `v` needs more than deceleration `d`. -/
def needsMore (d : Nat) (v r : Int) : Bool := decide ((d : Int) * |r| * 2 ^ 25 < v * v)

/-- The settings of a generator at one update. -/
structure AxCfg where
  jerk : Bool
  vmax : Nat
  amax : Nat
  dmax : Nat
  dlimit : Nat
  jmax : Nat
  vstop : Nat
  deriving DecidableEq, Repr

/-- The velocity of one update of a trapezoidal ramp toward a point at signed distance `r`, for an axis that does not move
away from it; `vt` is the speed to reach on the way, `d` the deceleration in force. Answers the velocity and whether the
axis brakes. DEDUCED (log 17): braking begins at the last update at which stopping at the point does not need more than
`d`, so that R333 lands exactly, and lasts for that point. -/
def trapGo (c : AxCfg) (d : Nat) (braking : Bool) (v vt r : Int) : Int × Bool :=
  let g := toward v vt (if |v| < |vt| then perUpdate c.amax else perUpdate d)
  let late := decide (g.sign ≠ (r - g).sign) && decide (g ≠ 0) || needsMore d g (r - g)
  let dq := perUpdate d
  if v = 0 then
    if late then
      let m : Int := max 1 ((isqrt (dq * dq + 2 * dq * |r|).toNat : Nat) - dq)
      (r.sign * min |g| m, true)
    else (g, false)
  else if braking || late || !decide (v * v < (d : Int) * |r| * 2 ^ 25) then
    (if needsMore d v r then toward v 0 dq else toward v 0 (v * v / (2 * |r|)), true)
  else (g, false)

/-- The largest acceleration from which lowering it by `j` at every update, to 0, changes the velocity by no more than `dv`. -/
def jerkAim (j dv : Int) : Int :=
  let m : Int := |dv|
  let k : Int := ((isqrt (8 * (m / j) + 1).toNat : Nat) - 1) / 2
  dv.sign * ((m + j * (k * (k + 1) / 2)) / (k + 1))

/-- The largest acceleration that may slow an axis from velocity `v` with limited jerk: at most that of `d`, and so that lowering it by
`j` at every update brings it within AX_AMAX by the time the velocity changes sign (R337). -/
def jerkSlow (c : AxCfg) (d : Nat) (j v : Int) : Int :=
  let m := perUpdate c.amax
  min (perUpdate d) (max m (((isqrt (4 * m * m - 4 * j * m + 8 * j * |v| + j * j).toNat : Nat) - j) / 2))

/-- One update of velocity and acceleration toward `vt` with limited jerk (R337): the acceleration changes by at most AX_JMAX × dt, and
goes so that it reaches 0 as the velocity reaches `vt` (DESIGN CHOICE, log 18). -/
def jerkStep (c : AxCfg) (d : Nat) (v a vt : Int) : Int × Int :=
  let j : Int := (c.jmax : Int) * aUnit / 100000
  let up := if 0 ≤ v then perUpdate c.amax else jerkSlow c d j v
  let dn := if 0 < v then jerkSlow c d j v else perUpdate c.amax
  let a1 := clampI (a - j) (a + j) (clampI (-dn) up (jerkAim j (vt - v)))
  (v + a1, a1)

/-- Braking with limited jerk begins (R337): the distance is at most v²/2D + |v|D/2J + |a|³/3J². -/
def jerkWay (c : AxCfg) (d : Nat) (v a : Int) : Int :=
  v * v / (2 ^ 25 * d) + |v| * d * 100000 / (2 * c.jmax) + |a| * |a| * |a| * 10 ^ 10 / (2 ^ 48 * 3 * c.jmax * c.jmax)
def jerkLate (c : AxCfg) (d : Nat) (v a r : Int) : Bool := decide (|r| ≤ jerkWay c d v a)

/-- The stop speed in force (R338). -/
def AxCfg.vs (c : AxCfg) : Int := (if c.jerk && c.vstop == 0 then 256 else c.vstop : Nat) * vUnit

/-- The way that an axis with limited jerk needs to its stop speed w at deceleration `d`, with its present acceleration: from the
velocity u at which the acceleration is 0 it is (u² - w²)/2D + (u + w)D/2J, and (u + w)√((u - w)/J) where the deceleration does
not reach D. -/
def stopWay (c : AxCfg) (d : Nat) (v a : Int) : Int :=
  let u := |v| + a * a * 100000 / (2 ^ 25 * c.jmax)
  let lead := |v| * |a| * 100000 / (2 ^ 24 * c.jmax) + |a| * |a| * |a| * 10 ^ 10 / (2 ^ 48 * 3 * c.jmax * c.jmax)
  let sum := u + c.vs
  let e := max 0 (u - c.vs)
  let s0 := if (d : Int) * d * vUnit ≤ e * c.jmax then sum * e / (2 ^ 25 * d) + sum * d * 100000 / (2 * c.jmax)
    else sum * (isqrt (e * (10 ^ 5 * 2 ^ 16) / c.jmax).toNat : Nat) / 2 ^ 20
  s0 + if a.sign = -v.sign then -lead else lead

/-- An axis cannot stop within distance `r` at deceleration `d` (R343, R345). With limited jerk it brakes to the stop speed, from
which it can stop at once; the way of `k` updates is kept in hand. -/
def AxCfg.tooLate (c : AxCfg) (k : Int) (d : Nat) (v a r : Int) : Bool :=
  if c.jerk then decide (c.vs < |v|) && decide (|r| < stopWay c d v a + k * |v|) else needsMore d v r

/-- One update toward a point at distance `r`: velocity, acceleration and whether the axis brakes; `late` says that braking begins
now with limited jerk. -/
def AxCfg.go (c : AxCfg) (d : Nat) (braking late : Bool) (v a vt r : Int) : Int × Int × Bool :=
  if c.jerk then
    let b := decide (v ≠ 0) && (braking || late)
    let n := jerkStep c d v a (if b then r.sign * min c.vs (c.vmax * vUnit) else vt)
    (n.1, n.2, b)
  else
    let g := trapGo c d braking v vt r
    (g.1, g.1 - v, g.2)

/-- One update that only changes speed toward `vt`. -/
def AxCfg.change (c : AxCfg) (d : Nat) (v a vt : Int) : Int × Int :=
  if c.jerk then jerkStep c d v a vt
  else
    let v1 := toward v vt (if |v| < |vt| ∧ (v = 0 ∨ vt.sign = v.sign) then perUpdate c.amax else perUpdate d)
    (v1, v1 - v)

/-- What an update of a generator reports. -/
structure AxEv where
  rev : Bool
  past : Bool
  limDec : Bool
  limStop : Bool
  deriving DecidableEq, Repr

/-- Flags that refer to another target start anew. -/
def AxisSt.aimAt (q : AxisSt) (t : Int) : AxisSt :=
  if q.aim = some t then q else { q with aim := some t, braking := false, passed := false, reversing := false }

/-- The axis arrives: the landing line of the pseudocode, for a point at distance `r`. -/
def AxCfg.lands (c : AxCfg) (v r : Int) : Bool := decide (|r| ≤ |v|) && decide (|v| ≤ c.vs)

/-- One update in position mode toward `t` (R333, R334, R337, R338). A reversal is reported at the update that starts the
deceleration. -/
def AxisSt.toPoint (c : AxCfg) (q0 : AxisSt) (t : Int) (d : Nat) : AxisSt × AxEv :=
  let q := q0.aimAt t
  let r := t - q.x
  if q.v = 0 ∧ r = 0 then
    ({ q with a := 0, braking := false, passed := false, reversing := false }, ⟨false, false, false, false⟩)
  else
    let turn := decide (q.v ≠ 0) && decide (r.sign ≠ q.v.sign)
    let n : Int × Int × Bool :=
      if turn then
        let g := c.change d q.v q.a 0
        (g.1, g.2, false)
      else c.go d q.braking (jerkLate c d q.v q.a r) q.v q.a (r.sign * c.vmax * vUnit) r
    let slows := decide (n.2.1.sign = -q.v.sign)
    let rev := turn && slows && decide (r ≠ 0) && !q.passed && !q.reversing
    let stop := c.lands n.1 r
    let x1 := if stop then t else q.x + n.1
    let v1 := if stop then 0 else n.1
    let past := !turn && decide (v1 ≠ 0) && decide ((t - x1).sign = -v1.sign) && !q.passed
    ({ q with
        x := x1, v := v1, a := (if stop then 0 else n.2.1), braking := n.2.2 && decide (v1 ≠ 0),
        passed := (q.passed || past) && decide (v1 ≠ 0)
        reversing := turn && decide (v1 ≠ 0) && !q.passed && (slows || q.reversing) },
      ⟨rev, past, false, false⟩)

/-- The limit in the direction of a velocity, none at standstill. -/
def limitToward (lim : Option (Int × Int)) (v : Int) : Option Int :=
  match lim with
  | some l => if 0 < v then some l.2 else if v < 0 then some l.1 else none
  | none => none

/-- One update of a ramp braked to the limit `m` at deceleration `d` (R343). -/
def AxisSt.limitBrake (c : AxCfg) (q : AxisSt) (m : Int) (d : Nat) : AxisSt :=
  let b := ({ q with aim := some m, braking := true }.toPoint c m d).1
  { b with aim := q.aim, passed := q.passed, reversing := q.reversing, limDec := if b.v = 0 then none else some d }

/-- After the update that gives `p`, braking at AX_DLIMIT would no longer stop the axis at the limit `m` that it moves toward
(R343). -/
def AxisSt.endangers (c : AxCfg) (q p : AxisSt) (m : Int) : Bool :=
  decide ((m - q.x).sign = q.v.sign) && decide (p.v.sign = q.v.sign) &&
    (decide ((m - p.x).sign = -p.v.sign) || c.tooLate 1 c.dlimit p.v p.a (m - p.x))

/-- One update in position mode with virtual limits (R342, R343): `t` is the effective target. An axis that lands on a limit at
AX_DMAX needs no other deceleration. A target that comes to lie behind it while it brakes to a limit reverses it too (R334). -/
def AxisSt.position (c : AxCfg) (q0 : AxisSt) (t : Int) (lim : Option (Int × Int)) : AxisSt × AxEv :=
  let q := q0.aimAt t
  let passes (q1 : AxisSt) : Bool := decide ((t - q.x).sign = q.v.sign) && decide ((t - q1.x).sign = -q.v.sign)
  let held (q1 : AxisSt) (rev dec : Bool) : AxisSt × AxEv :=
    ({ q1 with passed := (q.passed || passes q1) && decide (q1.v ≠ 0), reversing := (q.reversing || rev) && decide (q1.v ≠ 0) }, ⟨rev, passes q1 && !q.passed, dec, false⟩)
  let p := q.toPoint c t c.dmax
  match limitToward lim q.v with
  | none => ({ p.1 with limDec := none }, p.2)
  | some m =>
    match q.limDec with
    | some d => held (q.limitBrake c m d) p.2.rev false
    | none =>
      let exact := !c.jerk && p.1.braking && decide (t = m) && !needsMore c.dmax q.v (m - q.x)
      if q.endangers c p.1 m && !exact then held (q.limitBrake c m c.dlimit) p.2.rev true else p

/-- One update in velocity mode (R332, R336, R342, R343, R346): the axis comes to rest at the limit it moves toward. -/
def AxisSt.velocity (c : AxCfg) (q : AxisSt) (vt0 : Int) (lim : Option (Int × Int)) : AxisSt × AxEv :=
  let w : Int := c.vmax * vUnit
  let vt := clampI (-w) w (vt0 * vUnit)
  let free (x : Int) (at_ : Bool) : AxisSt :=
    let n := c.change c.dmax q.v q.a x
    { q with
      x := q.x + n.1, v := n.1, a := n.2, aim := none, braking := false, limDec := none, atLimit := at_ && decide (n.1 = 0) }
  match limitToward lim (if q.v = 0 then vt else q.v) with
  | none => (free vt false, ⟨false, false, false, false⟩)
  | some m =>
    let dir := if q.v = 0 then vt.sign else q.v.sign
    let r := m - q.x
    if r.sign ≠ dir then
      let p := free (if vt.sign = dir then 0 else vt) q.atLimit
      let there := decide (vt.sign = dir) && decide (p.x = m) && decide (p.v = 0)
      ({ p with atLimit := p.atLimit || there }, ⟨false, false, false, there && decide (q.v ≠ 0) && !q.atLimit⟩)
    else
      let come (p : AxisSt) (dec : Bool) : AxisSt × AxEv :=
        let there := decide (p.x = m) && decide (p.v = 0)
        ({ p with atLimit := there }, ⟨false, false, dec, there && !q.atLimit⟩)
      match q.limDec with
      | some d => come (q.limitBrake c m d) false
      | none =>
        let b := q.braking && decide (q.aim = some m)
        let n := c.go c.dmax b (c.tooLate 3 c.dmax q.v q.a r) q.v q.a vt r
        let stop := c.lands n.1 r
        let p : AxisSt :=
          if vt.sign = dir then
            { q with
              x := (if stop then m else q.x + n.1), v := (if stop then 0 else n.1), a := (if stop then 0 else n.2.1)
              aim := some m, braking := n.2.2 && !stop && decide (n.1 ≠ 0) }
          else free vt false
        let exact := !c.jerk && p.braking && !needsMore c.dmax q.v r
        if q.endangers c p m && !exact then come (q.limitBrake c m c.dlimit) true else come p false

/-- The settings of axis `a`. -/
def State.axCfg (s : State) (a : Nat) : AxCfg :=
  ⟨s.rbit (R.AX_CTRL a) 12, (s.reg (R.AX_VMAX a)).toNat, (s.reg (R.AX_AMAX a)).toNat, (s.reg (R.AX_DMAX a)).toNat,
    (s.reg (R.AX_DLIMIT a)).toNat, max 1 (s.reg (R.AX_JMAX a)).toNat, s.rfld (R.AX_VSTOP a) 0 16⟩

/-- The virtual limits of an axis, none with LIMIT_EN 0 (R342). -/
def State.axLimits (s : State) (a : Nat) : Option (Int × Int) :=
  if s.rbit (R.AX_CTRL a) 13 then some (s.reg48 (R.AX_XMIN_LO a) * xUnit, s.reg48 (R.AX_XMAX_LO a) * xUnit) else none

/-- The level in force (R341): 0 with ADAPT_EN 0. -/
def State.axLevel (s : State) (a : Nat) : Nat := if s.rbit (R.AX_CTRL a) 17 then s.rfld (R.AX_STAT a) 16 3 else 0

/-- The speed that the resolution stage and the load angle use (R341, R351), microstep/s. -/
def State.axSpeed (s : State) (a : Nat) : Nat :=
  if s.axMode a = 2 then
    match (s.axis a).per with
    | some p => if p = 0 then 0 else 256 / 2 ^ s.rfld (R.AX_CTRL a) 8 3 * 100000000 / p
    | none => 0
  else (s.reg (R.AX_VACTUAL a)).toInt.natAbs

/-- The level after a full-step boundary (R341, Table 3): one step toward the speed. -/
def State.nextLevel (s : State) (a lv : Nat) : Nat :=
  let v := s.axSpeed a
  let th (i : Nat) : Nat := (s.reg (R.AX_ADAPT_V a (i - 1))).toNat
  if !s.rbit (R.AX_CTRL a) 17 then 0
  else if lv < 4 ∧ th (lv + 1) < v then lv + 1
  else if 0 < lv ∧ v * 16 < th lv * 15 then lv - 1
  else lv

/-- A stall (R352): `load` tells a stall by load angle. While STALLED is 1 none is found. -/
def State.axStall (s : State) (a : Nat) (load : Bool) : State :=
  if s.rbit (R.AX_STAT a) asStalled then s
  else
    let s1 := ((s.event (R.AX_EVENT a) aeStall).count (R.AX_STALLS a) 1).fault srcAxisStall a (wordN (b2n load))
    let act := s1.rfld (R.AX_STALL_CFG a) 4 2
    if act = 0 then s1
    else (s1.setBit (R.AX_STAT a) asStalled true).updAxis a fun q => { q with stop := true, stallOff := act == 2 }

/-- The load margin at a full-step boundary (R351): `d` is the load angle estimated there, 1/16 electrical degree. -/
def State.loadAngle (s : State) (a : Nat) (d : Int) : State :=
  if s.axLevel a = 4 ∨ s.axSpeed a < (s.reg (R.AX_LA_VMIN a)).toNat then s
  else
    let m := clampI (-1440) 1440 (1440 - d)
    let old := s.rsfld (R.AX_LOAD a) 0 16
    let mf := if (s.axis a).laFresh then m else old + Int.tdiv (m - old) (2 ^ s.rfld (R.AX_STALL_CFG a) 16 2)
    let s1 := (s.setReg (R.AX_LOAD a) (wordN (mf % 65536).toNat)).updAxis a fun q => { q with laFresh := false }
    if s1.rbit (R.AX_STALL_CFG a) 1 ∧ mf ≤ s1.rsfld (R.AX_LA_STALL a) 0 16 then s1.axStall a true else s1

/-- One microstep in direction `dir` (R339, R341, R346, R351): AX_XACTUAL moves; a full-step boundary changes the level and
gives a load angle. -/
def State.micro (s : State) (a : Nat) (dir d : Int) : State :=
  let p := wrap48 (s.xActual a + dir)
  let out := s.axMode a == 2 && s.rbit (R.AX_CTRL a) 13 &&
    ((decide (0 < dir) && decide (s.reg48 (R.AX_XMAX_LO a) < p)) ||
      (decide (dir < 0) && decide (p < s.reg48 (R.AX_XMIN_LO a))))
  if out then (s.count (R.AX_STEP_DROP a) 1).event (R.AX_EVENT a) aeStepDrop
  else
    let s1 := (s.setReg48 (R.AX_XACTUAL_LO a) p).updAxis a fun q => { q with emitAt := some s.now }
    if p % 256 = 0 then
      (s1.setFld (R.AX_STAT a) 16 3 (s1.nextLevel a (s1.rfld (R.AX_STAT a) 16 3))).loadAngle a d
    else s1

/-- `n` microsteps at once. -/
def State.micros (s : State) (a : Nat) (n : Int) (d : Int) : State :=
  forN (fun _ u => u.micro a n.sign d) n.natAbs s

/-- The outstanding microsteps are emitted at once (R339). -/
def State.flushSteps (s : State) (a : Nat) (d : Int) : State :=
  let n := (s.axis a).left
  (s.updAxis a fun q => { q with left := 0 }).micros a n d

/-- A coarse step of `n` microsteps, signed, arrives at the interpolator (R339). -/
def State.coarse (s : State) (a : Nat) (n d : Int) : State :=
  let s1 := if (s.axis a).left = 0 then s else (s.flushSteps a d).count (R.AX_INTERP_JUMP a) 1
  let per := (s1.axis a).stepAt.map fun t => (s1.now - t + 5) / 10
  let s2 := s1.updAxis a fun q => { q with stepAt := some s1.now, per := per }
  match per with
  | some p =>
    if p = 0 ∨ 1048576 < p then s2.micros a n d
    else s2.updAxis a fun q => { q with left := n, stepN := n.natAbs, stepT := s2.now }
  | none => s2.micros a n d

/-- The coarse steps that a new position of the generator gives (R339): one each time it crosses a multiple of 256 / G
beyond the position commanded so far; and, at standstill, what is left of the last, down to the position
truncated toward zero (R323; DEDUCED, log 19). -/
def State.coarses (s : State) (a : Nat) (d : Int) : Nat → State
  | 0 => s
  | fuel + 1 =>
    let q := s.axis a
    let c0 := s.xActual a + q.left
    let cs : Int := 256 / 2 ^ s.rfld (R.AX_CTRL a) 4 3
    let far := xWrap (q.x - c0 * xUnit)
    let up := (floorDiv c0 cs.toNat + 1) * cs - c0
    let dn := -((floorDiv (-c0) cs.toNat + 1) * cs + c0)
    if up * xUnit ≤ far then (s.coarse a up d).coarses a d fuel
    else if far ≤ dn * xUnit then (s.coarse a dn d).coarses a d fuel
    else
      let rest := wrap48 (Int.tdiv q.x xUnit - c0)
      if q.v = 0 ∧ rest ≠ 0 then s.coarse a rest d else s

/-- The axis is at its handover boundary (R340, R355). In mode 0b10 no microstep may be outstanding either, beside the 100 µs without
one (DEDUCED, log 156). -/
def State.axStill (s : State) (a : Nat) : Bool :=
  let q := s.axis a
  s.rbit (R.AX_STAT a) asHeld ||
  if s.axMode a = 2 then
    decide (q.left = 0) && (match q.emitAt with
      | some t => decide (t + 100000 ≤ s.now)
      | none => true)
  else decide (q.v = 0) && decide (q.left = 0)

/-- R331, at an update. -/
def State.axStopNow (s : State) (a : Nat) : State :=
  if (s.axis a).stop then
    let p := s.xActual a
    ((s.updAxis a fun q => { q with
      x := p * xUnit, v := 0, a := 0, stop := false, left := 0, aim := none, braking := false, passed := false,
      reversing := false, limDec := none, hold := q.hold.map fun _ => p * xUnit }).setReg48 (R.AX_XTARGET_LO a)
        p).setReg (R.AX_VTARGET a) 0
  else s

/-- A stop by R331 is asked for. -/
def State.axStop (s : State) (a : Nat) : State := s.updAxis a fun q => { q with stop := true }

/-- The generator of an axis that commands no motion: STALLED, a fail-safe line, or a wait for a new target (R353, R358). -/
def State.axIdle (s : State) (a : Nat) : Bool :=
  s.rbit (R.AX_STAT a) asStalled || s.rbit (R.AX_STAT a) asFailsafe || (s.axis a).await

/-- The effective target (R342, R354). -/
def State.axTarget (s : State) (a : Nat) : Int :=
  match (s.axis a).hold with
  | some h => h
  | none =>
    let t := s.reg48 (R.AX_XTARGET_LO a) * xUnit
    match s.axLimits a with
    | some l => clampI l.1 (max l.1 l.2) t
    | none => t

/-- The generator's part of an update (R330–R346). -/
def State.generate (s : State) (a : Nat) (d : Int) : State :=
  let q := s.axis a
  if s.axMode a = 2 then s.updAxis a fun q => { q with x := s.xActual a * xUnit, v := 0, a := 0, aim := none, limDec := none }
  else if s.axIdle a then s
  else
    let c := s.axCfg a
    let byHold := q.hold.isSome
    let r := if s.axMode a == 1 && !byHold then q.velocity c (s.reg (R.AX_VTARGET a)).toInt (s.axLimits a)
      else q.position c (s.axTarget a) (s.axLimits a)
    let e := r.2
    let s1 := s.setAxis a { r.1 with x := xWrap r.1.x }
    let s2 := s1.when e.rev fun u => (u.event (R.AX_EVENT a) aeReversal).count (R.AX_REVERSALS a) 1
    let s3 := s2.when (e.past && !byHold) fun u => (u.event (R.AX_EVENT a) aeOvershoot).count (R.AX_OVERSHOOTS a) 1
    let s4 := s3.when e.limDec fun u => (u.event (R.AX_EVENT a) aeLimitDecel).count (R.AX_LIMIT_DECELS a) 1
    let s5 := s4.when e.limStop fun u => u.event (R.AX_EVENT a) aeLimitStop
    let t := s5.reg48 (R.AX_XTARGET_LO a) * xUnit
    let s6 := if s5.axMode a = 0 ∧ !byHold ∧ s5.axTarget a ≠ t then
        if (s5.axis a).clip = some t then s5
        else (s5.event (R.AX_EVENT a) aeClipped).updAxis a fun q => { q with clip := some t }
      else s5.updAxis a fun q => { q with clip := none }
    s6.coarses a d 24

/-- The current amplitude in force (R324), 2⁻¹⁶ mA, and the start of a change from it to the other amplitude. -/
def State.axAmp16 (s : State) (a : Nat) : Int :=
  let q := s.axis a
  let goal : Int := s.rfld (R.AX_CURRENT a) (if s.rbit (R.AX_STAT a) asHoldCurrent then 0 else 16) 16 * 65536
  q.ampFrom + (goal - q.ampFrom) * q.ramp / 16
def State.holdCurrent (s : State) (a : Nat) (on : Bool) : State :=
  (s.setBit (R.AX_STAT a) asHoldCurrent on).updAxis a fun q => { q with ampFrom := s.axAmp16 a, ramp := 0 }

/-- The state bits of an axis after an update (R324, R336, R354, R355). A held axis stays where it has
stopped. -/
def State.axShow (s : State) (a : Nat) : State :=
  let q := s.axis a
  let v := Int.tdiv q.v vUnit
  let s1 := (s.setRegI (R.AX_VACTUAL a) v).setRegI (R.AX_AACTUAL a) (Int.tdiv q.a aUnit)
  let still := decide (q.v = 0) && decide (q.left = 0)
  let s2 := if q.hold.isSome ∧ still ∧ !s1.rbit (R.AX_STAT a) asHeld then
      ((s1.setBit (R.AX_STAT a) asHeld true).event (R.AX_EVENT a) aeHeld).updAxis a fun q => { q with hold := some q.x }
    else s1
  let w : Int := s2.axCfg a |>.vmax
  let at_ := if s2.axMode a = 0 then still && decide (q.x = s2.reg48 (R.AX_XTARGET_LO a) * xUnit)
    else if s2.axMode a = 1 then decide (v = clampI (-w) w (s2.reg (R.AX_VTARGET a)).toInt)
    else false
  let here := at_ && s2.axMode a == 0
  let s3 := (s2.when (here && !q.reached) fun u => u.event (R.AX_EVENT a) aeTarget).updAxis a fun q => { q with reached := here }
  let s4 := (s3.setBit (R.AX_STAT a) asAtTarget at_).setBit (R.AX_STAT a) asStandstill (s3.axStill a)
  let onLim := match s4.axLimits a with
    | some l => decide (q.x = l.1) || decide (q.x = l.2) || q.limDec.isSome || (q.braking && s4.axMode a == 1)
    | none => false
  let s5 := s4.setBit (R.AX_STAT a) asLimit onLim
  if s5.axStill a then s5.updAxis a fun q => { q with
      still := some (q.still.getD s5.now), stepAt := none, per := none, laFresh := true }
  else
    let s6 := s5.updAxis a fun q => { q with still := none }
    if s6.rbit (R.AX_STAT a) asHoldCurrent then s6.holdCurrent a false else s6

/-- The position of an axis's source, none while the source is invalid (R347, R350). `ok` tells whether its transfer came
through. -/
def State.axSource (s : State) (a : Nat) (ok : Bool) : Option Int :=
  let k := s.rfld (R.AX_ENC_CFG a) 0 4
  if !ok || !s.works 22 then none
  else if k < 8 then if s.rbit (R.ENC_STAT k) 30 then some (s.reg48 (R.ENC_POS_LO k)) else none
  else if k < 12 then if s.rbit (R.Q_STAT (k - 8)) 0 then some (s.reg48 (R.Q_POS_LO (k - 8))) else none
  else none

/-- The deviation of an axis at an update (R347–R350, R353, R359). The converted position is rounded before it is subtracted, so that
ENC_SYNC always gives 0 (R348; DEDUCED, log 158). An update without an evaluation ends a run. -/
def State.deviation (s : State) (a : Nat) (ok : Bool) : State :=
  let none_ (t : State) : State := t.updAxis a fun q => { q with devRun := 0 }
  match s.axSource a ok with
  | none =>
    let s1 := s.when (s.rbit (R.AX_STAT a) asEncValid) fun u => u.event (R.AX_EVENT a) aeEncInvalid
    none_ (s1.setBit (R.AX_STAT a) asEncValid false)
  | some c =>
    let s0 := s.setBit (R.AX_STAT a) asEncValid true
    let m := roundDiv (c * (s0.reg (R.AX_ENC_RATIO a)).toInt) 65536
    let s1 := if (s0.axis a).sync then
        (s0.setReg48I (R.AX_ENC_OFS_LO a) (s0.xActual a - m)).updAxis a fun q => { q with
          sync := false, devWait := false, devRun := 0 }
      else s0
    if s1.rbit (R.AX_STAT a) asFailsafe || s1.rbit (R.AX_STAT a) asVmUv || s1.rbit (R.AX_STAT a) asOcLatched then none_ s1
    else
      let dev := s1.xActual a - (m + s1.reg48 (R.AX_ENC_OFS_LO a))
      let s2 := (s1.setRegI (R.AX_DEV a) dev).setRegN (R.AX_DEV_MAX a) (max (s1.reg (R.AX_DEV_MAX a)).toNat dev.natAbs)
      let inWin := decide (dev.natAbs ≤ s2.rfld (R.AX_DEV_WIN a) 0 24)
      if inWin then s2.updAxis a fun q => { q with devRun := 0, devWait := false }
      else if (s2.axis a).devWait ∨ !s2.rbit (R.AX_STALL_CFG a) 0 then none_ s2
      else
        let n := (s2.axis a).devRun + 1
        if s2.rfld (R.AX_DEV_WIN a) 24 8 ≤ n then
          (s2.updAxis a fun q => { q with devRun := 0, devWait := true }).axStall a false
        else s2.updAxis a fun q => { q with devRun := n }

/-- A motion handover finds its T_h: every axis of the set is at its boundary (02 R102). -/
def State.motionSearch (s : State) (a : Nat) : State :=
  if s.ldrState = 4 ∧ s.rfld R.LDR_SET 20 2 ≠ 0 ∧ s.ldr.th = none ∧ s.ldr.loadEnd ≤ s.dt then
    let set := (List.range 8).filter fun a => s.rbit R.LDR_SET (axisIsland a)
    if set.all fun b => s.axStill b && (s.axis b).upAt == (s.axis a).upAt then s.setTh (some (s.dt : Int)) else s
  else s

/-- PROFILE_UPDATE (R330–R350; Table 2 of 02): the update of one axis at a multiple of 10 µs of its tile's DT copy, once for
each. `ok` tells whether the source's position came through, `d` the load angle at a full-step boundary passed by it. -/
def execProfileUpdate (el : Nat) (a : Fin 8) (ok : Bool) (d : BitVec 16) (s : State) : Host.Outcome State Fault Refusal :=
  .next ((s.begin el).onIsland (axisIsland a) fun u =>
    let t := u.localDt (axisIsland a)
    if decide (t % 10000 ≠ 0) || (match (u.axis a).upAt with
        | some p => decide (t ≤ p)
        | none => false) then u
    else
      let s1 := ((u.updAxis a fun q => { q with upAt := some t }).axStopNow a).setFld (R.AX_STAT a) 0 2
        (u.rfld (R.AX_CTRL a) 0 2)
      let s2 := s1.generate a d.toInt
      ((s2.axShow a).deviation a ok).motionSearch a)

/-- HOLD_CURRENT_SWITCH (R324): the axis has stood still for AX_HOLD_DELAY. -/
def execHoldCurrentSwitch (el : Nat) (a : Fin 8) (s : State) : Host.Outcome State Fault Refusal :=
  .next ((s.begin el).onIsland (axisIsland a) fun u =>
    match (u.axis a).still with
    | some t =>
      if t + u.rfld (R.AX_HOLD_DELAY a) 0 16 * 1000000 ≤ u.now ∧ !u.rbit (R.AX_STAT a) asHoldCurrent then
        u.holdCurrent a true
      else u
    | none => u)

/-- STEP_PULSE (R340, R346, R354): a qualified rising edge on Mn_STEP with Mn_DIR at `pos`. `d` is the load angle at a
full-step boundary that it passes. -/
def execStepPulse (el : Nat) (a : Fin 8) (pos : Bool) (d : BitVec 16) (s : State) : Host.Outcome State Fault Refusal :=
  .next ((s.begin el).onIsland (axisIsland a) fun u =>
    if u.axMode a ≠ 2 then u
    else
      let fast := match (u.axis a).edgeAt with
        | some t => decide (u.now < t + 400)
        | none => false
      let s1 := u.updAxis a fun q => { q with edgeAt := some u.now }
      if fast then (s1.count (R.AX_STEP_OVERRATE a) 1).event (R.AX_EVENT a) aeStepOverrate
      else if s1.rbit (R.AX_STAT a) asHeld then s1.count (R.AX_STEP_DROP a) 1
      else if s1.axIdle a then s1
      else
        let n : Int := 256 / 2 ^ s1.rfld (R.AX_CTRL a) 8 3
        s1.coarse a (if pos then n else -n) d.toInt)

/-- MICROSTEP_EMIT (R339, R341, R346, R351): the next outstanding microstep, at its place in the period P. -/
def execMicrostepEmit (el : Nat) (a : Fin 8) (d : BitVec 16) (s : State) : Host.Outcome State Fault Refusal :=
  .next ((s.begin el).onIsland (axisIsland a) fun u =>
    let q := u.axis a
    if q.left = 0 then u
    else
      let k := q.stepN - q.left.natAbs
      if q.stepT + k * (q.per.getD 0 * 10) / q.stepN ≤ u.now then
        (u.updAxis a fun q => { q with left := q.left - q.left.sign }).micro a q.left.sign d.toInt
      else u)

/-- The position after the resolution stage (R341). -/
def State.axQuant (s : State) (a : Nat) : Int :=
  let lv := s.axLevel a
  let p := s.xActual a
  if lv = 0 then p else (p / 4 ^ lv) * 4 ^ lv + 4 ^ lv / 2

/-- The bridges of an axis are in fail-safe HOLD (R358). -/
def State.axSafeHold (s : State) (a : Nat) : Bool := s.safeOn (chAxis a) == some axHold

/-- The target current of a phase (08, Axis quantities), mA: I sin(2πq/1,024) in phase A, I cos in phase B; a fail-safe HOLD
keeps the last table position at I_HOLD (R358). -/
def State.phaseTarget (s : State) (a : Nat) (b : Bool) : Int :=
  let amp := if s.axSafeHold a then (s.rfld (R.AX_CURRENT a) 0 16 : Int) else roundDiv (s.axAmp16 a) 65536
  let p := if s.axSafeHold a then (s.axis a).kept.getD (s.axQuant a) else s.axQuant a
  let ang := turnQ (p % 1024 * 2 ^ 22)
  mulQ amp (if b then cosQ ang else sinQ ang)

/-- A protection keeps both bridges of an axis off, in every fail-safe state too (Table 1, R328, R329). -/
def State.bridgesCut (s : State) (a : Nat) : Bool :=
  s.rbit (R.AX_STAT a) asOcLatched || s.rbit (R.AX_STAT a) asVmUv || s.rbit (R.MOT_STAT (a / 4)) 0 || s.sys.gndLost

/-- The bridges of an axis are on (Table 1, R328, R329, R352, R358; AX_CTRL.EN). -/
def State.bridgesOn (s : State) (a : Nat) : Bool :=
  !s.bridgesCut a &&
  (match s.safeOn (chAxis a) with
    | some st => st == axHold
    | none => s.rbit (R.AX_CTRL a) 16 && !(s.axis a).stallOff)

/-- A phase's chopper takes a comparison of measured current `i` with target `t` (R325): it drives until the magnitude
reaches the target, at least 500 ns; it is off for T_OFF, and for a further T_OFF where it then has no reason to drive.
Answers whether a cycle ended: each T_OFF ends one (DEDUCED, log 157). -/
def Chop.compare (c : Chop) (now toff : Nat) (t i : Int) : Chop × Bool :=
  let want := decide (i.sign ≠ t.sign) && decide (t ≠ 0) || decide (i.natAbs < t.natAbs)
  if c.drive then (if c.since + 500 ≤ now ∧ !want then ⟨false, now, i⟩ else { c with i := i }, false)
  else if c.since + toff * 10 ≤ now then (⟨want, now, i⟩, true)
  else ({ c with i := i }, false)

/-- What the bridge of a phase does: it drives, decays slowly through both low-sides or fast through the reverse path (R325); its
switches are off, or both low-sides are on (R358). -/
inductive Leg where
  | drive
  | slow
  | fast
  | off
  | brake
  deriving DecidableEq, Repr

/-- What the bridge of phase A or B does now. Fail-safe HOLD has no fast fraction (R358). -/
def State.phaseLeg (s : State) (a : Nat) (b : Bool) : Leg :=
  let c := if b then (s.axis a).chopB else (s.axis a).chopA
  let toff := s.rfld (R.AX_CHOP a) 16 16 * 10
  let fast := if s.axSafeHold a then 0 else s.rfld (R.AX_CHOP a) 0 8
  if s.bridgesCut a then .off
  else if s.safeOn (chAxis a) == some axBrake then .brake
  else if !s.bridgesOn a then .off
  else if c.drive then .drive
  else if (s.now - c.since) * 256 < toff * (256 - fast) then .slow
  else .fast

/-- The comparator of a phase at measured current `i`, mA (R324, R325). -/
def State.phaseChop (s : State) (a : Nat) (b : Bool) (i : Int) : State :=
  let q := s.axis a
  let c := if b then q.chopB else q.chopA
  if !s.bridgesOn a then
    let c1 : Chop := ⟨false, s.now, i⟩
    s.setAxis a (if b then { q with chopB := c1 } else { q with chopA := c1 })
  else
    let r := c.compare s.now (s.rfld (R.AX_CHOP a) 16 16) (s.phaseTarget a b) i
    s.setAxis a (if b then { q with chopB := r.1 }
      else { q with chopA := r.1, ramp := if r.2 then min 16 (q.ramp + 1) else q.ramp })

/-- PHASE_CHOP_CYCLE (R324, R325, R358): the comparator of phase A or B at measured current `i`, mA. A cycle of phase A steps the
change between the run and hold amplitudes. A bridge in fail-safe HOLD needs no island clock. -/
def execPhaseChopCycle (el : Nat) (a : Fin 8) (b : Bool) (i : BitVec 16) (s : State) : Host.Outcome State Fault Refusal :=
  let u := s.begin el
  .next (if u.axSafeHold a ∧ !u.clk.inReset then u.phaseChop a b i.toInt
  else u.onIsland (axisIsland a) fun v => v.phaseChop a b i.toInt)

/-- AXIS_OC (R326): a phase current above 3,000 mA for 1 µs, or a bridge output short. -/
def execAxisOc (el : Nat) (a : Fin 8) (s : State) : Host.Outcome State Fault Refusal :=
  .next ((s.begin el).onIsland (axisIsland a) fun u =>
    (((u.event (R.AX_EVENT a) aeOc).setBit (R.AX_STAT a) asOcLatched true).axStop a).fault srcAxisOc a 0)

/-- AXIS_OPEN (R326): 8 drive intervals in a row of phase A or B end below a quarter of a target of at least 200 mA. -/
def execAxisOpen (el : Nat) (a : Fin 8) (b : Bool) (s : State) : Host.Outcome State Fault Refusal :=
  .next ((s.begin el).onIsland (axisIsland a) fun u =>
    if (u.phaseTarget a b).natAbs < 200 then u
    else (u.event (R.AX_EVENT a) (if b then aeOpenB else aeOpenA)).fault srcAxisOpen a (wordN (b2n b)))

/-- AXIS_VM_UV (R326): VM has been `vm` mV for 10 µs. -/
def execAxisVmUv (el : Nat) (a : Fin 8) (vm : BitVec 16) (s : State) : Host.Outcome State Fault Refusal :=
  .next ((s.begin el).onIsland (axisIsland a) fun u =>
    let v := u.setReg (R.MOT_VM (a / 4)) (vm.setWidth 32)
    if vm.toNat < 7000 ∧ !v.rbit (R.AX_STAT a) asVmUv then
      (((v.event (R.AX_EVENT a) aeVmUv).setBit (R.AX_STAT a) asVmUv true).axStop a).fault srcAxisVmUv a 0
    else v)

/-- VM_RECOVER (R327): VM has risen to `vm` mV. -/
def execVmRecover (el : Nat) (a : Fin 8) (vm : BitVec 16) (s : State) : Host.Outcome State Fault Refusal :=
  .next ((s.begin el).onIsland (axisIsland a) fun u =>
    let v := u.setReg (R.MOT_VM (a / 4)) (vm.setWidth 32)
    v.when (decide (7500 < vm.toNat)) fun w => w.setBit (R.AX_STAT a) asVmUv false)

/-- MOTION_OT (R328): the motion tile's temperature, 0.125 °C, has reached 170 °C. -/
def execMotionOt (el : Nat) (t : Fin 2) (temp : BitVec 16) (s : State) : Host.Outcome State Fault Refusal :=
  .next ((s.begin el).onIsland (20 + t.val) fun u =>
    let v := u.setReg (R.MOT_TEMP t) (temp.setWidth 32)
    if 1360 ≤ temp.toInt ∧ !v.rbit (R.MOT_STAT t) 0 then
      (forL (fun a w => w.axStop a) (tileAxes t) (v.setBit (R.MOT_STAT t) 0 true)).fault srcMotionOt t 0
    else v)

/-- The counters of a motion tile's axes, and AX_DEV_MAX (R347, R361). -/
def motCounters (t : Nat) : List Nat :=
  ((tileAxes t).map fun a => [R.AX_REVERSALS a, R.AX_OVERSHOOTS a, R.AX_LIMIT_DECELS a, R.AX_STALLS a, R.AX_INTERP_JUMP a,
    R.AX_STEP_OVERRATE a, R.AX_STEP_DROP a, R.AX_DEV_MAX a]).flatten

/-- A write of MOT_CMD (R328, R361): the present temperature is MOT_TEMP. -/
def motCmd (t : Nat) (w : Word) (s : State) : State :=
  let s1 := s.when (w.getLsbD 0) fun u => u.clearRegs (motCounters t)
  s1.when (w.getLsbD 1 && decide (s1.rsfld (R.MOT_TEMP t) 0 16 < 1240)) fun u => u.setBit (R.MOT_STAT t) 0 false

/-- MOT_OT_CLEAR (R328): MOT_CMD.OT_CLEAR is written at a tile temperature. -/
def execMotOtClear (el : Nat) (p : Port) (t : Fin 2) (temp : BitVec 16) (s : State) : Host.Outcome State Fault Refusal :=
  .next (((s.begin el).setReg (R.MOT_TEMP t) (temp.setWidth 32)).writeCmd p (R.MOT_CMD t) 2 (motCmd t))

/-- MOT_CNT_CLEAR (R361). -/
def execMotCntClear (el : Nat) (p : Port) (t : Fin 2) (s : State) : Host.Outcome State Fault Refusal :=
  .next ((s.begin el).writeCmd p (R.MOT_CMD t) 1 (motCmd t))

/-- The position at which an axis stops when it brakes from now on at the deceleration in force. -/
def State.stopPoint (s : State) (a : Nat) : Int :=
  let q := s.axis a
  let d := match q.limDec with
    | some d => d
    | none => (s.reg (R.AX_DMAX a)).toNat
  let c := s.axCfg a
  q.x + q.v.sign * if c.jerk then stopWay c d q.v q.a + 2 * |q.v| else q.v * q.v / (2 ^ 25 * d)

/-- A point in whole microsteps, at or beyond `x` in the direction `dir`. -/
def microBeyond (x dir : Int) : Int := if 0 < dir then -((-x) / xUnit) else x / xUnit

/-- A write of AX_CMD (R348, R354, R357, R360; Table 5). -/
def axCmd (a : Nat) (w : Word) (s : State) : State :=
  let s1 := s.when (w.getLsbD 0) fun u =>
    if u.axMode a = 2 then u
    else
      let p := wrap48 (microBeyond (u.stopPoint a) (u.axis a).v)
      ((u.setReg48 (R.AX_XTARGET_LO a) p).setReg (R.AX_VTARGET a) 0).updAxis a fun q => { q with
        aim := some (p * xUnit), braking := true, passed := false, reversing := false }
  let s2 := s1.when (w.getLsbD 1) fun u =>
    if u.axMode a = 2 then
      let v := u.flushSteps a 0
      ((v.setBit (R.AX_STAT a) asHeld true).event (R.AX_EVENT a) aeHeld).updAxis a fun q =>
        { q with hold := some (v.xActual a * xUnit), x := v.xActual a * xUnit, v := 0, a := 0 }
    else if (u.axis a).hold.isSome then u
    else
      let q := u.axis a
      let p := match limitToward (u.axLimits a) q.v with
        | some m => if 0 < q.v ∧ q.x ≤ m then min m (u.stopPoint a) else if q.v < 0 ∧ m ≤ q.x then max m (u.stopPoint a) else u.stopPoint a
        | none => u.stopPoint a
      u.updAxis a fun q => { q with hold := some p, aim := some p, braking := true, passed := false, reversing := false }
  let s3 := s2.when (w.getLsbD 2 && s2.rbit (R.AX_STAT a) asHeld) fun u =>
    (u.setBit (R.AX_STAT a) asHeld false).updAxis a fun q => { q with hold := none }
  let s4 := s3.when (w.getLsbD 3) fun u => u.updAxis a fun q => { q with sync := true, devWait := false, devRun := 0 }
  s4.when (w.getLsbD 4) fun u =>
    if u.axStill a then
      let p := u.reg48 (R.AX_XSET_LO a)
      ((u.setReg48 (R.AX_XACTUAL_LO a) p).setReg48 (R.AX_XTARGET_LO a) p).updAxis a fun q => { q with
        x := p * xUnit, aim := none, sync := true, devWait := false, devRun := 0, hold := q.hold.map fun _ => p * xUnit }
    else u.event (R.AX_EVENT a) aeCmdRefused

/-- AX_STOP (Table 5): the axis brakes with its target at the stop position. -/
def execAxStop (el : Nat) (p : Port) (a : Fin 8) (s : State) : Host.Outcome State Fault Refusal :=
  .next ((s.begin el).writeCmd p (R.AX_CMD a) 1 (axCmd a))

/-- AX_HOLD (R354). -/
def execAxHold (el : Nat) (p : Port) (a : Fin 8) (s : State) : Host.Outcome State Fault Refusal :=
  .next ((s.begin el).writeCmd p (R.AX_CMD a) 2 (axCmd a))

/-- AX_RELEASE (R357). -/
def execAxRelease (el : Nat) (p : Port) (a : Fin 8) (s : State) : Host.Outcome State Fault Refusal :=
  .next ((s.begin el).writeCmd p (R.AX_CMD a) 4 (axCmd a))

/-- ENC_SYNC (R348). -/
def execEncSync (el : Nat) (p : Port) (a : Fin 8) (s : State) : Host.Outcome State Fault Refusal :=
  .next ((s.begin el).writeCmd p (R.AX_CMD a) 8 (axCmd a))

/-- SET_ACTUAL (R360). -/
def execSetActual (el : Nat) (p : Port) (a : Fin 8) (s : State) : Host.Outcome State Fault Refusal :=
  .next ((s.begin el).writeCmd p (R.AX_CMD a) 16 (axCmd a))

/-- A fail-safe line applies to an axis (R358); its bridges keep the table position that they have then. -/
def State.axLineOn (s : State) (a : Nat) : State :=
  (((s.setBit (R.AX_STAT a) asFailsafe true).event (R.AX_EVENT a) aeFailsafe).axStop a).updAxis a fun q =>
    { q with await := true, kept := some (q.kept.getD (s.axQuant a)) }

/-- The line of an axis is released: it stays at standstill until a new target is written (R358). -/
def State.axLineOff (s : State) (a : Nat) : State :=
  (s.setBit (R.AX_STAT a) asFailsafe false).updAxis a fun q => { q with kept := none }

/-- A written target ends the wait of R358 once no line is applied. -/
def State.axNewTarget (s : State) (a : Nat) : State :=
  if s.rbit (R.AX_STAT a) asFailsafe then s else s.updAxis a fun q => { q with await := false }

/-- A virtual limit is refused: the axis moves toward it and cannot stop at or before it at AX_DLIMIT (R345). -/
def State.limitRefused (s : State) (a : Nat) (upper : Bool) (l : Int) : Bool :=
  let q := s.axis a
  let r := l * xUnit - q.x
  let c := s.axCfg a
  decide (q.v ≠ 0) && (decide (0 < q.v) == upper) && (decide (r.sign = -q.v.sign) || c.tooLate 1 c.dlimit q.v q.a r)

/-- Configuration fields of an axis have new values, from a host or an image: AX_DLIMIT is AX_DMAX at least (R344), and the level is 0
with ADAPT_EN 0 (R341). -/
def State.axCfgApplied (s : State) (a : Nat) : State :=
  let s1 := s.when (decide ((s.reg (R.AX_DLIMIT a)).toNat < (s.reg (R.AX_DMAX a)).toNat)) fun t =>
    t.setReg (R.AX_DLIMIT a) (t.reg (R.AX_DMAX a))
  s1.setFld (R.AX_STAT a) 16 3 (s1.axLevel a)

/-- Effects of an accepted write to a register of an axis beyond storing it (R327, R332, R344, R353, R358): `old` is the
state before the write, `w` the word written. -/
def State.axWritten (s old : State) (a off : Nat) (w : Word) : State :=
  if off = 0x000 then
    let m0 := old.axMode a
    let m1 := s.rfld (R.AX_CTRL a) 0 2
    if m0 ≠ m1 ∧ (m0 = 2 ∨ m1 = 2) ∧ !old.axStill a then
      ((s.setFld (R.AX_CTRL a) 0 2 (old.rfld (R.AX_CTRL a) 0 2)).event (R.AX_EVENT a) aeCmdRefused).axCfgApplied a
    else s.axCfgApplied a
  else if off = 0x008 then
    let s1 := if w.getLsbD aeOc ∧ !s.rbit (R.AX_EVENT a) aeOc ∧ old.rbit (R.AX_STAT a) asOcLatched then
        if (old.axis a).chopA.i.natAbs ≤ 50 ∧ (old.axis a).chopB.i.natAbs ≤ 50 then s.setBit (R.AX_STAT a) asOcLatched false
        else s.event (R.AX_EVENT a) aeOc
      else s
    s1.when (w.getLsbD aeStall && !s.rbit (R.AX_EVENT a) aeStall) fun u => (u.setBit (R.AX_STAT a) asStalled false).updAxis a fun q =>
      { q with stallOff := false }
  else if off = 0x024 ∨ off = 0x030 then s.axNewTarget a
  else if off = 0x048 ∨ off = 0x04C then s.axCfgApplied a
  else if off = 0x064 ∨ off = 0x06C then
    let lo := R.AX_XMIN_LO a + (off - 0x064)
    if s.limitRefused a (off == 0x06C) (s.reg48 lo) then
      ((s.setReg lo (old.reg lo)).setReg (lo + 4) (old.reg (lo + 4))).event (R.AX_EVENT a) aeLimitRefused
    else s
  else s

/-- A MOTION_TILE section has been applied to a tile (R356). -/
def State.motionApplied (s : State) (t : Nat) : State :=
  forL (fun a u => (u.setReg48 (R.AX_XTARGET_LO a) (u.xActual a)).setReg (R.AX_VTARGET a) 0) (tileAxes t) s

end Sys2Proof.Machine
end

