-- ==== Sys2Proof/Machine/Lane.lean ====
section
/-!
DEFINITION. Lane drive (06_lane_drive.md, R226–R283): the profile of a firing, the group high-side, protections, the
coil's diagnostics, the idle test and the fail-safe lines of a lane. Currents and voltages are what the tile measures;
they come with the command.
-/
namespace Sys2Proof.Machine

/-- Bits of LANE_STAT, LANE_DIAG, TILE_STAT and TILE_IRQ_STAT. -/
abbrev lsHoldOnly : Nat := 7
abbrev lsShared : Nat := 8
abbrev lsPending : Nat := 9
abbrev lsThWarn : Nat := 10
abbrev lsThLimit : Nat := 11
abbrev lsDerated : Nat := 12
abbrev lsRefusing : Nat := 13
abbrev lsOcLatched : Nat := 14
abbrev lsFailsafe : Nat := 15
abbrev ldOpen : Nat := 0
abbrev ldShort : Nat := 1
abbrev ldOc : Nat := 2
abbrev ldBoost : Nat := 3
abbrev ldOverrun : Nat := 4
abbrev ldEnergy : Nat := 5
abbrev ldPower : Nat := 6
abbrev ldIdleOpen : Nat := 7
abbrev ldThWarn : Nat := 8
abbrev ldThLimit : Nat := 9
abbrev ldImplausible : Nat := 10
abbrev ldIgnored : Nat := 11
abbrev ldRefused : Nat := 12
abbrev tsGhOn : Nat := 0
abbrev tsTrip : Nat := 1
abbrev tsOt : Nat := 3
abbrev tiTrip : Nat := 8
abbrev tiStuck : Nat := 9
abbrev tiOverload : Nat := 10
abbrev tiInhibit : Nat := 11
abbrev tiOt : Nat := 12
abbrev tiGndLoss : Nat := 13
abbrev tiWarn : Nat := 14

/-- The values of LANE_STAT.PHASE. -/
abbrev phIdle : Nat := 0
abbrev phPeak : Nat := 1
abbrev phHold : Nat := 2
abbrev phRelease : Nat := 3
abbrev phSafe : Nat := 4

/-- The phase of a lane. -/
def State.phase (s : State) (n : Nat) : Nat := s.rfld (R.LANE_STAT n) 0 3

/-- A lane's state beside its registers changes. -/
def State.updLane (s : State) (n : Nat) (f : LaneSt → LaneSt) : State := s.setLane n (f (s.lane n))

/-- The running firing of a lane changes. -/
def State.updFiring (s : State) (n : Nat) (f : Firing → Firing) : State :=
  s.updLane n fun l => { l with firing := l.firing.map f }

/-- The lanes of a tile in the peak phase. -/
def State.peakLanes (s : State) (t : Nat) : List Nat := (tileLanes t).filter fun n => s.phase n == phPeak

/-- The word of a configuration register of lane `n` or of its tile that is in force for the lane: that of the old bank which a
handover swap has left it (02 R95, R99). -/
def State.laneReg (s : State) (n a : Nat) : Word :=
  match (s.lane n).old with
  | some b =>
    if (b.upTo.map fun g => decide (s.localDt (n / 8) < g)).getD true then Tab.get resetWord b.regs a else s.reg a
  | none => s.reg a

/-- LANE_COIL_R20 is written (R265): from a non-zero value tw and tb start from ta. -/
def State.r20Written (s : State) (n : Nat) : State :=
  let t := n / 8
  if s.rfld (R.LANE_COIL_R20 n) 0 24 = 0 then s
  else
    let ta := 65536 * if s.rbit (R.TILE_CTRL t) 0 then s.rsfld (R.TILE_TAMB_HOST t) 0 16 else s.rsfld (R.TILE_TEMP t) 0 16
    s.updLane n fun l => { l with tw := ta, tb := ta }

/-- The action of LANE_TH_ACT that is in force for a lane: none while its limit is not (R268). -/
def State.thAct (s : State) (n : Nat) : Nat :=
  if s.rbit (R.LANE_STAT n) lsThLimit then fld (s.laneReg n (R.LANE_TH_ACT n)) 0 2 else 0

/-- LANE_STAT shows the action in force (R268). -/
def State.thActShow (s : State) (n : Nat) : State :=
  (s.setBit (R.LANE_STAT n) lsDerated (s.thAct n == 1)).setBit (R.LANE_STAT n) lsRefusing (s.thAct n == 2)

/-- A lane leaves its old bank (02 R95, R99), and does so when the time of the bank is over. -/
def State.takeBank (s : State) (n : Nat) : State :=
  match (s.lane n).old with
  | none => s
  | some b =>
    let s1 := (s.updLane n fun l => { l with old := none }).thActShow n
    s1.when (Tab.get resetWord b.regs (R.LANE_COIL_R20 n) != s.reg (R.LANE_COIL_R20 n)) fun t => t.r20Written n
def State.bankDue (s : State) (n : Nat) : State :=
  match (s.lane n).old.bind (·.upTo) with
  | some g => if g ≤ s.localDt (n / 8) then s.takeBank n else s
  | none => s

/-- A running firing's I_PEAK. -/
def State.iPeak (s : State) (n : Nat) : Nat :=
  match (s.lane n).firing with
  | some f => fld f.prof.peak 0 16
  | none => fld (s.laneReg n (R.LANE_PEAK n)) 0 16

/-- The peak limit of the group of a lane is shared among the lanes in the peak phase (R241). -/
def State.sharing (s : State) (n : Nat) : Bool :=
  decide (fld (s.laneReg n (R.GRP_CFG (n / 8))) 16 16 < ((s.peakLanes (n / 8)).map s.iPeak).sum)

/-- The peak threshold of a lane (R232, R241). -/
def State.peakThr (s : State) (n : Nat) : Nat :=
  if s.sharing n then min (s.iPeak n) (fld (s.laneReg n (R.GRP_CFG (n / 8))) 16 16 / (s.peakLanes (n / 8)).length)
  else s.iPeak n

/-- The hold threshold of a lane whose profile says `i` (R237, R268). -/
def State.holdThr (s : State) (n i : Nat) : Nat :=
  if s.thAct n = 1 then
    max 50 (roundDiv ((i : Int) * fld (s.laneReg n (R.LANE_TH_ACT n)) 16 16) 65536).toNat
  else i

/-- A regulation threshold as the lane's comparator uses it: shifted by the offset that the last calibration has measured (07
R319). -/
def State.shifted (s : State) (n thr : Nat) : Nat := ((thr : Int) + s.rsfld (R.BURNISH_DAC n) 0 16).toNat

/-- The time of a running firing after a search without a knee counts no longer (07 R308): the firing is not eligible from now
on. -/
def State.actStop (s : State) (n : Nat) : State :=
  s.updLane n fun l => match l.actSince with
    | some t => { l with act := l.act + (s.localDt (n / 8) - t).toNat, actSince := none }
    | none => l

/-- The running firing comes under one of rows 1 to 4 of 07 Table 2. -/
def State.spoil (s : State) (n : Nat) (f : Firing → Firing) : State := (s.actStop n).updFiring n f

/-- A firing whose peak threshold the group has reduced is SHARED, and is counted once (R242). -/
def State.markShared (s : State) (n : Nat) : State :=
  match (s.lane n).firing with
  | some f =>
    if f.shared then s
    else (((s.spoil n fun g => { g with shared := true }).setBit (R.LANE_STAT n) lsShared true).count
      (R.LANE_SHARED_CNT n) 1).count (R.GRP_SHARED_CNT (n / 8)) 1
  | none => s

/-- A start or end of a peak phase in a group (R241, R242): TILE_STAT.PEAKS, and the sharing of the peak limit. Between two of them
the thresholds stay. -/
def State.share (s : State) (t : Nat) : State :=
  let l := s.peakLanes t
  forL (fun n u =>
    let v := u.when (decide (u.peakThr n < u.iPeak n)) fun w => w.markShared n
    v.updLane n fun x => { x with thr := v.shifted n (v.peakThr n) }) l (s.setFld (R.TILE_STAT t) 8 4 l.length)

/-! Chopping (R236) and the measurement windows in hold (R260). -/

/-- The off time of a lane's chopping cycles, ns, and the fast part of it in 1/256: those of the running firing, and no fast part
in fail-safe HOLD (R279). -/
def State.tOff (s : State) (n : Nat) : Int × Nat :=
  if s.phase n = phSafe then ((s.rfld (R.LANE_HOLD n) 16 16 : Int) * 10, 0)
  else match (s.lane n).firing with
    | some f => ((fld f.prof.hold 16 16 : Int) * 10, fld f.prof.decay 0 8)
    | none => (0, 0)

/-- The switch state of a lane (R226; Table 1): in the off part of a chopping cycle SLOW, then OFF for the fast part (R236). -/
def State.laneSw (s : State) (n : Nat) : Sw :=
  match (s.lane n).offAt with
  | none => (s.lane n).sw
  | some o =>
    let t := s.localDt (n / 8)
    let q := s.tOff n
    if t < o ∨ o + q.1 ≤ t then .on else if (t - o) * 256 < q.1 * (256 - q.2 : Nat) then .slow else .off

/-- A lane changes to ON at `e` within hold: a chopping cycle ends and the next begins (R260). The open window, the last one, takes
the cycle in, and closes after 100 ms. -/
def cycleEnd (e : Int) : List RWin → List RWin
  | [] => []
  | [w] =>
    if w.shut ∨ e < w.opens then [w]
    else if e ≤ w.opens + 100000000 then [{ w with first := some (w.first.getD e), last := e }]
    else [{ w with shut := true }, ⟨w.opens + (e - w.opens) / 100000000 * 100000000, some e, e, false⟩]
  | w :: r => w :: cycleEnd e r

/-- What has happened in a lane's chopping by the instant `t` is written down: an off part that has ended has given way to the ON
part of the next cycle, with the hold threshold then in force (R236, R237, R268). -/
def State.chopTo (s : State) (n : Nat) (t : Int) : State :=
  match (s.lane n).offAt with
  | none => s
  | some o =>
    let e := o + (s.tOff n).1
    if t < e then s
    else
      let thr := match (s.lane n).firing with
        | some f => if s.phase n = phHold then s.shifted n (s.holdThr n (fld f.prof.hold 0 16)) else (s.lane n).thr
        | none => (s.lane n).thr
      s.updLane n fun l => { l with sw := .on, onAt := e, offAt := none, thr := thr, wins := cycleEnd e l.wins }
def State.chopNow (s : State) (n : Nat) : State := s.chopTo n (s.localDt (n / 8))

/-- A lane enters a phase and a switch state at `t`. The first window of a hold opens 200 µs after it begins, and the last one
closes with it (R260). -/
def State.enterAt (s : State) (n p : Nat) (w : Sw) (t : Int) : State :=
  let was := s.phase n
  let s0 := s.chopTo n t
  let s1 := (s0.setFld (R.LANE_STAT n) 0 3 p).updLane n fun l =>
    let l1 := { l with sw := w, offAt := none, onAt := if w = .on then t else l.onAt,
                       wins := l.wins.map fun x => { x with shut := true } }
    if p = phHold then { l1 with wins := cycleEnd t (l1.wins ++ [⟨t + 200000, none, t + 200000, false⟩]) } else l1
  let s2 := s1.updFiring n fun f => { f with
    leftAt := if was = phPeak ∧ p ≠ phPeak ∧ f.peakAt.isNone ∧ f.leftAt.isNone then some t else f.leftAt
    holdAt := if p = phHold then some t else f.holdAt }
  s2.when (was == phPeak || p == phPeak) fun u => u.share (n / 8)
def State.enterPhase (s : State) (n p : Nat) (w : Sw) : State := s.enterAt n p w (s.localDt (n / 8))

/-- The group high-side turns on, which ends an idle test (R272), or off (R228, R229). -/
def State.ghOn (s : State) (t : Nat) : State := (s.setBit (R.TILE_STAT t) tsGhOn true).idleAbort t
def State.ghOff (s : State) (t : Nat) : State :=
  if s.rbit (R.TILE_STAT t) tsGhOn then
    (s.setBit (R.TILE_STAT t) tsGhOn false).setTile t { s.tile t with ghOff := (s.localDt t), stuck := false }
  else s

/-- The profile and learner words in force for a lane (R240, 07 R321). -/
def State.profile (s : State) (n : Nat) : Profile :=
  let w := s.laneReg n
  ⟨w (R.LANE_PEAK n), w (R.LANE_PEAK_TMAX n), w (R.LANE_HOLD n), w (R.LANE_DECAY n), w (R.LANE_RELEASE n),
    w (R.LANE_DIAG_CFG n), w (R.LANE_OC n), w (R.LRN_GAIN n), w (R.LRN_PLAUS n), w (R.LRN_DETECT n), w (R.LRN_OPEN_WIN n),
    w (R.LRN_CLOSE_WIN n), w (R.LRN_OFS n)⟩

/-- The band in force of a tile: REF_BAND until the first mean is formed (07 R299). -/
def State.bandOf (s : State) (t : Nat) : Nat := ((s.tile t).band).getD (s.rfld (R.LRN_TILE_CFG t) 16 3)

/-- A value of `q` 16-fraction-bit units, rounded to its unit (R7). -/
def round16 (q : Int) : Int := roundDiv q 65536

/-- The release allowance of a firing, ns. -/
def Firing.release (f : Firing) : Int := (fld f.prof.release 0 24 : Int) * 10

/-- A lane goes OFF and releases through its clamp before its close instant (R243, R277, R280): the release begins now. A
lane in fail-safe HOLD goes OFF. -/
def State.cutLane (s : State) (n : Nat) : State :=
  if s.phase n = phSafe then s.enterPhase n phIdle .off
  else match (s.lane n).firing with
    | none => s
    | some f =>
      let g := match f.closed with
        | some _ => { f with cut := true }
        | none => { f with cut := true, closed := some (s.localDt (n / 8)), endAt := some ((s.localDt (n / 8)) + f.release) }
      (s.spoil n fun _ => g).enterPhase n phRelease .off

/-- Every lane of a tile goes OFF and its group high-side turns off. -/
def State.cutTile (s : State) (t : Nat) : State := (forL (fun n u => u.cutLane n) (tileLanes t) s).ghOff t

/-- The group is latched off (R243, R247). -/
def State.tripGroup (s : State) (t : Nat) (byShort : Bool) : State :=
  ((((s.cutTile t).setBit (R.TILE_STAT t) tsTrip true).event (R.TILE_IRQ_STAT t) tiTrip).count
    (R.GRP_TRIP_CNT t) 1).fault srcGroupTrip t (wordN (b2n byShort))

/-- The stored fail-safe states of a lane (14 Table 6). -/
abbrev safeOff : Nat := 0
abbrev safeHold : Nat := 1

/-- A lane regulates in fail-safe HOLD with its group high-side on (R279). The low-side of a disabled lane stays off (02 R70). -/
def State.safeHoldOn (s : State) (n : Nat) : State :=
  if s.role n = 0 then s.enterPhase n phIdle .off
  else ((s.updLane n fun l => { l with thr := s.shifted n (s.rfld (R.LANE_HOLD n) 0 16) }).enterPhase n phSafe .on).ghOn (n / 8)

/-- When the protections of a tile clear, a lane whose line is still applied resumes HOLD (R279). -/
def State.resumeHold (s : State) (t : Nat) : State :=
  if s.tileBlocked t then s
  else forL (fun n u => if u.safeOn (chLane n) = some safeHold then u.safeHoldOn n else u) (tileLanes t) s

/-- The running firing of a lane ends (R249, R279) at `e`: it waits for the learner, and the lane's time in it is counted
(07 R308). A lane that has completed it under its old configuration takes the new one (02 R99). -/
def State.endFiring (s : State) (n : Nat) (e : Int) : State :=
  match (s.lane n).firing with
  | none => s
  | some f =>
    let s1 := s.updLane n fun l => { l with
      firing := none, done := l.done ++ [{ f with endAt := some e, closed := some (f.closed.getD e) }],
      act := l.act + (match l.actSince with
        | some t => (e - t).toNat
        | none => 0),
      actSince := none }
    let s2 := (s1.setBit (R.LANE_STAT n) lsHoldOnly false).setBit (R.LANE_STAT n) lsShared false
    let s3 := s2.setTile (n / 8) { s2.tile (n / 8) with ghLast := max e (s2.tile (n / 8)).ghLast }
    s3.when (((s.lane n).old.map fun b => b.upTo.isNone).getD false) fun u => u.takeBank n

/-- A lane counts as in a firing up to `e` (R279), which ends then for its group (R229). -/
def State.busyTo (s : State) (n : Nat) (e : Int) : State :=
  let s1 := s.updLane n fun l => { l with busyUntil := some e }
  s1.setTile (n / 8) { s1.tile (n / 8) with ghLast := max e (s1.tile (n / 8)).ghLast }

/-- A fail-safe line is applied to a lane with its stored state (R279): a running firing ends at that instant, an idle
test of the tile and a calibration of the lane end (R273, 07 R317). -/
def State.laneLineOn (s : State) (n st : Nat) : State :=
  let now : Int := (s.localDt (n / 8))
  let s1 := (s.spoil n fun f => { f with cut := true }).traceStop (fun k => k == n) now
  let fired := (s1.lane n).firing.isSome
  let rel := match (s1.lane n).firing with
    | some f => f.release
    | none => 0
  let s2 := (s1.endFiring n now).setBit (R.LANE_STAT n) lsFailsafe true
  let s3 := (s2.idleAbort (n / 8)).burnAbandon n
  if st = safeHold then (if s3.tileBlocked (n / 8) then s3.enterPhase n phIdle .off else s3.safeHoldOn n)
  else (s3.enterPhase n phIdle .off).when fired fun u => u.busyTo n (now + rel)

/-- The line of a lane is released (R279). After HOLD the release allowance runs from now. -/
def State.laneLineOff (s : State) (n st : Nat) : State :=
  let s1 := s.setBit (R.LANE_STAT n) lsFailsafe false
  if st = safeHold then
    (s1.enterPhase n phIdle .off).busyTo n (s.localDt (n / 8) + s.releaseOf n)
  else s1

/-- The group high-side has a reason to stay on: a firing, or a fail-safe HOLD (R229). -/
def State.groupBusy (s : State) (t : Nat) : Bool :=
  (tileLanes t).any fun n => (s.lane n).firing.isSome || s.phase n == phSafe ||
    (match (s.lane n).busyUntil with
      | some e => decide ((s.localDt t) < e)
      | none => false)

/-- The open instants of the pulses that wait in a tile. -/
def State.waiting (s : State) (t : Nat) : List Int := ((tileLanes t).map fun n => (s.lane n).pulses.map (·.opn)).flatten

/-- An armed capture of LANE_TRACE runs on the firing that begins (16 R646); `entries` are its samples. -/
def State.trace (s : State) (n : Nat) (o : Int) (entries : List Word) : State :=
  if s.rbit R.REC_TRACE_CFG 31 && s.rfld R.REC_TRACE_CFG 0 8 == n && s.rcd.trace.isNone then
    { s with rcd := { s.rcd with trace := some ⟨n, o + (s.reg R.REC_TRACE_OFS).toInt * 1000,
      2 ^ s.rfld R.REC_TRACE_CFG 8 3 * 500, entries, (s.tile (n / 8)).hits, none, 0⟩ } }
  else s

/-- A firing begins (R231, R240, R275). `q` is its pulse: the first of a PWM period that starts at or after T_h is carried out under the
new configuration, although it opens the latency before that start (02 R95, R98; DEDUCED, log 184). -/
def State.fire (s0 : State) (n : Nat) (q : TilePulse) (entries : List Word) : State :=
  let s := match (s0.lane n).old.bind (·.upTo) with
    | some g => if q.pwm && decide (g ≤ q.opn + q.lat * 10) then s0.takeBank n else s0.bankDue n
    | none => s0
  let inh := s.sys.inhibit
  let peak := (s.laneReg n (R.LANE_CFG n)).getLsbD 0
  let only := !peak || inh
  let p := s.profile n
  let f : Firing :=
    { opn := q.opn, close := q.close, closed := none, endAt := none, contended := q.contended, pwm := q.pwm,
      holdOnly := only, shared := false, cut := false, diag2 := false, dead := false, tmo := false, trunc := false,
      peakAt := none, leftAt := none, holdAt := none, sought := !only, kneeDone := only, knee := none, seatDone := false, seat := none, armed := true,
      checked := false, used := false, tw := round16 (s.lane n).tw, band := s.bandOf (n / 8), lat := q.lat, prof := p }
  let s1 := ((s.count (R.LANE_FIRINGS n) 1).updLane n fun l => { l with
    firing := some f, wins := [], thr := s.shifted n (s.holdThr n (fld p.hold 0 16)) }).ghOn (n / 8)
  let s2 := (s1.setBit (R.LANE_STAT n) lsHoldOnly only).enterAt n (if only then phHold else phPeak) .on q.opn
  (s2.when (peak && inh) fun u => u.count (R.TILE_PEAK_INHIBIT_CNT (n / 8)) 1).trace n q.opn entries

/-- A pulse is not carried out, or ignored (R258): its open instant counts for the group high-side (R229). -/
def State.notFired (s : State) (n : Nat) (q : TilePulse) (a flag : Nat) : State :=
  let s1 := (s.count a 1).event (R.LANE_DIAG n) flag
  s1.setTile (n / 8) { s1.tile (n / 8) with ghLast := max q.opn (s1.tile (n / 8)).ghLast }

/-- The peak phase of a lane ends into hold at current `i` and instant `t` (R235): at or below the hold threshold chopping begins
at once. -/
def State.peakToHold (s : State) (n i : Nat) (t : Int) : State :=
  match (s.lane n).firing with
  | none => s
  | some f =>
    let th := s.shifted n (s.holdThr n (fld f.prof.hold 0 16))
    let w : Sw := if f.dead then .off else if i ≤ th then .on else if f.prof.decay.getLsbD 8 then .off else .slow
    (s.enterAt n phHold w t).updLane n fun l => { l with thr := th }

/-- Commands of a lane act while its tile's island is up and clocked. -/
def State.onTile (s : State) (t : Nat) (f : State → State) : State := s.onIsland t f

/-- GH_TURN_ON (R228): 2 µs before the earliest open instant of the tile's committed pulses. -/
def execGhTurnOn (el : Nat) (t : Fin 20) (s : State) : Host.Outcome State Fault Refusal :=
  .next ((s.begin el).onTile t fun u =>
    if (u.waiting t).any (fun o => decide (o - 2000 ≤ (u.localDt t))) && !u.tileBlocked t then u.ghOn t else u)

/-- OPEN_INSTANT (R257, R258; Table 5): the earliest pulse waiting for the lane, once its open instant has come.
`entries` is what an armed trace would take (16 R646). -/
def execOpenInstant (el : Nat) (n : Fin 160) (entries : List Word) (s : State) : Host.Outcome State Fault Refusal :=
  .next ((s.begin el).onTile (n / 8) fun u =>
    match (u.lane n).pulses with
    | [] => u
    | q :: r =>
      if (u.localDt (n / 8)) < q.opn then u
      else
        let v := (u.updLane n fun l => { l with pulses := r }).setBit (R.LANE_STAT n) lsPending (!r.isEmpty)
        if (v.safeOn (chLane n)).isSome || v.tileBlocked (n / 8) || v.rbit (R.LANE_STAT n) lsOcLatched ||
            v.thAct n == 2 then v.notFired n q (R.LANE_REFUSED n) ldRefused
        else if v.laneBusy n then v.notFired n q (R.LANE_IGNORED n) ldIgnored
        else v.fire n q entries)

/-- PEAK_REACHED (R232, R234): the lane current `i` first reaches the peak threshold. The lane chops from then on; its ON part
has lasted 1 µs at least (R236). -/
def execPeakReached (el : Nat) (n : Fin 160) (i : Nat) (s : State) : Host.Outcome State Fault Refusal :=
  .next ((s.begin el).onTile (n / 8) fun u =>
    match (u.lane n).firing with
    | none => u
    | some f =>
      let now : Int := (u.localDt (n / 8))
      if u.phase n = phPeak ∧ f.peakAt = none ∧ !f.dead ∧ f.opn + 500 ≤ now ∧ (u.lane n).thr ≤ i ∧
          now ≤ f.opn + (fld f.prof.tmax 0 24 : Int) * 10 then
        ((u.updFiring n fun g => { g with peakAt := some now }).setFldN (R.LANE_PEAK_TIME n) 0 24
          (roundDiv (now - f.opn) 10).toNat).updLane n fun l => { l with offAt := some (max now (l.onAt + 1000)) }
      else u)

/-- PEAK_END (R235; Table 2): DWELL has elapsed after the peak threshold was reached, or PEAK_TMAX after the open instant; `i` is
the current. -/
def execPeakEnd (el : Nat) (n : Fin 160) (i : Nat) (s : State) : Host.Outcome State Fault Refusal :=
  .next ((s.begin el).onTile (n / 8) fun u =>
    match (u.lane n).firing with
    | none => u
    | some f =>
      match f.peakAt with
      | some t =>
        let e := min (t + (fld f.prof.peak 16 16 : Int) * 10) (f.opn + (fld f.prof.tmax 0 24 : Int) * 10)
        if u.phase n = phPeak ∧ e ≤ (u.localDt (n / 8)) then u.peakToHold n i e else u
      | none => u)

/-- BOOST_TIMEOUT (R233, R234): the peak threshold was not reached by PEAK_TMAX; `i` is the current. -/
def execBoostTimeout (el : Nat) (n : Fin 160) (i : Nat) (s : State) : Host.Outcome State Fault Refusal :=
  .next ((s.begin el).onTile (n / 8) fun u =>
    match (u.lane n).firing with
    | none => u
    | some f =>
      let tm := fld f.prof.tmax 0 24
      if u.phase n = phPeak ∧ f.peakAt = none ∧ f.opn + (tm : Int) * 10 ≤ (u.localDt (n / 8)) then
        ((((u.updFiring n fun g => { g with tmo := true }).event (R.LANE_DIAG n) ldBoost).count
          (R.LANE_BOOST_TIMEOUT n) 1).setFld (R.LANE_PEAK_TIME n) 0 24 tm).peakToHold n i (f.opn + (tm : Int) * 10)
      else u)

/-- HOLD_REACHED (R235): the decaying current `i` reaches the hold threshold and chopping begins. -/
def execHoldReached (el : Nat) (n : Fin 160) (i : Nat) (s : State) : Host.Outcome State Fault Refusal :=
  .next ((s.begin el).onTile (n / 8) fun u =>
    match (u.lane n).firing with
    | none => u
    | some f =>
      let th := u.shifted n (u.holdThr n (fld f.prof.hold 0 16))
      let now := u.localDt (n / 8)
      if u.phase n = phHold ∧ !f.dead ∧ (u.lane n).sw ≠ .on ∧ i ≤ th then
        u.updLane n fun l => { l with sw := .on, onAt := now, thr := th, wins := cycleEnd now l.wins }
      else u)

/-- A lane that regulates has reached its threshold at current `i`, its ON part having lasted 1 µs at least (R236): it is off for
T_OFF, and then ON again. -/
def State.chop (s : State) (n i : Nat) : State :=
  let u := s.chopNow n
  let now := u.localDt (n / 8)
  let l := u.lane n
  let on := u.phase n == phSafe || u.phase n == phHold ||
    (u.phase n == phPeak && ((l.firing.bind (·.peakAt)).isSome))
  if on ∧ l.sw = .on ∧ l.offAt = none ∧ l.onAt + 1000 ≤ now ∧ l.thr ≤ i then
    u.updLane n fun x => { x with offAt := some now }
  else u

/-- CHOP_CYCLE (R236, R279): the current `i` reaches the threshold. A stage in fail-safe HOLD needs no island clock. -/
def execChopCycle (el : Nat) (n : Fin 160) (i : Nat) (s : State) : Host.Outcome State Fault Refusal :=
  let u := s.begin el
  .next (if u.phase n = phSafe ∧ !u.clk.inReset then u.chop n i else u.onTile (n / 8) fun v => v.chop n i)

/-- CLOSE_INSTANT (R238, R248, R249): the release begins at current `i`. -/
def execCloseInstant (el : Nat) (n : Fin 160) (i : Nat) (s : State) : Host.Outcome State Fault Refusal :=
  .next ((s.begin el).onTile (n / 8) fun u =>
    match (u.lane n).firing with
    | none => u
    | some f =>
      match f.close, f.closed with
      | some c, none =>
        if c ≤ (u.localDt (n / 8)) then
          let w : Sw := if f.dead ∨ i ≤ fld f.prof.decay 16 16 then .off else .slow
          (u.updFiring n fun g => { g with closed := some c, endAt := some (c + f.release) }).enterAt n phRelease w c
        else u
      | _, _ => u)

/-- SPLIT_REACHED (R248): a lane in split release has fallen to REL_SPLIT_I. -/
def execSplitReached (el : Nat) (n : Fin 160) (i : Nat) (s : State) : Host.Outcome State Fault Refusal :=
  .next ((s.begin el).onTile (n / 8) fun u =>
    match (u.lane n).firing with
    | none => u
    | some f =>
      if u.phase n = phRelease ∧ (u.lane n).sw = .slow ∧ i ≤ fld f.prof.decay 16 16 then
        u.updLane n fun l => { l with sw := .off }
      else u)

/-- FIRING_END (R249, R250): the release allowance has run out; `i` is the current. -/
def execFiringEnd (el : Nat) (n : Fin 160) (i : Nat) (s : State) : Host.Outcome State Fault Refusal :=
  .next ((s.begin el).onTile (n / 8) fun u =>
    match (u.lane n).firing.bind (·.endAt) with
    | none => u
    | some e =>
      if e ≤ (u.localDt (n / 8)) then
        let v := u.when (decide (20 < i)) fun w =>
          (w.event (R.LANE_DIAG n) ldOverrun).count (R.LANE_RELEASE_OVERRUN n) 1
        (v.enterPhase n phIdle .off).endFiring n e
      else u)

/-- The diagnostics of a lane run: those of a disabled lane do not (02 R70), once a firing that a remap left it has ended. -/
def State.diagRuns (s : State) (n : Nat) : Bool := decide (s.role n ≠ 0) || (s.lane n).firing.isSome

/-- CLAMP_INTERVAL_END (R251): a clamp interval of `e` µJ. -/
def execClampIntervalEnd (el : Nat) (n : Fin 160) (e : Nat) (s : State) : Host.Outcome State Fault Refusal :=
  .next ((s.begin el).onTile (n / 8) fun u =>
    let v := u.setFldN (R.LANE_CLAMP_EMAX n) 0 16 (max (u.rfld (R.LANE_CLAMP_EMAX n) 0 16) e)
    let w := v.recAdd 2 (n / 8) 11 e
    w.when (u.diagRuns n && decide (3000 < e)) fun x => ((x.noteSat (R.LANE_DIAG n) (satN 32 e != e)).event (R.LANE_DIAG n) ldEnergy).fault srcClamp n (wordN (satN 32 e)))

/-- CLAMP_POWER_WINDOW (R252): a 100 ms window of `p` mW mean clamp power. -/
def execClampPowerWindow (el : Nat) (n : Fin 160) (p : Nat) (s : State) : Host.Outcome State Fault Refusal :=
  .next ((s.begin el).onTile (n / 8) fun u =>
    let v := u.setFldN (R.LANE_CLAMP_PAVG n) 0 16 p
    v.when (u.diagRuns n && decide (300 < p)) fun x =>
      ((x.noteSat (R.LANE_DIAG n) (satN 32 (p * 100) != p * 100)).event (R.LANE_DIAG n) ldPower).fault srcClamp n (wordN (satN 32 (p * 100))))

/-- GH_TURN_OFF (R229): 20 µs after the group's last activity, unless a pulse of the group opens within 50 µs after. -/
def execGhTurnOff (el : Nat) (t : Fin 20) (s : State) : Host.Outcome State Fault Refusal :=
  .next ((s.begin el).onTile t fun u =>
    let off := (u.tile t).ghLast + 20000
    if !u.groupBusy t && decide (off ≤ (u.localDt t)) && !(u.waiting t).any (fun o => decide (o ≤ off + 50000)) then
      u.ghOff t
    else u)

/-- GROUP_TRIP (R243): the group current has been above 20 A for 1 µs. -/
def execGroupTrip (el : Nat) (t : Fin 20) (s : State) : Host.Outcome State Fault Refusal :=
  .next ((s.begin el).onTile t fun u => u.tripGroup t false)

/-- The counters of a tile, its lanes and their learners, and LANE_CLAMP_EMAX (06 Note, 07 R320). -/
def tileCounters (t : Nat) : List Nat :=
  [R.GRP_TRIP_CNT t, R.GRP_SHARED_CNT t, R.GRP_STUCK_CNT t, R.GRP_OVERLOAD_CNT t, R.TILE_PEAK_INHIBIT_CNT t] ++
  ((tileLanes t).map fun n => [R.LANE_FIRINGS n, R.LANE_IGNORED n, R.LANE_REFUSED n, R.LANE_BOOST_TIMEOUT n,
    R.LANE_OPEN_CNT n, R.LANE_SHORT_CNT n, R.LANE_OC_CNT n, R.LANE_RELEASE_OVERRUN n, R.LANE_SHARED_CNT n,
    R.LANE_CLAMP_EMAX n, R.LRN_UPDATES n, R.LRN_EXCLUDED n, R.LRN_OUTLIER_OPEN n, R.LRN_OUTLIER_CLOSE n,
    R.LRN_NOKNEE n, R.LRN_NOCLOSE n, R.BURNISH_DONE n, R.BURNISH_ABANDON n]).flatten

/-- A write of TILE_CMD (R244, R280, Note): the present group current and tile temperature are those of GRP_IMEAS and
TILE_TEMP. -/
def tileCmd (t : Nat) (w : Word) (s : State) : State :=
  let s1 := s.when (w.getLsbD 0) fun u => u.clearRegs (tileCounters t)
  let s2 := s1.when (w.getLsbD 1 && s1.rbit (R.TILE_STAT t) tsTrip && decide (s1.rfld (R.GRP_IMEAS t) 0 16 ≤ 50))
    fun u => (u.setBit (R.TILE_STAT t) tsTrip false).resumeHold t
  s2.when (w.getLsbD 2 && s2.rbit (R.TILE_STAT t) tsOt && decide (s2.rsfld (R.TILE_TEMP t) 0 16 < 1240))
    fun u => (u.setBit (R.TILE_STAT t) tsOt false).resumeHold t

/-- GRP_CLEAR (R244): TILE_CMD.GRP_CLEAR is written while the group current is `i` mA. -/
def execGrpClear (el : Nat) (p : Port) (t : Fin 20) (i : BitVec 16) (s : State) : Host.Outcome State Fault Refusal :=
  .next (((s.begin el).setFld (R.GRP_IMEAS t) 0 16 i.toNat).writeCmd p (R.TILE_CMD t) 2 (tileCmd t))

/-- GROUP_OVERLOAD (R245): the RMS group current over the last 100 ms, mA. -/
def execGroupOverload (el : Nat) (t : Fin 20) (rms : BitVec 16) (s : State) : Host.Outcome State Fault Refusal :=
  .next ((s.begin el).onTile t fun u =>
    let hot := decide (8000 < rms.toNat)
    let v := u.setFld (R.GRP_IMEAS t) 16 16 rms.toNat
    let w := v.when (hot && !(v.tile t).overload) fun x =>
      (x.event (R.TILE_IRQ_STAT t) tiOverload).count (R.GRP_OVERLOAD_CNT t) 1
    w.setTile t { w.tile t with overload := hot })

/-- GH_STUCK (R246): V_GH has stayed above half of VPK from 10 µs to 100 µs after the group was commanded off. The event is counted
once for an off command (DEDUCED, log 152). -/
def execGhStuck (el : Nat) (t : Fin 20) (s : State) : Host.Outcome State Fault Refusal :=
  .next ((s.begin el).onTile t fun u =>
    if !u.rbit (R.TILE_STAT t) tsGhOn && !(u.tile t).stuck && decide ((u.tile t).ghOff + 100000 ≤ (u.localDt t)) then
      (((u.setTile t { u.tile t with stuck := true }).event (R.TILE_IRQ_STAT t) tiStuck).count (R.GRP_STUCK_CNT t) 1).fault srcGroupStuck t 0
    else u)

/-- The firing whose turn comes next: the oldest that has ended and of which `p` still holds, or the running one. -/
def State.seek (s : State) (n : Nat) (p : Firing → Bool) : Option Firing :=
  match (s.lane n).done.find? p with
  | some f => some f
  | none => (s.lane n).firing.filter p

/-- The firing that opened at `o` changes. -/
def State.updAt (s : State) (n : Nat) (o : Int) (g : Firing → Firing) : State :=
  s.updLane n fun l => { l with
    done := l.done.map (fun f => if f.opn = o then g f else f), firing := l.firing.map fun f => if f.opn = o then g f else f }

/-- An open detection in the firing that opened at `o` (R269, R706). -/
def State.openFound (s : State) (n : Nat) (o : Int) : State :=
  let s1 := s.when (((s.lane n).firing.map fun f => f.opn == o).getD false) fun u => u.actStop n
  (((s1.updAt n o fun f => { f with armed := false, diag2 := true }).event (R.LANE_DIAG n) ldOpen).count
    (R.LANE_OPEN_CNT n) 1).fault srcLaneOpen n 0

/-- LANE_OPEN_CHECK (R269): at OPEN_T after the open instant, the current is `i`. The check of a firing is made once, and is made of
a firing that has closed or ended before (14 R548). -/
def execLaneOpenCheck (el : Nat) (n : Fin 160) (i : Nat) (s : State) : Host.Outcome State Fault Refusal :=
  .next ((s.begin el).onTile (n / 8) fun u =>
    match u.seek n fun f => !f.checked && decide (f.opn + (fld f.prof.diag 16 16 : Int) * 10 ≤ (u.localDt (n / 8))) with
    | none => u
    | some f =>
      let v := (u.updAt n f.opn fun g => { g with checked := true }).updLane n fun l =>
        { l with done := l.done.filter fun g => !(g.checked && g.used) }
      if f.armed ∧ i < fld f.prof.diag 0 16 then v.openFound n f.opn else v)

/-- LANE_OPEN_HOLD (R269, R706): in hold, the current has been below OPEN_I for 1 ms (`low`), or at or above it for
1 ms. -/
def execLaneOpenHold (el : Nat) (n : Fin 160) (low : Bool) (s : State) : Host.Outcome State Fault Refusal :=
  .next ((s.begin el).onTile (n / 8) fun u =>
    match (u.lane n).firing with
    | none => u
    | some f =>
      if u.phase n ≠ phHold then u
      else if low then (if f.armed then u.openFound n f.opn else u)
      else u.updFiring n fun g => { g with armed := true })

/-- LANE_SHORT (R247, R269): current flows with V_LN low while the low-side is off and the group on. -/
def execLaneShort (el : Nat) (n : Fin 160) (s : State) : Host.Outcome State Fault Refusal :=
  .next ((s.begin el).onTile (n / 8) fun u =>
    if u.diagRuns n && u.rbit (R.TILE_STAT (n / 8)) tsGhOn && u.laneSw n != .on then
      let v := ((u.event (R.LANE_DIAG n) ldShort).count (R.LANE_SHORT_CNT n) 1).fault srcLaneShort n 0
      v.when ((v.laneReg n (R.GRP_CFG (n / 8))).getLsbD 0) fun w => w.tripGroup (n / 8) true
    else u)

/-- The over-current threshold of a lane (R270): that of its firing's profile (R240). -/
def State.ocThr (s : State) (n : Nat) : Nat :=
  let oc := match (s.lane n).firing with
    | some f => fld f.prof.oc 0 16
    | none => fld (s.laneReg n (R.LANE_OC n)) 0 16
  if oc ≤ s.iPeak n then s.iPeak n + 500 else oc

/-- LANE_OC (R269–R271): the current has been `i` for 1 µs. -/
def execLaneOc (el : Nat) (n : Fin 160) (i : Nat) (s : State) : Host.Outcome State Fault Refusal :=
  .next ((s.begin el).onTile (n / 8) fun u =>
    if u.diagRuns n ∧ u.ocThr n < i then
      let v := ((u.event (R.LANE_DIAG n) ldOc).count (R.LANE_OC_CNT n) 1).fault srcLaneOc n 0
      let now := v.localDt (n / 8)
      let w := ((v.chopNow n).spoil n fun f => { f with
        dead := true, diag2 := true
        leftAt := if u.phase n = phPeak ∧ f.peakAt.isNone ∧ f.leftAt.isNone then some now else f.leftAt }).updLane n fun l =>
          { l with sw := .off, offAt := none }
      w.when ((w.laneReg n (R.LANE_CFG n)).getLsbD 1) fun x => x.setBit (R.LANE_STAT n) lsOcLatched true
    else u)

/-- V_GH at the instant `t` (07 R286): on the line between the two auxiliary samples that enclose it. Without them it counts as the
LN voltage `v`. -/
def gAtInstant (x : Samples) (t v : Int) : Int :=
  let d := t - x.gAt
  let k := (d / 2000).toNat
  let r := d % 2000
  match x.g[k]?, x.g[k + 1]? with
  | some a, some b => if d < 0 then v else a + roundDiv ((b - a) * r) 2000
  | some a, none => if d < 0 ∨ r ≠ 0 then v else a
  | none, _ => v

/-- The samples from the `k`-th multiple of 500 ns of the tile's local DT on, with their instants and V_GH there (07 R284, R286). -/
def sampleRows (k : Nat) (x : Samples) : List RelSample :=
  x.iv.zipIdx.map fun q =>
    let t : Int := 500 * ((k + q.2 : Nat) : Int)
    ⟨t, q.1.2, gAtInstant x t q.1.2, q.1.1⟩

/-- The oldest window of a lane that has closed, without it, and the lane's windows after it (R260). A window that is open closes
after 100 ms, and a new one opens. -/
def State.closedWin (s : State) (n : Nat) : Option (RWin × List RWin) :=
  match (s.lane n).wins with
  | [] => none
  | w :: r =>
    let e := w.opens + 100000000
    if w.shut then some (w, r)
    else if e ≤ s.localDt (n / 8) then some (w, ⟨e, none, e, false⟩ :: r)
    else none

/-- The resistance of a window, mΩ (R261). Over no current at all no rule gives it: a free value (log 5). -/
def State.resistance (s : State) (l : List RelSample) : Int × State :=
  let a := (l.map fun q => q.g - q.v).sum
  let b := (l.map (·.i)).sum
  if b = 0 then
    let d := s.draw 43
    (d.1.toInt, d.2)
  else (roundDiv (2000 * a * b.sign) b.natAbs, s)

/-- RMEAS_WINDOW_CLOSE (R260–R263): the oldest window of the lane has closed; `x` are its samples, from the `k`-th multiple of 500 ns on. -/
def execRmeasWindowClose (el : Nat) (n : Fin 160) (k : Nat) (x : Samples) (s : State) : Host.Outcome State Fault Refusal :=
  .next ((s.begin el).onTile (n / 8) fun u0 =>
    let u1 := u0.chopNow n
    match u1.closedWin n with
    | none => u1
    | some (w, r) =>
      let u := u1.updLane n fun l => { l with wins := r }
      let r20 := fld (u.laneReg n (R.LANE_COIL_R20 n)) 0 24
      match w.first with
      | none => u
      | some a =>
        if r20 = 0 ∨ w.last < w.opens + 500000 then u
        else
          let q := u.resistance ((sampleRows k x).filter fun y => decide (a ≤ y.at_) && decide (y.at_ < w.last))
          if (r20 : Int) ≤ 2 * q.1 ∧ q.1 ≤ 2 * (r20 : Int) then
            let tm := roundDiv (160 * 1000 * r20 + (q.1 - r20) * 2035623) (1000 * r20)
            ((q.2.setFldN (R.LANE_COIL_RMEAS n) 0 24 q.1.toNat).setFldI (R.LANE_COIL_TMEAS n) 0 16 tm).updLane n fun l =>
              { l with tMeas := some tm }
          else q.2.event (R.LANE_DIAG n) ldImplausible)

/-- The lanes that an idle test of a tile tests (R272). -/
def State.idleLanes (s : State) (t : Nat) : List Nat :=
  (tileLanes t).filter fun n => decide (s.role n ≠ 0) && s.rbit (R.LANE_CFG n) 2

/-- An idle test may run: the group high-side is off, no lane fires, and the tile holds no committed pulse (R272). -/
def State.idleMay (s : State) (t : Nat) : Bool :=
  !s.rbit (R.TILE_STAT t) tsGhOn && !s.groupBusy t && (s.waiting t).isEmpty && !(s.idleLanes t).isEmpty

/-- IDLE_TEST_START (R272, R273): once per TILE_IDLE_DIAG.PERIOD; a test that ended without a result runs again at the next
opportunity. A test that is due abandons a calibration (07 R317). -/
def execIdleTestStart (el : Nat) (t : Fin 20) (s : State) : Host.Outcome State Fault Refusal :=
  .next ((s.begin el).onTile t fun u =>
    let q := u.tile t
    let due := q.idleAt + (u.rfld (R.TILE_IDLE_DIAG t) 0 16 : Int) * 1000000
    if q.idle.isNone && decide (due ≤ (u.localDt t)) && u.idleMay t then
      let v := u.burnAbandonTile t
      v.setTile t { v.tile t with idle := some (v.localDt t, v.idleLanes t) }
    else u)

/-- IDLE_TEST_RESULT (R272): the 40 µs have passed; `high` are the positions whose V_LN exceeded 2.0 V at 30 µs. -/
def execIdleTestResult (el : Nat) (t : Fin 20) (high : List (Fin 8)) (s : State) : Host.Outcome State Fault Refusal :=
  .next ((s.begin el).onTile t fun u =>
    match (u.tile t).idle with
    | none => u
    | some (b, l) =>
      if b + 40000 ≤ (u.localDt t) then
        let w := u.idleAbort t
        forL (fun n v =>
          if high.any fun h => h.val == n % 8 then
            ((v.event (R.LANE_DIAG n) ldIdleOpen).count (R.LANE_OPEN_CNT n) 1).fault srcLaneOpen n 1
          else v) l (w.setTile t { w.tile t with idleAt := b })
      else u)

/-- The peak inhibit of one tile begins (R275): peak phases end and go on as hold (R235). `cur` gives the currents of lanes; one it
does not name is above its hold threshold. -/
def State.inhibitTile (s : State) (t : Nat) (cur : List (Fin 160 × Nat)) : State :=
  let s1 := s.event (R.TILE_IRQ_STAT t) tiInhibit
  forL (fun n u =>
    let i := ((cur.find? fun q => q.1.val == n).map (·.2)).getD 65536
    ((((u.spoil n fun f => { f with holdOnly := true }).setBit (R.LANE_STAT n) lsHoldOnly true).count
      (R.TILE_PEAK_INHIBIT_CNT t) 1).peakToHold n i (u.localDt t))) (s1.peakLanes t) s1

/-- PEAK_INHIBIT (R275): the supply monitor reports VBAT above 45 V; the command shows the currents (mA) of the lanes in a peak
phase. -/
def execPeakInhibit (e : Seen (List (Fin 160 × Nat))) (s : State) : Host.Outcome State Fault Refusal :=
  let t := s.begin e.el
  .next (if t.sys.inhibit then t
  else forL (fun k u => u.onTile k fun v => v.inhibitTile k e.val) (List.range 20)
    { t with sys := { t.sys with inhibit := true } })

/-- PEAK_INHIBIT_END (R275): VBAT has fallen below 44 V. -/
def execPeakInhibitEnd (el : Nat) (s : State) : Host.Outcome State Fault Refusal :=
  let t := s.begin el
  .next { t with sys := { t.sys with inhibit := false } }

/-- TILE_OT (R280): the tile temperature, 0.125 °C, has reached 170 °C. -/
def execTileOt (el : Nat) (t : Fin 20) (temp : BitVec 16) (s : State) : Host.Outcome State Fault Refusal :=
  .next ((s.begin el).onTile t fun u =>
    let v := u.setFld (R.TILE_TEMP t) 0 16 temp.toNat
    if 1360 ≤ temp.toInt ∧ !v.rbit (R.TILE_STAT t) tsOt then
      (((v.cutTile t).setBit (R.TILE_STAT t) tsOt true).event (R.TILE_IRQ_STAT t) tiOt).fault srcTileOt t 0
    else v)

/-- TILE_OT_CLEAR (R280): TILE_CMD.OT_CLEAR is written at a tile temperature. -/
def execTileOtClear (el : Nat) (p : Port) (t : Fin 20) (temp : BitVec 16) (s : State) :
    Host.Outcome State Fault Refusal :=
  .next (((s.begin el).setFld (R.TILE_TEMP t) 0 16 temp.toNat).writeCmd p (R.TILE_CMD t) 4 (tileCmd t))

/-- TILE_TEMP_WARN (R281): the tile temperature has reached TILE_TEMP_WARN. -/
def execTileTempWarn (el : Nat) (t : Fin 20) (temp : BitVec 16) (s : State) : Host.Outcome State Fault Refusal :=
  .next ((s.begin el).onTile t fun u =>
    let v := u.setFld (R.TILE_TEMP t) 0 16 temp.toNat
    v.when (decide (v.rsfld (R.TILE_TEMP_WARN t) 0 16 ≤ temp.toInt)) fun w => w.event (R.TILE_IRQ_STAT t) tiWarn)

/-- TILE_CNT_CLEAR (R320, 06 Note): TILE_CMD.CNT_CLEAR is written. -/
def execTileCntClear (el : Nat) (p : Port) (t : Fin 20) (s : State) : Host.Outcome State Fault Refusal :=
  .next ((s.begin el).writeCmd p (R.TILE_CMD t) 1 (tileCmd t))

end Sys2Proof.Machine
end

