-- ==== Sys2Proof/Machine/TrimOps.lean ====
section
/-!
DEFINITION. The trim source of the internal oscillator (17_clocks_power_reset.md, R659, Table 2).
-/
namespace Sys2Proof.Machine

/-- Bits of CLK_STAT and CLK_IRQ_STAT (17 Table 11). -/
abbrev csPll : Nat := 20
abbrev csIro : Nat := 19
abbrev csX32k : Nat := 18
abbrev csSref : Nat := 17
abbrev csTcxo : Nat := 16
abbrev csRefOnIro : Nat := 31
abbrev ciForced : Nat := 0
abbrev ciLost : Nat := 1
abbrev ciFallback : Nat := 2
abbrev ciOk : Nat := 3
abbrev ciTrimChange : Nat := 4
abbrev ciRefused : Nat := 5

/-- The codes of the sources of device time (11 Table 7). -/
abbrev dtGnss : Nat := 0
abbrev dtPps : Nat := 1
abbrev dtCan : Nat := 2

/-- A source of device time is qualified (DT_STAT.QUALIFIED). -/
def State.dtQual (s : State) (k : Nat) : Bool := decide (k < 3) && s.rbit R.DT_STAT (8 + k)

/-- The controller DT_CAN_SRC accepts reference messages (12 R504): its last one was accepted, less than the 2 s ago that
lose the source (11 Table 7): DEDUCED (log 97). -/
def State.refAccepted (s : State) : Bool :=
  s.rbit (R.CAN_TM_STAT (s.rfld R.DT_CAN_SRC 0 2)) 31 &&
    decide (s.now < Tab.get (fun _ => 0) s.time.lastGood dtCan + 2000000000)

/-- A trim source is available (Table 2). -/
def State.trimAvail (s : State) (c : Nat) : Bool :=
  match c with
  | 0 => s.rbit R.CLK_STAT csTcxo
  | 1 => s.dtQual dtGnss
  | 2 => s.refAccepted
  | 3 => s.rbit R.USB_STAT 30 && s.clk.sof
  | _ => false

/-- The codes in the order of R659: the TCXO, then the slots; a slot that holds 0 or repeats an earlier one is empty. -/
def State.trimOrder (s : State) : List Nat :=
  let slots := (List.range 3).map fun i => s.rfld R.CLK_CTRL (2 * i) 2
  0 :: (slots.filter fun c => c != 0).eraseDups

/-- The source in use: the first available one, 15 for none. -/
def State.trimSrc (s : State) : Nat := (s.trimOrder.find? fun c => s.trimAvail c).getD 15

/-- CLK_STAT.TRIM_SRC shows the source in use, and TRIM_CHANGE its change (R659). -/
def State.trimShow (s : State) : State :=
  let c := s.trimSrc
  s.when (s.rfld R.CLK_STAT 0 4 != c) fun t => (t.setFld R.CLK_STAT 0 4 c).event R.CLK_IRQ_STAT ciTrimChange

end Sys2Proof.Machine
end

