-- ==== Sys2Proof/Machine/Time.lean ====
section
/-!
DEFINITION. Device time (11_gnss_and_device_time.md, R455–R471): sources and their qualification, the locked loop,
holdover, steps and what they move, and time pulses.
-/
namespace Sys2Proof.Machine

/-- The states of Table 8. -/
abbrev dtFree : Nat := 0
abbrev dtLocked : Nat := 1
abbrev dtHoldover : Nat := 2

/-- DT_STAT.STATE and SOURCE. -/
def State.dtState (s : State) : Nat := s.rfld R.DT_STAT 0 2
def State.dtSource (s : State) : Nat := s.rfld R.DT_STAT 2 2

/-- Device time beside its registers takes a new value. -/
def State.updTime (s : State) (f : DtSt → DtSt) : State := { s with time := f s.time }

/-- The first qualified source in the order of DT_CTRL (R458). -/
def State.dtSelect (s : State) : Option Nat :=
  [s.rfld R.DT_CTRL 0 2, s.rfld R.DT_CTRL 2 2, s.rfld R.DT_CTRL 4 2].find? fun k => s.dtQual k

/-! What a step moves (R466). -/

/-- A member and an entry of a calendar, moved by `d` ns. -/
def Member.shift (d : Int) (m : Member) : Member :=
  { m with lead := m.lead + 256 * d, trail := m.trail.map (fun x => x + 256 * d), asked := m.asked + d }
def Entry.shift (d : Int) (e : Entry) : Entry :=
  let ms := e.members.map (Member.shift d)
  if e.held then { e with members := ms }
  else { e with opn := e.opn + d, close := e.close.map fun x => x + d, members := ms }

/-- Stitch's record of a committed pulse, moved. -/
def Kept.shift (d : Int) (k : Kept) : Kept := { k with opn := k.opn + d, close := k.close.map fun x => x + d }
def Commit.shift (d : Int) (c : Commit) : Commit :=
  { c with opn := c.opn + d, close := c.close.map (fun x => x + d), on := c.on.map (fun x => (x.1 + d, x.2 + d)),
           kept := c.kept.map (Kept.shift d) }

/-- What waits to be taken by Stitch, moved. -/
def HandOff.shift (d : Int) (h : HandOff) : HandOff :=
  match h with
  | .target t => .target { t with lead := t.lead + 256 * d, trail := t.trail + 256 * d }
  | .sectAct on tag lanes arr raw => .sectAct on tag lanes (arr + 256 * d) raw
  | .duty n k => .duty n k
  | .respot n key iv => .respot n key (iv.map fun x => (x.1 + 256 * d, x.2 + 256 * d))

/-- A lane's section instants, its PWM chains and replaced grid, and what it delivers, moved. -/
def SectSt.shift (d : Int) (c : SectSt) : SectSt := { c with due := c.due.map fun x => (x.1 + d, x.2) }
def PwmAt.shift (d : Int) (p : PwmAt) : PwmAt :=
  { asked := p.asked + d, first := p.first + d, due := p.due.map (fun x => x + d), fin := p.fin + d,
    stop := p.stop.map fun x => (x.1 + d, x.2 + d) }
def OldGrid.shift (d : Int) (g : OldGrid) : OldGrid := { g with fin := g.fin + d }
def Spray.shift (d : Int) (y : Spray) : Spray :=
  { opn := y.opn + d, start := y.start + d, stop := y.stop.map fun x => x + d }

/-- Stitch's scheduled instants, moved. -/
def StitchSt.shift (d : Int) (q : StitchSt) : StitchSt :=
  { q with
    inbox := q.inbox.map (HandOff.shift d)
    cal := q.cal.map fun e => (e.1, e.2.map (Entry.shift d))
    committed := q.committed.map (Commit.shift d)
    sects := q.sects.map fun e => (e.1, e.2.shift d)
    pwm := q.pwm.map fun e => (e.1, e.2.map (PwmAt.shift d))
    grids := q.grids.map fun e => (e.1, e.2.map (OldGrid.shift d))
    gridOfs := q.gridOfs + d }

/-- A tile's pulses and firings, moved. -/
def TilePulse.shift (d : Int) (p : TilePulse) : TilePulse :=
  { p with opn := p.opn + d, close := p.close.map fun x => x + d }
def Firing.shift (d : Int) (f : Firing) : Firing :=
  { f with opn := f.opn + d, close := f.close.map (fun x => x + d), closed := f.closed.map (fun x => x + d),
           endAt := f.endAt.map (fun x => x + d), peakAt := f.peakAt.map (fun x => x + d),
           leftAt := f.leftAt.map (fun x => x + d), holdAt := f.holdAt.map (fun x => x + d),
           knee := f.knee.map (fun x => x + d), seat := f.seat.map fun x => x + d }
def LaneSt.shift (d : Int) (l : LaneSt) : LaneSt :=
  { l with pulses := l.pulses.map (TilePulse.shift d), firing := l.firing.map (Firing.shift d),
           done := l.done.map (Firing.shift d), busyUntil := l.busyUntil.map (fun x => x + d),
           onAt := l.onAt + d, offAt := l.offAt.map (fun x => x + d),
           wins := l.wins.map (fun w =>
             { w with opens := w.opens + d, first := w.first.map (fun x => x + d), last := w.last + d }),
           old := l.old.map (fun b => { b with upTo := b.upTo.map fun x => x + d }),
           actSince := l.actSince.map fun x => x + d }
def TileSt.shift (d : Int) (t : TileSt) : TileSt :=
  { t with ghLast := t.ghLast + d, ghOff := t.ghOff + d, idle := t.idle.map (fun q => (q.1 + d, q.2)), idleAt := t.idleAt + d,
           burn := t.burn.map (fun x => x + d), burnt := t.burnt.map (fun x => (x.1, x.2.1 + d, x.2.2 + d)),
           hits := t.hits.map fun x => x + d }

/-- A table whose units are moved, in canonical form. -/
def shiftLanes (d : Int) (t : Tab LaneSt) : Tab LaneSt :=
  forL (fun e x => Tab.set (fun _ => LaneSt.init) x e.1 (e.2.shift d)) t t
def shiftTiles (d : Int) (t : Tab TileSt) : Tab TileSt :=
  forL (fun e x => Tab.set (fun _ => TileSt.init) x e.1 (e.2.shift d)) t t
def TraceRun.shift (d : Int) (c : TraceRun) : TraceRun :=
  { c with start := c.start + d, hits := c.hits.map (fun x => x + d), stop := c.stop.map fun x => x + d }
/-- The waits of a CAN controller, moved: when it takes part in the bus, its selections and its reference request (12 R478, R491). -/
def CanSt.shift (d : Int) (q : CanSt) : CanSt :=
  let up (x : Nat) : Nat := ((x : Int) + d).toNat
  { q with past := q.past.map (fun e => (up e.1, e.2)), intAt := up q.intAt, ref := q.ref.map up, handAt := none }
def shiftCans (d : Int) (t : Tab CanSt) : Tab CanSt :=
  forL (fun e x => Tab.set (fun _ => CanSt.init) x e.1 (e.2.shift d)) t t
/-- A GNSS channel's record of when its units began and its bits were lost, moved. -/
def GnssChan.shift (d : Int) (q : GnssChan) : GnssChan :=
  { q with lossAt := q.lossAt + d, lastUnit := q.lastUnit.map fun x => x + d }
def shiftAxes (d : Int) (t : Tab AxisSt) : Tab AxisSt :=
  forL (fun e x => Tab.set (fun _ => AxisSt.init) x e.1 { e.2 with upAt := e.2.upAt.map fun y => y + d }) t t

/-- Every DT value held for a future action moves by `d` (R466): calendar entries, committed pulses, PWM grids, spot
pulses, section transitions, firings, and the handover. -/
def State.shiftFuture (s : State) (d : Int) : State :=
  let s1 := { s with
    stitch := s.stitch.shift d
    gnd := { s.gnd with
      lanes := s.gnd.lanes.map fun e => (e.1, { e.2 with sprays := e.2.sprays.map (Spray.shift d) }) }
    lanes := shiftLanes d s.lanes
    tiles := shiftTiles d s.tiles
    axes := shiftAxes d s.axes
    cans := shiftCans d s.cans
    gnss := { s.gnss with chans := s.gnss.chans.map fun e => (e.1, e.2.map (GnssChan.shift d)) }
    ldr := { s.ldr with loadEnd := ((s.ldr.loadEnd : Int) + d).toNat }
    time := { s.time with change := s.time.change.map fun x => (((x.1 : Int) + d).toNat, x.2) }
    rcd := { s.rcd with trace := s.rcd.trace.map (TraceRun.shift d) } }
  if s1.ldrState = 3 ∨ s1.ldrState = 4 ∨ s1.ldrState = 5 then
    (s1.setReg64 R.LDR_ARM_DT_LO ((s1.reg64 R.LDR_ARM_DT_LO : Int) + d).toNat).setTh (s1.ldr.th.map fun x => x + d)
  else s1

/-- DT steps by `d` ns (R466, R460). -/
def State.dtStepBy (s : State) (d : Int) : State :=
  let s1 := (s.noteSat R.DT_STAT (satI 32 d != d)).shiftFuture d
  let s2 := { s1 with dt := ((s.dt : Int) + d).toNat }
  let s3 := (((s2.setReg R.DT_STEP_LO (loW d)).setReg R.DT_STEP_HI (hiW64 d)).count R.DT_STEP_CNT 1).event
    R.DT_IRQ_STAT 2
  (((s3.setBit R.DT_STAT 5 true).updTime fun q => { q with stepAt := some s3.dt, steps := q.steps + 1, step := none }).fault srcDtStep 0
    (wordI (satI 32 d))).recTrigger 8 0

/-- The change of source, and the step, whose second boundary has come (R458, R460, R465). The source is the first qualified one then. -/
def State.dtDue (s : State) : State :=
  let s1 := match s.time.change with
    | some (b, k) =>
      if b ≤ s.dt then
        ((s.setFld R.DT_STAT 2 2 (s.dtSelect.getD k)).event R.DT_IRQ_STAT 4).updTime fun q => { q with
          change := none, ret := true }
      else s
    | none => s
  match s1.time.step with
  | some (b, d) => if b ≤ (s1.dt : Int) then s1.dtStepBy d else s1
  | none => s1

/-- The next second boundary of DT, and of a source that DT leads by `e` ns. -/
def State.nextSecond (s : State) : Nat := (s.dt / 1000000000 + 1) * 1000000000
def State.sourceSecond (s : State) (e : Int) : Int :=
  (s.dt : Int) + (1000000000 - ((s.dt : Int) - e) % 1000000000)

/-- DT_EST_ERR takes `v`, saturating; EST_WARN sets when it rises through DT_EST_WARN (R463, R464). -/
def State.setEst (s : State) (v : Nat) : State :=
  let old := (s.reg R.DT_EST_ERR).toNat
  let new := satN 32 v
  let w := (s.reg R.DT_EST_WARN).toNat
  (s.setRegN R.DT_EST_ERR v).when (decide (old ≤ w) && decide (w < new)) fun t => t.event R.DT_IRQ_STAT 3

/-- The largest |e| of the last 60 s (R463). -/
def State.estMax (s : State) : Nat :=
  ((s.time.hist.filter fun x => decide (s.now ≤ x.1 + 60000000000)).map (·.2)).foldl max 0

/-- A measurement of the source in use: DT_PHASE_ERR, SLEWING, the error estimate and the recorder (R461, R463, 16 Table
9). -/
def State.dtNote (s : State) (e : Int) : State :=
  let s1 := s.updTime fun q => { q with
    hist := (s.now, e.natAbs) :: q.hist.filter fun x => decide (s.now ≤ x.1 + 60000000000) }
  (((s1.setRegI R.DT_PHASE_ERR e).setBit R.DT_STAT 4 (decide (1000 < e.natAbs))).setEst s1.estMax).recAdd 8 0 0 e

/-- The loop of R461 at a measurement; it rests while a step waits. -/
def State.dtLoop (s : State) (e : Int) : State :=
  if s.time.step.isSome then s
  else
    let tau : Int := (s.rfld R.DT_LOOP 0 16 : Int)
    let f := s.time.fint - truncDiv (10 * e) (tau * tau)
    let lim : Int := if e.natAbs ≤ 1000 then 100000 else 1000000
    let slew := clampI (-lim) lim (truncDiv (-20 * e) tau)
    let t : Int := ((s.now - s.time.lockAt : Nat) : Int)
    (s.setReg R.DT_FREQ_ADJ (wordI (clampI (-1000000) 1000000 (f + slew)))).updTime fun q => { q with
      fint := f
      fit := ⟨q.fit.n + 1, q.fit.t + t, q.fit.f + f, q.fit.tt + t * t, q.fit.tf + t * f⟩ }

/-- A step by −e waits for the next second boundary of the source (R460, R465). -/
def State.dtPlanStep (s : State) (e : Int) : State :=
  s.updTime fun q => { q with step := some (s.sourceSecond e, -e) }

/-- A measurement that counts as a return (R465): a step with AUTO_STEP beyond 1 µs, and the loop otherwise. -/
def State.dtReturn (s : State) (e : Int) : State :=
  let s1 := s.updTime fun q => { q with ret := false }
  if 1000 < e.natAbs ∧ s.rbit R.DT_CTRL 8 then s1.dtPlanStep e else s1.dtLoop e

/-- LOCKED is entered on source `k` with measurement `e` (R460, R465). -/
def State.dtLock (s : State) (k : Nat) (e : Int) : State :=
  let s1 := (((s.setFld R.DT_STAT 0 2 dtLocked).setFld R.DT_STAT 2 2 k).event R.DT_IRQ_STAT 0).updTime fun q =>
    { q with lockAt := s.now, fit := Fit.init, hist := [], change := none, ret := false }
  let s2 := s1.dtNote e
  if s.rbit R.DT_STAT 5 then s2.dtReturn e else s2.dtPlanStep e

/-- In LOCKED, a source other than that in use is the first qualified one: it comes into use at the next second boundary (R458). -/
def State.dtChange (s : State) : State :=
  match s.dtSelect with
  | some j =>
    if s.dtState = dtLocked ∧ j ≠ s.dtSource ∧ s.time.change = none then
      s.updTime fun q => { q with change := some (s.nextSecond, j) }
    else s
  | none => s

/-- A measurement e of source `k`, ns, DT less source (R458, R461). -/
def State.dtMeasure (s : State) (k : Nat) (e : Int) : State :=
  let s0 := s.dtDue
  if !s0.dtQual k then s0
  else if s0.dtState ≠ dtLocked then
    if s0.dtSelect = some k then s0.dtLock k e else s0
  else
    let s1 := s0.dtChange
    if k = s1.dtSource then
      let s2 := s1.dtNote e
      if s2.time.ret then s2.dtReturn e else s2.dtLoop e
    else s1

/-- A good event of source `k` (Table 7): the third in a row qualifies it. -/
def State.dtGood (s : State) (k run : Nat) : State :=
  let s1 := s.updTime fun q => { q with
    runs := Tab.set (fun _ => 0) q.runs k (min run 3), lastGood := Tab.set (fun _ => 0) q.lastGood k s.now }
  (if 3 ≤ run then (s1.setBit R.DT_STAT (8 + k) true).dtChange else s1).trimShow
def State.dtRun (s : State) (k : Nat) : Nat := Tab.get (fun _ => 0) s.time.runs k
def State.dtBad (s : State) (k : Nat) : State := s.updTime fun q => { q with runs := Tab.set (fun _ => 0) q.runs k 0 }

/-- An event of source `k` that qualifies it gives its first measurement at once. -/
def State.dtGoodMeasure (s : State) (k run : Nat) (e : Int) : State :=
  let was := s.dtQual k
  let s1 := s.dtGood k run
  if s1.dtQual k && !was then s1.dtMeasure k e else s1

/-- A solution with a 3D fix, or without, as a disciplining source (Table 7). `phase` is DT at its epoch less GPS time. -/
def State.dtSolution (s : State) (fix3 : Bool) (phase : Int) : State :=
  s.onIsland 32 fun t =>
    if fix3 then t.dtGoodMeasure dtGnss (t.dtRun dtGnss + 1) (phase - (t.reg R.DT_GNSS_DELAY).toInt) else t.dtBad dtGnss

/-- A reference message of the controller DT_CAN_SRC, accepted or not accepted (Table 7; 12 R505). -/
def State.dtReference (s : State) (ok : Bool) : State :=
  s.onIsland 32 fun t => if ok then t.dtGood dtCan (t.dtRun dtCan + 1) else (t.dtBad dtCan).trimShow

/-- DT_MEASUREMENT (R461, R458, R460, R465): the measurement of a second of a source, ns; that of PPS is against the nearest whole
second (Table 7). The events that qualify a source are counted where they come (NAV_SOLUTION, PPS_EDGE, CAN_FRAME_RX). -/
def execDtMeasurement (el : Nat) (k : Fin 3) (e : Int) (s : State) : Host.Outcome State Fault Refusal :=
  .next ((s.begin el).onIsland 32 fun t =>
    t.dtMeasure k (if k.val = dtPps then e - roundDiv e 1000000000 * 1000000000 else e))

/-- PPS_EDGE (R457, Table 7): an edge of PPS_IN with the fraction of its DT stamp, 1/256 ns. The other edge than
DT_PPS_CFG.EDGE names gives nothing. -/
def execPpsEdge (el : Nat) (rising : Bool) (frac : BitVec 8) (s : State) : Host.Outcome State Fault Refusal :=
  .next ((s.begin el).onIsland 32 fun t =>
    if rising == t.rbit R.DT_PPS_CFG 16 then t
    else
      let u := t.dtDue
      let x : Int := ((u.dt : Int) - u.rsfld R.DT_PPS_CFG 0 16) * 256 + frac.toNat
      let e := roundDiv (x - roundDiv x 256000000000 * 256000000000) 256
      let spaced := match u.time.ppsAt with
        | some a => decide (a + 999999000 ≤ u.now) && decide (u.now ≤ a + 1000001000)
        | none => false
      let was := u.dtQual dtPps
      let v := (u.dtGood dtPps (if spaced then u.dtRun dtPps + 1 else 1)).updTime fun q => { q with ppsAt := some u.now }
      v.when (was || v.dtQual dtPps) fun w => w.dtMeasure dtPps e)

/-- How long a source may be silent, ns (Table 7). -/
def dtTimeout (k : Nat) : Nat := if k = dtPps then 1500000000 else 2000000000

/-- The slope of f_int over the LOCKED period in 10⁻¹⁸/s (R462); 0 for a period shorter than 24 h. -/
def State.ageRate (s : State) : Int :=
  let q := s.time.fit
  let den := q.n * q.tt - q.t * q.t
  if s.now - s.time.lockAt < 86400000000000 ∨ den ≤ 0 then 0
  else roundDiv ((q.n * q.tf - q.t * q.f) * 100000000000000000) den.toNat

/-- HOLDOVER is entered (R462–R464). -/
def State.dtHold (s : State) : State :=
  let s1 := (((s.setFld R.DT_STAT 0 2 dtHoldover).setFld R.DT_STAT 2 2 3).setBit R.DT_STAT 4 false).event R.DT_IRQ_STAT 1
  let s2 := ((s1.setRegI R.DT_AGE_RATE s.ageRate).setReg R.DT_HO_TIME 0).setReg R.DT_FREQ_ADJ
    (wordI (clampI (-1000000) 1000000 s.time.fint))
  ((s2.updTime fun q => { q with hoAt := s.now, est0 := s.estMax, change := none }).setEst s.estMax).recTrigger 8 0

/-- DT_SOURCE_LOSS (R458, R459, R462, R464): a qualified source has been silent for its time of Table 7. After the loss of CAN the next
message is only the reference for the one that follows it (12 R504). -/
def execDtSourceLoss (el : Nat) (k : Fin 3) (s : State) : Host.Outcome State Fault Refusal :=
  .next ((s.begin el).onIsland 32 fun t0 =>
    let t := t0.dtDue
    if !t.dtQual k || decide (t.now < Tab.get (fun _ => 0) t.time.lastGood k + dtTimeout k) then t
    else
      let u := ((((t.setBit R.DT_STAT (8 + k) false).count R.DT_SRC_LOSS_CNT 1).dtBad k).when (k.val == dtCan) fun x =>
        x.updCan (x.rfld R.DT_CAN_SRC 0 2) fun q => { q with prev := none }).trimShow
      if u.dtState ≠ dtLocked then u
      else if u.dtQual u.dtSource then
        u.updTime fun q => { q with change := q.change.filter fun c => c.2 != k.val }
      else match u.dtSelect with
        | some j => u.updTime fun q => { q with change := some (u.nextSecond, j) }
        | none => u.dtHold)

/-- HOLDOVER_SECOND (R462–R464): a second of HOLDOVER has passed. -/
def execHoldoverSecond (el : Nat) (s : State) : Host.Outcome State Fault Refusal :=
  .next ((s.begin el).onIsland 32 fun t =>
    let n := (t.reg R.DT_HO_TIME).toNat + 1
    if t.dtState = dtHoldover ∧ t.time.hoAt + n * 1000000000 ≤ t.now then
      let f := t.time.fint + roundDiv ((t.reg R.DT_AGE_RATE).toInt * n) 100000000
      let est := roundDiv ((t.time.est0 * 2000000000 + (t.reg R.DT_HO_FUNC).toNat * n * 2000000 +
        (t.reg R.DT_HO_AGEUNC).toNat * n * n : Nat) : Int) 2000000000
      ((t.setReg R.DT_HO_TIME (wordN n)).setReg R.DT_FREQ_ADJ (wordI (clampI (-1000000) 1000000 f))).setEst est.toNat
    else t)

/-- An output's pulse is at its active level (R468). -/
def State.tpActive (s : State) (i : Nat) : Bool :=
  s.rbit (R.DT_TP_CFG i) 0 && (match Tab.get (fun _ => none) s.time.pulses i with
    | some e => decide (s.now < e)
    | none => false)

/-- The level of a time pulse output: POL names the active level, and a disabled output is inactive (Table 13). -/
def State.tpLevel (s : State) (i : Nat) : Bool := s.tpActive i == s.rbit (R.DT_TP_CFG i) 1

/-- TIME_PULSE (R468–R470): output `i` gives an edge where DT is one of its instants and the state is in STATES. -/
def execTimePulse (el : Nat) (i : Fin 2) (s : State) : Host.Outcome State Fault Refusal :=
  .next ((s.begin el).onIsland 32 fun t0 =>
    let t := t0.dtDue
    let per := (t.reg (R.DT_TP_PERIOD i)).toNat
    if t.rbit (R.DT_TP_CFG i) 0 && t.rbit (R.DT_TP_CFG i) (4 + t.dtState) &&
        decide (((t.dt : Int) - (t.reg (R.DT_TP_OFS i)).toInt) % (per : Int) = 0) then
      let st := t.time.stepAt == some t.dt
      let w := (t.reg (R.DT_TP_WIDTH i)).toNat
      let width := if st then min (2 * w) (per - 10) else w
      let n := satN 31 (t.rfld (R.DT_TP_SEQ i) 0 31 + 1)
      ((t.setReg64 (R.DT_TP_LAST_LO i) t.dt).setReg (R.DT_TP_SEQ i) (wordN (n + b2n st * 2 ^ 31))).updTime fun q =>
        { q with pulses := Tab.set (fun _ => none) q.pulses i (some (t.now + width)) }
    else t)

/-- What a write of DT_CMD does: bit 1 MODEL_CLEAR (R462), bit 0 CNT_CLEAR, which takes
DT_TP_SEQ.COUNT with the other counters. -/
def dtCmd (w : Word) (s : State) : State :=
  let s1 := s.when (w.getLsbD 1) fun t =>
    let u := (t.setReg R.DT_AGE_RATE 0).updTime fun q => { q with fint := 0 }
    u.when (decide (u.dtState = dtHoldover)) fun v => v.setReg R.DT_FREQ_ADJ 0
  s1.when (w.getLsbD 0) fun t => ((t.clearRegs [R.DT_STEP_CNT, R.DT_SRC_LOSS_CNT]).setFld
    (R.DT_TP_SEQ 0) 0 31 0).setFld (R.DT_TP_SEQ 1) 0 31 0

/-- DT_MODEL_CLEAR (R462). -/
def execDtModelClear (el : Nat) (p : Port) (s : State) : Host.Outcome State Fault Refusal :=
  .next ((s.begin el).writeCmd p R.DT_CMD 2 dtCmd)

/-- DT_CNT_CLEAR (11 Registers; R21). -/
def execDtCntClear (el : Nat) (p : Port) (s : State) : Host.Outcome State Fault Refusal :=
  .next ((s.begin el).writeCmd p R.DT_CMD 1 dtCmd)

end Sys2Proof.Machine
end

