-- ==== Sys2Proof/Machine/Can.lean ====
section
/-!
DEFINITION. The CAN FD controllers (12_can_fd.md, R472–R514): initialisation, message objects and FIFOs, reception with
authentication, transmission, errors and bus-off, and reference messages. What crosses the bus comes with the command.
-/
namespace Sys2Proof.Machine

/-- Bits of CAN_EVENT (Table 10) and of OBJ_CTRL (Table 9). -/
abbrev cvRx : Nat := 0
abbrev cvTxDone : Nat := 1
abbrev cvAborted : Nat := 2
abbrev cvLost : Nat := 3
abbrev cvWarn : Nat := 4
abbrev cvPassive : Nat := 5
abbrev cvBusOff : Nat := 6
abbrev cvRecovered : Nat := 7
abbrev cvAuthFail : Nat := 8
abbrev cvNoKey : Nat := 9
abbrev cvTmReject : Nat := 10
abbrev cvTmConflict : Nat := 11
abbrev cvObjBusy : Nat := 12
abbrev cvRefused : Nat := 13
abbrev cvIgnored : Nat := 14
abbrev cvProtoExc : Nat := 15
abbrev obEn : Nat := 31
abbrev obDir : Nat := 30
abbrev obNew : Nat := 7
abbrev obLost : Nat := 6
abbrev obTxReq : Nat := 5
abbrev obTxDone : Nat := 4
abbrev obAborted : Nat := 3
abbrev obAuthFail : Nat := 2
abbrev obFvValid : Nat := 1

/-- Do `f` when island 35 is up and the controller's clock runs (17 Table 5). -/
def State.onCan (s : State) (c : Nat) (f : State → State) : State :=
  s.onIsland 35 fun t => t.when (t.gateOn (5 + c)) f

/-- The controller is off the bus: INIT is 1, and no frame from before is still to be completed (R478). -/
def State.canOff (s : State) (c : Nat) : Bool := s.canInit c && !(s.can c).busy

/-- CANn_TX is held recessive (R475). -/
def State.canTxHeld (s : State) (c : Nat) : Bool :=
  s.canOff c || s.canMode c == 1 || s.canMode c == 2 || !(s.up 35 && s.ungated 35)

/-- Eleven nominal bit times, ns (R476): how long bus integration takes (ISO 11898-1). -/
def State.integrate (s : State) (c : Nat) : Nat :=
  let w := s.reg (R.CAN_NBT c)
  11 * (fld w 24 6 * (1 + fld w 16 8 + fld w 8 7)) * 25 / 2

/-- The controller integrates onto the bus from now on (R478, R474). -/
def State.canJoin (s : State) (c : Nat) : State := s.updCan c fun q => { q with intAt := s.dt + s.integrate c }

/-- The present DT of the instant that carries the stamp `x`: a stamp from before the last step is moved by it (11 R466). -/
def State.dtOf (s : State) (x : Nat) : Int :=
  match s.time.stepAt with
  | none => x
  | some a =>
    let d := (BitVec.ofNat 64 (s.reg64 R.DT_STEP_LO)).toInt
    if (x : Int) ≤ a - d ∧ (x < a ∨ s.dt < x) then x + d else x

/-- The controller has taken part in a frame whose SOF is stamped `sof`: it was integrated, and INIT was 0 or was set later (R478);
it is not bus-off. -/
def State.canLive (s : State) (c sof : Nat) : Bool :=
  decide (s.canState c ≠ 2) && decide (((s.can c).intAt : Int) ≤ s.dtOf sof) && decide (s.dtOf sof ≤ s.dt) && !s.canOff c

/-- The frame that a controller in INIT still had to complete has ended: it enters initialisation (R478). -/
def State.canEnd (s : State) (c : Nat) : State := s.updCan c fun q => { q with busy := false }

/-- The restart of host access after a configuration write: a register that accepts writes only in INIT keeps its value and
CFG_REFUSED sets (R477). -/
def State.canCfgWritten (s old : State) (c a : Nat) : State :=
  if old.canInit c then s.notePick old c else (s.setReg a (old.reg a)).event (R.CAN_EVENT c) cvRefused

/-- What a write of CAN_CTRL does (R477, R478): MODE changes only within INIT; INIT begins initialisation, once the frame in progress is
complete (`busy`), or integration. -/
def State.canCtrlWritten (s old : State) (c : Nat) (busy : Bool) : State :=
  let s1 := if s.canMode c ≠ old.canMode c ∧ !(old.canInit c && s.canInit c) then
      (s.setFld (R.CAN_CTRL c) 1 2 (old.canMode c)).event (R.CAN_EVENT c) cvRefused
    else s
  if s1.canInit c && !old.canInit c then s1.updCan c fun q => { q with busy := busy && old.canLive c old.dt }
  else if !s1.canInit c && old.canInit c then s1.canJoin c
  else s1

/-- CAN_INIT_SET (R478, R475); `e.val` says that a frame is in progress on the bus. -/
def execCanInitSet (e : Seen Bool) (p : Port) (c : Fin 4) (s : State) : Host.Outcome State Fault Refusal :=
  let t := s.begin e.el
  .next (t.writeCmd p (R.CAN_CTRL c) (t.reg (R.CAN_CTRL c) ||| 1) fun _ u => u.canCtrlWritten t c e.val)

/-- CAN_INIT_CLEAR (R478). -/
def execCanInitClear (el : Nat) (p : Port) (c : Fin 4) (s : State) : Host.Outcome State Fault Refusal :=
  let t := s.begin el
  .next (t.writeCmd p (R.CAN_CTRL c) (t.reg (R.CAN_CTRL c) &&& ~~~ 1) fun _ u => u.canCtrlWritten t c false)

/-! Error counters and states (R494–R498). -/

/-- TEC and REC. -/
def State.tec (s : State) (c : Nat) : Nat := s.rfld (R.CAN_ERR c) 0 9
def State.rec_ (s : State) (c : Nat) : Nat := s.rfld (R.CAN_ERR c) 16 8

/-- An object's request ends aborted (R492, R493, R496); a report record may wait for the object (14 R569). -/
def State.abortObj (s : State) (c m : Nat) : State :=
  ((((s.setBit (R.OBJ_CTRL c m) obTxReq false).event (R.OBJ_CTRL c m) obAborted).count (R.CAN_TX_ABORTED c) 1).event
    (R.CAN_EVENT c) cvAborted).canReportDrain

/-- The pending reference request is discarded, so that it was not sent (R496, R503). -/
def State.dropRef (s : State) (c : Nat) : State :=
  if (s.can c).ref.isSome then s.updCan c fun q => { q with ref := none, refOk := false } else s

/-- Recovery begins to count (R497). -/
def State.recover (s : State) (c : Nat) : State :=
  ((s.setBit (R.CAN_STAT c) 28 true).setFld (R.CAN_STAT c) 16 8 0).updCan c fun q => { q with recAt := s.now }

/-- CAN_CFG.CLASS is SAFETY (R496). -/
def State.canSafety (s : State) (c : Nat) : Bool := s.rbit (R.CAN_CFG c) 8

/-- Entry to bus-off (R495, R496). -/
def State.busOff (s : State) (c : Nat) : State :=
  let cls := b2n (s.canSafety c)
  let s1 := (((s.event (R.CAN_EVENT c) cvBusOff).count (R.CAN_BUSOFF_CNT c) 1).fault srcCanBusOff c (wordN cls)).dropRef c
  if s.canSafety c then forL (fun m t => t.abortObj c m) (s1.txObjs c) s1 else s1.recover c

/-- The error counters take new values, and WARN and the error state follow (R494, R495; the limits 96, 128 and 256 of ISO
11898-1). -/
def State.setErr (s : State) (c tec rec_ : Nat) : State :=
  let was := s.canState c
  let t := min tec 256
  let r := min rec_ 255
  let warn := decide (96 ≤ t) || decide (96 ≤ r)
  let st := if 256 ≤ t then 2 else if 128 ≤ t ∨ 128 ≤ r then 1 else 0
  let s1 := (((s.setReg (R.CAN_ERR c) (wordN (r * 65536 + t))).setFld (R.CAN_STAT c) 30 2 st).when
    (warn && !s.rbit (R.CAN_STAT c) 29) fun u => u.event (R.CAN_EVENT c) cvWarn).setBit (R.CAN_STAT c) 29 warn
  let s2 := s1.when (was == 0 && st == 1) fun u => (u.event (R.CAN_EVENT c) cvPassive).fault srcCanPassive c 0
  s2.when (was != 2 && st == 2) fun u => u.busOff c

/-! Selection (R491). -/

/-- AUTH_NOKEY sets where a request waits for want of a key (R513). -/
def State.noKeyEvent (s : State) (c : Nat) : State :=
  s.when ((s.txObjs c).any fun m => s.keyless c m) fun t => t.event (R.CAN_EVENT c) cvNoKey

/-- A frame picked earlier is still being sent: its object's request stands, or was withdrawn with the frame on the bus (R493). -/
def State.standing (s : State) (c : Nat) (k : TxPick) : Bool :=
  match k with
  | .obj m => s.rbit (R.OBJ_CTRL c m) obTxReq || (s.can c).onBus == some m
  | .ref => (s.can c).ref.isSome

/-- The frame selected for a bus that became free at the stamp `sof` (R491): what has changed since then waits. A frame on the bus
whose request was withdrawn is the one being sent (R493). -/
def State.txSelect (s : State) (c sof : Nat) : Option TxPick :=
  match (s.can c).onBus with
  | some m => some (.obj m)
  | none =>
    match ((s.can c).past.filter fun e => decide (s.dtOf sof < e.1)).getLast? with
    | some e => e.2.filter fun k => s.standing c k
    | none => s.pickNow c

/-- The controller sends frames: it is not in bus monitoring or restricted mode (R475). -/
def State.canSends (s : State) (c : Nat) : Bool := s.canMode c == 0 || s.canMode c == 2

/-- A frame on the bus fails, or loses arbitration: a withdrawn one, or any one under DAR, is not sent again (R492, R493). -/
def State.txFailed (s : State) (c sof : Nat) : State :=
  let once := s.rbit (R.CAN_CFG c) 2
  match s.txSelect c sof with
  | some (.obj m) =>
    if (s.can c).onBus = some m then (s.abortObj c m).updCan c fun q => { q with onBus := none }
    else if once then s.abortObj c m
    else s
  | some .ref => if once then ((s.dropRef c).count (R.CAN_TX_ABORTED c) 1).event (R.CAN_EVENT c) cvAborted else s
  | none => s

/-- ISO 11898-1 may raise the counters by `dTec` and `dRec` on an error of type `lec` (R494): a sender's TEC by 8, and by 8 more for each
further 8 dominant bits; not on an error in acknowledgement while error passive, nor on a stuff error in arbitration; a receiver's REC
by 1, and by 8 for dominant bits after its flag. PRESUMED (log 69). -/
def isoSteps (lec : Nat) (passive sending : Bool) (dTec dRec : Nat) : Bool :=
  if sending then decide (dRec = 0 ∧ dTec % 8 = 0) && (decide (0 < dTec) || (lec == 3 && passive) || lec == 1)
  else decide (dTec = 0 ∧ 0 < dRec ∧ dRec % 8 ≤ 1)

/-- The controller has detected an error of type `lec`, which raises its counters by `dTec` and `dRec` (R494). Outside restricted mode
it sends an error flag (R475). -/
def State.canErr (s : State) (c lec dTec dRec : Nat) : State :=
  let v := s.when (!s.canTxHeld c && s.canMode c != 3) fun t => t.send (.canFlag c (s.canState c == 1))
  let u := (v.count (R.CAN_ERR_CNT c) 1).setFld (R.CAN_STAT c) 24 3 lec
  u.setErr c (u.tec c + dTec) (u.rec_ c + dRec)

/-- A frame that the controller does not take part in is a form error (R473, R474): a receiver's counter rises by 1 (ISO 11898-1;
PRESUMED, log 165). -/
def State.formError (s : State) (c : Nat) : State := s.canErr c 2 0 1

/-! Reception (R484–R488, R508–R513). -/

/-- The identifier word of a frame, as OBJ_ID shows it. -/
def frameId (f : CanFrame) : Word :=
  (if f.ide then bit 31 else 0) ||| (if f.rtr then bit 30 else 0) |||
    (if f.ide then f.id.setWidth 32 else f.id.setWidth 32 &&& 0x1FFC0000)

/-- A frame matches an object (R484). -/
def State.objMatches (s : State) (c m : Nat) (f : CanFrame) : Bool :=
  let id := s.reg (R.OBJ_ID c m)
  let mask := s.reg (R.OBJ_MASK c m)
  let w := frameId f
  let bits : Word := if f.ide then 0x1FFFFFFF else 0x1FFC0000
  decide ((id ^^^ w) &&& mask &&& bits = 0) && (f.ide == id.getLsbD 31 || !mask.getLsbD 31) && f.rtr == id.getLsbD 30

/-- The receive objects of FIFO k, in ascending order (R487). -/
def State.fifoMembers (s : State) (c k : Nat) : List Nat :=
  (List.range 128).filter fun m => !s.rbit (R.OBJ_CTRL c m) obDir && s.rfld (R.OBJ_CTRL c m) 23 3 == k

/-- The first object that takes a frame: enabled receive objects, and of each FIFO its first member alone (R484). -/
def State.taker (s : State) (c : Nat) (f : CanFrame) : Option Nat :=
  (List.range 128).find? fun m =>
    let w := s.reg (R.OBJ_CTRL c m)
    let k := fld w 23 3
    w.getLsbD obEn && !w.getLsbD obDir && (k == 0 || (s.fifoMembers c k).head? == some m) && s.objMatches c m f

/-- The payload that a frame carries, by its DLC; a remote frame carries none. -/
def framePayload (f : CanFrame) : List Byte := if f.rtr then [] else f.data.take (canLen f.fdf f.dlc.toNat)

/-- A frame is stored into an object (R485, R492); in a `full` FIFO it replaces one, which is lost (R488). -/
def State.storeFrame (s : State) (c m : Nat) (f : CanFrame) (full : Bool) : State :=
  let w := s.reg (R.OBJ_CTRL c m)
  let lost := full || w.getLsbD obNew
  let w1 := Machine.setFld (Machine.setBit (Machine.setBit (Machine.setBit w 28 f.fdf) 27 f.brs) 26 f.esi) 16 4 f.dlc.toNat
  let s0 := ((s.setReg (R.OBJ_CTRL c m) w1).event (R.OBJ_CTRL c m) obNew).when (w.getLsbD obNew) fun t => t.event (R.OBJ_CTRL c m) obLost
  let s1 := ((s0.setReg (R.OBJ_ID c m) (frameId f)).setReg (R.OBJ_TS c m)
    (wordN f.sof)).setObjBytes c m 0 ((framePayload f) ++ List.replicate (64 - (framePayload f).length) 0)
  let s2 := (s1.updCan c fun q => { q with dirty := Tab.set (fun _ => false) q.dirty m true }).when lost fun t =>
    (t.count (R.CAN_RX_LOST c) 1).event (R.CAN_EVENT c) cvLost
  (s2.count (R.CAN_RX_OK c) 1).event (R.CAN_EVENT c) cvRx

/-- The member after `m` in cyclic order. -/
def nextIn (l : List Nat) (m : Nat) : Nat := ((l.find? fun x => m < x).getD (l.headD m))

/-- A frame accepted by FIFO k (R488). -/
def State.fifoStore (s : State) (c k : Nat) (f : CanFrame) : State :=
  let l := s.fifoMembers c k
  let st := R.CAN_FIFO_STAT c k
  let fill := s.rfld st 0 8
  let pos := match Tab.get (fun _ => none) (s.can c).tails k with
    | some m => nextIn l m
    | none => l.headD 0
  let fill_ (t : State) : State := t.updCan c fun q => { q with tails := Tab.set (fun _ => none) q.tails k (some pos) }
  if l.length ≤ fill then
    if s.rbit (R.CAN_FIFO_CFG c k) 0 then fill_ ((s.storeFrame c pos f true).setFld st 16 7 (nextIn l pos))
    else (s.count (R.CAN_RX_LOST c) 1).event (R.CAN_EVENT c) cvLost
  else
    let t := fill_ ((s.storeFrame c pos f false).setFld st 0 8 (fill + 1))
    t.when (fill == 0) fun u => u.setFld st 16 7 pos

/-- A frame taken by object `m` is stored there, or in its FIFO. -/
def State.takeFrame (s : State) (c m : Nat) (f : CanFrame) : State :=
  let k := s.rfld (R.OBJ_CTRL c m) 23 3
  if k = 0 then s.storeFrame c m f false else s.fifoStore c k f

/-- A frame is rejected by authentication (R511). -/
def State.authFail (s : State) (c m : Nat) : State :=
  (((s.event (R.OBJ_CTRL c m) obAuthFail).event (R.CAN_EVENT c) cvAuthFail).count (R.CAN_AUTH_FAIL c) 1).fault
    srcCanAuth c (wordN m)

/-- The candidate freshness value of a received byte (R511). -/
def fvCandidate (last byte : Nat) : Nat := last + 1 + (byte + 512 - last % 256 - 1) % 256

/-- An authenticated object takes a frame (R511–R513). -/
def State.authTake (s : State) (c m : Nat) (f : CanFrame) : State :=
  match s.canKey c with
  | none => (s.event (R.CAN_EVENT c) cvNoKey).when (!s.rbit (R.OBJ_CTRL c m) obFvValid) fun t => t.authFail c m
  | some key =>
    let l := canLen f.fdf f.dlc.toNat
    let data := framePayload f
    let last := (s.reg (R.CAN_FV c m)).toNat
    if l < 5 ∨ data.length < l ∨ !s.rbit (R.OBJ_CTRL c m) obFvValid then s.authFail c m
    else
      let cand := fvCandidate last (data.getD (l - 5) 0).toNat
      let mac := cmac key (canMacInput (frameId f) f.dlc.toNat f.fdf (data.take (l - 5)) (wordN cand))
      if cand < 2 ^ 32 ∧ cand ≤ last + s.rfld (R.CAN_AUTH_CFG c) 16 8 ∧ (data.drop (l - 4)).take 4 = mac.take 4 then
        (s.setReg (R.CAN_FV c m) (wordN cand)).takeFrame c m f
      else s.authFail c m

/-- A frame is offered to the receive objects (R484). -/
def State.offer (s : State) (c : Nat) (f : CanFrame) : State :=
  match s.taker c f with
  | none => s.count (R.CAN_RX_NOMATCH c) 1
  | some m => if s.objAuth c m then s.authTake c m f else s.takeFrame c m f

/-! Reference messages (R500–R506). -/

/-- A frame, data or remote, carries the reference identifier of its controller (R504, R506). -/
def State.isRef (s : State) (c : Nat) (f : CanFrame) : Bool := decide (frameId { f with rtr := false } = s.refIdWord c)

/-- A 48-bit value resolved to the 64-bit DT nearest `near` (R504). -/
def near48 (near v : Nat) : Int :=
  (near : Int) + wrap48 ((v : Int) - near)

/-- A reference message received by a slave (R504). -/
def State.refRx (s : State) (c : Nat) (f : CanFrame) : State :=
  let b0 := (f.data.getD 0 0).toNat % 64
  let b1 := (f.data.getD 1 0).toNat
  let form := f.dlc == 8 && !f.fdf
  let ok := form && b1 % 2 == 1 && (b1 / 2 % 4 == 1 || b1 / 2 % 4 == 2) && (match (s.can c).prev with
    | some (k, _) => b0 == (k + 1) % 64
    | none => false)
  let note (t : State) : State := if form then t.updCan c fun q => { q with prev := some (b0, f.sof) } else t
  if ok then
    let own : Nat := ((s.can c).prev.map (·.2)).getD 0
    let e : Int := (own : Int) - near48 own (leAt f.data 2 6) - (s.reg (R.CAN_TS_DELAY c)).toInt
    let s1 := ((s.setReg (R.CAN_TM_STAT c) (wordN (2 ^ 31 + b0))).setReg64 (R.CAN_TM_LAST_LO c) f.sof).updCan c fun q =>
      { q with lastE := some e }
    (note s1).dtReference true
  else
    let s1 := ((s.setReg (R.CAN_TM_STAT c) (wordN (if form then b0 else s.rfld (R.CAN_TM_STAT c) 0 6))).count
      (R.CAN_TM_REJECT c) 1).event (R.CAN_EVENT c) cvTmReject
    (note s1).dtReference false

/-- What a received frame means to the reference mechanism: a conflict on a master, a reference message on the controller
DT_CAN_SRC (R504, R506). -/
def State.refCheck (s : State) (c : Nat) (f : CanFrame) : State :=
  if !s.isRef c f then s
  else if s.rbit (R.CAN_TM_CFG c) 31 then (s.count (R.CAN_TM_CONFLICT c) 1).event (R.CAN_EVENT c) cvTmConflict
  else if s.works 32 ∧ s.rfld R.DT_CAN_SRC 0 2 = c ∧ !f.rtr then s.refRx c f
  else s

/-- The receive error counter after a frame received without error (ISO 11898-1): above 127 it takes a value of 119–127 that
the standard leaves open (log 5). -/
def State.recOk (s : State) (c : Nat) : State :=
  if 127 < s.rec_ c then
    let d := s.draw 60
    d.2.setErr c (s.tec c) (119 + d.1.toNat % 9)
  else s.setErr c (s.tec c) (s.rec_ c - 1)

/-- CAN_FRAME_RX (R473, R484–R488, R491, R500, R504, R506, R511): a frame of another node has ended. A request of the
controller that stood at its SOF has lost arbitration to it. A frame received correctly is acknowledged in normal and restricted mode
(R475). An FD frame is a form error to a classical controller. -/
def execCanFrameRx (el : Nat) (c : Fin 4) (f : CanFrame) (s : State) : Host.Outcome State Fault Refusal :=
  .next ((s.begin el).onCan c fun t =>
    if !t.canLive c f.sof || t.canMode c == 2 || (f.fdf && f.rtr) then t
    else
      let u := (t.when (t.canSends c) fun v => v.txFailed c f.sof).noKeyEvent c
      let v := if f.fdf && !t.rbit (R.CAN_CFG c) 0 then u.formError c
        else (((u.when (!u.canTxHeld c) fun x => x.send (.canAck c)).recOk c).refCheck c f).offer c f
      v.canEnd c)

/-! Transmission (R490–R493, R501–R503). -/

/-- The payload of the next reference message (R502, R503). -/
def State.refPayload (s : State) (c : Nat) : List Byte :=
  let q := s.can c
  let valid := q.refOk && q.refSteps == s.time.steps
  leBytes 1 q.cycle ++ leBytes 1 (b2n valid + 2 * s.dtState) ++ leBytes 6 q.ownStamp

/-- The reference message as a frame (R502). -/
def State.refFrame (s : State) (c sof : Nat) : CanFrame :=
  let w := s.refIdWord c
  ⟨w.getLsbD 31, false, false, false, false, w.extractLsb' 0 29, 8, s.refPayload c, sof⟩

/-- A reference message was sent with its SOF at `sof` (R492, R503); a request raised since then is the next one; a loopback mode offers it to the receive objects (R484). -/
def State.refSent (s : State) (c sof : Nat) : State :=
  let q := s.can c
  let f := s.refFrame c sof
  let s1 := (((((s.send (.canRef c f)).setReg64 (R.CAN_TM_LAST_LO c) sof).setFld (R.CAN_TM_STAT c) 0 6 q.cycle).count
    (R.CAN_TX_OK c) 1).event (R.CAN_EVENT c) cvTxDone).updCan c fun k =>
      { k with ref := k.ref.filter (fun a => decide (s.dtOf sof < a)), refOk := true, cycle := (q.cycle + 1) % 64,
               refSteps := s.time.steps, ownStamp := sof }
  s1.when (s.canMode c == 2) fun t => t.offer c f

/-- The frame that an object sends. -/
def State.objFrame (s : State) (c m sof : Nat) : CanFrame :=
  let w := s.reg (R.OBJ_CTRL c m)
  let id := s.reg (R.OBJ_ID c m)
  let fdf := w.getLsbD 28
  let dlc := fld w 16 4
  ⟨id.getLsbD 31, id.getLsbD 30, fdf, fdf && w.getLsbD 27, fdf && decide (s.canState c = 1), id.extractLsb' 0 29,
    BitVec.ofNat 4 dlc, s.objBytes c m (canLen fdf dlc), sof⟩

/-- An object's frame was sent with its SOF at `sof` (R492); a loopback mode offers it to the receive objects (R484). A report record
may wait for the object (14 R569). -/
def State.objSent (s : State) (c m sof : Nat) (f : CanFrame) : State :=
  let s1 := (((((s.send (.can c m f)).setBit (R.OBJ_CTRL c m) obTxReq false).event (R.OBJ_CTRL c m) obTxDone).setReg
    (R.OBJ_TS c m) (wordN sof)).count (R.CAN_TX_OK c) 1).event (R.CAN_EVENT c) cvTxDone
  let s2 := s1.updCan c fun q => { q with onBus := if q.onBus = some m then none else q.onBus }
  (s2.when (s.canMode c == 2) fun t => t.offer c f).canReportDrain

/-- The loop delay measured on an FD frame sent with BRS shows in CAN_TDC.MEASURED while TDC_EN is 1 (R480). -/
def State.loopDelay (s : State) (c : Nat) (f : CanFrame) (d : Option (BitVec 7)) : State :=
  match d with
  | some x => s.when (f.brs && s.rbit (R.CAN_TDC c) 31) fun t => t.setFld (R.CAN_TDC c) 16 7 x.toNat
  | none => s

/-- CAN_FRAME_TX_DONE (R491, R492, R480, R500): the frame selected at its SOF has been sent; `delay` is the loop delay
measured, in clocks. -/
def execCanFrameTxDone (el : Nat) (c : Fin 4) (sof : Nat) (delay : BitVec 7) (s : State) :
    Host.Outcome State Fault Refusal :=
  .next ((s.begin el).onCan c fun t0 =>
    let t := t0.noKeyEvent c
    if !t.canLive c sof || !t.canSends c then t0
    else match t.txSelect c sof with
      | none => t
      | some .ref => ((t.setErr c (t.tec c - 1) (t.rec_ c)).refSent c sof).canEnd c
      | some (.obj m) =>
        let f := t.objFrame c m sof
        (((t.setErr c (t.tec c - 1) (t.rec_ c)).loopDelay c f (some delay)).objSent c m sof f).canEnd c)

/-- A request is withdrawn (R493): before it has reached the bus it ends aborted, and a frame on the bus completes. Only a controller
that sends frames now has one on the bus. -/
def State.withdraw (s : State) (c m : Nat) (onBus : Bool) : State :=
  if onBus && s.canSends c && s.canLive c s.dt && (s.can c).onBus.isNone && !s.keyless c m then
    (s.setBit (R.OBJ_CTRL c m) obTxReq false).updCan c fun q => { q with onBus := some m }
  else s.abortObj c m

/-- What a write of OBJ_CTRL does (R477, R483, R486, R487, R490, R493): configuration fields keep their values where R483
refuses them; NEW stays where a frame has been stored since the capture; TX_REQ is set, refused or withdrawn, and a request
of an object that becomes a transmit object is one written now. `onBus`
tells of a request withdrawn whether its frame is on the bus. -/
def State.objCtrlWritten (s old : State) (c m : Nat) (onBus : Bool) : State :=
  let a := R.OBJ_CTRL c m
  let was := old.reg a
  let cfg : Word := 0x7B8FFF00
  let fmt : Word := 0x180F0000
  let run := was.getLsbD obEn && !old.canInit c
  let reqd := was.getLsbD obDir && was.getLsbD obTxReq
  let hold := (if run then cfg else 0) ||| (if reqd then fmt else 0)
  let now := s.reg a
  let clash := (now ^^^ was) &&& hold != 0
  let s1 := if clash then
      (s.setReg a ((now &&& ~~~ hold) ||| (was &&& hold))).event (R.CAN_EVENT c) cvObjBusy
    else s
  let s2 := if was.getLsbD obNew && Tab.get (fun _ => false) (old.can c).dirty m then s1.setBit a obNew true else s1
  let s3 := s2.notePick old c
  let req := now.getLsbD obTxReq
  if req && s3.rbit a obDir && !reqd then ((s3.setBit a obTxReq false).setTxReq c m).2
  else if req && !was.getLsbD obTxReq then
    if s3.txRefused c m || s3.keyless c m then (s3.setBit a obTxReq false).txRefuse c m else s3
  else if !req && reqd then s3.withdraw c m onBus
  else s3

/-- The payload words of an object whose last five bytes the device owns (R508): bytes L − 5 to L − 1 keep their values. -/
def State.ownedBytes (s : State) (c m : Nat) : List Nat :=
  let w := s.reg (R.OBJ_CTRL c m)
  let l := canLen (w.getLsbD 28) (fld w 16 4)
  if w.getLsbD 29 ∧ 5 ≤ l then (List.range 5).map fun i => l - 5 + i else []

/-- What a write of OBJ_ID, OBJ_MASK or OBJ_DATA does (R483, R508). -/
def State.objWordWritten (s old : State) (c m off : Nat) : State :=
  let a := R.OBJ_CTRL c m + off
  let w := old.reg (R.OBJ_CTRL c m)
  let run := w.getLsbD obEn && !old.canInit c
  let reqd := w.getLsbD obDir && w.getLsbD obTxReq && off != 8
  if run || reqd then (s.setReg a (old.reg a)).event (R.CAN_EVENT c) cvObjBusy
  else if 0x10 ≤ off then
    forL (fun i t => if i / 4 = (off - 0x10) / 4 then t.setObjByte c m i (old.objByte c m i) else t) (old.ownedBytes c m) s
  else s

/-- TX_REQ_SET (R490, R491, R508–R510, R512, R513). -/
def execTxReqSet (el : Nat) (p : Port) (c : Fin 4) (m : Fin 128) (s : State) : Host.Outcome State Fault Refusal :=
  let t := s.begin el
  .next (t.writeCmd p (R.OBJ_CTRL c m) ((t.reg (R.OBJ_CTRL c m) &&& ~~~ 0xDC) ||| bit obTxReq) fun _ u =>
    u.objCtrlWritten t c m false)

/-- TX_REQ_WITHDRAW (R493); `onBus` says that the frame is on the bus. -/
def execTxReqWithdraw (el : Nat) (p : Port) (c : Fin 4) (m : Fin 128) (onBus : Bool) (s : State) :
    Host.Outcome State Fault Refusal :=
  let t := s.begin el
  .next (t.writeCmd p (R.OBJ_CTRL c m) (t.reg (R.OBJ_CTRL c m) &&& ~~~ 0xDC &&& ~~~ bit obTxReq) fun _ u =>
    u.objCtrlWritten t c m onBus)

/-- The counters of a controller (R514). -/
def canCounters (c : Nat) : List Nat :=
  [R.CAN_TX_OK c, R.CAN_RX_OK c, R.CAN_RX_NOMATCH c, R.CAN_RX_LOST c, R.CAN_TX_ABORTED c, R.CAN_ERR_CNT c,
    R.CAN_BUSOFF_CNT c, R.CAN_AUTH_FAIL c, R.CAN_TM_REJECT c, R.CAN_TM_CONFLICT c]

/-- What a write of CAN_CMD does: bit 2 ABORT_ALL (R493; `onBus` is the object whose frame is on the bus), bit 1 RECOVER
(R496, R497), bit 0 CNT_CLEAR (R514). -/
def canCmd (c : Nat) (onBus : Option Nat) (w : Word) (s : State) : State :=
  let s1 := s.when (w.getLsbD 2) fun t => forL (fun m u => u.withdraw c m (onBus == some m)) (t.txObjs c) t
  let s2 := s1.when (w.getLsbD 1) fun t =>
    if t.canState c = 2 ∧ t.canSafety c ∧ !t.rbit (R.CAN_STAT c) 28 then t.recover c
    else t.event (R.CAN_EVENT c) cvIgnored
  s2.when (w.getLsbD 0) fun t => t.clearRegs (canCounters c)

/-- CAN_ABORT_ALL (R493). -/
def execCanAbortAll (el : Nat) (p : Port) (c : Fin 4) (onBus : Option (Fin 128)) (s : State) :
    Host.Outcome State Fault Refusal :=
  .next ((s.begin el).writeCmd p (R.CAN_CMD c) 4 (canCmd c (onBus.map (·.val))))

/-- CAN_RECOVER (R496, R497). -/
def execCanRecover (el : Nat) (p : Port) (c : Fin 4) (s : State) : Host.Outcome State Fault Refusal :=
  .next ((s.begin el).writeCmd p (R.CAN_CMD c) 2 (canCmd c none))

/-- CAN_CNT_CLEAR (R514). -/
def execCanCntClear (el : Nat) (p : Port) (c : Fin 4) (s : State) : Host.Outcome State Fault Refusal :=
  .next ((s.begin el).writeCmd p (R.CAN_CMD c) 1 (canCmd c none))

/-- CAN_ERROR (R494–R496, R492, R493, R473, R474): the controller has detected an error of type `lec` (1–6), for which ISO
11898-1 raises its counters by `dTec` and `dRec`, in the frame `f`. In internal loopback it receives nothing from the bus. -/
def execCanError (el : Nat) (c : Fin 4) (lec : Fin 7) (dTec dRec : Nat) (f : CanErr) (s : State) :
    Host.Outcome State Fault Refusal :=
  .next ((s.begin el).onCan c fun t =>
    if lec = 0 ∨ !t.canLive c f.sof ∨ (if f.sending then !t.canSends c else t.canMode c == 2) ∨
        !isoSteps lec (t.canState c == 1) f.sending dTec dRec then t
    else
      let u := if f.sending then (match t.txSelect c f.sof with
          | some (.obj m) => t.loopDelay c (t.objFrame c m f.sof) f.delay
          | _ => t).txFailed c f.sof
        else t
      (u.canErr c lec dTec dRec).canEnd c)

/-- BUSOFF_RECOVERED (R497): `e.val` occurrences of 11 consecutive recessive bits have been counted since recovery began; at 128 it
ends. -/
def execBusoffRecovered (e : Seen Nat) (c : Fin 4) (s : State) : Host.Outcome State Fault Refusal :=
  .next ((s.begin e.el).onCan c fun t =>
    if t.rbit (R.CAN_STAT c) 28 ∧ (t.can c).recAt + e.val * t.integrate c ≤ t.now then
      let u := t.setFld (R.CAN_STAT c) 16 8 (min e.val 128)
      if 128 ≤ e.val then ((u.setBit (R.CAN_STAT c) 28 false).setErr c 0 0).event (R.CAN_EVENT c) cvRecovered else u
    else t)

/-- PROTOCOL_EXCEPTION (R473, R474): a recessive res bit in a received FD frame; with PXHD 1, and to a classical controller, it is a
form error instead. -/
def execProtocolException (el : Nat) (c : Fin 4) (s : State) : Host.Outcome State Fault Refusal :=
  .next ((s.begin el).onCan c fun t =>
    if !t.canLive c t.dt then t
    else if t.rbit (R.CAN_CFG c) 0 && !t.rbit (R.CAN_CFG c) 1 then ((t.canJoin c).event (R.CAN_EVENT c) cvProtoExc).canEnd c
    else (t.formError c).canEnd c)

/-- What a write of CAN_FIFO_POP does (R489). -/
def fifoPop (c : Nat) (w : Word) (s : State) : State :=
  let k := fld w 0 3
  let m := fld w 8 7
  let st := R.CAN_FIFO_STAT c k
  if k ≠ 0 ∧ s.rfld st 0 8 ≠ 0 ∧ s.rfld st 16 7 = m then
    ((s.setBit (R.OBJ_CTRL c m) obNew false).setFld st 0 8 (s.rfld st 0 8 - 1)).setFld st 16 7
      (nextIn (s.fifoMembers c k) m)
  else s.event (R.CAN_EVENT c) cvIgnored

/-- CAN_FIFO_POP (R489). -/
def execCanFifoPop (el : Nat) (p : Port) (c : Fin 4) (k : Fin 8) (m : Fin 128) (s : State) :
    Host.Outcome State Fault Refusal :=
  .next ((s.begin el).writeCmd p (R.CAN_FIFO_POP c) (wordN (m * 256 + k)) (fifoPop c))

/-- The 20 words of an object. -/
def State.objWords (s : State) (c m : Nat) : List Word := (List.range 20).map fun i => s.reg (R.OBJ_CTRL c m + 4 * i)

/-- Reading OBJ_CTRL captures the object's words (R482). -/
def objRead (c m : Nat) (s : State) : Word × State :=
  (s.reg (R.OBJ_CTRL c m), s.updCan c fun q => { q with
    cap := some (m, s.objWords c m), dirty := Tab.set (fun _ => false) q.dirty m false })

/-- What a read of another word of an object answers: the captured word, or the present one of an object not captured
(R482). -/
def State.objWordRead (s : State) (c m i : Nat) : Word :=
  match (s.can c).cap with
  | some (k, ws) => if k = m then ws.getD i 0 else s.reg (R.OBJ_CTRL c m + 4 * i)
  | none => s.reg (R.OBJ_CTRL c m + 4 * i)

/-- OBJ_CAPTURE_READ (R482). -/
def execObjCaptureRead (el : Nat) (p : Port) (c : Fin 4) (m : Fin 128) (s : State) : Host.Outcome State Fault Refusal :=
  .next ((s.begin el).readCmd p (R.OBJ_CTRL c m) (objRead c m))

/-- What a write of CAN_FV does (R512). -/
def State.fvWritten (s : State) (c m : Nat) : State := s.setBit (R.OBJ_CTRL c m) obFvValid true

/-- CAN_FV_WRITE (R512). -/
def execCanFvWrite (el : Nat) (p : Port) (c : Fin 4) (m : Fin 128) (v : Word) (s : State) :
    Host.Outcome State Fault Refusal :=
  .next ((s.begin el).writeCmd p (R.CAN_FV c m) v fun _ t => t.fvWritten c m)

/-- REFERENCE_REQUEST (R501): DT is a multiple of CAN_TM_PERIOD on a master with DT LOCKED or in HOLDOVER. A request still
pending is replaced, so that it was not sent. -/
def execReferenceRequest (el : Nat) (c : Fin 4) (s : State) : Host.Outcome State Fault Refusal :=
  .next ((s.begin el).onCan c fun t =>
    let st := t.dtState
    if t.rbit (R.CAN_TM_CFG c) 31 && (st == dtLocked || st == dtHoldover) && t.works 32 &&
        decide (t.dt % (t.rfld (R.CAN_TM_PERIOD c) 0 16 * 1000000) = 0) then
      (t.updCan c fun q => { q with ref := some t.dt, refOk := q.refOk && q.ref.isNone }).notePick t c
    else t)

/-- CAN_TM_HANDOFF (R505, R471): once in each second the controller DT_CAN_SRC hands the e of the last message accepted to
device time. -/
def execCanTmHandoff (el : Nat) (c : Fin 4) (s : State) : Host.Outcome State Fault Refusal :=
  .next ((s.begin el).onCan c fun t =>
    if t.works 32 ∧ t.rfld R.DT_CAN_SRC 0 2 = c ∧ (t.can c).handAt ≠ some (t.dt / 1000000000) then
      match (t.can c).lastE with
      | some e => (t.updCan c fun q => { q with handAt := some (t.dt / 1000000000) }).dtMeasure dtCan e
      | none => t
    else t)

end Sys2Proof.Machine
end

