-- ==== Sys2Proof/Machine/Irq.lean ====
section
/-!
DEFINITION. The summary tree of status bits (01_architecture.md, R54–R57; 06 R274, R283; 08 R361; 10 R400, R431; the summaries
of the other chapters).
-/
namespace Sys2Proof.Machine

/-- Some enabled leaf of a status register is set (R54, R55). -/
def State.leaf (s : State) (stat en : Nat) : Bool := s.reg stat &&& s.reg en != 0

/-- A word whose bit `i` is `f i`, for `i` below `n`. -/
def bitsWord (f : Nat → Bool) (n : Nat) : Word := (List.range n).foldl (fun w i => if f i then w ||| bit i else w) 0

/-- TILE_IRQ_STAT: the tile's events, and the summaries of its lanes (06 R274). -/
def State.tileIrqStat (s : State) (t : Nat) : Word :=
  (s.reg (R.TILE_IRQ_STAT t) &&& ~~~ 0xFF) ||| bitsWord (fun p => s.leaf (R.LANE_DIAG (8 * t + p)) (R.LANE_DIAG_EN (8 * t + p))) 8

/-- FB_STAT: the summaries of the units (09 Table 10). -/
def State.fbStat (s : State) : Word :=
  bitsWord (fun i =>
    if i < 8 then s.leaf (R.ENC_EVENT i) (R.ENC_EVENT_EN i)
    else if i < 12 then s.leaf (R.Q_EVENT (i - 8)) (R.Q_EVENT_EN (i - 8))
    else if i < 16 then false
    else if i < 24 then s.leaf (R.PRB_EVENT (i - 16)) (R.PRB_EVENT_EN (i - 16))
    else s.leaf (R.CMP_EVENT (i - 24)) (R.CMP_EVENT_EN (i - 24))) 32

/-- SW_CL_STAT: its stored bits, and the summaries of the channels; and the cluster's summary (10 R431). -/
def State.swClStat (s : State) (k : Nat) : Word :=
  (s.reg (R.SW_CL_STAT k) &&& ~~~ 0xF) |||
    bitsWord (fun j => s.leaf (R.SW_CH_EVENT (4 * k + j)) (R.SW_CH_EVENT_EN (4 * k + j))) 4
def State.swClSum (s : State) (k : Nat) : Bool :=
  fld (s.swClStat k) 0 4 != 0 || s.leaf (R.SW_CL_EVENT k) (R.SW_CL_EVENT_EN k)

/-- What an island gave when it was isolated (R57). -/
def State.held57 (s : State) (i : Nat) : Word := Tab.get (fun _ => 0) s.sys.heldIrq i

/-- SW_IRQ_STAT: the block's events, and the summaries of the clusters, each held while its cluster is isolated (10 R400). -/
def State.swIrqStat (s : State) : Word :=
  (s.reg R.SW_IRQ_STAT &&& ~~~ 0x3F) |||
    bitsWord (fun k => if s.up (23 + k) then s.swClSum k else (s.held57 (23 + k)).getLsbD 31) 6

/-- What an island that is up gives: bit 0 for a lane tile's bit of SYS_TILE_IRQ, and otherwise its bits of SYS_IRQ_STAT. Bit 31
keeps a switch cluster's own summary. -/
def State.irqOf (s : State) (i : Nat) : Word :=
  let one (n : Nat) (b : Bool) : Word := if b then bit n else 0
  if i < 20 then one 0 (s.tileIrqStat i &&& s.reg (R.TILE_IRQ_EN i) != 0)
  else if i < 22 then one 4 ((List.range 4).any fun j => s.leaf (R.AX_EVENT (4 * (i - 20) + j)) (R.AX_EVENT_EN (4 * (i - 20) + j)))
  else if i = 22 then one 5 (s.fbStat != 0)
  else if i < 29 then
    let k := i - 23
    let c := s.swClSum k
    one 31 c ||| one 6 ((c && s.rbit R.SW_IRQ_EN k) || (k == 0 && s.reg R.SW_IRQ_STAT &&& s.reg R.SW_IRQ_EN &&& 0xF00 != 0))
  else if i = 29 then one 1 (s.leaf R.INTAKE_IRQ_STAT R.INTAKE_IRQ_EN)
  else if i = 30 then one 2 (s.leaf R.STITCH_IRQ_STAT R.STITCH_IRQ_EN)
  else if i = 31 then one 3 (s.leaf R.GND_IRQ_STAT R.GND_IRQ_EN)
  else if i = 32 then one 9 (s.leaf R.DT_IRQ_STAT R.DT_IRQ_EN)
  else if i = 33 then one 8 (s.leaf R.GNSS_IRQ_STAT R.GNSS_IRQ_EN)
  else if i = 35 then one 7 ((List.range 4).any fun c => s.leaf (R.CAN_EVENT c) (R.CAN_EVENT_EN c))
  else if i = 37 then
    one 10 (s.leaf R.PORT_IRQ_STAT R.PORT_IRQ_EN) ||| one 11 (s.leaf R.FM_IRQ_STAT R.FM_IRQ_EN) |||
      one 12 (s.leaf R.SEC_IRQ_STAT R.SEC_IRQ_EN) ||| one 13 (s.leaf R.REC_IRQ_STAT R.REC_IRQ_EN) |||
      one 14 (s.leaf R.LDR_IRQ_STAT R.LDR_IRQ_EN) |||
      one 15 (s.leaf R.CLK_IRQ_STAT R.CLK_IRQ_EN || s.leaf R.PWR_IRQ_STAT R.PWR_IRQ_EN) |||
      one 16 (s.leaf R.STORE_IRQ_STAT R.STORE_IRQ_EN)
  else 0

/-- What an island gives: live while it is up, held while it is isolated (R57). -/
def State.irqIn (s : State) (i : Nat) : Word := if s.up i then s.irqOf i else s.held57 i

/-- SYS_TILE_IRQ, SYS_IRQ_STAT and SYS_IRQ_PEND (Tables 10 and 12). -/
def State.sysTileIrq (s : State) : Word := bitsWord (fun t => (s.irqIn t).getLsbD 0) 20
def State.sysIrqStat (s : State) : Word :=
  let isl := (List.range 39).any (fun i => !s.up i) || s.reg R.SYS_ISLAND_LOST0 != 0 || s.reg R.SYS_ISLAND_LOST1 != 0 ||
    s.sys.timeoutNew || s.sys.parityNew
  let blocks := (List.range 18).foldl (fun w j => w ||| s.irqIn (20 + j)) 0
  (if s.sysTileIrq &&& s.reg R.SYS_TILE_IRQ_EN != 0 then 1 else 0) ||| (blocks &&& 0x1FFFE) ||| (if isl then bit 17 else 0)
def State.sysIrqPend (s : State) : Word := s.sysIrqStat &&& s.reg R.SYS_IRQ_EN

/-- IRQ_N is asserted (R56, 14 R565, R703). -/
def State.irqPin (s : State) : Bool := s.sysIrqPend != 0 || s.fm.pinsLatched

end Sys2Proof.Machine
end

