-- ==== Sys2Proof/Machine/Crc.lean ====
section
/-!
DEFINITION. The check codes of the spec: CRC-32C of stored records (16 Table 6, 07 Table 3), the CRC-8 of the QSPI and
Cinch ports (13 R539, 14 R572), and the CRC-6 of BiSS-C (09 R378).
-/
namespace Sys2Proof.Machine

/-- One bit of the reflected CRC-32C (Castagnoli). -/
def crc32cBit (c : Word) : Word := if c.getLsbD 0 then (c >>> 1) ^^^ 0x82F63B78 else c >>> 1

/-- One byte of the reflected CRC-32C. -/
def crc32cByte (c : Word) (b : Byte) : Word :=
  crc32cBit (crc32cBit (crc32cBit (crc32cBit (crc32cBit (crc32cBit (crc32cBit (crc32cBit (c ^^^ b.setWidth 32))))))))

/-- CRC-32C over bytes: initial and final XOR 0xFFFF_FFFF (16 Table 6). -/
def crc32c (l : List Byte) : Word := ~~~ (l.foldl crc32cByte 0xFFFFFFFF)

/-- One bit of the CRC-8 with polynomial 0x2F. -/
def crc8Bit (c : Byte) : Byte := if c.getLsbD 7 then (c <<< 1) ^^^ 0x2F else c <<< 1

/-- One byte of the CRC-8. -/
def crc8Byte (c b : Byte) : Byte :=
  crc8Bit (crc8Bit (crc8Bit (crc8Bit (crc8Bit (crc8Bit (crc8Bit (crc8Bit (c ^^^ b))))))))

/-- CRC-8 over bytes: polynomial 0x2F, initial value and final XOR 0xFF (13 R539). -/
def crc8 (l : List Byte) : Byte := ~~~ (l.foldl crc8Byte 0xFF)

/-- CRC-6 over bits, first bit first: polynomial x⁶ + x + 1, start value 0 (09 R378). -/
def crc6 (l : List Bool) : BitVec 6 :=
  l.foldl (fun c b => if c.getLsbD 5 != b then (c <<< 1) ^^^ 3 else c <<< 1) 0

end Sys2Proof.Machine
end

