-- ==== Sys2Proof/Machine/Intake.lean ====
section
/-!
DEFINITION. Target intake and trajectory solving (03_targets_and_trajectories.md, R104–R136): Huzer frames, single
targets, the FIFO and PAUSE, dispatch with the checks of Table 3, the FALL and BELT solutions, lane selection, and the
hand-off to Stitch and the GROUND block.
-/
namespace Sys2Proof.Machine

/-- Events of INTAKE_IRQ_STAT. -/
abbrev iFifoHigh : Nat := 0
abbrev iSeqGap : Nat := 1
abbrev iReject : Nat := 2
abbrev iDisagree : Nat := 3
abbrev iTgtRefused : Nat := 5

/-- The entries of the FIFO. -/
abbrev fifoSize : Nat := 65536

/-- The FIFO takes a new list of entries. -/
def State.setFifo (s : State) (l : List FifoEntry) : State := { s with intake := { s.intake with fifo := l } }

/-- The fill has risen from `old` (R116): the high-water mark, FIFO_HIGH, and the request for PAUSE. A write of
PAUSE_EN or of the thresholds does nothing by itself: the next rise or fall of the fill is held against them (DESIGN CHOICE, log 185). -/
def State.fifoRose (s : State) (old : Nat) : State :=
  let n := s.intake.fifo.length
  let xoff := s.rfld R.INTAKE_FLOW 0 16
  let s1 := s.when (decide ((s.reg R.INTAKE_HWM).toNat < n)) fun t => t.setReg R.INTAKE_HWM (wordN n)
  let s2 := s1.when (decide (old < xoff ∧ xoff ≤ n)) fun t => t.event R.INTAKE_IRQ_STAT iFifoHigh
  s2.when (s2.rbit R.INTAKE_CTRL 8 && decide (xoff ≤ n) && !s2.rbit R.INTAKE_STAT 24) fun t =>
    let u := (t.setBit R.INTAKE_STAT 24 true).pauseTx (t.rfld (R.ETH_PAUSE 0) 0 16)
    { u with intake := { u.intake with pauseAt := u.now } }

/-- The fill has fallen (R116): at XON one PAUSE frame with time 0 is sent and PAUSED clears. -/
def State.fifoFell (s : State) : State :=
  s.when (s.rbit R.INTAKE_STAT 24 && decide (s.intake.fifo.length ≤ s.rfld R.INTAKE_FLOW 16 16)) fun t =>
    (t.setBit R.INTAKE_STAT 24 false).pauseTx 0

/-- The records of a Huzer payload. -/
def records (body : List Byte) : Nat → List (List Byte)
  | 0 => []
  | n + 1 => records body n ++ [(body.drop (16 + 16 * n)).take 16]

/-- An accepted frame (R107–R109, R114): the sequence goes on, and its records are queued whole or dropped whole. -/
def State.acceptFrame (s : State) (k seq count : Nat) (body : List Byte) : State :=
  let s1 := (((s.setReg (R.INTAKE_S_SEQ k) (wordN seq)).count (R.INTAKE_S_FRAMES k) 1).setBit (R.INTAKE_S_STAT k) 0
    true)
  let old := s1.intake.fifo.length
  if fifoSize - old < count then s1.count (R.INTAKE_S_FULLDROP k) count
  else
    (s1.setFifo (s1.intake.fifo ++ (records body count).map fun r => ⟨r, k, s1.dt, false⟩)).fifoRose old

/-- A Huzer payload at the intake (R104–R109). -/
def State.huzer (s : State) (body : List Byte) : State :=
  let b (i : Nat) : Nat := (body.getD i 0).toNat
  let k := b 3
  if leAt body 0 2 ≠ 0x5A17 ∨ 3 < k then s.count R.INTAKE_BADFRAME 1
  else if b 2 ≠ 1 ∨ 88 < b 8 ∨ body.length < 16 + 16 * b 8 ∨ !s.rbit R.INTAKE_CTRL k then
    s.count (R.INTAKE_S_BADFRAME k) 1
  else
    let seq := leAt body 4 4
    let diff := wrap48 ((s.dt : Int) - (leAt body 10 6 : Int))
    let s1 := s.setRegI (R.INTAKE_S_TRANSIT k) diff
    let d := (seq + 2 ^ 32 - ((s.reg (R.INTAKE_S_SEQ k)).toNat + 1) % 2 ^ 32) % 2 ^ 32
    if !s.rbit (R.INTAKE_S_STAT k) 0 || b 9 % 2 == 1 || d == 0 then s1.acceptFrame k seq (b 8) body
    else if d < 2 ^ 31 then
      ((s1.count (R.INTAKE_S_LOST k) d).event R.INTAKE_IRQ_STAT iSeqGap).acceptFrame k seq (b 8) body
    else s1.count (R.INTAKE_S_STALE k) 1

/-- A target is rejected at one check of Table 3 (R111). -/
def State.reject (s : State) (a : Nat) : State := (s.count a 1).event R.INTAKE_IRQ_STAT iReject

/-- The fields of a record (Table 2). -/
def recModel (r : List Byte) : Nat := (r.getD 0 0).toNat / 16
def recClass (r : List Byte) : Nat := (r.getD 0 0).toNat % 16
def recAction (r : List Byte) : Nat := (r.getD 1 0).toNat / 64
def recLateral (r : List Byte) : Bool := (r.getD 1 0).getLsbD 5
def recTag (r : List Byte) : Nat := (r.getD 1 0).toNat % 32
def recFirst (r : List Byte) : Nat := (r.getD 3 0).toNat
def recCount (r : List Byte) : Nat := (r.getD 2 0).toNat + 1
def recX (r : List Byte) : Nat := leAt r 2 2
def recTRef (r : List Byte) : Nat := leAt r 4 4
def recV0 (r : List Byte) : Nat := leAt r 8 2
def recVX (r : List Byte) : Int := (BitVec.ofNat 16 (leAt r 10 2)).toInt
def recExtent (r : List Byte) : Nat := leAt r 12 2
def recWidth (r : List Byte) : Nat := leAt r 14 2

/-- The full t_ref less t_rx (R110), before its range is checked. -/
def recD (r : List Byte) (trx : Nat) : Int := wrap32 ((recTRef r : Int) - (trx : Int))

/-- The fall time to distance `d` µm at release velocity `v0` µm/s and acceleration `a` µm/s², in 1/256 ns (R120). -/
def fallTime (v0 a d : Int) : Option Int :=
  let q := v0 * v0 + 2 * a * d
  if q < 0 then none
  else
    let den := v0 + (isqrt q.toNat : Int)
    if den = 0 then none else some ((2 * d * 256000000000 + den / 2) / den)

/-- What the solver gives: the arrivals in 1/256 ns and belt positions in 1/256 count, and whether it is HELD. -/
structure Solved where
  lead : Int
  trail : Int
  held : Bool
  pLead : Int
  pTrail : Int
  deriving DecidableEq, Repr

/-- The FALL solution (R120, R121). -/
def State.solveFall (s : State) (r : List Byte) (k : Nat) (tref : Int) : Option Solved :=
  let v0 : Int := (recV0 r : Int) * 100
  let a := clampI (-20000) 20000 (s.rsfld (R.INTAKE_ACC (recClass r)) 0 16) * 1000
  let d : Int := ((s.reg (R.INTAKE_S_FALL_DROP k)).toNat : Int)
  match fallTime v0 a d, fallTime v0 a (d + (recExtent r : Int) * 10) with
  | some x, some y => some ⟨tref * 256 + x, tref * 256 + y, false, 0, 0⟩
  | _, _ => none

/-- FALL_DROP lies in its range (R121). -/
def State.dropOk (s : State) (k : Nat) : Bool :=
  let d := (s.reg (R.INTAKE_S_FALL_DROP k)).toNat
  decide (10000 ≤ d ∧ d ≤ 2000000)

/-- The two samples that enclose an instant, the newer first. -/
def enclosing : List BeltSample → Int → Option (BeltSample × BeltSample)
  | a :: b :: r, t => if (b.dt : Int) ≤ t then some (a, b) else enclosing (b :: r) t
  | _, _ => none

/-- The belt position at `t`, in 1/256 count (R124), none before the oldest sample, and none after the latest one while the history
is shorter than the speed window (DESIGN CHOICE, log 144). -/
def State.beltAt (s : State) (k : Nat) (t : Int) : Option Int :=
  match s.belt k with
  | [] => none
  | a :: r =>
    if (a.dt : Int) ≤ t then
      match s.beltMove k with
      | some (_, d) => some (256 * a.pos + roundDiv (256 * d * (t - a.dt)) (s.vwin k * 65536))
      | none => none
    else match enclosing (a :: r) t with
      | some (x, y) => some (256 * y.pos + roundDiv (256 * wrap48 (x.pos - y.pos) * (t - y.dt)) (x.dt - y.dt))
      | none => none

/-- The BELT solution (R126, R127). BELT_SCALE 0 gives no position (log 15). -/
def State.solveBelt (s : State) (r : List Byte) (k : Nat) (pref : Int) : Option Solved :=
  let sc := s.beltScale k
  if sc = 0 then none
  else
    let pl := pref + roundDiv (((s.reg (R.INTAKE_S_BELT_DIST k)).toNat : Int) * 2 ^ 24) sc
    let pt := pl + roundDiv (10 * (recExtent r : Int) * 2 ^ 24) sc
    match s.beltWhen k pl, s.beltWhen k pt with
    | some a, some b => some ⟨a, b, false, pl, pt⟩
    | _, _ => some ⟨0, 0, true, pl, pt⟩

/-- The lanes an explicit record names (R132), and whether some were removed. -/
def State.explicitLanes (s : State) (k first count : Nat) : List Nat × Bool :=
  let base := s.rfld (R.INTAKE_S_CFG k) 8 8
  let top := min (base + s.rfld (R.INTAKE_S_CFG k) 16 8) 160
  let l := (List.range count).map fun i => base + first + i
  (l.filter fun n => decide (n < top), l.any fun n => decide (top ≤ n))

/-- The lanes a lateral record selects (R133, R134): the logical lanes, and whether some were cut off above lane 159 or
by LAT_MAX, which is applied first (DESIGN CHOICE, log 141). The centres are at the leading and the trailing edge, in µm. -/
def State.lateralLanes (s : State) (k width : Nat) (xl xt : Int) : List Nat × Bool × Bool :=
  let pitch : Int := (s.rfld (R.INTAKE_S_LAT_PITCH k) 0 16 : Int)
  let margin : Int := (s.rfld (R.INTAKE_S_LAT_CTRL k) 0 16 : Int)
  let half : Int := 5 * (width : Int) + margin
  let lo := min xl xt - half
  let hi := max xl xt + half
  let base := s.rfld (R.INTAKE_S_CFG k) 8 8
  let sel : List Nat := (List.range (s.rfld (R.INTAKE_S_CFG k) 16 8)).filter fun (j : Nat) =>
    decide ((j : Int) * pitch < hi) && decide (lo < ((j : Int) + 1) * pitch)
  let cap := clampN 1 16 (s.rfld (R.INTAKE_S_LAT_CTRL k) 24 5)
  let kept : List Nat :=
    if cap < sel.length then
      let a := (sel.head?).getD 0
      let b := (sel.getLast?).getD 0
      let first := clampI a ((b : Int) + 1 - cap) (floorDiv (xl + xt) (2 * pitch).toNat - ((cap - 1) / 2 : Nat))
      (List.range cap).map fun (i : Nat) => first.toNat + i
    else sel
  let l := kept.map fun j => base + j
  (l.filter fun n => decide (n < 160), l.any fun n => decide (160 ≤ n), decide (cap < sel.length))

/-- A centre at an edge (R133), `dt` after t_ref in 1/256 ns. -/
def State.centreAt (s : State) (k : Nat) (r : List Byte) (dt : Int) : Int :=
  100 * (recX r : Int) - (s.reg (R.INTAKE_S_LAT_ORIGIN k)).toInt + roundDiv (100 * recVX r * dt) 256000000000

/-- The lanes of a target, after the counts of R132 and R134; none where a lateral target selects no lane (Table 3
step 9). A target whose selected lanes all lie above lane 159 has selected lanes and passes with none (DESIGN CHOICE, log 141). A HELD
target has no instants to drift to: the drift at each edge is a free value (log 5). -/
def State.lanesOf (s : State) (r : List Byte) (k : Nat) (tref : Int) (q : Option Solved) : Option (List Nat) × State :=
  if recLateral r then
    let c := match q with
      | none => (s.centreAt k r 0, s.centreAt k r 0, s)
      | some q =>
        if q.held then
          let a := s.draw 30
          let b := a.2.draw 31
          (s.centreAt k r 0 + a.1.toInt, s.centreAt k r 0 + b.1.toInt, b.2)
        else (s.centreAt k r (q.lead - tref * 256), s.centreAt k r (q.trail - tref * 256), s)
    let l := s.lateralLanes k (recWidth r) c.1 c.2.1
    let s1 := c.2.2.when l.2.1 fun t => t.count R.INTAKE_CNT_LANE_CLIP 1
    let s2 := s1.when l.2.2 fun t => t.count R.INTAKE_CNT_LAT_CAP 1
    (if l.1.isEmpty && !l.2.1 then none else some l.1, s2)
  else
    let l := s.explicitLanes k (recFirst r) (recCount r)
    (some l.1, s.when l.2 fun t => t.count R.INTAKE_CNT_LANE_CLIP 1)

/-- The pipeline that takes the next target (R117): the enabled ones in turn; after reset pipeline 0 is first (DESIGN CHOICE, log 186). A target that fails at steps 1 to 3 of Table 3 takes a
turn too (DESIGN CHOICE, log 142). -/
def State.nextPipe (s : State) : Nat :=
  match s.rfld R.INTAKE_CTRL 4 2 with
  | 1 => 0
  | 2 => 1
  | _ => 1 - s.intake.lastPipe

/-- A MODEL 0 target is handed to Stitch (R135, R136, R210, R215). -/
def State.immediate (s : State) (e : FifoEntry) : State :=
  let r := e.data
  let ta : Int := (s.dt : Int) + (s.rfld R.INTAKE_IMM_LEAD 0 16 : Int) * 10
  match s.lanesOf r e.stream ta none with
  | (none, s1) => s1.reject R.INTAKE_REJ_LAT_MISS
  | (some l, s1) =>
    let t := ta * 256
    match recAction r with
    | 2 => s1.handOff 29 (.sectAct true (recTag r) l t true)
    | 3 => s1.handOff 29 (.sectAct false (recTag r) l t true)
    | a => s1.handOff 29 (.target ⟨a == 1, .immediate, recTag r, 0, recClass r, l, t,
        t + (recExtent r : Int) * 1000 * 256, false, e.stream, 0, 0, 0⟩)

/-- Datapath B agrees with datapath A (R129). -/
def agrees (q : Solved) (b : DataB) (belt : Bool) : Bool :=
  (q.held || (decide (b.lead.natAbs ≤ 256000) && decide (b.trail.natAbs ≤ 256000))) &&
  (!belt || (decide (b.pLead.natAbs ≤ 256) && decide (b.pTrail.natAbs ≤ 256)))

/-- Steps 7 to 9 of Table 3 and the hand-off, in pipeline `pipe` (R129–R136). -/
def State.finish (s : State) (e : FifoEntry) (tref : Int) (pipe : Nat) (q : Solved) (b : DataB) : State :=
  let r := e.data
  let belt := recModel r == 2
  if !q.held && decide (512000000000 < q.trail - tref * 256) then s.reject R.INTAKE_REJ_RANGE
  else
    let diff := if q.held then 0 else max b.lead.natAbs b.trail.natAbs
    let s1 := s.when (decide ((s.reg R.SOLVER_MAXDIFF).toNat < diff)) fun t =>
      t.setRegN R.SOLVER_MAXDIFF diff
    if !agrees q b belt then
      (((s1.count (if pipe = 0 then R.SOLVER_DISAGREE0 else R.SOLVER_DISAGREE1) 1).event R.INTAKE_IRQ_STAT
        iDisagree).reject R.INTAKE_REJ_DISAGREE).fault srcSolverDisagree pipe 0
    else
      let s2 := s1.count (if pipe = 0 then R.SOLVER_OK0 else R.SOLVER_OK1) 1
      match s2.lanesOf r e.stream tref (some q) with
      | (none, s3) => s3.reject R.INTAKE_REJ_LAT_MISS
      | (some l, s3) => s3.handOff 29 (.target ⟨recAction r == 1, if belt then .belt else .fall, recTag r, recModel r,
          recClass r, l, q.lead, q.trail, q.held, e.stream, q.pLead, q.pTrail, 0⟩)

/-- A MODEL 3 record reaches the GROUND block's event queue, which drops it when full (04 R159). An transfer that fails is not recovered
(01 R34, R35, R37). -/
def State.gndEvent (s : State) (e : GndEvent) : State :=
  s.carry 29 31 (fun t =>
    if t.gnd.queue.length < 1024 then { t with gnd := { t.gnd with queue := t.gnd.queue ++ [e] } }
    else (t.count R.GND_EV_DROP 1).event R.GND_IRQ_STAT 4) id

/-- The checks of Table 3 from step 4 on. The range of FALL_DROP (R121) is checked between steps 4 and 6 (DESIGN CHOICE, log 143). -/
def State.solve (s : State) (e : FifoEntry) (pipe : Nat) (b : DataB) : State :=
  let r := e.data
  let d := recD r e.trx
  if 100000 < d then s.reject R.INTAKE_REJ_REF_FUTURE
  else if d < -2000000000 then s.reject R.INTAKE_REJ_REF_STALE
  else
    let tref := (e.trx : Int) + d
    match recModel r with
    | 1 =>
      if !s.dropOk e.stream then s.reject R.INTAKE_REJ_RANGE
      else match s.solveFall r e.stream tref with
        | none => s.reject R.INTAKE_REJ_NO_ARRIVAL
        | some q => s.finish e tref pipe q b
    | 2 =>
      if (match (s.belt e.stream).getLast? with
          | some o => decide (tref < o.dt)
          | none => false) then s.reject R.INTAKE_REJ_REF_STALE
      else if !s.beltValid e.stream then s.reject R.INTAKE_REJ_BELT_INVALID
      else match (s.beltAt e.stream tref).bind (s.solveBelt r e.stream) with
        | none => s.reject R.INTAKE_REJ_NO_ARRIVAL
        | some q => s.finish e tref pipe q b
    | _ => s.gndEvent ⟨r, e.stream, tref⟩

/-- The checks of Table 3 from step 1 on (R111). -/
def State.dispatch (s : State) (e : FifoEntry) (b : DataB) : State :=
  let r := e.data
  let m := recModel r
  let pipe := s.nextPipe
  let s1 := s.when (m == 1 || m == 2) fun t => { t with intake := { t.intake with lastPipe := pipe } }
  if 3 < m || (m == 2 && !s1.rbit (R.INTAKE_S_CFG e.stream) 1) then s1.reject R.INTAKE_REJ_MODEL
  else if (2 ≤ recAction r && (m == 1 || m == 2)) || (m == 0 && recExtent r == 0) then s1.reject R.INTAKE_REJ_FIELD
  else if m ≠ 3 && !recLateral r && decide (s1.rfld (R.INTAKE_S_CFG e.stream) 16 8 ≤ recFirst r) then
    s1.reject R.INTAKE_REJ_LANE_RANGE
  else if m = 0 then s1.immediate e
  else s1.solve e pipe b

/-- The counters of the intake (R21), and INTAKE_HWM. -/
def intakeCounters : List Nat :=
  [R.INTAKE_HWM, R.INTAKE_BADFRAME, R.INTAKE_TGT_CNT, R.INTAKE_TGT_REFUSED, R.INTAKE_REJ_MODEL, R.INTAKE_REJ_FIELD,
    R.INTAKE_REJ_LANE_RANGE, R.INTAKE_REJ_REF_STALE, R.INTAKE_REJ_REF_FUTURE, R.INTAKE_REJ_BELT_INVALID,
    R.INTAKE_REJ_NO_ARRIVAL, R.INTAKE_REJ_RANGE, R.INTAKE_REJ_DISAGREE, R.INTAKE_REJ_LAT_MISS,
    R.INTAKE_CNT_LANE_CLIP, R.INTAKE_CNT_LAT_CAP, R.SOLVER_OK0, R.SOLVER_OK1, R.SOLVER_DISAGREE0,
    R.SOLVER_DISAGREE1, R.SOLVER_MAXDIFF] ++
  ((List.range 4).map fun k => [R.INTAKE_S_FRAMES k, R.INTAKE_S_LOST k, R.INTAKE_S_STALE k, R.INTAKE_S_BADFRAME k,
    R.INTAKE_S_FULLDROP k]).flatten

/-- A write of INTAKE_CNT_CLEAR (R21). -/
def intakeClear (w : Word) (s : State) : State := s.when (w.getLsbD 0) fun t => t.clearRegs intakeCounters

/-- A write of INTAKE_TGT_W3 submits the record (R112, R113). -/
def tgtSubmit (w : Word) (s : State) : State :=
  let tw (i : Nat) : Word := Tab.get (fun _ => 0) s.intake.tgt i
  let r := bytesOfWord (tw 0) ++ bytesOfWord (tw 1) ++ bytesOfWord (tw 2) ++ bytesOfWord w
  let old := s.intake.fifo.length
  if old < fifoSize then
    ((s.setFifo (s.intake.fifo ++ [⟨r, s.rfld R.INTAKE_TGT_CFG 0 2, s.dt, true⟩])).count R.INTAKE_TGT_CNT 1).fifoRose
      old
  else (s.count R.INTAKE_TGT_REFUSED 1).event R.INTAKE_IRQ_STAT iTgtRefused

/-- A write of INTAKE_Sn_CFG: RESYNC clears SYNCED (R107). -/
def streamCfg (k : Nat) (w : Word) (s : State) : State :=
  s.when (w.getLsbD 0) fun t => t.setBit (R.INTAKE_S_STAT k) 0 false

/-- A belt sample arrives and is kept (R122, R125); `good` says that its encoder reports no fault (R123). A change of BELT_ENC or of BELT_EN keeps the history (DESIGN CHOICE, log 140). -/
def State.beltSample (s : State) (good : Bool) (k : Nat) : State :=
  let e := s.rfld (R.INTAKE_S_CFG k) 24 3
  let l := (⟨s.dt, s.reg48 (R.ENC_POS_LO e)⟩ :: s.belt k).take 4096
  let g := Tab.get (fun _ => 0) s.intake.good k + b2n good
  let s1 := { s with intake := { s.intake with
    belts := Tab.set (fun _ => []) s.intake.belts k l, good := Tab.set (fun _ => 0) s.intake.good k g } }
  let s2 := s1.when (good && decide (2 * s1.vwin k ≤ g)) fun t => t.setBit (R.INTAKE_S_STAT k) 1 true
  s2.setRegI (R.INTAKE_S_BELT_SPEED k) (s2.beltSpeed k)

/-- HUZER_FRAME (R104–R109, R114, R116; 13 R522, R524): a frame received on ETH0. -/
def execHuzerFrame (el : Nat) (f : RxFrame) (s : State) : Host.Outcome State Fault Refusal :=
  .next (match (s.begin el).macRx .eth0 f with
    | (some body, t) => if subtypeOf body = 0x5A17 then t.onIsland 29 fun u => u.huzer body else t
    | (none, t) => t)

/-- PAUSE_REFRESH (13 R526): while PAUSED is 1, a PAUSE frame every REFRESH µs. -/
def execPauseRefresh (el : Nat) (s : State) : Host.Outcome State Fault Refusal :=
  let t := s.begin el
  .next (if t.rbit R.INTAKE_STAT 24 && decide (t.intake.pauseAt + t.rfld (R.ETH_PAUSE 0) 16 16 * 1000 ≤ t.now) then
    let u := t.pauseTx (t.rfld (R.ETH_PAUSE 0) 0 16)
    { u with intake := { u.intake with pauseAt := u.now } }
  else t)

/-- STREAM_RESYNC (R107): INTAKE_Sn_CFG is written with RESYNC at 1 and its other fields as they stand. -/
def execStreamResync (el : Nat) (p : Port) (k : Fin 4) (s : State) : Host.Outcome State Fault Refusal :=
  let t := s.begin el
  .next (t.writeCmd p (R.INTAKE_S_CFG k) (t.reg (R.INTAKE_S_CFG k) ||| 1) (streamCfg k))

/-- TGT_SUBMIT (R112, R113): INTAKE_TGT_W3 is written. -/
def execTgtSubmit (el : Nat) (p : Port) (v : Word) (s : State) : Host.Outcome State Fault Refusal :=
  .next ((s.begin el).writeCmd p (R.INTAKE_TGT_W 3) v tgtSubmit)

/-- TARGET_DISPATCH (R110, R111, R116–R136): the next FIFO entry. Nothing is dispatched while PIPE_EN is 0. -/
def execTargetDispatch (el : Nat) (b : DataB) (s : State) : Host.Outcome State Fault Refusal :=
  .next ((s.begin el).onIsland 29 fun t =>
    if t.rfld R.INTAKE_CTRL 4 2 = 0 then t
    else match t.intake.fifo with
      | [] => t
      | e :: r => ((t.setFifo r).fifoFell).dispatch e b)

/-- INTAKE_CNT_CLEAR (R21): INTAKE_CNT_CLEAR is written with bit 0. -/
def execIntakeCntClear (el : Nat) (p : Port) (s : State) : Host.Outcome State Fault Refusal :=
  .next ((s.begin el).writeCmd p R.INTAKE_CNT_CLEAR 1 intakeClear)

/-- BELT_SAMPLE (R122, R123): at a DT multiple of 65,536 ns; `ok` says that the transfer was delivered. A
position whose encoder is not valid arrives and is kept, and is no good sample. -/
def execBeltSample (el : Nat) (k : Fin 4) (ok : Bool) (s : State) : Host.Outcome State Fault Refusal :=
  .next ((s.begin el).onIsland 29 fun t =>
    if t.rbit (R.INTAKE_S_CFG k) 1 ∧ t.dt % 65536 = 0 then
      let good := t.rbit (R.ENC_STAT (t.rfld (R.INTAKE_S_CFG k) 24 3)) 30
      if ok && t.works 22 then
        t.carry 22 29 (fun u => (u.when (!good) fun v => v.beltLost k).beltSample good k) fun u => u.beltLost k
      else t.beltLost k
    else t)

end Sys2Proof.Machine
end

