-- ==== Sys2Proof/Machine/Feedback.lean ====
section
/-!
DEFINITION. The feedback tile (09_position_feedback.md, R362–R397): encoder channels, serial sensors, probes and compare
units.
-/
namespace Sys2Proof.Machine

/-- Bits of ENC_STAT, ENC_EVENT, Q_EVENT, PRB_STAT, PRB_EVENT, CMP_STAT and CMP_EVENT. -/
abbrev esBreak : Nat := 31
abbrev esValid : Nat := 30
abbrev esDir : Nat := 29
abbrev esArmed : Nat := 28
abbrev eeWrap : Nat := 4
abbrev eeIndex : Nat := 3
abbrev eeRate : Nat := 2
abbrev eePhase : Nat := 1
abbrev eeBreak : Nat := 0
abbrev qeOverrun : Nat := 4
abbrev qeWarn : Nat := 3
abbrev psLevel : Nat := 31
abbrev psArmed : Nat := 30
abbrev psStuck : Nat := 29
abbrev peLost : Nat := 3
abbrev peOverrate : Nat := 2
abbrev peStuck : Nat := 1
abbrev peLatched : Nat := 0
abbrev csPin : Nat := 31
abbrev csFailsafe : Nat := 30
abbrev ceRouteFail : Nat := 4
abbrev ceMerged : Nat := 3
abbrev ceSkipped : Nat := 2
abbrev ceLate : Nat := 1
abbrev ceHit : Nat := 0

/-- The units of the feedback tile beside their registers. -/
def State.enc (s : State) (k : Nat) : EncSt := Tab.get (fun _ => EncSt.init) s.fb.encs k
def State.setEnc (s : State) (k : Nat) (v : EncSt) : State :=
  { s with fb := { s.fb with encs := Tab.set (fun _ => EncSt.init) s.fb.encs k v } }
def State.ser (s : State) (k : Nat) : SerSt := Tab.get (fun _ => SerSt.init) s.fb.sers k
def State.setSer (s : State) (k : Nat) (v : SerSt) : State :=
  { s with fb := { s.fb with sers := Tab.set (fun _ => SerSt.init) s.fb.sers k v } }
def State.probe (s : State) (p : Nat) : ProbeSt := Tab.get (fun _ => ProbeSt.init) s.fb.probes p
def State.setProbe (s : State) (p : Nat) (v : ProbeSt) : State :=
  { s with fb := { s.fb with probes := Tab.set (fun _ => ProbeSt.init) s.fb.probes p v } }
def State.pulseEnd (s : State) (c : Nat) : Option Nat := Tab.get (fun _ => none) s.fb.pulses c
def State.setPulse (s : State) (c : Nat) (v : Option Nat) : State :=
  { s with fb := { s.fb with pulses := Tab.set (fun _ => none) s.fb.pulses c v } }

/-- The reported position P and the raw count r of a channel. -/
def State.encPos (s : State) (k : Nat) : Int := s.reg48 (R.ENC_POS_LO k)
def State.encRaw (s : State) (k : Nat) : Int := s.reg48 (R.ENC_RAW_LO k)

/-- VALID of a channel (R365, R371): it counts, has no break, and had no excess in the last 1 ms. A belt that the channel counts is
lost when it clears (03 R123). -/
def State.encShow (s : State) (k : Nat) : State :=
  let v := s.rbit (R.ENC_CFG k) 12 && !s.rbit (R.ENC_STAT k) esBreak && (s.enc k).rateAt.isNone
  (s.setBit (R.ENC_STAT k) esValid v).when (s.rbit (R.ENC_STAT k) esValid && !v) fun u => u.beltFault k

/-- The local DT of the feedback tile (01 R42), and its last sample, on the 5 ns grid. -/
def State.fbDt (s : State) : Int := s.localDt 22
def State.fbSample (s : State) : Int := s.fbDt / 5 * 5

/-- The first of `n` consecutive samples, the present one the last, at which a level has been seen (R362). -/
def State.sampleAt (s : State) (n : Nat) : Int := s.fbSample - ((n : Int) - 1) * 5

/-- A level seen at `n` consecutive samples is accepted by a filter of length `f` (R362). -/
def accepted (f n : Nat) : Bool := decide (f + 1 ≤ n)

/-- Compare unit `c`: its value, direction (0 up, 1 down, 2 either) and whether it advances (R389). -/
def State.cmpVal (s : State) (c : Nat) : Int := s.reg48 (R.CMP_VAL_LO c)
def State.cmpDir (s : State) (c : Nat) : Nat := s.rfld (R.CMP_CFG c) 4 2
def State.cmpAuto (s : State) (c : Nat) : Bool := s.rbit (R.CMP_CFG c) 1 && s.cmpDir c != 2
def State.cmpSpacing (s : State) (c : Nat) : Nat := max 1 (s.reg (R.CMP_SPACING c)).toNat

/-- A route of a hit fails (R393). -/
def State.routeFail (s : State) (c : Nat) : State :=
  (s.count R.FB_ROUTE_FAIL 1).event (R.CMP_EVENT c) ceRouteFail

/-- The pin pulse of a hit (R392, R393). -/
def State.cmpPin (s : State) (c : Nat) : State :=
  let e := s.now + s.rfld (R.CMP_CFG c) 16 16 * 5
  let s1 := s.when (s.pulseEnd c).isSome fun u => (u.count (R.CMP_MERGED c) 1).event (R.CMP_EVENT c) ceMerged
  (s1.setPulse c (some e)).setBit (R.CMP_STAT c) csPin true

/-- The IMMEDIATE fire that a hit at `d` hands Stitch (R392). -/
def State.cmpStitch (s : State) (c : Nat) (d : Int) : State :=
  s.carry 22 30 (fun s =>
    let w := s.reg (R.CMP_LANES c)
    let lanes := ((List.range (fld w 8 8 + 1)).map fun j => fld w 0 8 + j).filter fun n => decide (n < 160)
    let t := (d + (s.rfld (R.CMP_LEAD c) 0 16 : Int) * 10) * 256
    s.handOff 22 (.target ⟨false, .immediate, 0, 0, 0, lanes, t, t + (fld w 16 16 : Int) * 1000 * 256, false, 0, 0, 0, 0⟩))
    fun u => u.routeFail c

/-- The hit reaches a lane tile (R392). -/
def State.cmpTile (s : State) (c t : Nat) (d : Int) : State :=
  s.carry 22 t (fun s =>
    let u := s.setTile t { s.tile t with hits := d :: (s.tile t).hits.filter fun h => decide (d - 2000000 ≤ h) }
    { u with rcd := { u.rcd with trace := u.rcd.trace.map fun c => if c.lane / 8 = t then { c with hits := d :: c.hits } else c } })
    fun u => u.routeFail c

/-- A hit dated `d` is counted and takes its routes (R388, R392, R393, R395). -/
def State.cmpHit (s : State) (c : Nat) (d : Int) : State :=
  let s1 := (((s.setReg (R.CMP_HIT_DT_LO c) (loW d)).setReg (R.CMP_HIT_DT_HI c) (hiW64 d)).count (R.CMP_HITS c) 1).event
    (R.CMP_EVENT c) ceHit
  if s1.rbit (R.CMP_STAT c) csFailsafe then s1
  else
    let r := s1.reg (R.CMP_ROUTE c)
    let s2 := s1.when (r.getLsbD 30) fun u => u.cmpPin c
    let s3 := s2.when (r.getLsbD 31) fun u => u.cmpStitch c d
    forN (fun t u => if r.getLsbD t then u.cmpTile c t d else u) 20 s3

/-- The value is behind the position (R390). -/
def State.cmpBehind (s : State) (c : Nat) : Bool :=
  let d := wrap48 (s.cmpVal c - s.encPos (s.rfld (R.CMP_CFG c) 8 3))
  match s.cmpDir c with
  | 0 => decide (d ≤ 0)
  | 1 => decide (0 ≤ d)
  | _ => decide (d = 0)

/-- The late test (R390, R391). A disabled unit makes none (DEDUCED, log 20). -/
def State.cmpLate (s : State) (c : Nat) : State :=
  if !s.rbit (R.CMP_CFG c) 0 || !s.cmpBehind c then s
  else
    let s1 := (s.count (R.CMP_LATE c) 1).event (R.CMP_EVENT c) ceLate
    let s2 := if s1.cmpAuto c then
        let sp := s1.cmpSpacing c
        let d := wrap48 (s1.cmpVal c - s1.encPos (s1.rfld (R.CMP_CFG c) 8 3))
        let n := d.natAbs / sp + 1
        let v := if s1.cmpDir c = 0 then s1.cmpVal c + n * sp else s1.cmpVal c - n * sp
        ((s1.setReg48 (R.CMP_VAL_LO c) (wrap48 v)).count (R.CMP_SKIPPED c) n).event (R.CMP_EVENT c) ceSkipped
      else s1
    s2.when (s2.rbit (R.CMP_CFG c) 2) fun u => u.cmpHit c u.fbDt

/-- The position of a unit's source moves from `p0` to the present one, by an edge dated `d` (R387–R389). -/
def State.cmpMove (s : State) (c k : Nat) (p0 d : Int) : State :=
  if !s.rbit (R.CMP_CFG c) 0 || s.rfld (R.CMP_CFG c) 8 3 != k then s
  else
    let a := wrap48 (s.cmpVal c - p0)
    let b := wrap48 (s.cmpVal c - s.encPos k)
    let up := decide (0 < a) && decide (b ≤ 0)
    let dn := decide (a < 0) && decide (0 ≤ b)
    let hit := match s.cmpDir c with
      | 0 => up
      | 1 => dn
      | _ => up || dn
    if !hit then s
    else
      let s1 := s.cmpHit c d
      if s1.cmpAuto c then
        let v := if s1.cmpDir c = 0 then s1.cmpVal c + s1.cmpSpacing c else s1.cmpVal c - s1.cmpSpacing c
        (s1.setReg48 (R.CMP_VAL_LO c) (wrap48 v)).cmpLate c
      else s1

/-- The history of P keeps what the last 64 samples need (R384). -/
def histAdd (h : List (Int × Int)) (d p : Int) : List (Int × Int) :=
  (d, p) :: (h.takeWhile fun q => decide (d - 400 < q.1)) ++ ((h.dropWhile fun q => decide (d - 400 < q.1)).take 1)

/-- P of a channel at a sample (R369, R384). -/
def State.posAt (s : State) (k : Nat) (d : Int) : Int :=
  match (s.enc k).hist.find? fun q => decide (q.1 ≤ d) with
  | some q => q.2
  | none => s.encPos k

/-- A history of P, from before the sample at `d` on (R384): a channel that has not moved yet has held `p`. -/
def histFrom (h : List (Int × Int)) (d p : Int) : List (Int × Int) :=
  if h.isEmpty then [(d - 400, p)] else h.filter fun q => decide (q.1 < d)

/-- A load of a channel at the sample `d`: r and P take `v` from that sample on, and the compare units on it make their late
test (R368, R369). -/
def State.encLoad (s : State) (k : Nat) (v d : Int) : State :=
  let h := histFrom (s.enc k).hist d (s.encPos k)
  let s1 := (s.setReg48 (R.ENC_RAW_LO k) v).setReg48 (R.ENC_POS_LO k) v
  let s2 := s1.setEnc k { s1.enc k with hist := histAdd h d v }
  forN (fun c u => if u.rfld (R.CMP_CFG c) 8 3 = k then u.cmpLate c else u) 8 s2

/-- P moves to `v` at the sample `d`, and the compare units on the channel follow (R366, R388). -/
def State.encMove (s : State) (k : Nat) (v d : Int) : State :=
  let p0 := s.encPos k
  if v = p0 then s
  else
    let h := if (s.enc k).hist.isEmpty then [(d - 400, p0)] else (s.enc k).hist
    let s1 := (s.setReg48 (R.ENC_POS_LO k) v).setEnc k { s.enc k with hist := histAdd h d v }
    forN (fun c u => u.cmpMove c k p0 d) 8 s1

/-- The reported position and its direction after the raw count has become `r` (R366): `up` is the count's direction. -/
def nextPos (hyst : Bool) (p r : Int) (down up : Bool) : Int × Bool :=
  let d := wrap48 (r - p)
  if !hyst then (r, !up)
  else if !down then (if 0 < d then (r, false) else if d ≤ -2 then (r, true) else (p, false))
  else (if d < 0 then (r, true) else if 2 ≤ d then (r, false) else (p, true))

/-- More than ten changes of r within 200 ns (R365). -/
def rateExcess (l : List Int) (d : Int) : Bool := decide (10 < (l.filter fun t => decide (d - 200 < t)).length)

/-- One count (R363, R365, R366, R388), by an edge dated `d`. -/
def State.encCount (s : State) (k : Nat) (up : Bool) (d : Int) : State :=
  let r0 := s.encRaw k
  let r1 := r0 + if up then 1 else -1
  let s1 := s.setReg48 (R.ENC_RAW_LO k) (wrap48 r1)
  let s2 := s1.when (decide (wrap48 r1 ≠ r1)) fun u => u.event (R.ENC_EVENT k) eeWrap
  let n := nextPos (s2.rbit (R.ENC_CFG k) 9) (s2.encPos k) (wrap48 r1) (s2.rbit (R.ENC_STAT k) esDir) up
  let s3 := s2.setBit (R.ENC_STAT k) esDir n.2
  let q := s3.enc k
  let rec1 := d :: q.recent.take 10
  let bad := rateExcess rec1 d
  let s4 := s3.setEnc k { q with recent := rec1, rateAt := if bad then some s3.now else q.rateAt, lastDn := !up }
  let s5 := s4.when bad fun u => ((u.event (R.ENC_EVENT k) eeRate).fault srcEncRate k 0).encShow k
  s5.encMove k n.1 d

/-- ENC_CFG of a channel has been written (R363, R366): without hysteresis P is r, and the direction is that of the last count. -/
def State.encWritten (s : State) (k : Nat) : State :=
  let s1 := s.encShow k
  if s1.rbit (R.ENC_CFG k) 9 then s1
  else (s1.setBit (R.ENC_STAT k) esDir (s1.enc k).lastDn).encMove k (s1.encRaw k) s1.fbSample

/-- ENCODER_EDGE (R362–R366, R388): lines A and B of a channel have shown the levels `la` and `lb` at `n` consecutive samples, the
present one the last. A change seen at fewer samples than the filter asks reverts now: it is dropped and counted. -/
def execEncoderEdge (el : Nat) (k : Fin 8) (n : Nat) (la lb : Bool) (s : State) : Host.Outcome State Fault Refusal :=
  .next ((s.begin el).onIsland 22 fun u =>
    let q := u.enc k
    let a := q.la != la
    let b := q.lb != lb
    if !accepted (u.rfld (R.ENC_CFG k) 0 6) n then u.count (R.ENC_GLITCH k) (b2n a + b2n b)
    else
      let s1 := u.setEnc k { q with la := la, lb := lb }
      let d := u.sampleAt n
      if !u.rbit (R.ENC_CFG k) 12 then s1
      else if a && b then
        ((s1.count (R.ENC_PHASE_ERR k) 1).event (R.ENC_EVENT k) eePhase).fault srcEncPhase k 0
      else if a || b then s1.encCount k ((if a then la != lb else la == lb) != u.rbit (R.ENC_CFG k) 10) d
      else s1)

/-- ENC_RATE_RECOVER (R365): 1 ms has passed without a further excess. -/
def execEncRateRecover (el : Nat) (k : Fin 8) (s : State) : Host.Outcome State Fault Refusal :=
  .next ((s.begin el).onIsland 22 fun u =>
    match (u.enc k).rateAt with
    | some t => if t + 1000000 ≤ u.now then (u.setEnc k { u.enc k with rateAt := none }).encShow k else u
    | none => u)

/-- INDEX_EDGE (R362, R369): line Z has shown a level at a number of consecutive samples (`e.val`), the present one the
last. A change seen at fewer samples than the filter asks reverts now: it is dropped and counted. -/
def execIndexEdge (e : Seen (Nat × Bool)) (k : Fin 8) (s : State) : Host.Outcome State Fault Refusal :=
  .next ((s.begin e.el).onIsland 22 fun u =>
    let q := u.enc k
    if e.val.2 = q.lz then u
    else if !accepted (u.rfld (R.ENC_CFG k) 0 6) e.val.1 then u.count (R.ENC_GLITCH k) 1
    else if !e.val.2 then u.setEnc k { q with lz := false }
    else
      let d := u.sampleAt e.val.1
      let s1 := ((u.setEnc k { q with lz := true }).setReg48 (R.ENC_INDEX_LO k) (u.posAt k d)).event (R.ENC_EVENT k) eeIndex
      if s1.rbit (R.ENC_CFG k) 11 && s1.rbit (R.ENC_STAT k) esArmed then
        (s1.setBit (R.ENC_STAT k) esArmed false).encLoad k 0 d
      else s1)

/-- ENC_BREAK (R370, R371): a pair of a channel has stayed below 100 mV for 80 µs. -/
def execEncBreak (el : Nat) (k : Fin 8) (s : State) : Host.Outcome State Fault Refusal :=
  .next ((s.begin el).onIsland 22 fun u =>
    if u.rbit (R.ENC_CFG k) 8 || u.rbit (R.ENC_STAT k) esBreak then u
    else (((u.setBit (R.ENC_STAT k) esBreak true).event (R.ENC_EVENT k) eeBreak).encShow k).fault srcEncBreak k 0)

/-- ENC_BREAK_CLEAR (R370): every pair has been above 200 mV for 1 ms. -/
def execEncBreakClear (el : Nat) (k : Fin 8) (s : State) : Host.Outcome State Fault Refusal :=
  .next ((s.begin el).onIsland 22 fun u => (u.setBit (R.ENC_STAT k) esBreak false).encShow k)


/-- SPEED_WINDOW_END (R372–R374): at a DT multiple of the window's length. -/
def execSpeedWindowEnd (el : Nat) (k : Fin 8) (s : State) : Host.Outcome State Fault Refusal :=
  .next ((s.begin el).onIsland 22 fun u =>
    let t := u.fbDt
    let w := u.rfld (R.ENC_CFG k) 15 17
    if t % (w * 1000 : Nat) ≠ 0 then u
    else
      let r := u.encRaw k
      let s1 := match (u.enc k).win with
        | some (t0, w0, r0) =>
          if w0 = w ∧ t0 + (w * 1000 : Nat) = t then
            u.setRegI (R.ENC_SPEED k) (roundDiv (wrap48 (r - r0) * 1000000) w)
          else u
        | none => u
      s1.setEnc k { s1.enc k with win := some (t, w, r) })

/-- A write of ENC_CMD (R368, R369). -/
def encCmd (k : Nat) (w : Word) (s : State) : State :=
  let s1 := s.when (w.getLsbD 0) fun u => u.encLoad k (u.reg48 (R.ENC_LOAD_LO k)) (u.fbSample + 5)
  s1.when (w.getLsbD 1) fun u => u.setBit (R.ENC_STAT k) esArmed true

/-- ENC_LOAD (R368). -/
def execEncLoad (el : Nat) (p : Port) (k : Fin 8) (s : State) : Host.Outcome State Fault Refusal :=
  .next ((s.begin el).writeCmd p (R.ENC_CMD k) 1 (encCmd k))

/-- INDEX_ARM (R369). -/
def execIndexArm (el : Nat) (p : Port) (k : Fin 8) (s : State) : Host.Outcome State Fault Refusal :=
  .next ((s.begin el).writeCmd p (R.ENC_CMD k) 2 (encCmd k))

/-- SERIAL_FRAME_START (R375, R376): at a DT multiple of PERIOD. -/
def execSerialFrameStart (el : Nat) (k : Fin 4) (s : State) : Host.Outcome State Fault Refusal :=
  .next ((s.begin el).onIsland 22 fun u =>
    let t := u.fbDt
    if u.rfld (R.Q_CFG k) 0 2 = 0 ∨ t % (u.rfld (R.Q_CFG k) 16 16 * 1000 : Nat) ≠ 0 then u
    else if (u.ser k).frame.isSome then (u.count (R.Q_OVERRUN k) 1).event (R.Q_EVENT k) qeOverrun
    else u.setSer k { u.ser k with frame := some t.toNat })

/-- Bits, the most significant first, as a number. -/
def bitsNat (l : List Bool) : Nat := l.foldl (fun n b => 2 * n + b2n b) 0

/-- Gray code to binary, the most significant bit first (R379). -/
def grayBits : Bool → List Bool → List Bool
  | _, [] => []
  | p, b :: r => (p != b) :: grayBits (p != b) r

/-- What a frame's bits say: the position, whether the check code is right, the error and the warning. -/
structure SerFrame where
  pos : Nat
  checkOk : Bool
  err : Bool
  warn : Bool
  deriving DecidableEq, Repr

/-- Bit `i` of a frame; a bit not read counts as low. -/
def bitAt (l : List Bool) (i : Nat) : Bool := l.getD i false

/-- The bits of a BiSS-C frame after its head: an idle line is high, ACK is one or more lows, then come the start bit and the CDS
bit (R377). With them stands how many bits the start bit ended. None before the start bit. -/
def bissHead (l : List Bool) : Option (Nat × List Bool) :=
  match (l.dropWhile id).dropWhile fun b => !b with
  | _ :: r => some (l.length - r.length, r.drop 1)
  | [] => none

/-- A BiSS-C frame after its CDS bit (R377, R378). -/
def bissFrame (len : Nat) (l : List Bool) : SerFrame :=
  let crc := bitsNat ((List.range 6).map fun i => !bitAt l (len + 2 + i))
  ⟨bitsNat ((List.range len).map (bitAt l)), decide ((crc6 ((List.range (len + 2)).map (bitAt l))).toNat = crc),
    !bitAt l len, !bitAt l (len + 1)⟩

/-- An SSI frame (R379). -/
def ssiFrame (cfg fmt : Word) (l : List Bool) : SerFrame :=
  let len := fld fmt 0 6
  let st := fld fmt 8 3
  let d := (List.range len).map (bitAt l)
  let ones := ((List.range (len + st)).filter (bitAt l)).length
  let par := bitAt l (len + st)
  let ok := match fld cfg 2 2 with
    | 1 => decide ((ones + b2n par) % 2 = 0)
    | 2 => decide ((ones + b2n par) % 2 = 1)
    | _ => true
  let e := fld fmt 16 2
  ⟨bitsNat (if cfg.getLsbD 4 then grayBits false d else d), ok,
    decide (e < st) && (bitAt l (len + e) == fmt.getLsbD 18), false⟩

/-- The bits of a port's frame that follow its head, and where the start bit ended (0 for SSI, which has none); none before the
start bit (R377, R379). -/
def State.serHead (s : State) (k : Nat) (l : List Bool) : Option (Nat × List Bool) :=
  if s.rfld (R.Q_CFG k) 0 2 = 1 then bissHead l
  else if l.isEmpty then none
  else some (0, l)

/-- How many bits follow the head of a port's frame: the position with nE, nW and six CRC bits, or the position with the status
bits and the parity bit (R377, R379). -/
def State.serBits (s : State) (k : Nat) : Nat :=
  let fmt := s.reg (R.Q_FMT k)
  if s.rfld (R.Q_CFG k) 0 2 = 1 then fld fmt 0 6 + 8
  else fld fmt 0 6 + fld fmt 8 3 + if s.rfld (R.Q_CFG k) 2 2 = 0 then 0 else 1

/-- The length of `n` MA periods of a port, ns: MA runs at 200 MHz / (2 × (CLKDIV + 1)) (R375). -/
def State.maTime (s : State) (k n : Nat) : Nat := n * ((s.rfld (R.Q_CFG k) 8 8 + 1) * 10)

/-- TIMEOUT of a port, ns (R380). -/
def State.serLimit (s : State) (k : Nat) : Nat := s.rfld (R.Q_FMT k) 24 8 * 1000

/-- A failed frame (R380, R381): `check` is 1 timeout, 2 CRC or parity, 3 error bit. -/
def State.serFail (s : State) (k check : Nat) : State :=
  let a := if check = 1 then R.Q_TIMEOUT_CNT k else if check = 2 then R.Q_CRC_CNT k else R.Q_ERRBIT_CNT k
  (((s.count a 1).event (R.Q_EVENT k) (check - 1)).setBit (R.Q_STAT k) 0 false).fault srcSerialSensor k (wordN check)

/-- The warning bit of a frame, as read (R381). DEDUCED (log 160): a frame whose bits failed their check has none. -/
def State.serWarn (s : State) (k : Nat) (w : Bool) : State :=
  (s.setBit (R.Q_STAT k) 1 w).when w fun v => v.event (R.Q_EVENT k) qeWarn

/-- A frame whose bits after the head are `bits` has ended; its latch instant is `t0` (R378–R382). -/
def State.serTake (s : State) (k t0 : Nat) (bits : List Bool) : State :=
  let cfg := s.reg (R.Q_CFG k)
  let fmt := s.reg (R.Q_FMT k)
  let len := fld fmt 0 6
  let f := if fld cfg 0 2 = 1 then bissFrame len bits else ssiFrame cfg fmt bits
  if !f.checkOk then (s.serWarn k false).serFail k 2
  else
    let s1 := s.serWarn k f.warn
    if f.err then s1.serFail k 3
    else
      let d := (f.pos + 2 ^ len - (s1.ser k).prev % 2 ^ len) % 2 ^ len
      let sd : Int := if 2 ^ (len - 1) ≤ d then (d : Int) - 2 ^ len else d
      let p : Int := if cfg.getLsbD 5 && s1.rbit (R.Q_STAT k) 0 then wrap48 (s1.reg48 (R.Q_POS_LO k) + sd) else f.pos
      ((((s1.setReg48 (R.Q_POS_LO k) p).setReg64 (R.Q_TIME_LO k) t0).count (R.Q_FRAMES k) 1).setSer k
        { s1.ser k with prev := f.pos }).setBit (R.Q_STAT k) 0 true

/-- SERIAL_FRAME_END (R377–R382): SL has returned high after the frame in progress; `bits` are those read from SL, one for each MA
period since the latch instant. A frame of which bits are missing has not ended. Q_POS is taken as signed, which extends its
48 bits in the high word (DESIGN CHOICE, log 161). -/
def execSerialFrameEnd (el : Nat) (k : Fin 4) (bits : List Bool) (s : State) : Host.Outcome State Fault Refusal :=
  .next ((s.begin el).onIsland 22 fun u =>
    match (u.ser k).frame with
    | none => u
    | some t0 =>
      match u.serHead k bits with
      | none => u
      | some (i, data) =>
        if data.length < u.serBits k ∨ u.fbDt < t0 + u.maTime k bits.length then u
        else
          let s1 := u.setSer k { u.ser k with frame := none }
          if u.serLimit k < u.maTime k i ∨ ((t0 + u.maTime k bits.length + u.serLimit k : Nat) : Int) < u.fbDt then (s1.serWarn k false).serFail k 1 else s1.serTake k t0 data)

/-- When the frame in progress on a port times out, with `bits` read so far (R380): TIMEOUT after its latch instant where its start
has not been reached, and TIMEOUT after its last bit where SL has not returned high. -/
def State.serDue (s : State) (k t0 : Nat) (bits : List Bool) : Option Nat :=
  match s.serHead k bits with
  | none => some (t0 + s.serLimit k)
  | some (_, data) => if s.serBits k ≤ data.length then some (t0 + s.maTime k bits.length + s.serLimit k) else none

/-- SERIAL_TIMEOUT (R380): the start or the end of the frame in progress has not been reached within TIMEOUT; the bits
received so far are `e.val`. -/
def execSerialTimeout (e : Seen (List Bool)) (k : Fin 4) (s : State) : Host.Outcome State Fault Refusal :=
  .next ((s.begin e.el).onIsland 22 fun u =>
    match (u.ser k).frame with
    | none => u
    | some t0 =>
      match u.serDue k t0 e.val with
      | some d =>
        if (d : Int) ≤ u.fbDt then ((u.setSer k { u.ser k with frame := none }).serWarn k false).serFail k 1 else u
      | none => u)

/-- A probe captures (R384). -/
def State.prbArmed (s : State) (p : Nat) : Bool :=
  s.rbit (R.PRB_CFG p) 8 && (!s.rbit (R.PRB_CFG p) 9 || s.rbit (R.PRB_STAT p) psArmed)

/-- PRB_STAT shows the FIFO's fill, and ARMED of a probe that is not one-shot follows EN (R384). -/
def State.prbShow (s : State) (p : Nat) : State :=
  let s1 := s.setFld (R.PRB_STAT p) 0 3 (s.probe p).fifo.length
  if s1.rbit (R.PRB_CFG p) 9 then s1 else s1.setBit (R.PRB_STAT p) psArmed (s1.rbit (R.PRB_CFG p) 8)

/-- A level is a probe's active level (R386). -/
def State.prbActive (s : State) (p : Nat) (level : Bool) : Bool :=
  match s.rfld (R.PRB_CFG p) 10 2 with
  | 0 => level
  | 1 => !level
  | _ => false

/-- A capture enters the FIFO, or finds it full (R384, R385). -/
def State.capture (s : State) (p : Nat) (rising : Bool) (d : Int) : State :=
  let k := s.rfld (R.PRB_CFG p) 12 4
  let c : ProbeCap := ⟨rising, d, if k < 8 then s.posAt k d else 0⟩
  let q := s.probe p
  let s1 := (s.count (R.PRB_LATCHES p) 1).event (R.PRB_EVENT p) peLatched
  let s2 := if q.fifo.length < 4 then s1.setProbe p { q with fifo := q.fifo ++ [c] }
    else (s1.count (R.PRB_LOST p) 1).event (R.PRB_EVENT p) peLost
  (s2.when (s2.rbit (R.PRB_CFG p) 9) fun u => u.setBit (R.PRB_STAT p) psArmed false).prbShow p

/-- PROBE_EDGE (R383–R386): a probe has shown `level` at `n` consecutive samples, the present one the last. A change seen at fewer
samples than the filter asks reverts now: it is dropped and counted. -/
def execProbeEdge (el : Nat) (p : Fin 8) (n : Nat) (level : Bool) (s : State) : Host.Outcome State Fault Refusal :=
  .next ((s.begin el).onIsland 22 fun u =>
    if u.rbit (R.PRB_STAT p) psLevel == level then u
    else if !accepted (u.rfld (R.PRB_CFG p) 0 6) n then (u.count (R.PRB_OVERRATE p) 1).event (R.PRB_EVENT p) peOverrate
    else
      let s1 := (u.setBit (R.PRB_STAT p) psLevel level).setProbe p { u.probe p with since := u.now }
      let s2 := if s1.prbActive p level then s1 else s1.setBit (R.PRB_STAT p) psStuck false
      let kind := match s2.rfld (R.PRB_CFG p) 10 2 with
        | 0 => level
        | 1 => !level
        | _ => true
      if s2.prbArmed p && kind then s2.capture p level (s2.sampleAt n) else s2)

/-- PROBE_STUCK (R386): the active level has persisted for STUCK_T µs. -/
def execProbeStuck (el : Nat) (p : Fin 8) (s : State) : Host.Outcome State Fault Refusal :=
  .next ((s.begin el).onIsland 22 fun u =>
    let t := u.rfld (R.PRB_CFG p) 16 16
    if t ≠ 0 ∧ u.prbActive p (u.rbit (R.PRB_STAT p) psLevel) ∧ !u.rbit (R.PRB_STAT p) psStuck ∧
        (u.probe p).since + t * 1000 ≤ u.now then
      ((u.setBit (R.PRB_STAT p) psStuck true).event (R.PRB_EVENT p) peStuck).fault srcProbeStuck p 0
    else u)

/-- A write of PRB_CMD (R384, R385). -/
def prbCmd (p : Nat) (w : Word) (s : State) : State :=
  let s1 := s.when (w.getLsbD 0) fun u => (u.setProbe p { u.probe p with fifo := (u.probe p).fifo.tail }).prbShow p
  s1.when (w.getLsbD 1) fun u => (u.setBit (R.PRB_STAT p) psArmed true).prbShow p

/-- PROBE_ARM (R384). -/
def execProbeArm (el : Nat) (p : Port) (k : Fin 8) (s : State) : Host.Outcome State Fault Refusal :=
  .next ((s.begin el).writeCmd p (R.PRB_CMD k) 2 (prbCmd k))

/-- PROBE_POP (R385). -/
def execProbePop (el : Nat) (p : Port) (k : Fin 8) (s : State) : Host.Outcome State Fault Refusal :=
  .next ((s.begin el).writeCmd p (R.PRB_CMD k) 1 (prbCmd k))

/-- The words of a capture: PRB_CAP_INFO, DT and position, zeros where there is none (R385). -/
def capWordsOf (c : Option ProbeCap) : List Word :=
  match c with
  | some c => [wordN (2 ^ 31 + b2n c.rising), loW c.dt, hiW64 c.dt, loW c.pos, hiW48 c.pos]
  | none => [0, 0, 0, 0, 0]

/-- A read of PRB_CAP_INFO (R385): the oldest entry is captured into the probe's window, which all ports share (13 R520). -/
def prbRead (k : Nat) : ReadAct := fun s =>
  let l := capWordsOf (s.probe k).fifo.head?
  (l.headD 0, s.setProbe k { s.probe k with cap := l })

/-- Word `i` of a probe's window: 0 before the first capture (R385). -/
def State.prbWord (s : State) (k i : Nat) : Word := (s.probe k).cap.getD i 0

/-- PROBE_CAP_READ (R385). -/
def execProbeCapRead (el : Nat) (p : Port) (k : Fin 8) (s : State) : Host.Outcome State Fault Refusal :=
  .next ((s.begin el).readCmd p (R.PRB_CAP_INFO k) (prbRead k))

/-- CMP_STAT.PIN while a fail-safe line holds the pin at its stored level, which CMP_CFG.POL reads as active or not (R395). -/
def State.cmpHeldPin (s : State) (c : Nat) : State :=
  match s.safeOn (chCmp c) with
  | some st => s.when (s.rbit (R.CMP_STAT c) csFailsafe) fun u =>
      u.setBit (R.CMP_STAT c) csPin (decide (st = 1) == u.rbit (R.CMP_CFG c) 3)
  | none => s

/-- A unit that is disabled holds its pin inactive (09 Table 4, CMP_CFG.EN). -/
def State.cmpOff (s : State) (c : Nat) : State :=
  if s.rbit (R.CMP_CFG c) 0 then s
  else (s.setPulse c none).when (!s.rbit (R.CMP_STAT c) csFailsafe) fun u => u.setBit (R.CMP_STAT c) csPin false

/-- What follows an accepted write of CMP_CFG, or of the high word of CMP_VAL (R390, R397). -/
def State.cmpWritten (s : State) (c : Nat) : State := ((s.cmpOff c).cmpHeldPin c).cmpLate c

/-- CMP_VAL_WRITE (R18, R390, R391): CMP_VAL_HI is written. -/
def execCmpValWrite (el : Nat) (p : Port) (c : Fin 8) (v : Word) (s : State) : Host.Outcome State Fault Refusal :=
  .next ((s.begin el).writeCmd p (R.CMP_VAL_HI c) v fun _ t => t.cmpWritten c)

/-- CMP_CFG_WRITE (R397): CMP_CFG is written. -/
def execCmpCfgWrite (el : Nat) (p : Port) (c : Fin 8) (v : Word) (s : State) : Host.Outcome State Fault Refusal :=
  .next ((s.begin el).writeCmd p (R.CMP_CFG c) v fun _ t => t.cmpWritten c)

/-- CMP_PULSE_END (R392): PULSE_W samples have passed since the pin's last hit. -/
def execCmpPulseEnd (el : Nat) (c : Fin 8) (s : State) : Host.Outcome State Fault Refusal :=
  .next ((s.begin el).onIsland 22 fun u =>
    match u.pulseEnd c with
    | some e =>
      if e ≤ u.now then
        (u.setPulse c none).when (!u.rbit (R.CMP_STAT c) csFailsafe) fun v => v.setBit (R.CMP_STAT c) csPin false
      else u
    | none => u)

/-- A fail-safe line applies to a compare unit: its pin is held at the stored level (R395). -/
def State.cmpLineOn (s : State) (c st : Nat) : State :=
  ((s.setPulse c none).setBit (R.CMP_STAT c) csFailsafe true).setBit (R.CMP_STAT c) csPin
    (decide (st = 1) == s.rbit (R.CMP_CFG c) 3)

/-- The line is released: the pin returns to its inactive level (R395). -/
def State.cmpLineOff (s : State) (c : Nat) : State :=
  (s.setBit (R.CMP_STAT c) csFailsafe false).setBit (R.CMP_STAT c) csPin false

/-- The counters of the feedback tile (R396). -/
def fbCounters : List Nat :=
  R.FB_ROUTE_FAIL :: ((List.range 8).map fun i => [R.ENC_PHASE_ERR i, R.ENC_GLITCH i, R.PRB_OVERRATE i, R.PRB_LOST i,
    R.PRB_LATCHES i, R.CMP_HITS i, R.CMP_SKIPPED i, R.CMP_LATE i, R.CMP_MERGED i]).flatten ++
  ((List.range 4).map fun k => [R.Q_CRC_CNT k, R.Q_ERRBIT_CNT k, R.Q_TIMEOUT_CNT k, R.Q_FRAMES k, R.Q_OVERRUN k]).flatten

/-- A write of FB_CMD (R396). -/
def fbCmd (w : Word) (s : State) : State := s.when (w.getLsbD 0) fun u => u.clearRegs fbCounters

/-- FB_CNT_CLEAR (R396). -/
def execFbCntClear (el : Nat) (p : Port) (s : State) : Host.Outcome State Fault Refusal :=
  .next ((s.begin el).writeCmd p R.FB_CMD 1 fbCmd)

end Sys2Proof.Machine
end

