-- ==== Sys2Proof/Machine/Gnss.lean ====
section
/-!
DEFINITION. The GNSS receiver (11_gnss_and_device_time.md, R432–R454): the antenna, aids, channels, measurement epochs,
navigation units and the navigation solution. What the correlators, the demodulators and the solution's arithmetic give
comes with the command.
-/
namespace Sys2Proof.Machine

/-- Bits of GNSS_IRQ_STAT (Table 11). -/
abbrev giEpoch : Nat := 0
abbrev giNav : Nat := 1
abbrev giOverflow : Nat := 2
abbrev giFix : Nat := 3
abbrev giFixLost : Nat := 4
abbrev giAntShort : Nat := 5
abbrev giAntOpen : Nat := 6
abbrev giAidRefused : Nat := 7

/-- The receiver beside its registers takes a new value. -/
def State.updGnss (s : State) (f : GnssSt → GnssSt) : State := { s with gnss := f s.gnss }

/-- A channel (R444). -/
def State.gchan (s : State) (c : Nat) : Option GnssChan := Tab.get (fun _ => none) s.gnss.chans c
def State.setGchan (s : State) (c : Nat) (v : Option GnssChan) : State :=
  s.updGnss fun g => { g with chans := Tab.set (fun _ => none) g.chans c v }

/-- The channels in use, with their numbers. -/
def State.gchans (s : State) : List (Nat × GnssChan) := (List.range 64).filterMap fun c => (s.gchan c).map fun q => (c, q)

/-! The antenna. -/

/-- The bias is on (R433, R434). -/
def State.biasOn (s : State) : Bool := s.rbit R.GNSS_ANT_CFG 0 && !s.rbit R.GNSS_ANT_STAT 31

/-- The bias may have been turned on or off, `was` says how it stood (R433): CURRENT is 0 with the bias off. The current that flows when
it has just been turned on is the antenna's: a free value until the next command gives it (log 5). -/
def State.biasShow (s : State) (was : Bool) : State :=
  if !s.biasOn then s.setFld R.GNSS_ANT_STAT 0 16 0
  else if was then s
  else
    let d := s.draw 44
    d.2.setFld R.GNSS_ANT_STAT 0 16 (d.1.toNat % 65536)

/-- ANT_SHORT (R434): the bias current, mA, has exceeded 80 mA for 100 µs. With the bias off no current flows. -/
def execAntShort (el : Nat) (i : BitVec 16) (s : State) : Host.Outcome State Fault Refusal :=
  .next ((s.begin el).onIsland 33 fun t =>
    if t.biasOn && decide (80 < i.toNat) then
      ((((t.setFld R.GNSS_ANT_STAT 0 16 0).setBit R.GNSS_ANT_STAT 31 true).event R.GNSS_IRQ_STAT giAntShort).count
        R.GNSS_ANT_SHORT_CNT 1).fault srcGnssAntShort 0 0
    else t)

/-- ANT_OPEN (R435): the bias is on and its current has stayed below 3 mA for 1 s. -/
def execAntOpen (el : Nat) (i : BitVec 16) (s : State) : Host.Outcome State Fault Refusal :=
  .next ((s.begin el).onIsland 33 fun t =>
    if t.biasOn && decide (i.toNat < 3) then
      ((t.setFld R.GNSS_ANT_STAT 0 16 i.toNat).setBit R.GNSS_ANT_STAT 30 true).event R.GNSS_IRQ_STAT giAntOpen
    else t)

/-- ANT_OPEN_RECOVER (R435): the current has been at or above 3 mA for 1 s. -/
def execAntOpenRecover (el : Nat) (i : BitVec 16) (s : State) : Host.Outcome State Fault Refusal :=
  .next ((s.begin el).onIsland 33 fun t =>
    if t.biasOn && decide (3 ≤ i.toNat) then
      (t.setFld R.GNSS_ANT_STAT 0 16 i.toNat).setBit R.GNSS_ANT_STAT 30 false
    else t)

/-! Aids. -/

/-- An aid is refused (R436, R439). -/
def State.aidRefused (s : State) (code : Nat) : State :=
  (s.setFld R.GNSS_AID_NAV_STAT 0 4 code).event R.GNSS_IRQ_STAT giAidRefused

/-- A time aid (R436). -/
def State.aidTime (s : State) : State :=
  if s.reg R.GNSS_AID_TUNC = 0xFFFFFFFF then
    if s.dtState = dtLocked ∨ s.dtState = dtHoldover then
      s.updGnss fun g => { g with aids := { g.aids with time := some ⟨true, s.dt, s.dt, (s.reg R.DT_EST_ERR).toNat⟩ } }
    else s.aidRefused 4
  else s.updGnss fun g => { g with
    aids := { g.aids with
      time := some ⟨false, s.reg64 R.GNSS_AID_DT_LO, s.reg64 R.GNSS_AID_GPST_LO, (s.reg R.GNSS_AID_TUNC).toNat⟩ } }

/-- A position aid (R437). -/
def State.aidPos (s : State) : State :=
  s.updGnss fun g => { g with
    aids := { g.aids with
      pos := some ⟨s.reg R.GNSS_AID_LAT, s.reg R.GNSS_AID_LON, s.reg R.GNSS_AID_HGT, (s.reg R.GNSS_AID_PUNC).toNat⟩ } }

/-- The words of a navigation aid by its type (Table 2), none for a type not listed. -/
def aidLen (type : Nat) : Option Nat :=
  match type with
  | 1 => some 30
  | 2 => some 10
  | 3 => some 30
  | 4 => some 20
  | 5 => some 16
  | _ => none

/-- Types 4 and 5 are Galileo, 1–3 GPS (Table 2). -/
def navGalileo (a : NavAid) : Bool := decide (4 ≤ a.type)

/-- An accepted aid replaces any older data for the same satellite (R439). -/
def State.addNav (s : State) (a : NavAid) : State :=
  s.updGnss fun g => { g with
    aids := { g.aids with
      navs := (g.aids.navs.filter fun b => !(b.sv == a.sv && navGalileo b == navGalileo a)) ++ [a] } }

/-- The time aid that is valid now: one that takes DT itself as GPS time holds only while DT is LOCKED or in HOLDOVER (R436). -/
def State.timeAid (s : State) : Option TimeAid :=
  s.gnss.aids.time.filter fun a => !a.live || s.dtState == dtLocked || s.dtState == dtHoldover

/-- GPS time now, ns, by the time aid in force (R436). -/
def State.aidedTime (s : State) : Option Int :=
  s.timeAid.map fun a => if a.live then (s.dt : Int) else (a.gpst : Int) + (s.dt - a.dt)

/-- Navigation data are taken where their length, their issue of data and their age allow it, and refused otherwise (R439). DEDUCED (log
164): without an aided time no age is too great. -/
def State.takeNav (s : State) (a : NavAid) : State :=
  if aidLen a.type ≠ some a.words.length then s.aidRefused 1
  else if !a.iodOk then s.aidRefused 2
  else if (s.aidedTime.any fun t => decide (14400000000000 < (t - (a.ref : Int)).natAbs)) then s.aidRefused 3
  else (s.setFld R.GNSS_AID_NAV_STAT 0 4 0).addNav a

/-- A navigation-data aid is committed (R438, R439): LEN against Table 2 and the words written, then the verdict on its
issue of data, and its age. -/
def State.aidNav (s : State) (iodOk : Bool) (r : NavRef) : State :=
  let h := s.reg R.GNSS_AID_NAV_HDR
  let ws := s.gnss.aidBuf
  let s1 := s.updGnss fun g => { g with aidBuf := [] }
  if ws.length ≠ fld h 0 8 then s1.aidRefused 1 else s1.takeNav ⟨fld h 24 8, fld h 8 8, ws, r.ref, iodOk, r.healthy⟩

/-- The region of the retained aids (16 Table 5). -/
abbrev aidBase : Nat := 0x16810000

/-- What GNSS retained comes back as aids, the time relation where DT has run on, and each of them subject to R439 (R440). `hits` is what the
reads of the store meet; with an uncorrectable word nothing comes back. -/
def State.restoreAids (s0 : State) (hits : List EccHit) : State :=
  let s := s0.devRead hits aidBase 0x10000
  let k := if (s.poisonIn aidBase 0x10000).isEmpty then s.gnss.kept else GnssAids.init
  forL (fun a t => t.takeNav a) k.navs (s.updGnss fun g => { g with
    aids := { k with navs := [], time := if s.rbit R.PWR_STAT 8 then k.time else none } })

/-- A write of GNSS_AID_NAV_HDR begins an aid, and one of GNSS_AID_NAV_DATA gives its next word (R438). -/
def State.aidHdrWritten (s : State) : State := s.updGnss fun g => { g with aidBuf := [] }
def State.aidDataWritten (s : State) (v : Word) : State := s.updGnss fun g => { g with aidBuf := g.aidBuf ++ [v] }

/-- The navigation FIFO's window and GNSS_NAV_STAT.FILL follow its contents (R450). -/
def State.navShow (s : State) : State :=
  let w := wordsOfBytes (s.gnss.fifo.headD [])
  forN (fun i t => t.setReg (R.GNSS_NAV_WIN i) (w.getD i 0)) 16 (s.setFld R.GNSS_NAV_STAT 0 9 s.gnss.fifo.length)

/-- The counters of the GNSS block. -/
def gnssCounters : List Nat := [R.GNSS_NAV_OVERFLOW, R.GNSS_PARITY_FAIL, R.GNSS_ANT_SHORT_CNT]

/-- What a write of GNSS_CMD does (Table 9), with the verdicts of R439 on the aid it may commit. -/
def gnssCmd (iodOk : Bool) (r : NavRef) (w : Word) (s : State) : State :=
  let s1 := s.when (w.getLsbD 6) fun t => t.updGnss fun g => { g with aids := GnssAids.init, kept := GnssAids.init }
  let s2 := s1.when (w.getLsbD 5) fun t => t.clearRegs gnssCounters
  let s3 := s2.when (w.getLsbD 4) fun t => (t.setBit R.GNSS_ANT_STAT 31 false).biasShow t.biasOn
  let s4 := s3.when (w.getLsbD 3) fun t => (t.updGnss fun g => { g with fifo := g.fifo.tail }).navShow
  let s5 := s4.when (w.getLsbD 2) fun t => t.aidNav iodOk r
  let s6 := s5.when (w.getLsbD 1) fun t => t.aidPos
  s6.when (w.getLsbD 0) fun t => t.aidTime

/-- ANT_CLEAR (R434). -/
def execAntClear (el : Nat) (p : Port) (s : State) : Host.Outcome State Fault Refusal :=
  .next ((s.begin el).writeCmd p R.GNSS_CMD 16 (gnssCmd true ⟨0, true⟩))

/-- AID_TIME (R436). -/
def execAidTime (el : Nat) (p : Port) (s : State) : Host.Outcome State Fault Refusal :=
  .next ((s.begin el).writeCmd p R.GNSS_CMD 1 (gnssCmd true ⟨0, true⟩))

/-- AID_POS (R437). -/
def execAidPos (el : Nat) (p : Port) (s : State) : Host.Outcome State Fault Refusal :=
  .next ((s.begin el).writeCmd p R.GNSS_CMD 2 (gnssCmd true ⟨0, true⟩))

/-- AID_NAV_COMMIT (R438, R439): `iodOk` says that the issue-of-data fields of the data agree, and `r` is its reference time and
health, as the signal's interface specification gives them (00 R10). -/
def execAidNavCommit (el : Nat) (p : Port) (iodOk : Bool) (r : NavRef) (s : State) : Host.Outcome State Fault Refusal :=
  .next ((s.begin el).writeCmd p R.GNSS_CMD 4 (gnssCmd iodOk r))

/-- GNSS_FORGET (R440). -/
def execGnssForget (el : Nat) (p : Port) (s : State) : Host.Outcome State Fault Refusal :=
  .next ((s.begin el).writeCmd p R.GNSS_CMD 64 (gnssCmd true ⟨0, true⟩))

/-- NAV_POP (R450). -/
def execNavPop (el : Nat) (p : Port) (s : State) : Host.Outcome State Fault Refusal :=
  .next ((s.begin el).writeCmd p R.GNSS_CMD 8 (gnssCmd true ⟨0, true⟩))

/-- GNSS_CNT_CLEAR (11 Registers; R21). -/
def execGnssCntClear (el : Nat) (p : Port) (s : State) : Host.Outcome State Fault Refusal :=
  .next ((s.begin el).writeCmd p R.GNSS_CMD 32 (gnssCmd true ⟨0, true⟩))

/-- The MSS keeps what it retains (R440): the navigation data, the last position and the last time relation. -/
def State.gnssRetain (s : State) : State :=
  (s.updGnss fun g => { g with kept := g.aids, keptAt := s.now }).clearPoison aidBase 0x10000

/-- The MSS runs its firmware (MSS_STAT.STATE is RUN). -/
def State.mssReady (s : State) : Bool := s.up 36 && s.rfld R.MSS_STAT 0 2 == 0

/-- GNSS_RETAIN (R440): 600 s after the last save. -/
def execGnssRetain (el : Nat) (s : State) : Host.Outcome State Fault Refusal :=
  let t := s.begin el
  .next (if t.mssReady ∧ t.gnss.keptAt + 600000000000 ≤ t.now then t.gnssRetain else t)

/-! Channels. -/

/-- The receiver runs: GNSS_CTRL.EN with island 33 up and clocked. -/
def State.gnssRun (s : State) : Bool := s.rbit R.GNSS_CTRL 0 && s.up 33 && s.ungated 33

/-- Some aid is in force. -/
def State.anyAid (s : State) : Bool :=
  s.timeAid.isSome || s.gnss.aids.pos.isSome || !s.gnss.aids.navs.isEmpty

/-- The uncertainties of position, m, and of time, ns, in force (R441, R436). DESIGN CHOICE (log 163): without an aid each is the reset
value of its register. -/
def State.posUnc (s : State) : Nat :=
  match s.gnss.aids.pos with
  | some p => p.unc
  | none => 2 ^ 32 - 1
def State.timeUnc (s : State) : Nat :=
  match s.timeAid with
  | some a => if a.live then (s.reg R.DT_EST_ERR).toNat else a.unc
  | none => 2 ^ 32 - 1

/-- The frequency uncertainty, 0.1 ppm (R441): 0.1 ppm while DT is LOCKED, or in HOLDOVER for less than 24 h. -/
def State.freqUnc (s : State) : Nat :=
  if s.dtState = dtLocked ∨ (s.dtState = dtHoldover ∧ (s.reg R.DT_HO_TIME).toNat < 86400) then 1
  else s.rfld R.GNSS_TCXO_UNC 0 8

/-- The half-width of the Doppler search on L1 or E1, 1575.42 MHz, mHz (R441; R443 without any aid). -/
def State.dopplerWidth (s : State) : Nat :=
  if s.anyAid then s.posUnc + 157542 * s.freqUnc + 50000 else 157542 * s.rfld R.GNSS_TCXO_UNC 0 8 + 5000000

/-- The length of the code period of a signal on L1 or E1, nm of range: 4 ms on E1 and 1 ms on the others (R447), at c. -/
def codeLength (sig : Nat) : Nat := (if sig = 1 then 4000000 else 1000000) * 299792458

/-- The code-phase window about the prediction, nm of range (R441), none where the whole code period is searched. Two chips are
2/1,023 of 1 ms (PRESUMED, log 177). -/
def State.codeWindow (s : State) (sig : Nat) : Option Nat :=
  let w := s.timeUnc * 299792458 + s.posUnc * 1000000000
  if !s.anyAid || decide (codeLength sig < 4 * w) then none else some (w + 2 * codeLength 0 / 1023)

/-- The search covers a satellite whose Doppler lies `dop` mHz, and whose code phase lies `off` nm of range, from the prediction; without
an aid the Doppler counts from the carrier (R441, R443). -/
def State.inSearch (s : State) (sig dop off : Nat) : Bool :=
  decide (dop ≤ s.dopplerWidth) && match s.codeWindow sig with
    | some w => decide (off ≤ w)
    | none => true

/-- A search may run: aids are in force, or COLD is 1 (R441, R443). -/
def State.gnssSearch (s : State) : Bool := s.gnssRun && (s.anyAid || s.rbit R.GNSS_CTRL 1)

/-- The satellite numbers of a signal (Table 1). -/
def satOk (sig sv : Nat) : Bool :=
  match sig with
  | 0 => decide (1 ≤ sv ∧ sv ≤ 32)
  | 1 => decide (1 ≤ sv ∧ sv ≤ 36)
  | 2 => decide (120 ≤ sv ∧ sv ≤ 158)
  | _ => false

/-- The signal's enable in GNSS_CTRL (Table 11). -/
def State.sigOn (s : State) (sig : Nat) : Bool :=
  match sig with
  | 0 => s.rbit R.GNSS_CTRL 2
  | 1 => s.rbit R.GNSS_CTRL 3
  | _ => s.rbit R.GNSS_CTRL 5

/-- The satellite may be searched for (R441, R443): with data for it in force it lies above the mask, and with no aid at
all COLD is 1. SBAS satellites have no data of Table 2. -/
def State.mayFind (s : State) (sig sv : Nat) (elev : Int) : Bool :=
  if s.anyAid then
    decide ((s.rfld R.GNSS_CTRL 16 8 : Int) < elev) &&
      (sig == 2 || s.gnss.aids.navs.any fun a => a.sv == sv && navGalileo a == (sig == 1))
  else s.rbit R.GNSS_CTRL 1

/-- Two signals belong to the same satellite system and satellite. -/
def sameSat (sigA svA sigB svB : Nat) : Bool := svA == svB && sigA % 3 == sigB % 3

/-- Every channel of a satellite is given up. -/
def State.dropSat (s : State) (sig sv : Nat) : State :=
  forL (fun c t => if sameSat c.2.sig c.2.sv sig sv then t.setGchan c.1 none else t) s.gchans s

/-- The lowest free channel (R444). -/
def State.freeChan (s : State) : Option Nat := (List.range 64).find? fun c => (s.gchan c).isNone

/-- The tracked channel of lowest elevation. -/
def lowest (l : List (Nat × GnssChan)) : Option GnssChan :=
  l.foldl (fun b c => match b with
    | none => some c.2
    | some x => if c.2.elev < x.elev then some c.2 else b) none

/-- A channel is given to a signal, when one is free, and is started from the Doppler and the code phase `seed` (R444). -/
def State.assign (s : State) (sig sv : Nat) (elev : Int) (second : Bool) (seed : Nat × Nat) : State :=
  match s.freeChan with
  | some c => s.setGchan c (some ⟨sig, sv, elev, 0, 0, none, 0, none, false, 0, none, second, seed⟩)
  | none => s

/-- SATELLITE_ACQUIRED (R432, R441, R443, R444): a search meets a satellite on L1 or E1 (signal 0–2 of Table 1) at an
elevation in degrees, with its Doppler (mHz) and its code phase (nm of range) so far from the prediction; `second` says that it
broadcasts L5 or E5a. The receiver meets the satellites in the order of their elevation: the order of the commands (DEDUCED, log 196). -/
def execSatelliteAcquired (e : Seen (Nat × Nat)) (sig : Fin 3) (sv : BitVec 8) (elev : Int) (second : Bool) (s : State) :
    Host.Outcome State Fault Refusal :=
  .next ((s.begin e.el).onIsland 33 fun t =>
    let n := sv.toNat
    let tracked := t.gchans.any fun c => sameSat c.2.sig c.2.sv sig n
    let sbas := (t.gchans.filter fun c => c.2.sig == 2).length
    if !t.gnssSearch || tracked || !satOk sig n || !t.sigOn sig || !t.mayFind sig n elev || !t.inSearch sig e.val.1 e.val.2 ||
        (sig == 2 && decide (3 ≤ sbas)) then t
    else
      let u := match t.freeChan with
        | some _ => t
        | none => match lowest t.gchans with
          | some q => if q.elev + 5 < elev then t.dropSat q.sig q.sv else t
          | none => t
      let v := u.assign sig n elev second e.val
      v.when (sig != 2 && second && t.rbit R.GNSS_CTRL 4 && u.freeChan.isSome) fun w => w.assign (sig + 3) n elev second e.val)

/-- CARRIER_LOCK_LOSS (R448, R449): a channel loses carrier lock; with `bits` it loses bit synchronisation as well, and
its units begin again at the next synchronisation. -/
def execCarrierLockLoss (el : Nat) (c : Fin 64) (bits : Bool) (s : State) : Host.Outcome State Fault Refusal :=
  .next ((s.begin el).onIsland 33 fun t =>
    match t.gchan c with
    | none => t
    | some q => t.setGchan c (some { q with
        lock := q.lock &&& (if bits then 0x31 else 0x3D)
        slips := (q.slips + 1) % 256
        carrierAt := none
        lost := q.lost || bits
        lossAt := if bits then (t.dt : Int) else q.lossAt }))

/-! Epochs (R445–R448). -/

/-- The epoch rate, Hz (Table 11). -/
def gnssHz (rate : Nat) : Nat := [1, 2, 5, 10, 20, 25].getD rate 50

/-- The period of an ambiguity in ms (R447). -/
def ambigMs (sig ambig : Nat) : Nat :=
  match ambig with
  | 0 => if sig = 1 then 4 else 1
  | 1 => [20, 4, 2, 10, 20].getD sig 20
  | _ => 604800000

/-- A channel takes its measurement at the epoch `dt`: its lock bits, since when carrier lock holds, and the loop's count then (R448), a
carrier lock or bit synchronisation lost since the last epoch (R448, R449), and the elevation. -/
def GnssChan.take (q : GnssChan) (m : SatMeas) (now dt : Nat) : GnssChan :=
  { q with
    lock := m.lock
    slips := if q.carrierAt.isSome && !m.lock.getLsbD 1 then (q.slips + 1) % 256 else q.slips
    carrierAt := if m.lock.getLsbD 1 then some (q.carrierAt.getD now) else none
    carrier0 := if q.carrierAt.isNone && m.lock.getLsbD 1 then m.carrier else q.carrier0
    lost := (q.lost || (q.lock.getLsbD 2 && !m.lock.getLsbD 2)) && !m.lock.getLsbD 3
    lossAt := if q.lock.getLsbD 2 && !m.lock.getLsbD 2 then (dt : Int) else q.lossAt
    elev := m.elev }

/-- For how long a channel has held carrier lock, 0.1 s (R7), before it saturates (Table 4). -/
def GnssChan.lockTime (q : GnssChan) (now : Nat) : Nat :=
  match q.carrierAt with
  | some a => (roundDiv (now - a : Nat) 100000000).toNat
  | none => 0

/-- A measurement record (Table 4). CARRIER counts from 0 at the first epoch of a lock: the loop's count `m.carrier`, which runs at
the rate DOPPLER, less that of then (R448; DEDUCED, log 197). -/
def measBytes (q : GnssChan) (m : SatMeas) (now : Nat) : List Byte :=
  leBytes 1 m.ch ++ leBytes 1 q.sig ++ leBytes 1 q.sv ++ leBytes 1 (m.lock.toNat + 64 * m.ambig) ++
    leBytes 2 m.cn0.toNat ++ leBytes 1 q.slips ++ leBytes 1 0 ++
    leBytes 8 (m.tx.toNat % (ambigMs q.sig m.ambig * 2 ^ 32)) ++
    leBytes 8 (if m.lock.getLsbD 1 then (m.carrier - q.carrier0).toNat else 0) ++ leBytes 4 m.doppler.toNat ++
    leBytes 2 (satN 16 (q.lockTime now)) ++ leBytes 2 m.mp.toNat

/-- The record of a channel not in use (Table 3): SIG 0xFF. -/
def emptyMeas (c : Nat) : List Byte := leBytes 1 c ++ leBytes 1 0xFF ++ leBytes 30 0

/-- A channel in use that has nothing to measure latches a record of zeros without lock (R445). -/
def noMeas (c : Fin 64) (q : GnssChan) : SatMeas := ⟨c, 0, 0, 0, 0, 0, 0, 0, q.elev⟩

/-- The measurement of channel `c` at an epoch, with its signal (R445): none for a channel not in use. -/
def State.measOf (s : State) (ms : List SatMeas) (c : Fin 64) : Option (GnssChan × SatMeas) :=
  (s.gchan c).map fun q => (q, (ms.find? fun m => m.ch == c).getD (noMeas c q))

/-- A channel latches its measurement (R445, R448). -/
def State.measure (s : State) (ms : List SatMeas) (c : Fin 64) : State :=
  match s.measOf ms c with
  | some (q, m) =>
    let valid := ms.any fun x => x.ch == c
    let r := { q.take m s.now s.dt with last := if valid then some (m.cn0.toNat, m.ambig.val) else none }
    ((s.setGchan c (some r)).recAdd 6 q.sig 0 m.cn0.toNat).noteSat (R.GNSS_BANK0 0) (decide (65535 < r.lockTime s.now))
  | none => s

/-- The records of a bank, and how many of them are valid (Tables 3, 4). -/
def State.measRecs (s : State) (ms : List SatMeas) : List (Nat × List Byte) :=
  (List.finRange 64).map fun c => match s.measOf ms c with
    | some (q, m) => (b2n (ms.any fun x => x.ch == c), measBytes q m s.now)
    | none => (0, emptyMeas c)

/-- MEAS_EPOCH (R445–R448): at an epoch every channel in use latches its measurement, and the other bank is written. -/
def execMeasEpoch (el : Nat) (ms : List SatMeas) (s : State) : Host.Outcome State Fault Refusal :=
  .next ((s.begin el).onIsland 33 fun t =>
    let rate := t.rfld R.GNSS_CTRL 8 3
    if !t.gnssRun || decide (t.dt % (1000000000 / gnssHz rate) ≠ 0) then t
    else
      let seq := (t.gnss.seq + 1) % 2 ^ 32
      let bank := t.gnss.seq % 2
      let u := forL (fun c v => v.measure ms c) (List.finRange 64) (t.updGnss fun g => { g with seq := seq })
      let recs := u.measRecs ms
      let head := leBytes 4 seq ++ leBytes 1 (recs.map (·.1)).sum ++ leBytes 1 rate ++ leBytes 1 t.dtState ++ leBytes 1 0 ++
        leBytes 8 t.dt ++ leBytes 16 0
      let ws := wordsOfBytes (head ++ (recs.map (·.2)).flatten ++ leBytes 4 seq)
      let v := forN (fun i x => x.setReg (if bank = 0 then R.GNSS_BANK0 i else R.GNSS_BANK1 i) (ws.getD i 0)) 521 u
      let n := (v.gchans.filter fun c => c.2.lock.getLsbD 0).length
      ((v.setReg R.GNSS_EPOCH_STAT (wordN (bank * 2 ^ 31 + seq % 2 ^ 31))).setFld R.GNSS_STAT 24 8 n).event R.GNSS_IRQ_STAT
        giEpoch)

/-! Navigation units (R449, R450). -/

/-- The bits of a unit by its type (Table 5). -/
def navBits (type : Nat) : Nat := [30, 300, 240, 244].getD type 250

/-- Bits as bytes, the first bit in bit 7 (Table 6). -/
def bytesOfBits : Nat → List Bool → List Byte
  | 0, _ => []
  | n + 1, l =>
    BitVec.ofNat 8 ((List.range 8).map fun i => b2n (l.getD i false) * 2 ^ (7 - i)).sum :: bytesOfBits n (l.drop 8)

/-- The type of the units of a signal (Table 5). -/
def unitOf (sig : Nat) : Nat := [0, 2, 4, 1].getD sig 3

/-- NAV_UNIT (R449, R450): a channel has completed a unit that began at DT `start`; `pass` is the outcome of its check,
`inverted` says that the polarity was corrected, and `done` is the navigation data that it completes for the MSS. -/
def execNavUnit (el : Nat) (c : Fin 64) (type : Fin 5) (bits : List Bool) (pass inverted : Bool) (start : Nat)
    (done : Option NavAid) (s : State) : Host.Outcome State Fault Refusal :=
  .next ((s.begin el).onIsland 33 fun t =>
    match t.gchan c with
    | none => t
    | some q =>
      let again := match q.lastUnit with
        | some x => decide ((start : Int) ≤ x)
        | none => false
      if !t.gnssRun || again || q.lost || decide ((start : Int) < q.lossAt) || type.val != unitOf q.sig then t
      else
        let n := navBits type
        let rec_ := leBytes 1 c ++ leBytes 1 type ++ leBytes 1 q.sv ++
          leBytes 1 ((if pass then 1 else 2) + 4 * b2n inverted) ++ leBytes 2 n ++ leBytes 2 0 ++ leBytes 8 start ++
          bytesOfBits 48 (bits.take n)
        let u := (t.setGchan c (some { q with lastUnit := some (start : Int) })).updGnss fun g => { g with
          sbas := g.sbas || (type.val == 4 && pass) }
        let v := match done with
          | some a => if pass then u.addNav a else u
          | none => u
        if 256 ≤ v.gnss.fifo.length then (v.count R.GNSS_NAV_OVERFLOW 1).event R.GNSS_IRQ_STAT giOverflow
        else
          let first := v.gnss.fifo.isEmpty
          let w := (v.updGnss fun g => { g with fifo := g.fifo ++ [rec_] }).navShow
          (w.when (!pass) fun x => x.count R.GNSS_PARITY_FAIL 1).when first fun x => x.event R.GNSS_IRQ_STAT giNav)

/-! The navigation solution (R451–R454). -/

/-- How a satellite's ionospheric delay is removed (R452): the combination of both bands, SBAS corrections, or the GPS broadcast model. -/
inductive Iono where
  | combined
  | sbas
  | broadcast
  deriving DecidableEq, Repr

/-- A satellite has a valid ephemeris without an unhealthy flag (R452): one of the types of Table 2 that hold an ephemeris, of an age that
R439 allows. -/
def State.ephValid (s : State) (sig sv : Nat) : Bool :=
  s.gnss.aids.navs.any fun a => a.sv == sv && navGalileo a == (sig == 1) && (a.type == 1 || a.type == 3 || a.type == 4) && a.healthy &&
    !(s.aidedTime.any fun t => decide (14400000000000 < (t - (a.ref : Int)).natAbs))

/-- The code-period ambiguity of a measurement is resolved (R442): by its own AMBIG, or from the aided time and position where they are
held within 10 ms and 100 km (DEDUCED, log 198). -/
def State.resolved (s : State) (ambig : Nat) : Bool :=
  decide (ambig = 2) || (s.timeAid.isSome && s.gnss.aids.pos.isSome && decide (s.timeUnc ≤ 10000000) && decide (s.posUnc ≤ 100000))

/-- The channels of the satellites that a solution uses, each with its ionospheric model (R442, R452): code lock, C/N0, elevation,
ephemeris and health allow it. -/
def State.solSats (s : State) (q : NavSol) : List (GnssChan × Iono) :=
  let fine (c : GnssChan) : Bool := c.lock.getLsbD 0 && (match c.last with
    | some (cn0, ambig) => decide (3000 ≤ cn0) && s.resolved ambig
    | none => false)
  let use := s.gchans.filter fun c => decide (c.2.sig < 2) && fine c.2 && decide ((s.rfld R.GNSS_CTRL 16 8 : Int) < c.2.elev) &&
    s.ephValid c.2.sig c.2.sv
  use.map fun c =>
    (c.2, if s.gchans.any fun d => d.2.sig == c.2.sig + 3 && d.2.sv == c.2.sv && fine d.2 then .combined
      else if s.rbit R.GNSS_CTRL 5 && s.gnss.sbas && q.covered.contains c.1 then .sbas
      else .broadcast)

/-- The fix type of a solution of `n` satellites (R453): 2 3D, 1 2D, 0 NONE. -/
def solFixType (q : NavSol) (n : Nat) : Nat :=
  if 5 ≤ n ∧ q.pdop.toNat ≤ 600 then 2 else if 4 ≤ n then 1 else 0

/-- GNSS_SOL_INFO.TYPE takes a fix type; FIX and FIX_LOST tell of a 3D fix gained and lost (R453). -/
def State.setFix (s : State) (k : Nat) : State :=
  let was := s.rfld R.GNSS_SOL_INFO 0 2
  let s1 := s.setFld R.GNSS_SOL_INFO 0 2 k
  if k = 2 ∧ was ≠ 2 then s1.event R.GNSS_IRQ_STAT giFix
  else if k ≠ 2 ∧ was = 2 then s1.event R.GNSS_IRQ_STAT giFixLost
  else s1

/-- The epochs that get a solution (R451): every one up to 10 Hz, and above that the first at or after each multiple of
100 ms. -/
def solEpoch (hz epoch : Nat) : Bool :=
  decide (epoch % (1000000000 / hz) = 0) && (decide (hz ≤ 10) || decide (epoch % 100000000 < 1000000000 / hz))

/-- The MSS publishes a solution (R451–R453): the solution registers, with the satellites
used and whether any SBAS correction was applied, the retained relations, the GROUND block (04 R141),
and the source of DT (R459). -/
def State.publish (s : State) (q : NavSol) : State :=
  let l := s.solSats q
  let n := l.length
  let k := solFixType q n
  let sbas := l.any (fun c => c.2 == .sbas) || (q.sbas && s.rbit R.GNSS_CTRL 5 && s.gnss.sbas)
  let s1 := (s.setReg64 R.GNSS_SOL_DT_LO q.epoch).setReg R.GNSS_SOL_INFO
    (wordN (q.pdop.toNat * 65536 + n * 256 + b2n sbas * 4 + s.rfld R.GNSS_SOL_INFO 0 2))
  let s2 := (s1.setFix k).setFld R.GNSS_STAT 16 8 n
  let s3 := s2.when (k != 0) fun t =>
    ((((((t.setReg R.GNSS_SOL_LAT q.lat).setReg R.GNSS_SOL_LON q.lon).setReg R.GNSS_SOL_VE q.ve).setReg
      R.GNSS_SOL_VN q.vn).setReg R.GNSS_SOL_VU q.vu).setReg R.GNSS_SOL_HACC q.hacc).when (k == 2) fun u =>
        u.setReg R.GNSS_SOL_HGT q.hgt
  let s4 := match q.utc with
    | some x => s3.onIsland 32 fun t => t.setReg R.DT_UTC_OFS (wordI x)
    | none => s3
  let s5 := s4.when (k == 2) fun t => t.updGnss fun g => { g with
    aids := { g.aids with
      time := some ⟨false, q.epoch, ((q.epoch : Int) - q.phase).toNat, q.tunc⟩
      pos := some ⟨q.lat, q.lon, q.hgt, (roundDiv q.hacc.toNat 1000).toNat⟩ } }
  let s6 := s5.when (s5.works 31) fun t => { t with gnd := { t.gnd with
    fixes := t.gnd.fixes ++ [⟨k == 2, q.epoch, q.e, q.n, q.v, q.cog⟩] } }
  s6.dtSolution (k == 2) q.phase

/-- NAV_SOLUTION (R451–R453, R442): the MSS has computed the solution of an epoch that gets one, from
the satellites that R452 selects; the arithmetic is its firmware's. -/
def execNavSolution (el : Nat) (q : NavSol) (s : State) : Host.Outcome State Fault Refusal :=
  .next ((s.begin el).onIsland 33 fun t =>
    if t.gnssRun && t.rbit R.GNSS_CTRL 6 && t.mssReady && decide (q.epoch ≤ t.dt) &&
        solEpoch (gnssHz (t.rfld R.GNSS_CTRL 8 3)) q.epoch then t.publish q
    else t)

/-- No solution is published while the MSS restarts: TYPE reads NONE (R454). -/
def State.noFix (s : State) : State := s.onIsland 33 fun t => t.setFix 0

/-- The signal of a channel is enabled in GNSS_CTRL (Table 11): a second band with its first and L5_EN. -/
def State.bandOn (s : State) (sig : Nat) : Bool := if sig < 3 then s.sigOn sig else s.rbit R.GNSS_CTRL 4 && s.sigOn (sig - 3)

/-- GNSS_CTRL has been written: a channel of a signal that is not enabled is released, and every one when EN is 0. A
satellite that broadcasts on a second band which is now enabled takes a second channel, the highest first (R444). -/
def State.gnssCtrlWritten (s : State) : State :=
  let u := forL (fun c t => if s.rbit R.GNSS_CTRL 0 && s.bandOn c.2.sig then t else t.setGchan c.1 none) s.gchans s
  let first := sortBy (fun a b => decide (b.2.elev ≤ a.2.elev)) (u.gchans.filter fun c => decide (c.2.sig < 2) && c.2.second &&
    !u.gchans.any fun d => d.2.sig == c.2.sig + 3 && d.2.sv == c.2.sv)
  let v := forL (fun c t => t.when (s.rbit R.GNSS_CTRL 0 && s.rbit R.GNSS_CTRL 4) fun w =>
    w.assign (c.2.sig + 3) c.2.sv c.2.elev true c.2.seed) first u
  v.setFld R.GNSS_STAT 24 8 (v.gchans.filter fun c => c.2.lock.getLsbD 0).length

/-- Valid ephemerides are held for at least 4 tracked satellites (GNSS_STAT.EPH_OK). -/
def State.ephOk (s : State) : Bool :=
  decide (4 ≤ ((s.gchans.filter fun c => c.2.sig < 2 && s.ephValid c.2.sig c.2.sv).length))

/-- GNSS_STAT as a host reads it: NTRACK and NUSED as stored, EPH_OK, ACQ and RUN as they are. -/
def State.gnssStat (s : State) : Word :=
  Machine.setBit (Machine.setBit (Machine.setBit (s.reg R.GNSS_STAT) 2 s.ephOk) 1 s.gnssSearch) 0 s.gnssRun

end Sys2Proof.Machine
end

