-- ==== Sys2Proof/Machine/Recorder.lean ====
section
/-!
DEFINITION. The event recorder (16_management_and_recorder.md, R641–R655): intervals, records and their statistics, merging,
suppression, the two areas, and the window.
-/
namespace Sys2Proof.Machine

/-- The recorder area of the store (Table 4). -/
abbrev recBase : Nat := 0x11800000

/-- The codes of Table 9 in table order: code, form, instances, LO and WIDTH. -/
def recCode (k : Nat) : Nat := [0x0100, 0x0101, 0x0110, 0x0120, 0x0121, 0x0130, 0x0140, 0x0150, 0x0170].getD k 0x0180
def recForm (k : Nat) : Nat := [0, 0, 1, 1, 1, 2, 0, 0, 0].getD k 3
def recInsts (k : Nat) : Nat := [160, 160, 20, 2, 3, 1, 5, 1, 1].getD k 160
def recBinLo (k : Nat) : Int := [-3200, -3200, 0, 0, 0, 0, 2000, 0, -1600].getD k 0
def recBinWidth (k : Nat) : Nat := [200, 200, 0, 0, 0, 0, 100, 2048, 100].getD k 0

/-- The entries that a form 1 record lists: the QTY of each (Table 9). -/
def recQtys (k inst : Nat) : List Nat :=
  if k = 2 then List.range 12
  else if k = 3 then List.range (if inst = 0 then 8 else 6)
  else if k = 4 then (List.range (if inst = 2 then 4 else 12)).map fun i => 12 * inst + i
  else []

/-- The place of a code's instance in the recorder's tables. -/
def recKey (k inst : Nat) : Nat := k * 256 + inst

/-- The recorder beside its registers takes a new value. -/
def State.updRec (s : State) (f : RecSt → RecSt) : State := { s with rcd := f s.rcd }

/-- The values of an open interval, and when it opened. -/
def State.recVals (s : State) (k inst : Nat) : List RecVal := Tab.get (fun _ => []) s.rcd.vals (recKey k inst)
def State.recOpened (s : State) (k inst : Nat) : Nat :=
  (Tab.get (fun _ => none) s.rcd.openAt (recKey k inst)).getD s.rcd.openAll

/-- An interval opens now (R644). -/
def State.recOpen (s : State) (k inst : Nat) : State :=
  let key := recKey k inst
  s.updRec fun r => { r with
    vals := Tab.set (fun _ => []) r.vals key [], due := Tab.set (fun _ => false) r.due key false,
    waits := Tab.set (fun _ => none) r.waits key none, openAt := Tab.set (fun _ => none) r.openAt key (some s.dt) }

/-! Statistics (R642, Tables 7 and 8). -/

/-- Four bytes of an integer, two's complement. -/
def leI32 (v : Int) : List Byte := bytesOfWord (wordI v)

/-- The first value that no other undercuts (`lt x y`: x before y). -/
def pickVal (lt : Int → Int → Bool) (l : List RecVal) : Option RecVal :=
  l.foldl (fun b v => match b with
    | none => some v
    | some x => if lt v.val x.val then some v else b) none

/-- Minimum and maximum of values, with their DT; zeros for none. -/
def minVal (l : List RecVal) : RecVal := (pickVal (fun a b => decide (a < b)) l).getD ⟨0, 0, 0⟩
def maxVal (l : List RecVal) : RecVal := (pickVal (fun a b => decide (b < a)) l).getD ⟨0, 0, 0⟩

/-- The standard deviation over all values, rounded; 0 for none. -/
def sdOf (l : List Int) : Nat :=
  let n := l.length
  let q := ((n : Int) * (l.map fun x => x * x).sum - l.sum * l.sum).toNat
  if n = 0 then 0 else (isqrt (4 * q) / n + 1) / 2

/-- The histogram payload (Table 7). -/
def histBytes (k : Nat) (l : List RecVal) : List Byte :=
  let lo := recBinLo k
  let w : Int := (recBinWidth k : Int)
  let xs := l.map (·.val)
  let bin (i : Nat) : Nat := (xs.filter fun x => decide (lo + (i : Int) * w ≤ x) && decide (x < lo + ((i : Int) + 1) * w)).length
  ((List.range 32).map fun i => leBytes 4 (satN 32 (bin i))).flatten ++ leBytes 4 xs.length ++
    leBytes 4 (xs.filter fun x => decide (x < lo)).length ++
    leBytes 4 (xs.filter fun x => decide (lo + 32 * w ≤ x)).length ++ leI32 (minVal l).val ++ leI32 (maxVal l).val ++
    leI32 (meanI xs) ++ leBytes 4 (sdOf xs) ++ leI32 lo ++ leBytes 4 (recBinWidth k) ++ leBytes 8 (minVal l).dt ++
    leBytes 8 (maxVal l).dt ++ leBytes 12 0

/-- The extremes payload (Table 8). -/
def extBytes (k inst : Nat) (l : List RecVal) : List Byte :=
  let qs := recQtys k inst
  (qs.map fun q =>
    let ls := l.filter fun v => v.qty == q
    leBytes 2 q ++ leBytes 2 0 ++ leI32 (minVal ls).val ++ leI32 (maxVal ls).val ++ leI32 (meanI (ls.map (·.val)))).flatten ++
    ((List.range (12 - qs.length)).map fun _ => leBytes 2 0xFFFF ++ leBytes 14 0).flatten

/-- The sources that a FAULT_COUNTS interval saw, ascending: source, highest level, occurrences. -/
def cntRows (l : List RecVal) : List (Nat × Nat × Nat) :=
  (List.range 128).filterMap fun src =>
    let ls := l.filter fun v => v.qty == src
    if ls.isEmpty then none else some (src, (maxVal ls).val.toNat, satN 16 ls.length)

/-- The counts payload of up to 48 sources (Table 8). -/
def cntBytes (rows : List (Nat × Nat × Nat)) : List Byte :=
  (rows.map fun r => leBytes 1 r.1 ++ leBytes 1 r.2.1 ++ leBytes 2 r.2.2).flatten ++ leBytes (192 - 4 * rows.length) 0

/-- The trace payload (Table 8). -/
def traceBytes (l : List RecVal) : List Byte :=
  ((List.range 48).map fun i => match l.find? fun v => v.qty == i with
    | some v => leI32 v.val
    | none => leI32 0).flatten

/-- The payloads of the records that an interval makes, each with its CONTINUED flag (R643). -/
def payloads (k inst : Nat) (l : List RecVal) : List (Bool × List Byte) :=
  match recForm k with
  | 0 => [(false, histBytes k l)]
  | 1 => [(false, extBytes k inst l)]
  | 2 =>
    let rows := cntRows l
    (false, cntBytes (rows.take 48)) :: (if rows.length ≤ 48 then [] else [(true, cntBytes (rows.drop 48))])
  | _ => [(false, traceBytes l)]

/-! Records (R641). -/

/-- The hottest temperature point and its reading (Table 6). -/
def State.hottest (s : State) : Nat × Int :=
  (List.range 28).foldl (fun b p =>
    let v := s.rsfld (R.MGT_TEMP0 p) 0 16
    if b.2 < v then (p, v) else b) (0, s.rsfld (R.MGT_TEMP0 0) 0 16)

/-- The sequence number as it stands (R650). -/
def State.recSeq (s : State) : Nat := s.reg64 R.REC_SEQ_LO % 2 ^ 48

/-- The next sequence number is taken. -/
def State.takeSeq (s : State) : State := s.setReg48 R.REC_SEQ_LO ((s.recSeq + 1 : Nat) : Int)

/-- A record without its CRC (Table 6). -/
def State.recHead (s : State) (k inst seq supp flags cause : Nat) (payload : List Byte) : List Byte :=
  let h := s.hottest
  leBytes 2 (recCode k) ++ leBytes 2 flags ++ leBytes 6 seq ++ leBytes 2 0 ++ leBytes 4 supp ++
    leBytes 8 (s.recOpened k inst) ++ leBytes 8 s.dt ++ payload ++ leBytes 2 inst ++ leBytes 1 cause ++
    leBytes 1 s.dtState ++ bytesOfWord (s.reg R.SEC_FW_VERSION) ++ bytesOfWord (s.reg R.LDR_VERSION) ++
    (leI32 h.2).take 2 ++ leBytes 1 h.1 ++ leBytes 1 (s.rfld R.LDR_PATCH 0 6) ++ leBytes 4 0 ++
    bytesOfWord (s.reg R.PWR_HOURS) ++ bytesOfWord (s.reg R.PWR_CYCLES)

/-- A record with its CRC. -/
def withCrc (b : List Byte) : List Byte := b ++ bytesOfWord (crc32c b)

/-- A slot of the recorder area. -/
def recSlot (i : Nat) : Nat := recBase + i * 256
def State.recAt (s : State) (i : Nat) : List Byte := s.storeBytes (recSlot i) 256

/-- Where HEAD stands, and whether it has wrapped. -/
def State.recHeadIdx (s : State) : Nat := s.rfld R.REC_STAT 0 16

/-- A new record is written at HEAD (R649, R650). -/
def State.recWrite (s : State) (k inst cause flags supp : Nat) (ws : List Nat) (payload : List Byte) : State :=
  let i := s.recHeadIdx
  let s1 := s.takeSeq
  let b := s1.recHead k inst s1.recSeq supp (flags + b2n (decide (i < 256))) cause payload
  let s2 := (s1.setStoreBytes (recSlot i) (withCrc b)).noteWear (recSlot i)
  let s3 := s2.updRec fun r => { r with
    weights := Tab.set (fun _ => []) r.weights (recKey k inst) ws
    lastAt := Tab.set (fun _ => none) (r.lastAt.filter fun e => e.2 != some i) (recKey k inst) (some i)
    supp := Tab.set (fun _ => 0) r.supp k 0 }
  let s4 := (s3.setFld R.REC_STAT 0 16 (if i = 65535 then 256 else i + 1)).when (i == 65535) fun t =>
    (t.setBit R.REC_STAT 31 true).event R.REC_IRQ_STAT 1
  (s4.count R.REC_WRITTEN 1).event R.REC_IRQ_STAT 0

/-- Two payloads are identical for R647: all of it, but for MIN, MAX, MEAN, SD and their DT in forms 0 and 1. -/
def samePayload (k : Nat) (a b : List Byte) : Bool :=
  match recForm k with
  | 0 => a.take 0x8C == b.take 0x8C && (a.drop 0x9C).take 8 == (b.drop 0x9C).take 8
  | 1 => (List.range 12).all fun i => (a.drop (16 * i)).take 4 == (b.drop (16 * i)).take 4
  | 2 => a == b
  | _ => false

/-- A signed 32-bit value of a payload. -/
def payI (b : List Byte) (o : Nat) : Int := (BitVec.ofNat 32 (leAt b o 4)).toInt

/-- How many values of each of its QTYs an interval of form 1 holds. -/
def recWeights (k inst : Nat) (l : List RecVal) : List Nat := (recQtys k inst).map fun q => (l.filter fun v => v.qty == q).length

/-- The entry of one QTY in a merged record of form 1: `x` for `c` values and `y` for `d` (R647; DEDUCED, log 212). -/
def mergeQty (c d : Nat) (x y : List Byte) : List Byte :=
  if leAt x 0 2 = 0xFFFF ∨ d = 0 then x
  else if c = 0 then y
  else x.take 4 ++ leI32 (min (payI x 4) (payI y 4)) ++ leI32 (max (payI x 8) (payI y 8)) ++
    leI32 (roundDiv (payI x 12 * c + payI y 12 * d) (c + d))

/-- The payload of a merged record: MIN and MAX widened with their DT, MEAN and SD averaged by COUNT, which in form 0 is
identical (R647). `ws` and `vs` are the counts of values of the old and of the new one in form 1. -/
def mergePayload (k : Nat) (ws vs : List Nat) (a b : List Byte) : List Byte :=
  match recForm k with
  | 0 =>
    if leAt a 0x80 4 = 0 then a
    else
      let lower := decide (payI b 0x8C < payI a 0x8C)
      let higher := decide (payI a 0x90 < payI b 0x90)
      a.take 0x8C ++ leI32 (min (payI a 0x8C) (payI b 0x8C)) ++ leI32 (max (payI a 0x90) (payI b 0x90)) ++
        leI32 (meanI [payI a 0x94, payI b 0x94]) ++ leI32 (meanI [(leAt a 0x98 4 : Int), (leAt b 0x98 4 : Int)]) ++
        (a.drop 0x9C).take 8 ++ ((if lower then b else a).drop 0xA4).take 8 ++
        ((if higher then b else a).drop 0xAC).take 8 ++ a.drop 0xB4
  | 1 => ((List.range 12).map fun i =>
      mergeQty (ws.getD i 0) (vs.getD i 0) ((a.drop (16 * i)).take 16) ((b.drop (16 * i)).take 16)).flatten
  | _ => a

/-- The last record of a code and instance, while it has not been overwritten. -/
def State.lastRec (s : State) (k inst : Nat) : Option Nat := Tab.get (fun _ => none) s.rcd.lastAt (recKey k inst)

/-- The last record of a code and instance that a new one may merge into (R647): none whose words are uncorrectable (R631), nor one that
the device may not write again yet (R638). -/
def State.mergeInto (s : State) (k inst : Nat) (payload : List Byte) : Option Nat :=
  match s.lastRec k inst with
  | some i =>
    if 256 ≤ i ∧ recForm k ≠ 3 ∧ (s.poisonIn (recSlot i) 256).isEmpty ∧ s.wearFree (recSlot i) ∧
        samePayload k ((s.recAt i).drop 0x20 |>.take 192) payload then some i
    else none
  | none => none

/-- A record is merged into the one at index `i` (R647); a late close leaves LATE_CLOSE (R645). -/
def State.recMerge (s : State) (k inst i flags : Nat) (vs : List Nat) (payload : List Byte) : State :=
  let b := s.recAt i
  let s1 := s.takeSeq
  let ws := Tab.get (fun _ => []) s.rcd.weights (recKey k inst)
  let merged := mergePayload k ws vs ((b.drop 0x20).take 192) payload
  let nb := b.take 2 ++ leBytes 2 (leAt b 2 2 ||| (flags &&& 4)) ++ leBytes 6 s1.recSeq ++ leBytes 2 (satN 16 (leAt b 0x0A 2 + 1)) ++
    (b.drop 0x0C).take 12 ++ leBytes 8 s.dt ++ merged ++ (b.drop 0xE0).take 28
  let s2 := ((s1.setStoreBytes (recSlot i) (withCrc nb)).noteWear (recSlot i)).count R.REC_REPEATS 1
  s2.updRec fun r => { r with
    weights := Tab.set (fun _ => []) r.weights (recKey k inst) (List.zipWith (fun c d => c + d) ws vs) }

/-- One token in the units of the buckets, and the bucket of a code as it stands (R648). -/
abbrev tokUnit : Nat := 3600000000000
def State.tokens (s : State) (k : Nat) : Nat :=
  let full := s.rfld (R.REC_CODE_TB k) 0 8 * tokUnit
  match Tab.get (fun _ => none) s.rcd.toks k with
  | none => full
  | some (v, a) => min full (v + (s.now - a) * s.rfld (R.REC_CODE_TB k) 16 16)

/-- A record that is not merged takes a token and is written, or is suppressed (R648). `hits` is what the reads of the last record
meet (R636), `vs` the counts of the values in form 1. -/
def State.recEmit (s0 : State) (hits : List EccHit) (k inst cause flags : Nat) (vs : List Nat) (payload : List Byte) : State :=
  let s := match s0.lastRec k inst with
    | some i => s0.devRead hits (recSlot i) 256
    | none => s0
  match s.mergeInto k inst payload with
  | some i => s.recMerge k inst i flags vs payload
  | none =>
    let v := s.tokens k
    if tokUnit ≤ v then
      (s.updRec fun r => { r with toks := Tab.set (fun _ => none) r.toks k (some (v - tokUnit, s.now)) }).recWrite k inst
        cause flags (Tab.get (fun _ => 0) s.rcd.supp k) vs payload
    else
      ((s.updRec fun r => { r with supp := Tab.set (fun _ => 0) r.supp k (Tab.get (fun _ => 0) r.supp k + 1) }).count
        (R.REC_CODE_SUPP k) 1).count R.REC_SUPPRESSED 1 |>.event R.REC_IRQ_STAT 2

/-- Entry `i` of a capture (R646): its sample, with MARK where a compare hit lies within ±250 ns of one of the samples since the
previous entry (09 R392); 0 where the capture was cut short before it. -/
def TraceRun.entry (c : TraceRun) (i : Nat) : Word :=
  let at_ := c.start + (i : Int) * c.step
  let w := c.words.getD i 0
  match c.stop with
  | some e => if e < at_ then 0 else mark w at_
  | none => mark w at_
where
  mark (w : Word) (at_ : Int) : Word :=
    Machine.setBit w 31 (c.hits.any fun h => decide (at_ - c.step + 250 ≤ h) && decide (h ≤ at_ + 250))

/-- How many entries of a capture have been taken (R646). -/
def State.traceTaken (s : State) (c : TraceRun) : Nat :=
  ((List.range 48).filter fun i => decide (c.start + (i : Int) * c.step ≤ s.localDt (c.lane / 8))).length

/-- The entries of the running capture on lane `n` that no interval holds yet join the open one (R644, R646; DEDUCED, log 213: an interval
that closes before the capture completes holds the entries taken in it). -/
def State.traceTake (s : State) (n : Nat) : State :=
  match s.rcd.trace with
  | some c =>
    if c.lane = n then
      let k := max c.taken (s.traceTaken c)
      (forL (fun i u => u.recAdd 9 n i (c.entry i).toNat) ((List.range k).drop c.taken) s).updRec fun r => { r with
        trace := some { c with taken := k } }
    else s
  | none => s

/-- A LANE_TRACE interval is open for a physical lane: for the capture that is armed, that runs, or that has completed (R644, R646). -/
def State.traceOpen (s : State) (n : Nat) : Bool :=
  Tab.get (fun _ => false) s.rcd.due (recKey 9 n) || (s.rbit R.REC_TRACE_CFG 31 && s.rfld R.REC_TRACE_CFG 0 8 == n) ||
    s.rcd.trace.any fun c => c.lane == n

/-- An interval of the recorder runs: the recorder and the code are enabled, and boot loading has ended (R644, R645). -/
def State.recRuns (s : State) (k inst : Nat) : Bool :=
  s.ldr.bootEnded && s.rbit R.REC_CTRL 0 && s.rbit (R.REC_CODE_CFG k) 31 && (k != 9 || s.traceOpen inst)

/-- The interval is closed and the next one opens (R641, R643, R644). -/
def State.recClose (s0 : State) (hits : List EccHit) (k inst cause : Nat) (late : Bool) : State :=
  let s := if k = 9 then s0.traceTake inst else s0
  let flags := 4 * b2n late + 256 * recForm k
  let l := s.recVals k inst
  let s1 := (payloads k inst l).foldl (fun t p =>
    t.recEmit hits k inst cause (flags + 2 * b2n p.1) (recWeights k inst l) p.2) s
  s1.recOpen k inst

/-- A close falls due: it is made now, or waits for the MSS (R645). -/
def State.recDue (s : State) (hits : List EccHit) (k inst cause : Nat) : State :=
  if !s.recRuns k inst then s
  else if s.mssReady && s.up 36 then s.recClose hits k inst cause false
  else
    let key := recKey k inst
    if (Tab.get (fun _ => none) s.rcd.waits key).isSome then s
    else (s.updRec fun r => { r with waits := Tab.set (fun _ => none) r.waits key (some cause) }).setBit R.REC_STAT 29 true

/-- The first DT multiple of a code's INTERVAL after an instant (R644). -/
def State.recTimer (s : State) (k opened : Nat) : Nat :=
  let p := s.rfld (R.REC_CODE_CFG k) 0 17 * 1000000000
  (opened / p + 1) * p

/-- Every open interval closes, in ascending code and instance (R644, R645). -/
def State.recCloseAll (s : State) (cause : Nat) : State :=
  forN (fun k t => forN (fun inst u => u.recDue [] k inst cause) (recInsts k) t) 10 s

/-- The closes that waited for the MSS are made (R645). -/
def State.recCatchUp (s : State) : State :=
  forN (fun k t => forN (fun inst u => match Tab.get (fun _ => none) u.rcd.waits (recKey k inst) with
    | some c => u.recClose [] k inst c true
    | none => u) (recInsts k) t) 10 (s.setBit R.REC_STAT 29 false)

/-- Boot loading has ended: every interval opens and every bucket is full (R644, R648). -/
def State.recStart (s : State) : State :=
  s.updRec fun r => { r with vals := [], due := [], waits := [], openAt := [], openAll := s.dt, toks := [], supp := [] }

/-- The counters of the recorder block (R655). -/
def recCounters : List Nat :=
  [R.REC_WRITTEN, R.REC_REPEATS, R.REC_SUPPRESSED, R.REC_TORN, R.REC_STAGE_FULL] ++ (List.range 10).map R.REC_CODE_SUPP

/-- What a write of REC_CMD does: bit 1 CLOSE_ALL, bit 0 CNT_CLEAR. -/
def recCmd (w : Word) (s : State) : State :=
  (s.when (w.getLsbD 1) fun t => t.recCloseAll 3).when (w.getLsbD 0) fun t => t.clearRegs recCounters

/-- REC_CLOSE_ALL (R644, R645). -/
def execRecCloseAll (el : Nat) (p : Port) (s : State) : Host.Outcome State Fault Refusal :=
  .next ((s.begin el).writeCmd p R.REC_CMD 2 recCmd)

/-- REC_CNT_CLEAR (R655). -/
def execRecCntClear (el : Nat) (p : Port) (s : State) : Host.Outcome State Fault Refusal :=
  .next ((s.begin el).writeCmd p R.REC_CMD 1 recCmd)

/-- What a write of REC_TRACE_CFG does (R646): a running capture ends unrecorded, and with ARM at 1 the interval of the next one
opens. -/
def State.traceWritten (s : State) : State :=
  let n := s.rfld R.REC_TRACE_CFG 0 8
  let t := s.updRec fun r => { r with trace := none }
  if s.rbit R.REC_TRACE_CFG 31 ∧ n < 160 then t.recOpen 9 n else t

/-- Every entry of a capture has been taken, or the capture was cut short (R646). -/
def State.traceOver (s : State) (c : TraceRun) : Bool :=
  c.stop.isSome || decide (c.start + 47 * c.step ≤ s.localDt (c.lane / 8))

/-- A capture completes (R646): ARM clears, and its entries close the interval (Table 9). -/
def State.traceClose (s : State) (hits : List EccHit) (c : TraceRun) : State :=
  let t := forL (fun i u => u.recAdd 9 c.lane i (c.entry i).toNat) ((List.range 48).drop c.taken) (s.setBit R.REC_TRACE_CFG 31 false)
  ((t.updRec fun r => { r with trace := none }).recTrigger 9 c.lane).recDue hits 9 c.lane 1

/-- The capture of a lane trace that is over (R646). -/
def State.traceDone (s : State) (n : Nat) : Option TraceRun := s.rcd.trace.filter fun c => c.lane == n && s.traceOver c

/-- The interval of a code and instance closes where its trigger or its timer has come (R644). -/
def State.recTick (s : State) (hits : List EccHit) (k inst : Nat) : State :=
  let timed := if s.recTimer k (s.recOpened k inst) ≤ s.dt then s.recDue hits k inst 0 else s
  if Tab.get (fun _ => false) s.rcd.due (recKey k inst) then s.recDue hits k inst 1
  else if k = 9 then
    match s.traceDone inst with
    | some c => s.traceClose hits c
    | none => timed
  else timed

/-- INTERVAL_CLOSE (R641–R650): the timer or the trigger of an interval has come; a lane trace is triggered by its completion. Intervals of
lower codes, and of lower instances of the code, that close at the same instant are written before it (R645). `e` holds what the reads of
the store meet. -/
def execIntervalClose (e : Seen (List EccHit)) (k : Fin 10) (inst : Fin 160) (s : State) : Host.Outcome State Fault Refusal :=
  .next ((s.begin e.el).onIsland 37 fun t =>
    if recInsts k ≤ inst then t
    else forN (fun j u => forN (fun i v => if j < k ∨ i ≤ inst then v.recTick e.val j i else v) (recInsts j) u) (k + 1) t)

/-- TRACE_ARM (R646): REC_TRACE_CFG is written with ARM at 1. -/
def execTraceArm (el : Nat) (p : Port) (n : Fin 160) (decim : Fin 8) (s : State) : Host.Outcome State Fault Refusal :=
  .next ((s.begin el).writeCmd p R.REC_TRACE_CFG (wordN (2 ^ 31 + decim * 256 + n)) fun _ t => t.traceWritten)

/-- A change of a code's EN opens its intervals anew when it becomes 1 (R644). -/
def State.codeCfgWritten (s old : State) (k : Nat) : State :=
  if s.rbit (R.REC_CODE_CFG k) 31 && !old.rbit (R.REC_CODE_CFG k) 31 then
    forN (fun inst t => t.recOpen k inst) (recInsts k) s
  else s

/-- RECORDER_SAMPLE (R644, R642, Table 9): every 1 ms of DT the supply monitors, mV in the order of PWR_RAIL, and the fill of the
intake FIFO enter their intervals. -/
def execRecorderSample (el : Nat) (mv : List (BitVec 16)) (s : State) : Host.Outcome State Fault Refusal :=
  .next ((s.begin el).onIsland 37 fun t =>
    if t.dt % 1000000 ≠ 0 then t
    else
      let u := forN (fun i v =>
        let x := mv.getD i 0
        (v.setFld (R.PWR_RAIL i) 0 16 x.toNat).recAdd 3 (i / 8) (i % 8) x.toNat) 14 t
      u.recAdd 7 0 0 (u.intake.fifo.length : Int))

/-! The window (R651–R654). -/

/-- The selected record's index, and a word of it as it lies in the store. -/
def State.recCursor (s : State) : Nat := s.rfld R.REC_CURSOR 0 16
def State.recWord (s : State) (i : Nat) : Word := s.storeWordAt (recSlot s.recCursor + 4 * i)

/-- The sequence of the selected record; a slot never written holds 0. -/
def State.curSeq (s : State) : Nat := leNat (s.storeBytes (recSlot s.recCursor + 4) 6)

/-- Reading REC_WIN0 latches the record's SEQ (R652). -/
def win0Read (s : State) : Word × State :=
  (s.recWord 0, (s.setReg48 R.REC_WIN_SEQ_LO (s.curSeq : Int)).updRec fun r => { r with armed := true })

/-- Reading REC_WIN63 sets RESULT and may advance the cursor (R652, R653). -/
def win63Read (s : State) : Word × State :=
  let v := s.recWord 63
  let latched := s.reg64 R.REC_WIN_SEQ_LO % 2 ^ 48
  let res := if !s.rcd.armed then 0 else if s.curSeq ≠ latched then 2 else if latched = 0 then 3 else 1
  let s1 := (s.setFld R.REC_WIN_STAT 0 2 res).updRec fun r => { r with armed := false }
  let s2 := s1.when (res == 2) fun t => t.count R.REC_TORN 1
  (v, s2.when ((res == 1 || res == 3) && s2.rbit R.REC_CURSOR 31) fun t =>
    t.setFld R.REC_CURSOR 0 16 (s.recCursor + 1))

/-- What a write of REC_CURSOR does (R653). -/
def State.cursorWritten (s : State) : State :=
  (s.setFld R.REC_WIN_STAT 0 2 0).updRec fun r => { r with armed := false }

/-- REC_CURSOR_WRITE (R653). -/
def execRecCursorWrite (el : Nat) (p : Port) (v : Word) (s : State) : Host.Outcome State Fault Refusal :=
  .next ((s.begin el).writeCmd p R.REC_CURSOR v fun _ t => t.cursorWritten)

/-- A filler record (R654): CODE, the index as INSTANCE, zeros, and a valid CRC. -/
def filler (code idx : Nat) : List Byte :=
  withCrc (leBytes 2 code ++ leBytes 222 0 ++ leBytes 2 idx ++ leBytes 26 0)

/-- The slot has been written: its SEQ as it lies in the store is not 0 (R650). -/
def State.recUsed (s : State) (i : Nat) : Bool := (List.range 6).any fun j => s.storeByte (recSlot i + 4 + j) != 0

/-- A record as RECORDER_READ returns it (R654); an uncorrectable word reads 0 (R636). -/
def State.recordOut (s : State) (i : Nat) : List Byte :=
  let b := s.recAt i
  if !s.recUsed i then filler 0 i
  else if leAt b 0xFC 4 ≠ (crc32c (b.take 252)).toNat then filler 0xFFFF i
  else b

end Sys2Proof.Machine
end

