-- ==== Sys2Proof/Machine/Curve.lean ====
section
/-!
DEFINITION. The elliptic curve P-384 with ECDSA and ECDH on it (02 R63, 15 Table 1, R599, R605). The spec names the functions and
leaves their definition to their standards: FIPS 186-5, NIST SP 800-186, SEC 1, PRESUMED (log 138).
-/
namespace Sys2Proof.Machine

/-- The field prime, the order of the group, and the coefficient b of the curve y² = x³ − 3x + b. -/
def p384 : Nat := 2 ^ 384 - 2 ^ 128 - 2 ^ 96 + 2 ^ 32 - 1
def n384 : Nat :=
  0xFFFFFFFFFFFFFFFFFFFFFFFFFFFFFFFFFFFFFFFFFFFFFFFFC7634D81F4372DDF581A0DB248B0A77AECEC196ACCC52973
def b384 : Nat :=
  0xB3312FA7E23EE7E4988E056BE3F82D19181D9C6EFE8141120314088F5013875AC656398D8A2ED19D2A85C8EDD3EC2AEF

/-- A point in Jacobian coordinates (X, Y, Z), which stands for (X / Z², Y / Z³); Z = 0 is the point at infinity. -/
structure Pt where
  x : Nat
  y : Nat
  z : Nat
  deriving DecidableEq, Repr

def ptInf : Pt := ⟨1, 1, 0⟩
/-- The base point. -/
def ptG : Pt := ⟨
  0xAA87CA22BE8B05378EB1C71EF320AD746E1D3B628BA79B9859F741E082542A385502F25DBF55296C3A545E3872760AB7,
  0x3617DE4A96262C6F5D9E98BF9292DC29F8F41DBD289A147CE9DA3113B5F0B8C00A60B1CE1D7E819D7A431D7C90EA0E5F, 1⟩

/-- A difference in the field. -/
def fsub (a b : Nat) : Nat := (a + (p384 - b % p384)) % p384

/-- A point doubled. -/
def ptDbl (q : Pt) : Pt :=
  let yy := q.y * q.y % p384
  let zz := q.z * q.z % p384
  let s := 4 * q.x * yy % p384
  let m := 3 * fsub q.x zz * (q.x + zz) % p384
  let x := fsub (m * m) (2 * s)
  ⟨x, fsub (m * fsub s x) (8 * yy * yy), 2 * q.y * q.z % p384⟩

/-- Two points added. -/
def ptAdd (a b : Pt) : Pt :=
  if a.z = 0 then b else if b.z = 0 then a
  else
    let za := a.z * a.z % p384
    let zb := b.z * b.z % p384
    let u1 := a.x * zb % p384
    let u2 := b.x * za % p384
    let s1 := a.y * zb * b.z % p384
    let s2 := b.y * za * a.z % p384
    if u1 = u2 then (if s1 = s2 then ptDbl a else ptInf)
    else
      let h := fsub u2 u1
      let r := fsub s2 s1
      let hh := h * h % p384
      let v := u1 * hh % p384
      let hhh := h * hh % p384
      let x := fsub (r * r) (hhh + 2 * v)
      ⟨x, fsub (r * fsub v x) (s1 * hhh), a.z * b.z % p384 * h % p384⟩

/-- `k` times a point, by the lowest `n` bits of `k`, the highest first. -/
def ptMulBits (k : Nat) (q : Pt) : Nat → Pt → Pt
  | 0, r => r
  | n + 1, r =>
    let d := ptDbl r
    ptMulBits k q n (if k.testBit n then ptAdd d q else d)
def ptMul (k : Nat) (q : Pt) : Pt := ptMulBits k q 384 ptInf

/-- A power modulo `m`, by the lowest `n` bits of the exponent, the highest first; the inverse modulo a prime. -/
def powMod (m b e : Nat) : Nat → Nat → Nat
  | 0, r => r
  | n + 1, r =>
    let d := r * r % m
    powMod m b e n (if e.testBit n then d * b % m else d)
def invMod (m a : Nat) : Nat := powMod m (a % m) (m - 2) 384 1

/-- The affine coordinates of a point that is not at infinity. -/
def Pt.affine (q : Pt) : Nat × Nat :=
  let i := invMod p384 q.z
  (q.x * (i * i % p384) % p384, q.y * (i * i % p384 * i % p384) % p384)

/-- A point as its 97-byte uncompressed SEC 1 form, and the point that 97 bytes spell; none where they spell none of the curve. -/
def Pt.bytes (q : Pt) : List Byte := 0x04 :: (beBytes 48 q.affine.1 ++ beBytes 48 q.affine.2)
def ptOf (l : List Byte) : Option Pt :=
  let x := beNat ((l.drop 1).take 48)
  let y := beNat ((l.drop 49).take 48)
  if l.length = 97 ∧ l.headD 0 = 0x04 ∧ x < p384 ∧ y < p384 ∧ y * y % p384 = fsub (x * x * x + b384) (3 * x) then some ⟨x, y, 1⟩
  else none

/-- The public key of a private key. -/
def pubKey (d : Nat) : List Byte := (ptMul d ptG).bytes

/-- An ECDSA signature (R and S, 48 bytes each, big-endian) over a 48-byte digest verifies under a public key. -/
def ecdsaOk (pub digest r s : List Byte) : Bool :=
  match ptOf pub with
  | none => false
  | some q =>
    let rn := beNat r
    let sn := beNat s
    let w := invMod n384 sn
    let v := ptAdd (ptMul (beNat digest * w % n384) ptG) (ptMul (rn * w % n384) q)
    decide (0 < rn ∧ rn < n384 ∧ 0 < sn ∧ sn < n384) && v.z != 0 && v.affine.1 % n384 == rn

/-- An ECDSA signature under a private key with the secret number `k`: R and S. -/
def ecdsaSign (d k : Nat) (digest : List Byte) : List Byte :=
  let r := (ptMul k ptG).affine.1 % n384
  beBytes 48 r ++ beBytes 48 (invMod n384 k * (beNat digest + r * d) % n384)

/-- The public keys under which a signature can verify: for each point whose x-coordinate gives R, the key that S then needs. -/
def ecdsaKeys (digest r s : List Byte) : List (List Byte) :=
  let rn := beNat r
  let i := invMod n384 rn
  let u := (n384 - beNat digest % n384) * i % n384
  ([rn, rn + n384].filter fun x => decide (x < p384)).flatMap fun x =>
    let y := powMod p384 (fsub (x * x * x + b384) (3 * x)) ((p384 + 1) / 4) 384 1
    [y, fsub 0 y].map fun y => (ptAdd (ptMul u ptG) (ptMul (beNat s * i % n384) ⟨x, y, 1⟩)).bytes

/-- The x-coordinate of the ECDH shared point of a private key and a public key, 48 bytes; none where the public key is no point. -/
def ecdh (d : Nat) (pub : List Byte) : Option (List Byte) :=
  (ptOf pub).map fun q => beBytes 48 (ptMul d q).affine.1

end Sys2Proof.Machine
end

