-- ==== Sys2Proof/Machine/LdrOps.lean ====
section
/-!
DEFINITION. What other blocks do to the Trellis loader (02_trellis_images.md, R87, R96): its warnings, its results, and the
refusal of a handover.
-/
namespace Sys2Proof.Machine

/-- The loader's states (Table 7). -/
abbrev ldIdle : Nat := 0
abbrev ldVerifying : Nat := 1
abbrev ldStaged : Nat := 2
abbrev ldLoading : Nat := 3
abbrev ldSearching : Nat := 4
abbrev ldFinal : Nat := 5
abbrev ldDone : Nat := 6
abbrev ldRefusedSt : Nat := 7
abbrev ldErrorSt : Nat := 8

/-- Bits of LDR_WARN and LDR_IRQ_STAT (Table 15). -/
abbrev lwPatchStopped : Nat := 0
abbrev lwCmdIgnored : Nat := 2
abbrev lwSealTimeout : Nat := 4
abbrev liVerified : Nat := 0
abbrev liDone : Nat := 1
abbrev liRefused : Nat := 2
abbrev liError : Nat := 3
abbrev liWarn : Nat := 5

/-- The result codes of Table 12. -/
abbrev lcNone : Nat := 0x00
abbrev lcBadMagic : Nat := 0x01
abbrev lcBadFormat : Nat := 0x02
abbrev lcWrongPart : Nat := 0x03
abbrev lcKeyId : Nat := 0x04
abbrev lcSignature : Nat := 0x05
abbrev lcRollback : Nat := 0x06
abbrev lcDecrypt : Nat := 0x07
abbrev lcSectionHash : Nat := 0x08
abbrev lcSectionType : Nat := 0x09
abbrev lcSectionRange : Nat := 0x0A
abbrev lcItemFormat : Nat := 0x0B
abbrev lcAddress : Nat := 0x0C
abbrev lcLaneMap : Nat := 0x0D
abbrev lcBaseMismatch : Nat := 0x0E
abbrev lcPatchSeq : Nat := 0x0F
abbrev lcPatchLogFull : Nat := 0x10
abbrev lcMixedKinds : Nat := 0x11
abbrev lcTooLarge : Nat := 0x12
abbrev lcMssRestart : Nat := 0x13
abbrev lcBoundary : Nat := 0x14
abbrev lcIslandDown : Nat := 0x15
abbrev lcSafeState : Nat := 0x16

/-- The loader beside its registers takes a new value. -/
def State.updLdr (s : State) (f : LdrSt → LdrSt) : State := { s with ldr := f s.ldr }

/-- LDR_STAT.STATE takes a state of Table 7. -/
def State.setLdr (s : State) (st : Nat) : State := s.setFld R.LDR_STAT 0 4 st

/-- A bit of LDR_WARN sets (Table 15). -/
def State.ldrWarn (s : State) (i : Nat) : State := (s.event R.LDR_WARN i).event R.LDR_IRQ_STAT liWarn

/-- LDR_ERR and LDR_ERR_POS (R68). -/
def State.ldrResult (s : State) (code sect pos : Nat) : State :=
  (s.setReg R.LDR_ERR (wordN (sect * 256 + code))).setReg R.LDR_ERR_POS (wordN pos)

/-- The loader ends in ERROR with a result (R68, R87). -/
def State.ldrFail (s : State) (code sect pos : Nat) : State :=
  ((s.ldrResult code sect pos).setLdr ldErrorSt).event R.LDR_IRQ_STAT liError

/-- The status block of a USB command (13 R540, Table 10): MAGIC 0x5A51, CMD, STATUS, TAG, the bytes moved and RESULT; `data` has
moved on EP2 IN before. The command is no longer in progress. -/
def State.usbStatus (s : State) (b : UsbBlk) (st moved res : Nat) (data : List Byte) : State :=
  let s1 := ((s.setFld R.USB_STAT 0 8 0).count R.USB_CMD_CNT 1).when (st != 0) fun t => t.count R.USB_ERR_CNT 1
  s1.send (.usb (leBytes 2 0x5A51 ++ leBytes 1 b.cmd.toNat ++ leBytes 1 st ++ bytesOfWord b.tag ++ leBytes 4 moved ++ leBytes 4 res) data)

/-- A STAGE_COMMIT that waits for the loader, or for a slot, ends with its result (13 R544, 15 R618). -/
def State.usbDone (s : State) (loader : Bool) (res : Nat) : State :=
  match s.port.usbWait with
  | some (b, w) =>
    if w = loader then ({ s with port := { s.port with usbWait := none } }).usbStatus b 0 0 res [] else s
  | none => s

/-- The MSS restarts while it verifies (R87). -/
def State.ldrMssLost (s : State) : State :=
  s.when (s.ldrState == ldVerifying) fun t => (t.ldrFail lcMssRestart 0xFF 0).usbDone true lcMssRestart

/-- The logical lanes that the sections of a partial image map anew, with their new physical lanes and CARRY_MODEL; and those of the
staged image. -/
def State.remappedBy (s : State) (l : List Sect) : List (Nat × Nat × Bool) :=
  (List.range 160).filterMap fun n =>
    match stagedMap l n with
    | some (p, c) => if s.rfld (R.LDR_MAP (n / 4)) (8 * (n % 4)) 8 = p then none else some (n, p, c)
    | none => none
def State.remapped (s : State) : List (Nat × Nat × Bool) := s.remappedBy s.ldr.staged

/-- The uncommitted pulses of every remapped lane are recomputed (R97). `x` says that Stitch's transfers are delivered. -/
def State.recomputeMapped (s : State) (x : Bool) : State := forL (fun e t => t.recomputeLane x e.1) s.remapped s

/-- A handover runs and T_h has not come (R96). -/
def State.handoverOpen (s : State) : Bool := decide (3 ≤ s.ldrState) && decide (s.ldrState ≤ 5) && !s.ldr.swapped

/-- The handover is refused (R96): the old configuration stays, the shadow banks go, and what R97 recomputed is computed again with it. -/
def State.handoverRefuse (s : State) (code : Nat) : State :=
  let was := s.ldrState
  let s1 := ((((s.ldrResult code 0xFF 0).setLdr ldRefusedSt).event R.LDR_IRQ_STAT liRefused).count R.LDR_HANDOVER_REFUSED
    1).updLdr fun q => { q with th := none, shadow := [] }
  s1.when (was == ldFinal) fun t => t.recomputeMapped true

/-- Island `i` is a tile of the handover set. -/
def State.inSet (s : State) (i : Nat) : Bool := decide (i < 22) && s.rbit R.LDR_SET i

/-- A tile of the set is declared down, or a channel in it is put into its fail-safe state, before T_h (R96). -/
def State.handoverDown (s : State) (i : Nat) : State :=
  s.when (s.handoverOpen && s.inSet i) fun t => t.handoverRefuse lcIslandDown
def State.handoverSafe (s : State) (isl : List Nat) : State :=
  s.when (s.handoverOpen && isl.any fun i => s.inSet i) fun t => t.handoverRefuse lcSafeState

end Sys2Proof.Machine
end

