-- ==== Sys2Proof/Machine/Image.lean ====
section
/-!
DEFINITION. The byte format of Trellis images and MSS firmware and their verification (02_trellis_images.md, R60–R71, Table 6;
15_security_and_update.md, R594, R595, R597, R599, R601), and the keys that signatures are checked under.
-/
namespace Sys2Proof.Machine

/-- A failed check: its code, the directory index (0xFF for none) and the image offset (R68). -/
structure ImgFail where
  code : Nat
  sect : Nat
  pos : Nat
  deriving DecidableEq, Repr

/-- A field of `n` bytes at offset `o` of the content that lies at window address `base`. -/
def State.img (s : State) (base o n : Nat) : Nat := leNat (s.storeBytes (base + o) n)

/-- OWNER_SLOT; an owner key is in force (SEC_STAT.OWNED). -/
def State.ownerSlot (s : State) : Nat := s.rfld R.SEC_STAT 0 2
def State.owned (s : State) : Bool := s.rbit R.SEC_STAT 3

/-- The owner key of a key record, 97 bytes; and the identifier of a key, the first 8 bytes of its SHA-384 (02 Table 2). -/
def State.ownerKey (s : State) (k : Nat) : List Byte := Tab.get (fun _ => []) s.sec.recs k
def keyId (pub : List Byte) : List Byte := (sha384 pub).take 8

/-- The owner keys that content verifies under: the key in force, and after a rotation the previous one (15 R594, R595). -/
def State.ownerKeys (s : State) : List (List Byte) :=
  (if s.owned then [s.ownerKey s.ownerSlot] else []) ++
    if s.owned && s.rbit R.SEC_STAT 5 && s.ownerSlot != 0 then [s.ownerKey (s.ownerSlot - 1)] else []

/-- The device serial number, 8 bytes, little-endian (15 Table 2). -/
def State.serial (s : State) : List Byte := bytesOfWord (s.reg R.SEC_SERIAL_LO) ++ bytesOfWord (s.reg R.SEC_SERIAL_HI)

/-- The ASCII bytes of a text. -/
def ascii (t : String) : List Byte := t.toList.map fun c => BitVec.ofNat 8 c.toNat

/-- The first failing check of a list. -/
def firstFail : List (Bool × ImgFail) → Option ImgFail
  | [] => none
  | (b, f) :: r => if b then some f else firstFail r

/-- A directory entry (Table 3). -/
structure DirEntry where
  idx : Nat
  type : Nat
  inst : Nat
  flags : Nat
  ofs : Nat
  len : Nat
  stored : Nat
  deriving DecidableEq, Repr

def State.dirEntry (s : State) (base i : Nat) : DirEntry :=
  let o := 0x80 + 0x40 * i
  ⟨i, s.img base o 1, s.img base (o + 1) 1, s.img base (o + 2) 2, s.img base (o + 4) 4, s.img base (o + 8) 4,
    s.img base (o + 12) 4⟩
def State.dir (s : State) (base : Nat) : List DirEntry := (List.range (s.img base 0x0C 2)).map fun i => s.dirEntry base i

/-- An image is encrypted, and where its signed region ends (R63). -/
def State.encrypted (s : State) (base : Nat) : Bool := s.img base 7 1 % 2 == 1
def State.signedEnd (s : State) (base : Nat) : Nat :=
  0x80 + 0x40 * s.img base 0x0C 2 + if s.encrypted base then 256 else 0

/-- The image digest: SHA-384 over the signed region (R63). -/
def State.imgDigest (s : State) (base : Nat) : List Byte := sha384 (s.storeBytes base (s.signedEnd base))

/-- How many instances a section type has, and whether a partial image may hold it (Table 1). -/
def sectInsts (t : Nat) : Nat :=
  if t = 0x10 then 20 else if t = 0x11 then 2 else if t = 0x13 then 6 else if t = 0x23 then 4
  else if t ∈ [0x01, 0x02, 0x12, 0x20, 0x21, 0x22, 0x24, 0x25, 0x26, 0x27, 0x28] then 1 else 0
def sectPartial (t : Nat) : Bool := decide (t = 0x02 ∨ t = 0x10 ∨ t = 0x11)

/-- A section's register ranges, first address and end (Table 1; 10 R399). -/
def sectRanges (t i : Nat) : List (Nat × Nat) :=
  match t with
  | 0x01 => [(0, 0x20000), (0x50000, 0x60000), (0x900000, 0x910000)]
  | 0x10 => [(0x100000 + i * 0x10000, 0x110000 + i * 0x10000)]
  | 0x11 => [(0x400000 + i * 0x4000, 0x404000 + i * 0x4000)]
  | 0x12 => [(0x410000, 0x420000)]
  | 0x13 => (0x501000 + i * 0x1000, 0x502000 + i * 0x1000) :: (if i = 0 then [(0x500000, 0x501000)] else [])
  | 0x20 => [(0x300000, 0x310000)]
  | 0x21 => [(0x310000, 0x320000)]
  | 0x22 => [(0x320000, 0x330000)]
  | 0x23 => [(0x600000 + i * 0x4000, 0x604000 + i * 0x4000)]
  | 0x24 => [(0x700000, 0x710000)]
  | 0x25 => [(0x710000, 0x720000)]
  | 0x26 => [(0x800000, 0x810000)]
  | 0x27 => [(0x20000, 0x30000)]
  | 0x28 => [(0x40000, 0x50000)]
  | _ => []
def inRanges (l : List (Nat × Nat)) (a : Nat) : Bool := l.any fun r => decide (r.1 ≤ a ∧ a < r.2)

/-- A word that an item of a section may write (R61): aligned, within the section's range, a register with a writable
field. -/
def itemWord (t i a : Nat) : Bool :=
  decide (a % 4 = 0) && inRanges (sectRanges t i) a &&
    (match regHit? a with
      | some h => h.row.rw ||| h.row.rws ||| h.row.img != 0
      | none => false)

/-- Table 13: a SEAL_MODE other than 0b00 and 0b01. -/
def badSealMode (a : Nat) (mask v : Word) : Bool := a == R.LDR_SEAL_CFG && (mask &&& v).getLsbD 1

/-- One item of a body as Table 5 gives it: what it holds, or the code it fails with (R61, R65). `none` is END. -/
def readItem (t i ty : Nat) (pay : List Byte) : Nat ⊕ Option (List Item) :=
  let n := pay.length
  let a := leAt pay 0 4
  let w (o : Nat) : Word := wordN (leAt pay o 4)
  let b (o : Nat) : Nat := leAt pay o 1
  let words (l : List (Nat × Word × Word)) : Nat ⊕ Option (List Item) :=
    if l.any fun q => badSealMode q.1 q.2.1 q.2.2 then .inl lcItemFormat
    else if l.all fun q => itemWord t i q.1 then .inr (some (l.map fun q => .set q.1 q.2.1 q.2.2))
    else .inl lcAddress
  let ones : Word := 0xFFFFFFFF
  if ty = 0xFF then (if n = 0 then .inr none else .inl lcItemFormat)
  else if ty = 0x20 then
    if t = 0x02 ∧ n = 4 ∧ b 0 < 160 ∧ (b 1 < 160 ∨ b 1 = 0xFF) ∧ b 2 < 2 ∧ b 3 = 0 then
      .inr (some [.map (b 0) (b 1) (b 2 == 1)])
    else .inl lcItemFormat
  else if ty = 0x21 then
    if t = 0x02 ∧ n = 4 ∧ b 0 < 160 ∧ leAt pay 1 3 = 0 then .inr (some [.spare (b 0)]) else .inl lcItemFormat
  else if ty = 0x10 then
    if t = 0x01 ∧ n = 20 ∧ b 8 + b 9 ≤ 32 ∧ leAt pay 10 2 < 2 then
      if a % 4 = 0 ∧ (regHit? a).isSome then
        .inr (some [.permit ⟨a, w 4, b 8, b 9, leAt pay 10 2 == 1, w 12, w 16⟩])
      else .inl lcAddress
    else .inl lcItemFormat
  else if t = 0x02 then .inl lcItemFormat
  else if ty = 0x01 then (if n = 8 then words [(a, ones, w 4)] else .inl lcItemFormat)
  else if ty = 0x02 then
    let c := leAt pay 4 2
    if 8 ≤ n ∧ 1 ≤ c ∧ c ≤ 1024 ∧ leAt pay 6 2 = 0 ∧ n = 8 + 4 * c then
      words ((List.range c).map fun k => (a + 4 * k, ones, w (8 + 4 * k)))
    else .inl lcItemFormat
  else if ty = 0x03 then (if n = 12 then words [(a, w 4, w 8)] else .inl lcItemFormat)
  else .inl lcItemFormat

/-- The items of a body from offset `pos` on (R65): all of them, or the code and the offset of the one that fails. A body
ends with END and nothing after it. -/
def readItems (t i : Nat) : Nat → Nat → List Byte → (Nat × Nat) ⊕ List Item
  | 0, pos, _ => .inl (lcItemFormat, pos)
  | fuel + 1, pos, l =>
    let n := leAt l 2 2
    if l.length < 4 ∨ leAt l 1 1 ≠ 0 ∨ l.length < 4 + n then .inl (lcItemFormat, pos)
    else
      match readItem t i (leAt l 0 1) ((l.drop 4).take n) with
      | .inl c => .inl (c, pos)
      | .inr none => if l.length = 4 then .inr [] else .inl (lcItemFormat, pos + 4)
      | .inr (some x) =>
        match readItems t i fuel (pos + 4 + n) (l.drop (4 + n)) with
        | .inl f => .inl f
        | .inr r => .inr (x ++ r)

/-- The signature block at offset `o` verifies under a key over the signed region, the first `n` bytes (Table 4, R63). -/
def State.sigOk (s : State) (key : List Byte) (base n o : Nat) : Bool :=
  s.img base o 4 == 0x4E474953 && s.img base (o + 4) 2 == 1 && (s.poisonIn base n).isEmpty &&
    ecdsaOk key (sha384 (s.storeBytes base n)) (s.storeBytes (base + o + 8) 48) (s.storeBytes (base + o + 0x38) 48)

/-- The content key of encrypted content whose encryption header lies at address `h` (15 Table 4, R599); none where it does not
unwrap. -/
def State.contentKey (s : State) (h : Nat) : Option (List Byte) :=
  let nonce := s.storeBytes (h + 8) 8
  let kek : Option (List Byte) := match s.img h 4 1 with
    | 1 =>
      if s.sec.idLost ∨ s.storeBytes (h + 0x10) 8 ≠ keyId (pubKey s.sec.tpKey) then none
      else (ecdh s.sec.tpKey (s.storeBytes (h + 0x18) 97)).map fun z =>
        (sha384 ([0, 0, 0, 1] ++ z ++ ascii "TL9160 IMG" ++ nonce)).take 32
    | 2 => match Tab.get (fun _ => none) s.sec.keys (s.img h 5 1) with
      | some k => if s.img h 5 1 < 8 ∧ k.usage = 2 then some k.key else none
      | none => none
    | _ => none
  if s.img h 0 4 ≠ 0x48434E45 then none else kek.bind fun k => kwUnwrap k (s.storeBytes (h + 0x80) 40)

/-- Steps 1–9 (Table 6). `full` is the kind expected, `limit` the length that is staged. -/
def State.headFail (s : State) (base limit : Nat) (full : Bool) : Option ImgFail :=
  let g := s.img base
  let n := g 0x0C 2
  let total := g 8 4
  let se := s.signedEnd base
  let dir := s.dir base
  let stop := min (total - 128) limit
  let unused := (List.range (stop - se)).filterMap fun k =>
    let o := se + k
    if dir.any (fun e => decide (e.ofs ≤ o ∧ o < e.ofs + e.stored)) || s.devByte (base + o) == 0 then none else some o
  let zeros (o k : Nat) : Bool := (s.storeBytes (base + o) k).all fun b => b == 0
  let odd := dir.filter fun e => e.ofs % 64 != 0
  let f (code pos : Nat) : ImgFail := ⟨code, 0xFF, pos⟩
  let rb := g 0x14 2
  let stored := s.rfld R.SEC_IMG_RB 16 16
  let id := s.storeBytes (base + 0x18) 8
  let key := s.ownerKeys.find? fun k => keyId k == id
  let digest := ((List.range 12).map fun k => bytesOfWord (s.reg (R.LDR_DIGEST k))).flatten
  let applied := s.rfld R.LDR_PATCH 0 6
  firstFail [
    (g 0 4 != 0x534C5254, f lcBadMagic 0),
    (g 4 2 != 1, f lcBadFormat 4),
    (g 6 1 != (if full then 1 else 2), f lcBadFormat 6),
    (decide (2 ≤ g 7 1), f lcBadFormat 7),
    (n == 0 || decide (64 < n), f lcBadFormat 0x0C),
    (full && g 0x16 2 != 0, f lcBadFormat 0x16),
    (full && !zeros 0x20 48, f lcBadFormat 0x20),
    (!zeros 0x58 40, f lcBadFormat 0x58),
    (total % 64 != 0 || decide (total < se + 128), f lcBadFormat 8),
    (!odd.isEmpty, ⟨lcBadFormat, (odd.head?.map DirEntry.idx).getD 0, 0x84 + 0x40 * (odd.head?.map DirEntry.idx).getD 0⟩),
    (!unused.isEmpty, f lcBadFormat (unused.headD 0)),
    (decide ((if full then 0x600000 else 0x10000) < total) || decide (limit < total), f lcTooLarge 8),
    (!(g 0x0E 2 ∈ [0x9008, 0x9040, 0x9080, 0x9160]), f lcWrongPart 0x0E),
    (key.isNone, f lcKeyId 0x18),
    (!s.sigOk (key.getD []) base se (total - 128), f lcSignature (total - 128)),
    (if full then decide (rb < stored) || decide (rb / 1024 < s.rfld R.SEC_IMG_RB 0 6) else rb != s.ldr.rb, f lcRollback 0x14),
    (!full && s.storeBytes (base + 0x20) 48 != digest, f lcBaseMismatch 0x20),
    (!full && decide (32 ≤ applied), f lcPatchLogFull 0x16),
    (!full && g 0x16 2 != applied + 1, f lcPatchSeq 0x16)]

/-- Two directory entries overlap. -/
def DirEntry.overlaps (a b : DirEntry) : Bool := decide (a.ofs < b.ofs + b.stored) && decide (b.ofs < a.ofs + a.stored)

/-- The plaintext of a section body, none where its GCM tag does not verify under the content key (R63). -/
def State.bodyOf (s : State) (base : Nat) (cek : Option (List Byte)) (e : DirEntry) : Option (List Byte) :=
  let x := s.storeBytes (base + e.ofs) e.stored
  if s.encrypted base then
    cek.bind fun k => gcmOpen k (s.storeBytes (base + s.signedEnd base - 256 + 8) 8 ++ leBytes 4 e.idx)
      (s.storeBytes (base + 0x80 + 0x40 * e.idx) 16) x
  else some x

/-- Steps 10–12 (Table 6, R599). -/
def State.bodyFail (s : State) (base : Nat) (full : Bool) : Option ImgFail :=
  let dir := s.dir base
  let enc := s.encrypted base
  let total := s.img base 8 4
  let se := s.signedEnd base
  let eh := se - 256
  let before (e : DirEntry) : List DirEntry := dir.filter fun d => decide (d.idx < e.idx)
  let entry (e : DirEntry) : List (Bool × ImgFail) :=
    let at_ := 0x80 + 0x40 * e.idx
    [(decide (sectInsts e.type ≤ e.inst) || (!full && !sectPartial e.type) || e.flags != 0 ||
        (before e).any (fun d => d.type == e.type && d.inst == e.inst), ⟨lcSectionType, e.idx, at_⟩),
      (e.len % 4 != 0 || e.stored != (if enc then e.len + 16 else e.len) || decide (e.ofs < se) ||
        decide (total - 128 < e.ofs + e.stored) || (before e).any (fun d => d.overlaps e), ⟨lcSectionRange, e.idx, at_ + 4⟩)]
  let motion (e : DirEntry) : Bool := e.type == 0x11
  let mixed := dir.filter fun e => motion e != (dir.head?.map motion).getD false
  let cek := s.contentKey (base + eh)
  let body (e : DirEntry) : List (Bool × ImgFail) :=
    let d := s.bodyOf base cek e
    [(d.isNone, ⟨lcDecrypt, e.idx, e.ofs⟩),
      (sha384 (d.getD []) != s.storeBytes (base + 0x90 + 0x40 * e.idx) 48 || !(s.poisonIn (base + e.ofs) e.stored).isEmpty,
        ⟨lcSectionHash, e.idx, e.ofs⟩)]
  firstFail ((dir.map entry).flatten ++
    [(full && !dir.any (fun e => e.type == 1), ⟨lcSectionType, 0xFF, 0x80⟩),
      (!full && !mixed.isEmpty, ⟨lcMixedKinds, (mixed.head?.map DirEntry.idx).getD 0,
        0x80 + 0x40 * (mixed.head?.map DirEntry.idx).getD 0⟩),
      (enc && cek.isNone, ⟨lcDecrypt, 0xFF, eh⟩)] ++
    (dir.map body).flatten)

/-- Step 13: the sections with their items, in directory order, or the first failure. -/
def State.readSects (s : State) (base : Nat) (cek : Option (List Byte)) : List DirEntry → ImgFail ⊕ List Sect
  | [] => .inr []
  | e :: r =>
    match readItems e.type e.inst (e.len / 4 + 1) e.ofs ((s.bodyOf base cek e).getD []) with
    | .inl f => .inl ⟨f.1, e.idx, f.2⟩
    | .inr items =>
      match s.readSects base cek r with
      | .inl f => .inl f
      | .inr l => .inr (⟨e.type, e.inst, items⟩ :: l)

/-- The lane map and the spares as an image leaves them (R62, R71): per logical lane its physical lane, 0xFF for none. -/
def State.mapAfter (s : State) (full : Bool) (l : List Sect) : List Nat × List Nat :=
  let items := ((l.filter fun q => q.type == 2).map Sect.items).flatten
  let hasMap := l.any fun q => q.type == 2
  let tile (p : Nat) : Bool := l.any fun q => q.type == 0x10 && q.inst == p / 8
  let old (n : Nat) : Nat :=
    if !full then s.rfld (R.LDR_MAP (n / 4)) (8 * (n % 4)) 8
    else if hasMap then 0xFF
    else if tile n then n else 0xFF
  let m := (List.range 160).map fun n => ((stagedMap l n).map (·.1)).getD (old n)
  let decl := items.filterMap fun i => match i with
    | .spare p => some p
    | _ => none
  let keep := if full then [] else (List.range 160).filter fun p => s.isSpare p && !m.contains p
  (m, (List.range 160).filter fun p => keep.contains p || decl.contains p)

/-- A list holds some element twice. -/
def hasDup : List Nat → Bool
  | [] => false
  | a :: r => r.contains a || hasDup r

/-- Step 14 (R69). -/
def State.mapOk (s : State) (full : Bool) (l : List Sect) : Bool :=
  let ms := s.mapAfter full l
  let used := ms.1.filter fun p => p != 0xFF
  let inForce := if full then l else s.ldr.inForce ++ l
  let tile (p : Nat) : Bool := inForce.any fun q => q.type == 0x10 && q.inst == p / 8
  !hasDup used && !(ms.2.any fun p => used.contains p) && (used ++ ms.2).all tile

/-- The whole verification order (R68): the sections of the image, or its first failure. -/
def State.verify (s : State) (base limit : Nat) (full : Bool) : ImgFail ⊕ List Sect :=
  match s.headFail base limit full with
  | some f => .inl f
  | none =>
    match s.bodyFail base full with
    | some f => .inl f
    | none =>
      match s.readSects base (s.contentKey (base + s.signedEnd base - 256)) (s.dir base) with
      | .inl f => .inl f
      | .inr l =>
        if s.mapOk full l then .inr l
        else
          let e := (s.dir base).find? fun d => d.type == 2
          .inl ⟨lcLaneMap, (e.map DirEntry.idx).getD 0xFF, (e.map DirEntry.ofs).getD 0⟩

/-- The digest of firmware: SHA-384 over its signed region, the header and the encryption header where there is one (15 R597). -/
def State.fwImgDigest (s : State) (base : Nat) : List Byte :=
  sha384 (s.storeBytes base (if s.img base 6 1 % 2 = 1 then 0x200 else 0x100))

/-- Firmware passes verification (15 R597): none, or the loader code of the first failure. -/
def State.fwFail (s : State) (base : Nat) : Option Nat :=
  let g := s.img base
  let total := g 8 4
  let enc := g 6 1 % 2 == 1
  let se := if enc then 0x200 else 0x100
  let rb := g 0x10 2
  let ofs := g 0x14 4
  let n := total - 128 - ofs
  let key := s.storeBytes (base + 0x50) 97
  let x := s.storeBytes (base + ofs) n
  let body := if enc then
      (s.contentKey (base + 0x100)).bind fun k =>
        gcmOpen k (s.storeBytes (base + 0x108) 8 ++ List.replicate 4 0xFF) (s.storeBytes base 16) x
    else some x
  (firstFail [
    (g 0 4 != 0x4D574647, ⟨lcBadMagic, 0xFF, 0⟩),
    (g 4 2 != 1 || decide (2 ≤ g 6 1) || total % 64 != 0 || decide (total < se + 128) || decide (0x400000 < total) ||
      ofs % 64 != 0 || decide (ofs < se) || decide (total - 128 < ofs) || decide (3 < g 7 1), ⟨lcBadFormat, 0xFF, 4⟩),
    (s.sec.grnRevoked.getLsbD (g 7 1), ⟨lcKeyId, 0xFF, 7⟩),
    (sha384 key != s.sec.grnHash.getD (g 7 1) [], ⟨lcKeyId, 0xFF, 0x50⟩),
    (!s.sigOk key base se (total - 128), ⟨lcSignature, 0xFF, total - 128⟩),
    (decide (rb < s.rfld R.SEC_FW_RB 16 16) || decide (rb / 1024 < s.rfld R.SEC_FW_RB 0 6), ⟨lcRollback, 0xFF, 0x10⟩),
    (body.isNone, ⟨lcDecrypt, 0xFF, 0x100⟩),
    (sha384 (body.getD []) != s.storeBytes (base + 0x20) 48 || !(s.poisonIn (base + ofs) n).isEmpty, ⟨lcSectionHash, 0xFF, ofs⟩)]).map
    ImgFail.code

end Sys2Proof.Machine
end

