-- ==== Sys2Proof/Machine/Mss.lean ====
section
/-!
DEFINITION. The management subsystem (16_management_and_recorder.md, R626–R640): restarts, temperature points, scrub and memory
errors, and powered hours.
-/
namespace Sys2Proof.Machine

/-- The causes of MSS_STAT.CAUSE (Table 11). -/
abbrev mcLockstep : Nat := 1
abbrev mcActivate : Nat := 2
abbrev mcRevert : Nat := 3
abbrev mcDebug : Nat := 4
abbrev mcHost : Nat := 5
abbrev mcWatchdog : Nat := 6

/-- Management beside its registers takes a new value. -/
def State.updMgt (s : State) (f : MgtSt → MgtSt) : State := { s with mgt := f s.mgt }

/-- The slots of a target (0 images, 2 firmware): their numbers in SEC_UPD_STAT. -/
def slotsOf (target : Nat) : List Nat := if target = 2 then [2, 3] else [0, 1]
def otherSlot (k : Nat) : Nat := if k % 2 = 0 then k + 1 else k - 1

/-- The window address of a slot. -/
def slotBase (k : Nat) : Nat := if k < 2 then 0x10000000 + k * 0x800000 else 0x11000000 + (k - 2) * 0x400000

/-- The slot of a target that is in a state of Table 10. -/
def State.slotIn (s : State) (target st : Nat) : Option Nat := (slotsOf target).find? fun k => s.slot k == st

/-- Firmware slot `k` (2 A, 3 B) runs from now on. -/
def State.runFw (s : State) (k : Nat) : State :=
  (s.updSec fun q => { q with fwSlot := k - 2 }).setReg R.SEC_FW_VERSION (wordN (s.img (slotBase k) 0x0C 4))

/-- The boot ROM runs the first firmware slot of a list that verifies; a slot that fails becomes INVALID (15 R597, R624). Without one the
MSS stays in recovery (15 R598). -/
def State.bootFw (s : State) (cause : Nat) (hits : List EccHit) : List Nat → State
  | [] => s.setReg R.MSS_STAT (wordN (cause * 256 + 2))
  | k :: r =>
    let t := s.devRead hits (slotBase k) (min (s.img (slotBase k) 8 4) 0x400000)
    match t.fwFail (slotBase k) with
    | some _ => (t.setSlot k 1).bootFw cause hits r
    | none =>
      let u := t.runFw k
      ({ u with sec := { u.sec with fwDigest := Tab.set (fun _ => []) u.sec.fwDigest (k - 2) (t.fwImgDigest (slotBase k)) } }).setReg
        R.MSS_STAT (wordN (cause * 256 + 1))

/-- The firmware slots that the boot ROM may run, in its order: the one that runs, then ACTIVE before FALLBACK (15 R596, R624). -/
def State.fwOrder (s : State) : List Nat :=
  let run := s.sec.fwSlot + 2
  let l := (slotsOf 2).filter (fun k => s.slot k == 4) ++ (slotsOf 2).filter (fun k => s.slot k == 5)
  if 3 ≤ s.slot run ∧ s.slot run ≤ 5 then run :: l.filter fun k => k != run else l

/-- The MSS restarts with a cause, after the boot ROM has verified the firmware that runs (R626, R627, R454, 02 R87). -/
def State.mssRestart (s : State) (cause : Nat) (hits : List EccHit) : State :=
  (((s.count R.MSS_RESTART_CNT 1).event R.STORE_IRQ_STAT sqRestart).noFix).ldrMssLost.bootFw cause hits s.fwOrder

/-- MSS_LOCKSTEP (R626): the lockstep comparator has found a mismatch. `e` holds what the boot ROM's reads of the slots meet. -/
def execMssLockstep (e : Seen (List EccHit)) (s : State) : Host.Outcome State Fault Refusal :=
  .next ((s.begin e.el).onIsland 36 fun t => (t.fault srcMssLockstep 0 0).mssRestart mcLockstep e.val)

/-- MSS_WATCHDOG (R627). -/
def execMssWatchdog (e : Seen (List EccHit)) (s : State) : Host.Outcome State Fault Refusal :=
  .next ((s.begin e.el).onIsland 36 fun t => t.mssRestart mcWatchdog e.val)

/-- The counters of the management block (R655). -/
def mssCounters : List Nat :=
  [R.MSS_RESTART_CNT, R.SRAM_CE_CNT, R.SRAM_UE_CNT, R.STORE_CE_CNT, R.STORE_UE_CNT, R.SRAM_SCRUB_PASSES,
    R.STORE_SCRUB_PASSES, R.SCRUB_LATE_CNT]

/-- What a write of MSS_CMD does: bit 1 RESTART (R627), bit 0 CNT_CLEAR (R655). -/
def mssCmd (w : Word) (s : State) : State :=
  (s.when (w.getLsbD 1) fun t => t.onIsland 36 fun u => u.mssRestart mcHost []).when (w.getLsbD 0) fun t =>
    t.clearRegs mssCounters

/-- MSS_RESTART (R627). -/
def execMssRestart (el : Nat) (p : Port) (s : State) : Host.Outcome State Fault Refusal :=
  .next ((s.begin el).writeCmd p R.MSS_CMD 2 mssCmd)

/-- MSS_CNT_CLEAR (R655). -/
def execMssCntClear (el : Nat) (p : Port) (s : State) : Host.Outcome State Fault Refusal :=
  .next ((s.begin el).writeCmd p R.MSS_CMD 1 mssCmd)

/-- The register that shows a temperature point's sensor, and its island (Table 2). -/
def tempReg (p : Nat) : Nat :=
  if p < 20 then R.TILE_TEMP p
  else if p = 20 then R.MOT_TEMP 0
  else if p = 21 then R.MOT_TEMP 1
  else R.SW_CL_TEMP (p - 22)
def tempIsland (p : Nat) : Nat := if p < 22 then p else p + 1

/-- A temperature point takes a reading (R629). -/
def State.tempRead (s : State) (p : Nat) (x : BitVec 16) : State :=
  (s.setFld (tempReg p) 0 16 x.toNat).setFld (R.MGT_TEMP0 p) 0 16 x.toNat

/-- TEMP_POLL (R629): every 10 ms of DT the MSS, while it runs, reads the points whose islands are up, 0.125 °C; the recorder takes
every point as it is published (Table 9). -/
def execTempPoll (el : Nat) (temps : List (BitVec 16)) (s : State) : Host.Outcome State Fault Refusal :=
  .next ((s.begin el).onIsland 37 fun t =>
    if t.dt % 10000000 ≠ 0 then t
    else forN (fun p u =>
      let v := u.when (t.mssReady && t.up 36 && t.ungated 36 && u.up (tempIsland p)) fun w => w.tempRead p (temps.getD p 0)
      v.recAdd 4 (p / 12) p (v.rsfld (R.MGT_TEMP0 p) 0 16)) 28 t)

/-! Scrub of the store (R634–R637). -/

/-- A background request has waited `n` cycles (R634). -/
def State.bgWait (s : State) (n : Nat) : State := s.setFld R.BG_WAIT_MAX 0 7 (max (s.rfld R.BG_WAIT_MAX 0 7) (min n 63))

/-- STORE_SCRUB_READ (R634, R636, R637): the scrub reads the next store word; `e` holds the cycles that the request has waited. -/
def execStoreScrubRead (e : Seen Nat) (err : Ecc) (s : State) : Host.Outcome State Fault Refusal :=
  .next ((s.begin e.el).onIsland 37 fun t0 =>
    let t := t0.bgWait e.val
    let pos := t.rfld R.STORE_SCRUB_POS 0 24
    let u := match err with
      | .good => t.setPoison pos false
      | .corrected => ((t.setPoison pos false).count R.STORE_CE_CNT 1).event R.STORE_IRQ_STAT sqStoreCe
      | .uncorrectable => (t.setPoison pos true).storeUe pos
    let v := u.setFld R.STORE_SCRUB_POS 0 24 (pos + 1)
    v.when (pos + 1 == 2 ^ 24) fun w =>
      (w.updMgt fun g => { g with storeAt := w.now, storeLate := false }).count R.STORE_SCRUB_PASSES 1)

/-- SCRUB_LATE (R635): a pass of the SRAM, or of the store, has exceeded 1 s, or 24 h. It is counted once for each pass. -/
def execScrubLate (el : Nat) (store : Bool) (s : State) : Host.Outcome State Fault Refusal :=
  .next ((s.begin el).onIsland 37 fun t =>
    let late := if store then !t.mgt.storeLate && decide (t.mgt.storeAt + 86400000000000 < t.now)
      else !t.mgt.sramLate && decide (t.mgt.sramAt + 1000000000 < t.now)
    if late then
      ((t.updMgt fun g => if store then { g with storeLate := true } else { g with sramLate := true }).count
        R.SCRUB_LATE_CNT 1).event R.STORE_IRQ_STAT sqScrubLate
    else t)

/-- POWERED_HOUR (R640): a whole powered hour has passed. -/
def execPoweredHour (el : Nat) (s : State) : Host.Outcome State Fault Refusal :=
  .next ((s.begin el).onIsland 37 fun t =>
    if t.mgt.hourAt + 3600000000000 ≤ t.now then
      (t.updMgt fun g => { g with hourAt := g.hourAt + 3600000000000 }).count R.PWR_HOURS 1
    else t)

end Sys2Proof.Machine
end

