-- ==== Sys2Proof/Machine/Session.lean ====
section
/-!
DEFINITION. Sessions, key slots, tamper and zeroization (15_security_and_update.md, R600, R605–R611, R615–R617). What the engine's
random source yields comes with the command.
-/
namespace Sys2Proof.Machine

/-- Bits of SEC_IRQ_STAT and SEC_STAT (Table 14). -/
abbrev siRefused : Nat := 0
abbrev siSession : Nat := 1
abbrev siDone : Nat := 2
abbrev siRevert : Nat := 3
abbrev siTamper : Nat := 4
abbrev siOtp : Nat := 5
abbrev siDebug : Nat := 6
abbrev stOwned : Nat := 3
abbrev stBad : Nat := 4
abbrev stPrev : Nat := 5
abbrev stIdLost : Nat := 6
abbrev stBkLost : Nat := 7

/-- The ports that hold sessions, in the bits of SEC_SESS_STAT. -/
abbrev ssEth0 : Nat := 0
abbrev ssEth1 : Nat := 1
abbrev ssUsb : Nat := 2

/-- The session on a port closes (R611, R616): its bits of SEC_SESS_STAT clear. -/
def State.closeSession (s : State) (k : Nat) : State :=
  let s1 := (s.setBit R.SEC_SESS_STAT k false).setBit R.SEC_SESS_STAT (8 + k) false
  let s2 := s1.when (k == ssEth1) fun t => t.setBit R.SEC_SESS_STAT 16 false
  s2.when (k == ssUsb) fun t => t.updSec fun q => { q with usbOpen := false }

/-- The secure associations of an Ethernet port are deleted. -/
def State.dropSas (s : State) (e : EthPort) : State :=
  (s.setEth e { s.eth e with rx := none, rxNext := none, rxOld := none, tx := none, txNext := none }).setBit
    (R.ETH_STAT (ethNum e)) 29 false

/-! Tamper (R615–R617). -/

/-- ZEROIZE_SLOTS (R616): the backup key is erased, so that every slot is empty, every SA is deleted and every session is
closed. -/
def State.zeroizeSlots (s : State) : State :=
  let s1 := ((((s.updSec fun q => { q with keys := [], hands := [], keks := [] }).setReg R.SEC_KEY_STAT 0).setReg
    R.SEC_KEY_USE 0).notePicks s).putRec
  (((((s1.dropSas .eth0).dropSas .eth1).closeSession ssEth0).closeSession ssEth1).closeSession ssUsb)

/-- ZEROIZE_ALL (R616): the identity and transport private keys are erased as well, for life. -/
def State.zeroizeAll (s : State) : State :=
  ((s.zeroizeSlots.updSec fun q => { q with idLost := true, idKey := 0, tpKey := 0 }).setBit R.SEC_STAT stIdLost true).putRec

/-- The response that SEC_TAMPER_CFG gives a sensor is carried out. -/
def State.tamperResponse (s : State) (k : Nat) : State :=
  match s.rfld R.SEC_TAMPER_CFG (2 * k) 2 with
  | 0 => s
  | 1 => s.zeroizeSlots
  | _ => s.zeroizeAll

/-- A detection is reported: SEC_TAMPER_CNT, the event and source TAMPER (R616). -/
def State.tamperReport (s : State) (k : Nat) : State :=
  (((s.count R.SEC_TAMPER_CNT 1).putRec.event R.SEC_IRQ_STAT siTamper).updSec fun q => { q with tampered := true }).fault srcTamper
    k 0

/-- TAMPER_DETECT (R616): sensor `k` detects. While the device is held in reset the backup domain latches it and carries the
response out at once; the report follows at the next boot. Sensor 4 works from the main supply alone. -/
def execTamperDetect (el : Nat) (k : Fin 5) (s : State) : Host.Outcome State Fault Refusal :=
  let t := s.begin el
  .next (
    if t.clk.inReset then
      if k.val = 4 then t
      else
        (((t.event R.SEC_TAMPER_EVT k).updSec fun q => { q with latched := q.latched ||| BitVec.twoPow 5 k }).tamperResponse k)
    else ((t.event R.SEC_TAMPER_EVT k).tamperReport k).tamperResponse k)

/-- What a write of SEC_TAMPER_CFG does (R615): a field written lower keeps its value. Storing raises only; the refusal is
shown. -/
def State.tamperWritten (s : State) (old v : Word) : State :=
  (s.when ((List.range 5).any fun k => decide (fld v (2 * k) 2 < fld old (2 * k) 2)) fun t =>
    t.event R.SEC_IRQ_STAT siRefused).putRec

/-! Sessions (R605–R611). -/

/-- The Ethernet port of a session port. -/
def sessEth (k : Nat) : Option EthPort := if k = 0 then some .eth0 else if k = 1 then some .eth1 else none

/-- A handshake of a port. -/
def State.hand (s : State) (k : Nat) : Option Hand := Tab.get (fun _ => none) s.sec.hands k
def State.setHand (s : State) (k : Nat) (h : Option Hand) : State :=
  s.updSec fun q => { q with hands := Tab.set (fun _ => none) q.hands k h }

/-- A field padded with 0x00 to a multiple of 4 bytes (Table 7). -/
def pad4 (l : List Byte) : List Byte := l ++ List.replicate ((4 - l.length % 4) % 4) 0

/-- A session message of the device: SUBTYPE, VERSION, MSG and SID, then its fields (Table 7). -/
def sessMessage (msg sid : Nat) (body : List Byte) : List Byte :=
  leBytes 2 0x5A40 ++ leBytes 1 1 ++ leBytes 1 msg ++ leBytes 4 sid ++ body

/-- A session message goes out: on Ethernet as a frame outside MACsec; on USB it waits for SESSION_IN. -/
def State.sessSend (s : State) (k : Nat) (dst : BitVec 48) (m : List Byte) : State :=
  match sessEth k with
  | some e =>
    if s.ethUp e then s.ethGive e ⟨false, dst.extractLsb' 0 32, wordN (dst.extractLsb' 32 16).toNat, 0x5A40, m⟩ else s
  | none => s.updSec fun q => { q with usbOut := m }

/-- The codes of ABORT (Table 7). -/
abbrev abFormat : Nat := 1
abbrev abCert : Nat := 2
abbrev abSignature : Nat := 3
abbrev abTimeout : Nat := 4
abbrev abMssBusy : Nat := 5
abbrev abNoOwner : Nat := 6
abbrev abIdLost : Nat := 7

/-- A handshake ends with ABORT. -/
def State.sessAbort (s : State) (k : Nat) (dst : BitVec 48) (sid code : Nat) : State :=
  ((s.setHand k none).sessSend k dst (sessMessage 0x0F sid (pad4 (leBytes 1 code)))).event R.SEC_IRQ_STAT siSession

/-- The same, counted as a failure (R606). -/
def State.sessFail (s : State) (k : Nat) (dst : BitVec 48) (sid code : Nat) : State :=
  (s.sessAbort k dst sid code).count R.SEC_SESS_FAIL 1

/-- The security services of the MSS run: the device is up and its firmware has reported ready. -/
def State.secReady (s : State) : Bool := s.works 37 && s.mssReady

/-- A number below the order of the curve's group, and not 0, from random bytes. -/
def randScalar (l : List Byte) : Nat := 1 + beNat l % (n384 - 1)

/-- The REPLY to a HELLO on session port `k` (R605, Table 7): N_D, EPH_D, ID_PUB and the signature by the identity key, from what the
engine's random source yields: N_D, then the ephemeral private key, then the signature's secret number; and the shared point's
x-coordinate, none where EPH_P is no point. -/
def State.sessReply (s : State) (k : Nat) (m rnd : List Byte) : Option (List Byte × List Byte) :=
  let nd := fit 32 rnd
  let d := randScalar (fit 48 (rnd.drop 32))
  let eph := pubKey d
  let sig := ecdsaSign s.sec.idKey (randScalar (fit 48 (rnd.drop 80))) (sha384 (m ++ nd ++ eph ++ leBytes 1 k))
  (ecdh d ((m.drop 44).take 97)).map fun z =>
    (sessMessage 2 (leAt m 4 4) (nd ++ pad4 eph ++ pad4 (pubKey s.sec.idKey) ++ sig), z)

/-- HELLO (R605, R608): the device answers REPLY. An EPH_P that is no point of the curve is answered as a message of wrong format. -/
def State.hello (s : State) (k : Nat) (src : BitVec 48) (m rnd : List Byte) : State :=
  let sid := leAt m 4 4
  if !s.secReady then s.sessAbort k src sid abMssBusy
  else if m.length ≠ 144 ∨ leAt m 2 1 ≠ 1 then s.sessAbort k src sid abFormat
  else if s.sec.idLost then s.sessAbort k src sid abIdLost
  else match s.sessReply k m rnd with
    | none => s.sessAbort k src sid abFormat
    | some (r, z) => (s.setHand k (some ⟨sid, s.now, src, m, r, z, none⟩)).sessSend k src r

/-- A peer certificate verifies under a key: its SIGNER_ID names the key, and the key signs bytes 0x00–0x87 (Table 6). -/
def certOk (c key : List Byte) : Bool :=
  (c.drop 0x80).take 8 == keyId key && ecdsaOk key (sha384 (c.take 0x88)) ((c.drop 0x88).take 48) ((c.drop 0xB8).take 48)

/-- The peer's signature in a FINISH verifies under the key of its certificate: over the HELLO followed by the REPLY (R605). -/
def Hand.peerOk (h : Hand) (m : List Byte) : Bool :=
  ecdsaOk ((m.drop (8 + 0x18)).take 97) (sha384 (h.hello ++ h.reply)) ((m.drop 264).take 48) ((m.drop 312).take 48)

/-- The 120 bytes that a session derives (R609): the SAKs and the salts from and to the peer, and the KEK. -/
structure SessKeys where
  rx : List Byte
  tx : List Byte
  rxSalt : List Byte
  txSalt : List Byte
  kek : List Byte
  deriving DecidableEq, Repr

def Hand.keys (h : Hand) (k : Nat) : SessKeys :=
  let o := hkdf ((h.hello.drop 12).take 32 ++ (h.reply.drop 8).take 32) h.z
    (ascii "TL9160 SAK" ++ leBytes 1 k ++ leBytes 4 h.sid) 120
  ⟨o.take 32, (o.drop 32).take 32, (o.drop 64).take 12, (o.drop 76).take 12, o.drop 88⟩

/-- The lowest association number that none of a list of associations uses. -/
def freeAn (l : List Nat) : Nat := ((List.range 4).find? fun n => !l.contains n).getD 0

/-- The associations of a completed session are installed (R609, R610): the numbers of the receive and the transmit SA. The peer's
SSCI is 1 and the device's is 2. -/
def State.installSas (s : State) (e : EthPort) (q : SessKeys) : Nat × Nat × State :=
  let h := s.eth e
  let anRx := freeAn ([h.rx, h.rxOld.map (·.1)].filterMap fun a => a.map Sa.an)
  let anTx := freeAn ([h.tx].filterMap fun a => a.map Sa.an)
  let rx : Sa := ⟨anRx, 0, q.rx, q.rxSalt, 1⟩
  let tx : Sa := ⟨anTx, 0, q.tx, q.txSalt, 2⟩
  let h1 := if h.rx.isNone then { h with rx := some rx, rxNext := none, tx := some tx, txNext := none }
    else { h with rxNext := some rx, txNext := some tx }
  let t := (s.setEth e h1).setBit (R.ETH_STAT (ethNum e)) 29 true
  (anRx, anTx, t.when h.rx.isNone fun u => u.setBit (R.ETH_STAT (ethNum e)) 28 false)

/-- A session reaches DONE on a port (R606, R607, R609–R611). -/
def State.sessDone (s : State) (k : Nat) (h : Hand) (untimed enrol : Bool) : State :=
  let q := h.keys k
  let s1 := ((((s.setHand k none).setBit R.SEC_SESS_STAT k true).setBit R.SEC_SESS_STAT (8 + k) untimed).event
    R.SEC_IRQ_STAT siSession).updSec fun c => { c with keks := Tab.set (fun _ => []) c.keks k q.kek }
  let s2 := s1.when (k == ssEth1) fun t => t.setBit R.SEC_SESS_STAT 16 enrol
  match sessEth k with
  | some e =>
    let r := s2.installSas e q
    r.2.2.sessSend k h.src (sessMessage 4 h.sid (pad4 (leBytes 1 r.1) ++ pad4 (leBytes 1 r.2.1)))
  | none =>
    (s2.updSec fun c => { c with usbOpen := true, blkAt := s.now }).sessSend k h.src
      (sessMessage 4 h.sid (pad4 (leBytes 1 0) ++ pad4 (leBytes 1 0)))

/-- A FINISH is checked (R606, R607). -/
def State.sessCheck (s : State) (k : Nat) (h : Hand) (m : List Byte) : State :=
  let sid := leAt m 4 4
  let c := (m.drop 8).take 256
  let role := leAt c 4 1
  let ports := leAt c 5 1
  let portOk := ports / 2 ^ k % 2 == 1
  let aligned := s.rbit R.DT_STAT 5
  let inTime := decide (leAt c 8 8 ≤ s.dt ∧ s.dt ≤ leAt c 0x10 8)
  if m.length ≠ 360 ∨ h.sid ≠ sid ∨ leAt m 2 1 ≠ 1 ∨ leAt c 0 4 ≠ 0x43455047 then s.sessFail k h.src sid abFormat
  else if !s.owned then
    if k ≠ ssEth1 then s.sessFail k h.src sid abNoOwner
    else if role ≠ 2 ∨ !portOk ∨ !certOk c ((c.drop 0x18).take 97) then s.sessFail k h.src sid abCert
    else if !h.peerOk m then s.sessFail k h.src sid abSignature
    else s.sessDone k h false true
  else if !s.ownerKeys.any (certOk c) ∨ role ≠ k + 1 ∨ !portOk ∨ (aligned && !inTime) then s.sessFail k h.src sid abCert
  else if !h.peerOk m then s.sessFail k h.src sid abSignature
  else s.sessDone k h (!aligned) false

/-- FINISH (R606–R608). While the MSS restarts it waits for it (16 R628). -/
def State.sessFinish (s : State) (k : Nat) (src : BitVec 48) (m : List Byte) : State :=
  match s.hand k with
  | none => s.sessAbort k src (leAt m 4 4) abFormat
  | some h =>
    let h1 : Hand := { h with src := src }
    if s.secReady then s.sessCheck k h1 m else s.setHand k (some { h1 with fin := some m })

/-- The MSS is ready again: a FINISH that waits is checked (16 R628). -/
def State.sessResume (s : State) : State :=
  forN (fun k t => match t.hand k with
    | some h => match h.fin with
      | some m => t.sessCheck k h m
      | none => t
    | none => t) 3 s

/-- A session message that a port delivers: HELLO, FINISH, or ABORT; any other is answered with ABORT FORMAT. -/
def State.sessMsg (s : State) (k : Nat) (src : BitVec 48) (m rnd : List Byte) : State :=
  let msg := leAt m 3 1
  if msg = 1 then s.hello k src m rnd
  else if msg = 3 then s.sessFinish k src m
  else if msg = 0x0F then s.when (s.hand k).isSome fun t => (t.setHand k none).event R.SEC_IRQ_STAT siSession
  else s.sessAbort k src (leAt m 4 4) abFormat

/-- A session frame on an Ethernet port; the frame first passes the MAC (13 R522). -/
def State.sessFrame (s : State) (e : EthPort) (f : RxFrame) (rnd : List Byte) : State :=
  match s.macRx e f with
  | (some m, t) => if subtypeOf m = 0x5A40 ∧ t.works 37 then t.sessMsg (ethNum e) f.src m rnd else t
  | (none, t) => t

/-- SESSION_HELLO (R605, R608): `rnd` is what the engine's random source yields. -/
def execSessionHello (el : Nat) (e : EthPort) (f : RxFrame) (rnd : List Byte) (s : State) : Host.Outcome State Fault Refusal :=
  .next ((s.begin el).sessFrame e f rnd)

/-- SESSION_FINISH (R606, R607). -/
def execSessionFinish (el : Nat) (e : EthPort) (fcsOk : Bool) (len : Nat) (dst src : BitVec 48) (f : FrameBody) (s : State) :
    Host.Outcome State Fault Refusal :=
  .next ((s.begin el).sessFrame e ⟨fcsOk, len, dst, src, f.vlan, f.etherType, f.body⟩ [])

/-- SESSION_TIMEOUT (R608): the next message of a handshake has not come within 1 s. -/
def execSessionTimeout (el : Nat) (k : Fin 3) (s : State) : Host.Outcome State Fault Refusal :=
  .next ((s.begin el).onIsland 37 fun t =>
    match t.hand k with
    | some h => if h.at_ + 1000000000 ≤ t.now ∧ h.fin.isNone then t.sessAbort k h.src h.sid abTimeout else t
    | none => t)

/-- OLD_SA_DELETE (R610): 1 s after the switch. -/
def execOldSaDelete (el : Nat) (e : EthPort) (s : State) : Host.Outcome State Fault Refusal :=
  .next ((s.begin el).onIsland 34 fun t =>
    match (t.eth e).rxOld with
    | some (_, d) => if d ≤ t.now then t.setEth e { t.eth e with rxOld := none } else t
    | none => t)

/-- SERVICE_SESSION_TIMEOUT (R611): 900 s without a command block. -/
def execServiceSessionTimeout (el : Nat) (s : State) : Host.Outcome State Fault Refusal :=
  .next ((s.begin el).onIsland 37 fun t =>
    if t.sec.usbOpen ∧ t.sec.blkAt + 900000000000 ≤ t.now then t.closeSession ssUsb else t)

end Sys2Proof.Machine
end

