-- ==== Sys2Proof/Machine/Switches.lean ====
section
/-!
DEFINITION. Protected load switches (10_load_switches.md, R398–R431): switching, inrush windows and limits, trips, tries
and latches, heat, diagnostics, supply events and fail-safe lines. Channel h lies in cluster h / 4 (R398). Currents,
voltages and temperatures are what the block measures; they come with the command.
-/
namespace Sys2Proof.Machine

/-- Bits of SW_CH_STAT, SW_CH_EVENT and SW_IRQ_STAT (Table 8). -/
abbrev hsFailsafe : Nat := 31
abbrev hsOutOn : Nat := 30
abbrev hsInrush : Nat := 29
abbrev hsLimit : Nat := 28
abbrev hsPause : Nat := 27
abbrev hsRetryLatched : Nat := 26
abbrev hsThLatched : Nat := 25
abbrev hsHot : Nat := 24
abbrev hsOpenOn : Nat := 23
abbrev hsOpenOff : Nat := 22
abbrev heFailsafe : Nat := 10
abbrev heCmdRefused : Nat := 9
abbrev heShortVbat : Nat := 8
abbrev heStuckOn : Nat := 7
abbrev heOpenOff : Nat := 6
abbrev heOpenOn : Nat := 5
abbrev heThLatch : Nat := 4
abbrev heLatch : Nat := 3
abbrev heClTrip : Nat := 2
abbrev heChOt : Nat := 1
abbrev heOc : Nat := 0
abbrev siOvervolt : Nat := 11
abbrev siReverse : Nat := 10
abbrev siUv : Nat := 9
abbrev siGndLoss : Nat := 8

/-- The stored fail-safe states of a switch (14 Table 7; R425). -/
abbrev swSafeOff : Nat := 0
abbrev swSafeOn : Nat := 1

/-- The island of a switch channel (R398). -/
def swIsland (h : Nat) : Nat := 23 + h / 4

/-- A switch channel beside its registers. -/
def State.swch (s : State) (h : Nat) : SwChSt := Tab.get (fun _ => SwChSt.init) s.sw.chans h
def State.updSwch (s : State) (h : Nat) (f : SwChSt → SwChSt) : State :=
  { s with sw := { s.sw with chans := Tab.set (fun _ => SwChSt.init) s.sw.chans h (f (s.swch h)) } }

/-- A bit of SW_CH_STAT of a channel. -/
def State.chBit (s : State) (h i : Nat) : Bool := s.rbit (R.SW_CH_STAT h) i
def State.setChBit (s : State) (h i : Nat) (b : Bool) : State := s.setBit (R.SW_CH_STAT h) i b

/-- SW_STAT shows the output state of a channel (R401); it is held while the channel's cluster or cluster 0 is isolated
(R400). -/
def State.swShow (s : State) (h : Nat) (b : Bool) : State :=
  s.when (s.up (swIsland h) && s.up 23) fun t => t.setBit R.SW_STAT h b

/-- No channel may be on: undervoltage, reverse battery or loss of ground (R419–R421). -/
def State.swSupplyBad (s : State) : Bool := s.sw.uv || s.sw.rev || s.sys.gndLost

/-- The output turns on with a new inrush window (R402). -/
def State.swTurnOn (s : State) (h : Nat) : State :=
  let w := s.rfld (R.SW_CH_TIME h) 0 16 * 100000
  let s1 := ((s.setChBit h hsOutOn true).setChBit h hsOpenOff false).setChBit h hsInrush (w != 0)
  (s1.updSwch h fun c => { c with
    inrush := if w = 0 then none else some (s.now + w),
    winEnd := s.now + w, onAt := s.now, lim := none, stuck := false, short := false, isoOff := false }).swShow h true

/-- The output turns off. -/
def State.swTurnOff (s : State) (h : Nat) : State :=
  if s.chBit h hsOutOn then
    let s1 := (((s.setChBit h hsOutOn false).setChBit h hsInrush false).setChBit h hsLimit false).setChBit h
      hsOpenOn false
    (s1.updSwch h fun c => { c with inrush := none, lim := none, offAt := s.now }).swShow h false
  else s

/-- The conditions of R409 under which an off channel turns on. -/
def State.swMayStart (s : State) (h : Nat) : Bool :=
  s.rbit (R.SW_CH_CTRL h) 0 && !s.chBit h hsRetryLatched && !s.chBit h hsThLatched && !s.chBit h hsPause &&
    decide (s.rsfld (R.SW_CH_TEMP h) 0 16 < (s.rfld (R.SW_CH_TRST h) 0 16 : Int)) &&
    decide (s.safeOn (chSwitch h) ≠ some swSafeOff) && !s.swSupplyBad

/-- An off channel turns on where R409 permits it. -/
def State.swTryOn (s : State) (h : Nat) : State :=
  if !s.chBit h hsOutOn && s.swMayStart h then s.swTurnOn h else s

/-- A running pause ends. -/
def State.swEndPause (s : State) (h : Nat) : State :=
  (s.setChBit h hsPause false).updSwch h fun c => { c with pause := none }

/-- The causes of a trip (R405). -/
inductive Trip where
  | oc
  | ot
  | cl
  deriving DecidableEq, Repr

/-- The event bit, the fault source and the detail of a trip's cause (R405, 14 Table 3). -/
def Trip.event (c : Trip) : Nat :=
  match c with
  | .oc => heOc
  | .ot => heChOt
  | .cl => heClTrip
def Trip.source (c : Trip) : Nat :=
  match c with
  | .oc => srcSwitchOc
  | .ot => srcSwitchOt
  | .cl => srcClusterOt
def Trip.detail (c : Trip) : Word :=
  match c with
  | .cl => 1
  | _ => 0

/-- The length of the pause after try number `n`, ms (R407). -/
def State.swPauseMs (s : State) (h n : Nat) : Nat := min (s.rfld (R.SW_CH_RETRY h) 0 16 * 2 ^ (n - 1)) 60000

/-- A trip advances the tries: a latch at N, a pause below (R406–R408). -/
def State.swTry (s : State) (h : Nat) : State :=
  let n := min (s.rfld (R.SW_CH_STAT h) 0 4 + 1) 15
  let s1 := s.setFld (R.SW_CH_STAT h) 0 4 n
  if s.rfld (R.SW_CH_CFG h) 8 4 ≤ n then
    ((((s1.swEndPause h).setChBit h hsRetryLatched true).event (R.SW_CH_EVENT h) heLatch).count
      (R.SW_CH_LATCHES h) 1).fault srcSwitchLatched h 0
  else
    (s1.setChBit h hsPause true).updSwch h fun c => { c with pause := some (s.now + s.swPauseMs h n * 1000000) }

/-- A protective limit cuts a channel off (R405–R408). -/
def State.swTrip (s : State) (h : Nat) (c : Trip) : State :=
  let s1 := (((s.swTurnOff h).count (R.SW_CH_TRIPS h) 1).event (R.SW_CH_EVENT h) c.event).fault c.source h c.detail
  if c = .ot ∧ s.rbit (R.SW_CH_CFG h) 0 then
    ((s1.swEndPause h).setChBit h hsThLatched true).event (R.SW_CH_EVENT h) heThLatch
  else s1.swTry h

/-- A channel reads its sensor, 0.125 °C: SW_CH_TEMP and HOT (R413). -/
def State.swTemp (s : State) (h : Nat) (temp : BitVec 16) : State :=
  (s.setFld (R.SW_CH_TEMP h) 0 16 temp.toNat).setChBit h hsHot
    (decide ((s.rfld (R.SW_CH_TRST h) 0 16 : Int) ≤ temp.toInt))

/-- A channel enters limit outside its window: the timer starts and the entry is counted (R403); while the cluster is
over-temperature it trips at once (R415). -/
def State.swLimit (s : State) (h : Nat) : State :=
  let s1 := ((s.setChBit h hsLimit true).count (R.SW_CH_LIMIT_CNT h) 1).updSwch h fun c => { c with lim := some s.now }
  s1.when (s.rbit (R.SW_CL_STAT (h / 4)) 31) fun t => t.swTrip h .cl

/-- A channel measures its current (SW_CH_IMEAS), or OPEN_I has a new value: at OPEN_I or above there is no OPEN_ON (R417). -/
def State.swOpenNow (s : State) (h : Nat) : State :=
  s.when (decide (s.rfld (R.SW_CH_OPEN h) 0 16 ≤ s.rfld (R.SW_CH_IMEAS h) 0 16)) fun t => t.setChBit h hsOpenOn false
def State.swCurrent (s : State) (h : Nat) (i : Word) : State := (s.setReg (R.SW_CH_IMEAS h) i).swOpenNow h

/-- A channel measures V_OUT, mV: outside 2.0 V to 4.0 V there is no OPEN_OFF (R417). -/
def State.swVout (s : State) (h : Nat) (v : BitVec 16) : State :=
  (s.setFld (R.SW_CH_VOUT h) 0 16 v.toNat).when (decide (v.toInt < 2000 ∨ 4000 < v.toInt)) fun t => t.setChBit h hsOpenOff false

/-- What a write of SW_CH_CTRL does when ON held `was` before it (R401, R411, R427). -/
def State.swCtrlWritten (s : State) (h : Nat) (was : Bool) : State :=
  let on := s.rbit (R.SW_CH_CTRL h) 0
  if on == was then s
  else if (s.safeOn (chSwitch h)).isSome then (s.setBit (R.SW_CH_CTRL h) 0 was).event (R.SW_CH_EVENT h) heCmdRefused
  else if on then s.swTryOn h
  else s.swTurnOff h

/-- SW_CH_CFG of a channel has been written: without OFF_DIAG_EN there is no OPEN_OFF (R417). -/
def State.swCfgWritten (s : State) (h : Nat) : State :=
  s.when (!s.rbit (R.SW_CH_CFG h) 1) fun t => t.setChBit h hsOpenOff false

/-- SW_CH_TRST of a channel has been written: HOT compares with it, and R409 decides anew (R409, R413). -/
def State.swTrstWritten (s : State) (h : Nat) : State :=
  (s.setChBit h hsHot (decide ((s.rfld (R.SW_CH_TRST h) 0 16 : Int) ≤ s.rsfld (R.SW_CH_TEMP h) 0 16))).swTryOn h

/-- A write of SW_CH_CTRL through a port. -/
def State.swCtrlCmd (s : State) (p : Port) (h : Nat) (v : Word) : State :=
  s.writeCmd p (R.SW_CH_CTRL h) v fun _ t => t.swCtrlWritten h (s.rbit (R.SW_CH_CTRL h) 0)

/-- SWITCH_ON (R401, R411): ON is written 1. -/
def execSwitchOn (el : Nat) (p : Port) (h : Fin 24) (s : State) : Host.Outcome State Fault Refusal :=
  .next ((s.begin el).swCtrlCmd p h 1)

/-- SWITCH_OFF (R401): ON is written 0. -/
def execSwitchOff (el : Nat) (p : Port) (h : Fin 24) (s : State) : Host.Outcome State Fault Refusal :=
  .next ((s.begin el).swCtrlCmd p h 0)

/-- The limit at which a channel regulates, mA: I_INRUSH inside its window, I_LIM outside it (R403); at its nominal value (PRESUMED,
log 162). -/
def State.swLimitMa (s : State) (h : Nat) : Nat := s.rfld (R.SW_CH_ILIM h) (if s.chBit h hsInrush then 16 else 0) 16

/-- The load of a channel would draw `draw` mA, and the mean of its current over 100 ms is `mean`: the channel carries no more than its
limit, and SW_CH_IMEAS shows both (R403). -/
def State.swMeasure (s : State) (h draw : Nat) (mean : BitVec 16) : State :=
  s.swCurrent h
    (wordN (mean.toNat * 65536 + if s.chBit h hsOutOn then min draw (s.swLimitMa h) else 0))

/-- INRUSH_END (R403): the window closes while the load would draw `draw` mA. -/
def execInrushEnd (el : Nat) (h : Fin 24) (draw : Nat) (mean : BitVec 16) (s : State) : Host.Outcome State Fault Refusal :=
  .next ((s.begin el).onIsland (swIsland h) fun t =>
    match (t.swch h).inrush with
    | some e =>
      if e ≤ t.now then
        let u := ((t.setChBit h hsInrush false).setChBit h hsLimit false).updSwch h fun c => { c with inrush := none }
        (u.swMeasure h draw mean).when (decide (u.swLimitMa h < draw)) fun v => v.swLimit h
      else t
    | none => t)

/-- LIMIT_ENTER (R403, R415): the load of a channel comes to draw `draw` mA: the channel begins to regulate at its limit, or
regulates no longer. Inside its window only LIMIT shows it. -/
def execLimitEnter (el : Nat) (h : Fin 24) (draw : Nat) (mean : BitVec 16) (s : State) : Host.Outcome State Fault Refusal :=
  .next ((s.begin el).onIsland (swIsland h) fun t =>
    let u := t.swMeasure h draw mean
    if !u.chBit h hsOutOn then u
    else if draw ≤ u.swLimitMa h then (u.setChBit h hsLimit false).updSwch h fun c => { c with lim := none }
    else if u.chBit h hsLimit then u
    else if u.chBit h hsInrush then u.setChBit h hsLimit true
    else u.swLimit h)

/-- LIMIT_TIMEOUT (R403): the channel has been in limit outside its window for LIM_T. -/
def execLimitTimeout (el : Nat) (h : Fin 24) (s : State) : Host.Outcome State Fault Refusal :=
  .next ((s.begin el).onIsland (swIsland h) fun t =>
    match (t.swch h).lim with
    | some b => if b + t.rfld (R.SW_CH_TIME h) 16 16 * 10000 ≤ t.now then t.swTrip h .oc else t
    | none => t)

/-- A cut-off that works without the island clock: while the cluster is isolated, or its clock stands, the channel goes off and stays
off, and nothing else is recorded (R429). -/
def State.swHardTrip (s : State) (h : Nat) (c : Trip) : State :=
  if !s.chBit h hsOutOn then s
  else if s.up (swIsland h) && s.ungated (swIsland h) then s.swTrip h c
  else s.updSwch h fun q => { q with isoOff := true }

/-- FAST_TRIP (R404, R429): the current has exceeded the fast-trip threshold for 2 µs. -/
def execFastTrip (el : Nat) (h : Fin 24) (s : State) : Host.Outcome State Fault Refusal :=
  .next ((s.begin el).swHardTrip h .oc)

/-- CHANNEL_OT (R413, R406, R429): the channel's sensor, 0.125 °C, has reached T_SD. T_SD lies in 165–185 °C (Table 4); which value a
channel has, the command says. -/
def execChannelOt (el : Nat) (h : Fin 24) (temp : BitVec 16) (s : State) : Host.Outcome State Fault Refusal :=
  let t := s.begin el
  .next (if 1320 ≤ temp.toInt then
    (t.onIsland (swIsland h) fun u => u.swTemp h temp).swHardTrip h .ot
  else t)

/-- PAUSE_END (R407, R409): the pause has run out. -/
def execPauseEnd (el : Nat) (h : Fin 24) (s : State) : Host.Outcome State Fault Refusal :=
  .next ((s.begin el).onIsland (swIsland h) fun t =>
    match (t.swch h).pause with
    | some e => if e ≤ t.now then (t.swEndPause h).swTryOn h else t
    | none => t)

/-- CHANNEL_RESTART (R409): the channel turns on when every restart condition holds at this sensor reading. -/
def execChannelRestart (el : Nat) (h : Fin 24) (temp : BitVec 16) (s : State) : Host.Outcome State Fault Refusal :=
  .next ((s.begin el).onIsland (swIsland h) fun t => (t.swTemp h temp).swTryOn h)

/-- SWITCH_HOT_CHANGE (R413): the channel's sensor crosses T_RST; below it R409 decides whether the channel turns on. -/
def execSwitchHotChange (el : Nat) (h : Fin 24) (temp : BitVec 16) (s : State) : Host.Outcome State Fault Refusal :=
  .next ((s.begin el).onIsland (swIsland h) fun t => (t.swTemp h temp).swTryOn h)

/-- TRIES_CLEAR (R410): the channel has been on for CLR_T without a trip. -/
def execTriesClear (el : Nat) (h : Fin 24) (s : State) : Host.Outcome State Fault Refusal :=
  .next ((s.begin el).onIsland (swIsland h) fun t =>
    if t.chBit h hsOutOn ∧ (t.swch h).onAt + t.rfld (R.SW_CH_RETRY h) 16 16 * 1000000 ≤ t.now then
      t.setFld (R.SW_CH_STAT h) 0 4 0
    else t)

/-- What a write of SW_CH_CMD does (R412): bit 0 CLR_RETRY, bit 1 CLR_TH; then R409 decides. -/
def swChCmd (h : Nat) (w : Word) (s : State) : State :=
  let s1 := s.when (w.getLsbD 0) fun t =>
    ((t.setChBit h hsRetryLatched false).setFld (R.SW_CH_STAT h) 0 4 0).swEndPause h
  let s2 := s1.when (w.getLsbD 1) fun t =>
    if t.rsfld (R.SW_CH_TEMP h) 0 16 < (t.rfld (R.SW_CH_TRST h) 0 16 : Int) then t.setChBit h hsThLatched false
    else t.event (R.SW_CH_EVENT h) heCmdRefused
  s2.when (w.getLsbD 0 || w.getLsbD 1) fun t => t.swTryOn h

/-- CLR_RETRY (R412, R410). -/
def execClrRetry (el : Nat) (p : Port) (h : Fin 24) (s : State) : Host.Outcome State Fault Refusal :=
  .next ((s.begin el).writeCmd p (R.SW_CH_CMD h) 1 (swChCmd h))

/-- CLR_TH (R412), at a sensor reading. -/
def execClrTh (el : Nat) (p : Port) (h : Fin 24) (temp : BitVec 16) (s : State) : Host.Outcome State Fault Refusal :=
  .next (((s.begin el).onIsland (swIsland h) fun t => t.swTemp h temp).writeCmd p (R.SW_CH_CMD h) 2 (swChCmd h))

/-- The channels of a cluster. -/
def clChannels (k : Nat) : List Nat := (List.range 4).map fun j => 4 * k + j

/-- CLUSTER_OT (R414–R416): the cluster sensor, 0.125 °C, has reached T_OT; its channels in limit outside their windows
trip. -/
def execClusterOt (el : Nat) (k : Fin 6) (temp : BitVec 16) (s : State) : Host.Outcome State Fault Refusal :=
  .next ((s.begin el).onIsland (23 + k) fun t =>
    let u := t.setFld (R.SW_CL_TEMP k) 0 16 temp.toNat
    if (u.rfld (R.SW_CL_CFG k) 0 16 : Int) ≤ temp.toInt ∧ !u.rbit (R.SW_CL_STAT k) 31 then
      let v := (((u.setBit (R.SW_CL_STAT k) 31 true).event (R.SW_CL_EVENT k) 0).count (R.SW_CL_OT_CNT k) 1).fault
        srcClusterOt k 0
      forL (fun h w => if w.chBit h hsLimit && !w.chBit h hsInrush then w.swTrip h .cl else w) (clChannels k) v
    else u)

/-- CLUSTER_OT_CLEAR (R414): the cluster sensor reads below T_OT − 10 °C. -/
def execClusterOtClear (el : Nat) (k : Fin 6) (temp : BitVec 16) (s : State) : Host.Outcome State Fault Refusal :=
  .next ((s.begin el).onIsland (23 + k) fun t =>
    let u := t.setFld (R.SW_CL_TEMP k) 0 16 temp.toNat
    if temp.toInt < (u.rfld (R.SW_CL_CFG k) 0 16 : Int) - 80 then u.setBit (R.SW_CL_STAT k) 31 false else u)

/-- SWITCH_OPEN_ON (R417): the current `i` (SW_CH_IMEAS; present value below) has been below OPEN_I for OPEN_T outside the
window; a current of OPEN_I or more ends the condition. -/
def execSwitchOpenOn (el : Nat) (h : Fin 24) (i : Word) (s : State) : Host.Outcome State Fault Refusal :=
  .next ((s.begin el).onIsland (swIsland h) fun t =>
    let u := t.swCurrent h i
    let cfg := u.reg (R.SW_CH_OPEN h)
    if decide (fld i 0 16 < fld cfg 0 16) && u.chBit h hsOutOn && !u.chBit h hsInrush && !u.chBit h hsOpenOn &&
        decide ((u.swch h).winEnd + fld cfg 16 16 * 1000000 ≤ u.now) then
      (((u.setChBit h hsOpenOn true).event (R.SW_CH_EVENT h) heOpenOn).count (R.SW_CH_OPEN_CNT h) 1).fault
        srcSwitchOpen h 0
    else u)

/-- SWITCH_OPEN_OFF (R417, R418): V_OUT, mV, has been between 2.0 V and 4.0 V for 10 ms on an off channel; a V_OUT outside
ends the condition. -/
def execSwitchOpenOff (el : Nat) (h : Fin 24) (v : BitVec 16) (s : State) : Host.Outcome State Fault Refusal :=
  .next ((s.begin el).onIsland (swIsland h) fun t =>
    let u := t.swVout h v
    if decide (2000 ≤ v.toInt) && decide (v.toInt ≤ 4000) && !u.chBit h hsOutOn && u.rbit (R.SW_CH_CFG h) 1 && !u.chBit h hsOpenOff &&
        decide ((u.swch h).offAt + 10000000 ≤ u.now) then
      (((u.setChBit h hsOpenOff true).event (R.SW_CH_EVENT h) heOpenOff).count (R.SW_CH_OPEN_CNT h) 1).fault
        srcSwitchOpen h 1
    else u)

/-- Nothing but a supply event keeps a channel off: it is commanded on, and no pause, latch or fail-safe line holds it (R409,
R417). -/
def State.swSupplyHeld (s : State) (h : Nat) : Bool :=
  s.swSupplyBad && s.rbit (R.SW_CH_CTRL h) 0 && !s.chBit h hsRetryLatched && !s.chBit h hsThLatched && !s.chBit h hsPause &&
    decide (s.safeOn (chSwitch h) ≠ some swSafeOff)

/-- SWITCH_STUCK (R417): 1 ms after the turn-off the switch carries more than 100 mA. It is detected once for each
turn-off, and not on a channel that a supply event alone keeps off. -/
def execSwitchStuck (el : Nat) (h : Fin 24) (i : Word) (s : State) : Host.Outcome State Fault Refusal :=
  .next ((s.begin el).onIsland (swIsland h) fun t =>
    let u := t.swCurrent h i
    let c := u.swch h
    if !u.chBit h hsOutOn && !u.swSupplyHeld h && !c.stuck && decide (c.offAt + 1000000 ≤ u.now) && decide (100 < fld i 0 16) then
      ((u.updSwch h fun q => { q with stuck := true }).event (R.SW_CH_EVENT h) heStuckOn).fault srcSwitchStuck h 0
    else u)

/-- SWITCH_SHORT_VBAT (R417): 1 ms after the turn-off V_OUT exceeds 4.0 V with less than 100 mA in the switch. -/
def execSwitchShortVbat (el : Nat) (h : Fin 24) (v : BitVec 16) (i : Word) (s : State) :
    Host.Outcome State Fault Refusal :=
  .next ((s.begin el).onIsland (swIsland h) fun t =>
    let u := (t.swVout h v).swCurrent h i
    let c := u.swch h
    if !u.chBit h hsOutOn && !c.short && decide (c.offAt + 1000000 ≤ u.now) && decide (4000 < v.toInt) &&
        decide (fld i 0 16 < 100) then
      ((u.updSwch h fun q => { q with short := true }).event (R.SW_CH_EVENT h) heShortVbat).fault srcSwitchShortVbat h 0
    else u)

/-- The channels whose cluster is up. -/
def State.swChannelsUp (s : State) : List Nat := (List.range 24).filter fun h => s.up (swIsland h)

/-- Every channel turns off; each returns to its commanded state under R409 (R419–R421). -/
def State.swAllOff (s : State) : State := forL (fun h t => t.swTurnOff h) s.swChannelsUp s
def State.swAllRestore (s : State) : State := forL (fun h t => t.swTryOn h) s.swChannelsUp s

/-- The block reads VBAT, mV: SW_VBAT holds it within 16 signed bits (R8). -/
def State.swVbat (s : State) (v : Int) : State :=
  let s1 := { s with sw := { s.sw with vbat := v } }
  s1.when (s.up 23) fun t => t.setFldI R.SW_VBAT 0 16 v

/-- A block event of SW_IRQ_STAT; island 23 holds the register (R400). -/
def State.swEvent (s : State) (i : Nat) : State := s.when (s.up 23) fun t => t.event R.SW_IRQ_STAT i

/-- The pull-up of an off channel is connected (R418). -/
def State.swPullUp (s : State) (h : Nat) : Bool :=
  s.rbit (R.SW_CH_CFG h) 1 && !s.chBit h hsOutOn && decide (s.sw.vbat ≤ 36000)

/-- VBAT_UV (R419): VBAT, mV, has been below 4.5 V for 10 µs. -/
def execVbatUv (el : Nat) (v : Int) (s : State) : Host.Outcome State Fault Refusal :=
  let t := s.begin el
  .next (if v < 4500 then
    let u := t.swVbat v
    if u.sw.uv then u else (({ u with sw := { u.sw with uv := true } }).swAllOff).swEvent siUv
  else t)

/-- VBAT_UV_RECOVER (R419): VBAT has risen above 5.0 V. -/
def execVbatUvRecover (el : Nat) (v : Int) (s : State) : Host.Outcome State Fault Refusal :=
  let t := s.begin el
  .next (if 5000 < v then
    let u := t.swVbat v
    ({ u with sw := { u.sw with uv := false } }).swAllRestore
  else t)

/-- REVERSE_BATTERY (R421): VBAT lies between −1 V and −32 V. -/
def execReverseBattery (el : Nat) (v : Int) (s : State) : Host.Outcome State Fault Refusal :=
  let t := s.begin el
  .next (if -32000 ≤ v ∧ v ≤ -1000 then
    let u := t.swVbat v
    ({ u with sw := { u.sw with rev := true } }).swAllOff
  else t)

/-- REVERSE_END (R421): VBAT has returned above 6 V, so that no undervoltage is in force either (R419). -/
def execReverseEnd (el : Nat) (v : Int) (s : State) : Host.Outcome State Fault Refusal :=
  let t := s.begin el
  .next (if 6000 < v ∧ t.sw.rev then
    let u := t.swVbat v
    (({ u with sw := { u.sw with rev := false, uv := false } }).swEvent siReverse).swAllRestore
  else t)

/-- OVERVOLT (R423, R418): VBAT exceeds 36 V. -/
def execOvervolt (el : Nat) (v : Int) (s : State) : Host.Outcome State Fault Refusal :=
  let t := s.begin el
  .next (if 36000 < v then (t.swVbat v).swEvent siOvervolt else t)

/-- The counters of a cluster and its channels (R431). -/
def swCounters (k : Nat) : List Nat :=
  R.SW_CL_OT_CNT k :: (clChannels k).flatMap fun h =>
    [R.SW_CH_TRIPS h, R.SW_CH_LATCHES h, R.SW_CH_OPEN_CNT h, R.SW_CH_LIMIT_CNT h]

/-- What a write of SW_CMD does (R431): CNT_CLEAR reaches the clusters that are up. -/
def swCmd (w : Word) (s : State) : State :=
  if w.getLsbD 0 then forL (fun k t => t.onIsland (23 + k) fun u => u.clearRegs (swCounters k)) (List.range 6) s else s

/-- SW_CNT_CLEAR (R431). -/
def execSwCntClear (el : Nat) (p : Port) (s : State) : Host.Outcome State Fault Refusal :=
  .next ((s.begin el).writeCmd p R.SW_CMD 1 swCmd)

/-- The output state of a channel: an isolated channel may have been cut off since (R429), and none conducts forward
without its supply or its ground. -/
def State.swOut (s : State) (h : Nat) : Bool := s.chBit h hsOutOn && !(s.swch h).isoOff && !s.swSupplyBad

/-- A fail-safe line is applied to a channel with its stored state (R425, R426). -/
def State.swLineOn (s : State) (h st : Nat) : State :=
  let s1 := (s.setChBit h hsFailsafe true).event (R.SW_CH_EVENT h) heFailsafe
  if st = swSafeOff then s1.swTurnOff h
  else if st = swSafeOn then (s1.setBit (R.SW_CH_CTRL h) 0 true).swTryOn h
  else s1

/-- The line of a channel is released: ON takes the output state (R428). -/
def State.swLineOff (s : State) (h : Nat) : State :=
  (s.setChBit h hsFailsafe false).setBit (R.SW_CH_CTRL h) 0 (s.swOut h)

/-- What SW_CH_PAUSE_LEFT shows (R407): the ms remaining. -/
def State.swPauseLeft (s : State) (h : Nat) : Nat :=
  match (s.swch h).pause with
  | some e => (roundDiv (e - s.now : Nat) 1000000).toNat
  | none => 0

end Sys2Proof.Machine
end

