-- ==== Sys2Proof/Machine/Hooks.lean ====
section
/-!
DEFINITION. What a block does when a configuration field of one of its registers takes a new value: the rules of the chapters
beyond the access types, for a host's write and for an image's item.
-/
namespace Sys2Proof.Machine

/-- INTAKE_CTRL is written: a stream that is enabled loses SYNCED (03 R107). -/
def State.streamsWritten (s old : State) : State :=
  forN (fun k t => t.when (t.rbit R.INTAKE_CTRL k && !old.rbit R.INTAKE_CTRL k) fun u =>
    u.setBit (R.INTAKE_S_STAT k) 0 false) 4 s

/-- A host's write of the word `w` has stored its fields in the register at `a`: what the block does on it. `old` is the
state before the write, `onBus` the CAN object whose frame is on the bus, `busy` whether a frame is in progress there. -/
def State.hostHook (s old : State) (a : Nat) (w : Word) (onBus : Option Nat) (busy : Bool) : State :=
  match blockAt? regBlocks a, regHit? a with
  | some b, some h =>
    let off := h.row.off
    let n := 8 * h.inst + h.idx
    if b.base = 0x010000 then (if off = 0x004 then s.trimShow else s)
    else if b.base = 0x020000 then (if a = R.FM_REPORT then s.canReportDrain else if a = R.FM_IRQ_STAT then s.pinLatch else s)
    else if b.base = 0x030000 then (if off = 0x038 then s.tamperWritten (old.reg a) w else s)
    else if b.base = 0x040000 then
      if a = R.REC_CURSOR then s.cursorWritten
      else if a = R.REC_TRACE_CFG then s.traceWritten
      else if off = 0x400 then s.codeCfgWritten old h.idx
      else s
    else if b.base = 0x100000 then
      if off = 0x120 then s.when (!old.sealed) fun t => t.r20Written n
      else if off = 0x130 then (s.setLane n ((old.chopNow n).lane n)).thActShow n
      else if off = 0x148 then s.when (w.getLsbD 2 && !s.rbit a 2) fun t => t.setBit (R.LANE_STAT n) lsOcLatched false
      else s
    else if b.base = 0x300000 then
      if a = R.INTAKE_CTRL then s.streamsWritten old
      else if off = 0x100 then streamCfg h.idx w (s.beltEnWritten old h.idx)
      else s
    else if b.base = 0x310000 then
      if off = 0x1010 then s.pwmResume true h.idx
      else if off = 0x1000 ∨ off = 0x100C then s.gridWritten old h.idx
      else s
    else if b.base = 0x400000 then s.axWritten old h.inst off w
    else if b.base = 0x410000 then
      if off = 0x100 then s.encWritten h.idx
      else if off = 0x800 then s.prbShow h.idx
      else if off = 0xC00 ∨ off = 0xC14 then s.cmpWritten h.idx
      else s
    else if b.base = 0x501000 then
      if off = 0x100 then s.swCtrlWritten (4 * h.inst + h.idx) (old.rbit a 0)
      else if off = 0x104 then s.swCfgWritten (4 * h.inst + h.idx)
      else if off = 0x114 then s.swOpenNow (4 * h.inst + h.idx)
      else if off = 0x118 then s.swTrstWritten (4 * h.inst + h.idx)
      else s
    else if b.base = 0x600000 then
      if off = 0x000 then s.canCtrlWritten old h.inst busy
      else if off = 0x080 ∨ off = 0x0A0 then s.notePick old h.inst
      else if off ≤ 0x010 then s.canCfgWritten old h.inst a
      else if off = 0x1000 then
        s.objCtrlWritten old h.inst h.idx (onBus == some h.idx)
      else if 0x1000 < off ∧ off < 0x3800 ∧ off ≠ 0x100C then s.objWordWritten old h.inst h.idx (off - 0x1000)
      else if off = 0x3800 then s.fvWritten h.inst h.idx
      else s
    else if b.base = 0x700000 then
      if a = R.GNSS_CTRL then s.gnssCtrlWritten
      else if a = R.GNSS_ANT_CFG then s.biasShow old.biasOn
      else s
    else if b.base = 0x710000 then (if a = R.DT_CTRL then s.dtChange else if a = R.DT_CAN_SRC then s.trimShow else s)
    else s
  | _, _ => s

/-- An image's items have given the register at `a` a new value (02 R66, R90): what the block does on it. `old` is the state
before the section. -/
def State.imgHook (s old : State) (a : Nat) : State :=
  match blockAt? regBlocks a, regHit? a with
  | some b, some h =>
    let off := h.row.off
    let n := 8 * h.inst + h.idx
    if b.base = 0x010000 then (if off = 0x004 then s.trimShow else s)
    else if b.base = 0x040000 then
      if a = R.REC_TRACE_CFG then s.traceWritten
      else if off = 0x400 then s.codeCfgWritten old h.idx
      else s
    else if b.base = 0x100000 then
      if (s.lane n).old.isSome then s
      else if off = 0x120 then s.r20Written n
      else if off = 0x130 then s.thActShow n
      else s
    else if b.base = 0x300000 then
      if a = R.INTAKE_CTRL then s.streamsWritten old
      else if off = 0x100 then s.beltEnWritten old h.idx
      else s
    else if b.base = 0x400000 then s.axCfgApplied h.inst
    else if b.base = 0x410000 then
      if off = 0x100 then s.encWritten h.idx
      else if off = 0x800 then s.prbShow h.idx
      else if off = 0xC00 ∨ off = 0xC14 then s.cmpWritten h.idx
      else s
    else if b.base = 0x501000 then
      if off = 0x100 ∧ (s.safeOn (chSwitch (4 * h.inst + h.idx))).isNone then
        s.swCtrlWritten (4 * h.inst + h.idx) (old.rbit a 0)
      else if off = 0x104 then s.swCfgWritten (4 * h.inst + h.idx)
      else if off = 0x114 then s.swOpenNow (4 * h.inst + h.idx)
      else if off = 0x118 then s.swTrstWritten (4 * h.inst + h.idx)
      else s
    else if b.base = 0x600000 then
      if off = 0x000 then
        if s.canInit h.inst ∧ !old.canInit h.inst then s.canEnd h.inst
        else if !s.canInit h.inst ∧ old.canInit h.inst then s.canJoin h.inst
        else s
      else if off = 0x1000 ∧ s.rbit a obDir ∧ s.rbit a obTxReq ∧ !old.rbit a obTxReq then
        ((s.setBit a obTxReq false).setTxReq h.inst h.idx).2
      else if off = 0x3800 then s.fvWritten h.inst h.idx
      else s.notePick old h.inst
    else if b.base = 0x700000 then
      if a = R.GNSS_CTRL then s.gnssCtrlWritten
      else if a = R.GNSS_ANT_CFG then s.biasShow old.biasOn
      else s
    else if b.base = 0x710000 then (if a = R.DT_CTRL then s.dtChange else if a = R.DT_CAN_SRC then s.trimShow else s)
    else s
  | _, _ => s

end Sys2Proof.Machine
end

