-- ==== Sys2Proof/Machine/Learner.lean ====
section
/-!
DEFINITION. The thermal tick, latency learning and Burnish (06_lane_drive.md R264–R268, 07_latency_learning.md R284–R321,
R704). The samples of a search and the results of a calibration come with the command.
-/
namespace Sys2Proof.Machine

/-- Bits of LRN_STAT and LRN_FLAGS. -/
abbrev lsLearned : Nat := 31
abbrev lsRestored : Nat := 30
abbrev lsStuckNow : Nat := 29
abbrev lsFrozenClose : Nat := 28
abbrev lsFrozenOpen : Nat := 27
abbrev lsAcqClose : Nat := 26
abbrev lsAcqOpen : Nat := 25
abbrev lfRestoreFail : Nat := 6
abbrev lfBurnStale : Nat := 5
abbrev lfBurnFail : Nat := 4
abbrev lfCloseMiss : Nat := 3
abbrev lfStuck : Nat := 0

/-- The place of a side's word among the per-side bits and fields. -/
def frozenBit (sd : Side) : Nat := match sd with | .opening => lsFrozenOpen | .closing => lsFrozenClose
def acqBit (sd : Side) : Nat := match sd with | .opening => lsAcqOpen | .closing => lsAcqClose
def sideNum (sd : Side) : Nat := match sd with | .opening => 0 | .closing => 1

/-- A side's base, temperature coefficient and band offset (R298). -/
def LaneSt.base (l : LaneSt) (sd : Side) : Int := match sd with | .opening => l.baseO | .closing => l.baseC
def LaneSt.tc (l : LaneSt) (sd : Side) : Int := match sd with | .opening => l.tcO | .closing => l.tcC
def LaneSt.bandOfs (l : LaneSt) (sd : Side) (b : Nat) : Int := Tab.get (fun _ => 0) l.bands (8 * sideNum sd + b)
def LaneSt.setBase (l : LaneSt) (sd : Side) (v : Int) : LaneSt :=
  match sd with | .opening => { l with baseO := v } | .closing => { l with baseC := v }
def LaneSt.setTc (l : LaneSt) (sd : Side) (v : Int) : LaneSt :=
  match sd with | .opening => { l with tcO := v } | .closing => { l with tcC := v }
def LaneSt.setBand (l : LaneSt) (sd : Side) (b : Nat) (v : Int) : LaneSt :=
  { l with bands := Tab.set (fun _ => 0) l.bands (8 * sideNum sd + b) v }
def LaneSt.acq (l : LaneSt) (sd : Side) : Nat := match sd with | .opening => l.acqO | .closing => l.acqC
def LaneSt.setAcq (l : LaneSt) (sd : Side) (v : Nat) : LaneSt :=
  match sd with | .opening => { l with acqO := v } | .closing => { l with acqC := v }
def LaneSt.applied (l : LaneSt) (sd : Side) : Nat := match sd with | .opening => l.appliedO | .closing => l.appliedC
def LaneSt.setApplied (l : LaneSt) (sd : Side) (v : Nat) : LaneSt :=
  match sd with | .opening => { l with appliedO := v } | .closing => { l with appliedC := v }
def LaneSt.run (l : LaneSt) (sd : Side) : List Int := match sd with | .opening => l.runO | .closing => l.runC
def LaneSt.setRun (l : LaneSt) (sd : Side) (v : List Int) : LaneSt :=
  match sd with | .opening => { l with runO := v } | .closing => { l with runC := v }

/-- A side of a lane starts acquisition (R303). -/
def State.startAcq (s : State) (n : Nat) (sd : Side) : State :=
  (s.updLane n fun l => l.setAcq sd 0).setBit (R.LRN_STAT n) (acqBit sd) true

/-- The offset of band `b`: REF_BAND's is fixed at 0 (R299). -/
def State.bandTerm (s : State) (n : Nat) (sd : Side) (b : Nat) : Int :=
  if b = s.rfld (R.LRN_TILE_CFG (n / 8)) 16 3 then 0 else (s.lane n).bandOfs sd b

/-- The latency of a side at winding temperature `tw` and band `b`, in 1/32768 of 10 ns (R298). -/
def State.latRaw (s : State) (n : Nat) (sd : Side) (tw : Int) (b : Nat) : Int :=
  ((s.lane n).base sd + s.bandTerm n sd b) * 128 + (s.lane n).tc sd * (tw - 160)

/-- The latency in force, 10 ns, rounded and limited (R300). -/
def State.latency (s : State) (n : Nat) (sd : Side) : Nat :=
  (clampI 0 16777215 (roundDiv (s.latRaw n sd (round16 (s.lane n).tw) (s.bandOf (n / 8))) 32768)).toNat

/-- Both latencies of a mapped or spare lane go to Stitch where they differ from those last sent (R300). A transfer that fails, as
`x` says or by itself, is repeated at the next evaluation. Stitch recomputes the lane where it receives a
new value (05 R175). -/
def State.sendLat (s : State) (x : Bool) (n : Nat) : State :=
  let v := (s.latency n .opening, s.latency n .closing)
  if s.role n = 0 ∨ (s.lane n).sent = some v ∨ !(x && s.works (n / 8)) then s
  else s.carry (n / 8) 30 (fun u =>
    let s1 := u.updLane n fun l => { l with sent := some v }
    if u.latPhys n .opening = v.1 ∧ u.latPhys n .closing = v.2 then s1
    else
      let t := Tab.set (fun _ => 0) (Tab.set (fun _ => 0) u.stitch.lat (2 * n) v.1) (2 * n + 1) v.2
      { s1 with stitch := { s1.stitch with lat := t, changed := s1.stitch.changed.filter (fun k => k != n) ++ [n] } }) id

/-- The band of a tile from its mean VPK (R299). -/
def State.bandAt (s : State) (t vpk : Nat) : Nat :=
  (clampI 0 7 (floorDiv ((vpk : Int) - s.rfld (R.LRN_BAND_V0 t) 0 16) (s.rfld (R.LRN_BAND_W t) 0 16))).toNat

/-- The band in force after a mean: the first one without the hysteresis (R299). -/
def State.nextBand (s : State) (t vpk : Nat) : Nat :=
  let b := s.bandAt t vpk
  match (s.tile t).band with
  | none => b
  | some k =>
    let w : Int := s.rfld (R.LRN_BAND_W t) 0 16
    let lo : Int := s.rfld (R.LRN_BAND_V0 t) 0 16 + k * w
    if 8 * (vpk : Int) < 8 * lo - w ∨ 8 * (lo + w) + w < 8 * (vpk : Int) then b else k

/-- A quotient of the thermal model; a divisor of 0, which Table 9 of 06 rules out, leaves a free value (log 5). -/
def State.thDiv (s : State) (a b : Int) : Int × State :=
  if b = 0 then
    let d := s.draw 40
    (d.1.toInt, d.2)
  else (Int.tdiv a b, s)

/-- A lane's limits after its model has moved (R266–R268). -/
def State.thLimits (s : State) (n : Nat) : State :=
  let tw := (s.lane n).tw
  let lim := s.laneReg n (R.LANE_TH_LIM n)
  let cfg := s.laneReg n (R.LANE_TH_ACT n)
  let hy : Int := fld cfg 8 8
  let warn := sfld lim 0 16 * 65536
  let top := sfld lim 16 16 * 65536
  let s1 :=
    if s.rbit (R.LANE_STAT n) lsThWarn then
      s.when (decide (tw < warn - hy * 65536)) fun u => u.setBit (R.LANE_STAT n) lsThWarn false
    else s.when (decide (warn ≤ tw)) fun u =>
      (u.setBit (R.LANE_STAT n) lsThWarn true).event (R.LANE_DIAG n) ldThWarn
  let s2 :=
    if s1.rbit (R.LANE_STAT n) lsThLimit then
      s1.when (decide (tw < top - hy * 65536)) fun u => u.setBit (R.LANE_STAT n) lsThLimit false
    else s1.when (decide (top ≤ tw)) fun u =>
      ((u.setBit (R.LANE_STAT n) lsThLimit true).event (R.LANE_DIAG n) ldThLimit).fault srcCoilLimit n
        (wordI (round16 tw))
  s2.thActShow n

/-- A temperature with 16 fraction bits, saturated at the 16 bits of its field in LANE_TH_T and counted (R8). -/
def thSat (v : Int) : Int := clampI (-32768 * 65536) (32767 * 65536) v

/-- The thermal step of one lane (R264, R265): `ta` is the ambient with 16 fraction bits, `q` the mean of i² in mA².
Quotients are truncated to whole units of the pseudocode; tw and tb keep 16 fraction bits. -/
def State.thermal (s0 : State) (n : Nat) (ta : Int) (q : Nat) : State :=
  let s := (s0.bankDue n).chopNow n
  let r20 : Int := fld (s.laneReg n (R.LANE_COIL_R20 n)) 0 24
  if r20 = 0 then s.updLane n fun l => { l with tw := ta, tb := ta, tMeas := none }
  else
    let l := s.lane n
    let thR := s.laneReg n (R.LANE_TH_R n)
    let thC := s.laneReg n (R.LANE_TH_C n)
    let rw := r20 + Int.tdiv (r20 * 393 * (l.tw - 160 * 65536)) (800000 * 65536)
    let p := Int.tdiv ((q : Int) * rw) 1000
    let a := s.thDiv ((l.tw - l.tb) * 12500000) ((fld thR 16 16 : Int) * 65536)
    let b := a.2.thDiv ((l.tb - ta) * 12500000) ((fld thR 0 16 : Int) * 65536)
    let c := b.2.thDiv ((p - a.1) * 8 * 65536) (1000000 * (fld thC 16 16 : Int))
    let d := c.2.thDiv ((a.1 - b.1) * 8 * 65536) (1000000 * (fld thC 0 16 : Int))
    let tw := l.tw + c.1
    let tb := l.tb + d.1
    let tw2 := match l.tMeas with
      | some m => tw + Int.tdiv ((fld (s.laneReg n (R.LANE_TH_KMEAS n)) 0 16 : Int) * (m * 65536 - tw)) 65536
      | none => tw
    let s1 := d.2.noteSat (R.LANE_TH_T n) (thSat tw2 != tw2 || thSat tb != tb)
    (s1.updLane n fun l => { l with tw := thSat tw2, tb := thSat tb, tMeas := none }).thLimits n

/-- The mean of i² over the samples of the last 1 ms of a lane, mA² (R264; 07 R287): `cur` are its currents, 0.5 mA, taken every
500 ns. A disabled lane has none, and a lane has none while a Burnish step occupies it; the current is 0 for those that are missing. -/
def State.meanSq (s : State) (n : Nat) (cur : List Int) : Nat :=
  let from_ := (s.localDt (n / 8) - 1000000) / 500
  if s.role n = 0 then 0
  else (((cur.take 2000).zipIdx.filter fun q => !s.occupied n (500 * (from_ + 1 + (q.2 : Nat)))).map fun q => q.1.natAbs ^ 2).sum / 8000

/-- THERMAL_TICK (R264–R268, R298–R300; 16 R641): every 1 ms in a tile. The tile reports its temperature (0.125 °C), the
VPK samples (mV), one every 2 µs, and the group current (mA) of the last 1 ms, and for each position the lane current samples (0.5
mA). `e.val` says that its transfers to Stitch are delivered. -/
def execThermalTick (e : Seen Bool) (t : Fin 20) (temp ig : BitVec 16) (vpk : List (BitVec 16)) (cur : List (List Int))
    (s : State) : Host.Outcome State Fault Refusal :=
  .next ((s.begin e.el).onTile t fun u =>
    let v := (meanI (vpk.map fun w => (w.toNat : Int))).toNat
    let s1 := ((u.setReg (R.TILE_TEMP t) (temp.setWidth 32)).setReg (R.TILE_VPK t) (wordN v)).setFld (R.GRP_IMEAS t) 0 16
      ig.toNat
    let ta := 65536 * if s1.rbit (R.TILE_CTRL t) 0 then s1.rsfld (R.TILE_TAMB_HOST t) 0 16 else temp.toInt
    let s2 := forL (fun n w => w.thermal n ta (w.meanSq n (cur.getD (n % 8) []))) (tileLanes t) s1
    let s3 := s2.setTile t { s2.tile t with band := some (s2.nextBand t v) }
    let s4 := forL (fun n w => w.recAdd 2 t (n % 8) (round16 (w.lane n).tw)) (tileLanes t) s3
    let s5 := ((s4.recAdd 2 t 8 temp.toInt).recAdd 2 t 9 v).recAdd 2 t 10 ig.toNat
    forL (fun n w => w.sendLat e.val n) (tileLanes t) s5)

/-- The middle one of three values. -/
def median3 (a b c : Int) : Int := max (min a b) (min (max a b) c)

/-- The 3-sample median of a run of samples (R289). Entry k belongs to sample k + 1. -/
def medians : List Int → List Int
  | a :: b :: c :: r => median3 a b c :: medians (b :: c :: r)
  | _ => []

/-- A dip while it is tracked: the index and the value of the smallest filtered value. -/
structure Dip where
  at_ : Nat
  low : Int
  deriving DecidableEq, Repr

/-- The first complete dip of the filtered values (R289): `k` is the index of the next value, `m` the largest so far, `di`
KNEE_DI in the samples' unit. Answers the index of the smallest value. -/
def findDip (di : Int) : Nat → Int → Option Dip → List Int → Option Nat
  | _, _, _, [] => none
  | k, m, d, v :: r =>
    match d with
    | none =>
      let m1 := max m v
      if v ≤ m1 - di then (if v + di ≤ v then some k else findDip di (k + 1) m1 (some ⟨k, v⟩) r)
      else findDip di (k + 1) m1 none r
    | some q =>
      let q1 := if v < q.low then ⟨k, v⟩ else q
      if q1.low + di ≤ v then some q1.at_ else findDip di (k + 1) m (some q1) r

/-- The instant of the vertex of the parabola through a value, taken at `t`, and its two neighbours, 500 ns apart, limited to ±500 ns
from `t` and rounded to the 10 ns grid (R290). Where the three values are equal, or a neighbour is missing, no rule gives the
vertex: a free value within the limits (log 5). -/
def State.vertex (s : State) (l : List Int) (k : Nat) (t : Int) : Int × State :=
  let free : Int × State :=
    let d := s.draw 41
    (t + (d.1.toNat % 101 : Nat) * 10 - 500, d.2)
  match l[k - 1]?, l[k]?, l[k + 1]? with
  | some a, some b, some c =>
    let den := a - 2 * b + c
    if k = 0 ∨ den = 0 then free
    else
      (clampI (t - 500) (t + 500) (roundDiv (t * den.natAbs + (a - c) * 250 * den.sign) (den.natAbs * 10) * 10), s)
  | _, _, _ => free

/-- A measured latency, 10 ns (R296): `d` is in ns and rounded (00 R7), the offset in 10 ns. -/
def measured (d ofs : Int) : Int := roundDiv d 10 + ofs

/-- A measured latency is stored in LRN_MEAS_OPEN or LRN_MEAS_CLOSE, bits [23:0] (R296). -/
def State.setMeas (s : State) (a : Nat) (m : Int) : State := (s.noteSat a (m < 0)).setFldN a 0 24 m.toNat

/-- The row of 07 Table 2 that decides the use of a firing. -/
def Firing.row (f : Firing) (openEn closeEn : Bool) : Nat :=
  if f.cut then 1
  else if f.diag2 then 2
  else if f.contended || f.shared then 3
  else if f.holdOnly then 4
  else if f.tmo then 5
  else if f.trunc then 6
  else if !openEn || !closeEn then 7
  else 8

/-- A bit of LRN_CFG as it is in force for a lane. -/
def State.lrnCfg (s : State) (n i : Nat) : Bool := (s.laneReg n (R.LRN_CFG n)).getLsbD i

/-- The row that decides the use of a firing of lane `n` (R297). -/
def State.useRow (s : State) (n : Nat) (f : Firing) : Nat :=
  f.row (s.lrnCfg n 0) (s.lrnCfg n 1)

/-- The firing advances the stuck run (R297, R308), and the closing-miss run. -/
def State.stuckElig (s : State) (n : Nat) (f : Firing) : Bool :=
  s.lrnCfg n 0 && (let r := s.useRow n f; r == 5 || r == 7 || r == 8)
def State.missElig (s : State) (n : Nat) (f : Firing) : Bool := s.lrnCfg n 1 && decide (3 ≤ s.useRow n f)

/-- When a knee search ends without a knee: the earliest of the window's end, the threshold and the close instant (R288,
R291). -/
def Firing.searchEnd (f : Firing) : Int :=
  let w := f.opn + (fld f.prof.openWin 16 16 : Int) * 1000
  let a := match f.peakAt with
    | some t => min w t
    | none => w
  match f.closed with
  | some c => min a c
  | none => a

/-- STUCK_NOW sets, LRN_FLAGS.STUCK sets and STUCK_VALVE is reported, unless it is set already (R309). With STUCK_EN 0
nothing is reported. -/
def State.stuckReport (s : State) (n : Nat) (reached : Bool) : State :=
  if reached && s.lrnCfg n 4 && !s.rbit (R.LRN_STAT n) lsStuckNow then
    ((s.setBit (R.LRN_STAT n) lsStuckNow true).event (R.LRN_FLAGS n) lfStuck).fault srcStuckValve n 0
  else s

/-- ACT_TIME as it stands now (R308). -/
def State.actTime (s : State) (n : Nat) : Nat :=
  (s.lane n).act + match (s.lane n).actSince with
    | some t => ((s.localDt (n / 8)) - t).toNat
    | none => 0

/-- The knee search of an eligible firing ended without a knee at `e` (R308, R309). -/
def State.noKnee (s : State) (n : Nat) (f : Firing) (e : Int) : State :=
  let ended := decide ((s.lane n).firing.map (·.opn) ≠ some f.opn)
  let upTo := match f.endAt with
    | some x => if ended then x else e
    | none => e
  let s1 := s.updLane n fun l => { l with
    act := l.act + (e - f.opn).toNat + (upTo - e).toNat, actSince := if ended then l.actSince else some e }
  let run := min 3 (s1.rfld (R.LRN_STAT n) 16 2 + 1)
  let s2 := (s1.setFld (R.LRN_STAT n) 16 2 run).count (R.LRN_NOKNEE n) 1
  s2.stuckReport n (run == 3 || decide (20000000 ≤ s2.actTime n))

/-- A knee in an eligible firing ends the stuck-valve run (R309). -/
def State.kneeFound (s : State) (n : Nat) : State :=
  ((s.updLane n fun l => { l with act := 0, actSince := none }).setFld (R.LRN_STAT n) 16 2 0).setBit (R.LRN_STAT n)
    lsStuckNow false

/-- A sample at `t` belongs to the knee search of a firing (R288): the lane is ON in the peak phase, which it has not left, before
the threshold is first reached and before the close instant. -/
def Firing.searched (f : Firing) (t : Int) : Bool :=
  let before (o : Option Int) : Bool := (o.map fun e => decide (t < e)).getD true
  decide (f.opn + (fld f.prof.openWin 0 16 : Int) * 1000 ≤ t) && decide (t ≤ f.opn + (fld f.prof.openWin 16 16 : Int) * 1000) &&
    before f.peakAt && before f.leftAt && before f.closed

/-- KNEE_SEARCH_END (R284, R288–R291, R296, R308, R309): the knee search of a lane's next firing ends. `samples` are the lane
currents, 0.5 mA, from the `k`-th multiple of 500 ns of the tile's local DT on. -/
def execKneeSearchEnd (el : Nat) (n : Fin 160) (k : Nat) (samples : List Int) (s : State) :
    Host.Outcome State Fault Refusal :=
  .next ((s.begin el).onTile (n / 8) fun u =>
    match u.seek n (fun f => !f.kneeDone) with
    | none => u
    | some f =>
      let e := f.searchEnd
      let w1 := f.opn + (fld f.prof.openWin 16 16 : Int) * 1000
      let tagged : List (Int × Int) := samples.zipIdx.map fun q => (500 * ((k + q.2 : Nat) : Int), q.1)
      let used := tagged.filter fun q => f.searched q.1
      let filtered := medians (used.map (·.2))
      match findDip (2 * (fld f.prof.detect 0 16 : Int)) 0 (filtered.headD 0) none filtered with
      | some j =>
        let v := u.vertex filtered j (used.getD (j + 1) (0, 0)).1
        let knee := v.1
        let s1 := (v.2.updAt n f.opn fun g => { g with kneeDone := true, knee := some knee }).setMeas (R.LRN_MEAS_OPEN n)
          (measured (knee - f.opn) (sfld f.prof.ofs 0 16))
        s1.when (s1.stuckElig n f) fun x => x.kneeFound n
      | none =>
        if e ≤ (u.localDt (n / 8)) then
          let trunc := decide (f.closed = some e) && decide (e < w1) && decide (f.peakAt ≠ some e)
          let f1 := { f with kneeDone := true, trunc := trunc }
          let s1 := u.updAt n f.opn fun g => { g with kneeDone := true, trunc := trunc }
          s1.when (s1.stuckElig n f1) fun x => x.noKnee n f1 e
        else u)

/-- STUCK_TIME_REACHED (R308, R309): ACT_TIME reaches 20 ms in a running eligible firing whose search has ended. -/
def execStuckTimeReached (el : Nat) (n : Fin 160) (s : State) : Host.Outcome State Fault Refusal :=
  .next ((s.begin el).onTile (n / 8) fun u =>
    match (u.lane n).firing with
    | none => u
    | some f =>
      u.stuckReport n (f.kneeDone && f.knee.isNone && u.stuckElig n f && decide (20000000 ≤ u.actTime n)))

/-- The plateau end (R293): the index of the first sample below 64,000 mV after at least two plateau samples. -/
def plateauEnd : Nat → Nat → List RelSample → Option Nat
  | _, _, [] => none
  | k, c, x :: r =>
    if 64000 ≤ x.v then plateauEnd (k + 1) (c + 1) r
    else if 2 ≤ c then some k
    else plateauEnd (k + 1) c r

/-- The differences of a run of currents (R295). -/
def decays : List Int → List Int
  | a :: b :: r => (a - b) :: decays (b :: r)
  | _ => []

/-- Two consecutive elements satisfy `p`. -/
def twice (p : Int → Bool) : List Int → Bool
  | a :: b :: r => (p a && p b) || twice p (b :: r)
  | _ => false

/-- A decay-slope change is found on the plateau currents (R295). -/
def slopeChange (frac : Nat) (i : List Int) : Bool :=
  let d := decays i
  let ref4 := (d.take 4).sum
  decide (6 ≤ i.length) && twice (fun x => decide ((frac : Int) * ref4.natAbs < 256 * (4 * x - ref4).natAbs)) d

/-- The index of the largest of the values that a list of indices names; the first of equals. -/
def argMax (f : Nat → Int) : List Nat → Option Nat
  | [] => none
  | k :: r => match argMax f r with
    | none => some k
    | some j => if f k < f j then some j else some k

/-- The closing instant of a release that began at `c` (R293–R295): `x` are its samples. -/
def State.findSeat (s : State) (n : Nat) (f : Firing) (c : Int) (x : List RelSample) : Option Int × State :=
  let wmax := c + (fld f.prof.closeWin 16 16 : Int) * 1000
  let wmin := c + (fld f.prof.closeWin 0 16 : Int) * 1000
  let y := x.filter fun q => decide (c ≤ q.at_) && decide (q.at_ ≤ wmax)
  let dev (k : Nat) : Int := match y[k]? with
    | some q => ((q.v - q.g).natAbs : Int)
    | none => 0
  let at_ (k : Nat) : Int := (y[k]?.map (·.at_)).getD 0
  match plateauEnd 0 0 y with
  | none => (none, s)
  | some p =>
    let ks := (List.range y.length).filter fun k => decide (at_ p + 5000 < at_ k) && decide (wmin ≤ at_ k)
    let plat := (y.take p).filter fun q => decide (64000 ≤ q.v)
    match argMax dev ks with
    | none => (none, s)
    | some k =>
      if dev k < (fld f.prof.detect 24 8 : Int) * 100 then (none, s)
      else if s.lrnCfg n 3 && !slopeChange (fld f.prof.detect 16 8) (plat.map (·.i)) then (none, s)
      else
        let v := s.vertex ((List.range y.length).map dev) k (at_ k)
        (some v.1, v.2)

/-- The closing-miss run after a release without a closing instant (R310). -/
def State.closeMiss (s : State) (n : Nat) (f : Firing) : State :=
  let s1 := s.count (R.LRN_NOCLOSE n) 1
  if s1.missElig n f && !(f.sought && f.knee.isNone) then
    let run := min 7 (s1.rfld (R.LRN_STAT n) 18 3 + 1)
    (s1.setFld (R.LRN_STAT n) 18 3 run).when (run == 3) fun u =>
      (u.event (R.LRN_FLAGS n) lfCloseMiss).fault srcValveCloseMiss n 0
  else s1

/-- CLOSING_SEARCH_END (R284, R286, R293–R296, R310): the closing search of a lane's next release ends, CLOSE_WMAX after the close
instant. `x` are the samples of the release, from the `k`-th multiple of
500 ns on; a Burnish step leaves none of its time (R287). -/
def execClosingSearchEnd (el : Nat) (n : Fin 160) (k : Nat) (x : Samples) (s : State) : Host.Outcome State Fault Refusal :=
  .next ((s.begin el).onTile (n / 8) fun u =>
    match u.seek n (fun f => f.kneeDone && !f.seatDone && f.closed.isSome) with
    | none => u
    | some f =>
      let c := f.closed.getD 0
      if u.localDt (n / 8) < c + (fld f.prof.closeWin 16 16 : Int) * 1000 then u
      else
        let r := u.findSeat n f c ((sampleRows k x).filter fun y => !u.occupied n y.at_)
        let s1 := r.2.updAt n f.opn fun g => { g with seatDone := true, seat := r.1 }
        match r.1 with
        | some t =>
          let s2 := s1.setMeas (R.LRN_MEAS_CLOSE n) (measured (t - c) (sfld f.prof.ofs 16 16))
          s2.when (s2.missElig n f) fun y => y.setFld (R.LRN_STAT n) 18 3 0
        | none => s1.closeMiss n f)

/-- An outlier (R302, R305): counted, and, unless the side is frozen, carried in its run. -/
def State.outlier (s : State) (n : Nat) (sd : Side) (e : Int) : State :=
  let s1 := s.count (match sd with | .opening => R.LRN_OUTLIER_OPEN n | .closing => R.LRN_OUTLIER_CLOSE n) 1
  if s1.rbit (R.LRN_STAT n) (frozenBit sd) then s1
  else
    let old := (s1.lane n).run sd
    let same := match old.head? with
      | some x => decide (0 < x) == decide (0 < e)
      | none => true
    let l := if same then old ++ [e] else [e]
    if l.length < fld (s1.laneReg n (R.LRN_CFG n)) 8 8 then s1.updLane n fun q => q.setRun sd l
    else
      (((s1.updLane n fun q => q.setRun sd []).setBit (R.LRN_STAT n) (frozenBit sd) true).setFldI (R.LRN_SHIFT_MEAN n)
        (16 * sideNum sd) 16 (roundDiv l.sum (l.length * 256)) |>.event (R.LRN_FLAGS n) (1 + sideNum sd)).fault srcLatencyShift n
          (wordN (sideNum sd))

/-- What a model holds, at its widths (R302, R8; Table 3): the bases as unsigned 24.8 and the band offsets as signed 24.8 values of
32 bits, the TC values as signed 16-bit values with 8 fraction bits more (DEDUCED, log 154). A value past its width, or past what LRN_TC and
LRN_BANDb show of it, saturates there and is counted. -/
def LaneSt.modelSat (l : LaneSt) : LaneSt :=
  let base (v : Int) : Int := clampI 0 4294967295 v
  { l with baseO := base l.baseO, baseC := base l.baseC, tcO := satI 24 l.tcO, tcC := satI 24 l.tcC
           bands := l.bands.map fun e => (e.1, satI 32 e.2) }
def State.modelSat (s : State) (n : Nat) : State :=
  let l := (s.lane n).modelSat
  let wide (v : Int) : Bool := satI 16 (roundDiv v 256) != roundDiv v 256
  (s.noteSat (R.LRN_BASE_OPEN n) (l != s.lane n || wide l.tcO || wide l.tcC || l.bands.any fun e => wide e.2)).setLane n l

/-- The update of one side by a used sample (R302): residual `e` in 1/256 of 10 ns, `x` in 0.125 °C, band `b`, and the
gains and window in force at the firing's open instant (R321). -/
def State.learn (s : State) (n : Nat) (sd : Side) (e x : Int) (b : Nat) (p : Profile) : State :=
  let acquiring := s.rbit (R.LRN_STAT n) (acqBit sd)
  let k := fld p.gain 16 16
  let kb : Int := if acquiring then max k 16384 else k
  let w : Int := (fld p.plaus (16 * sideNum sd) 16 : Int) * 256 * if acquiring then 4 else 1
  if w < (e.natAbs : Int) then s.outlier n sd e
  else
    let s1 := s.updLane n fun l => l.setRun sd []
    if s1.rbit (R.LRN_STAT n) (frozenBit sd) || !s1.rbit (R.LRN_TILE_CFG (n / 8)) 0 then s1
    else
      let d := Int.tdiv (kb * e) 65536
      let ref := b == s1.rfld (R.LRN_TILE_CFG (n / 8)) 16 3
      let s2 := State.modelSat (n := n) <| s1.updLane n fun l =>
        let l1 := if ref then l.setBase sd (l.base sd + d) else l.setBand sd b (l.bandOfs sd b + d)
        let l2 := if ref && s1.lrnCfg n 2 && !acquiring && decide (80 ≤ x.natAbs) then
            l1.setTc sd (l1.tc sd + Int.tdiv ((fld p.gain 0 16 : Int) * 128 * e) (65536 * x))
          else l1
        let l3 := l2.setApplied sd (l2.applied sd + 1)
        if acquiring then l3.setAcq sd (l3.acq sd + 1) else l3
      let s3 := s2.when (acquiring && decide (16 ≤ (s2.lane n).acq sd)) fun u =>
        u.setBit (R.LRN_STAT n) (acqBit sd) false
      (s3.setBit (R.LRN_STAT n) lsLearned true).count (R.LRN_UPDATES n) 1

/-- A used sample of one side: its residual (R302), the recorder's value (R314, 16 Table 9), and the update. -/
def State.useSample (s : State) (n : Nat) (sd : Side) (f : Firing) (d : Int) : State :=
  let ofs := sfld f.prof.ofs (16 * sideNum sd) 16
  let m := measured d ofs
  let e := m * 256 - roundDiv (s.latRaw n sd f.tw f.band) 128
  let v := match sd with
    | .opening => m - f.lat
    | .closing => roundDiv e 256
  (s.recAdd (sideNum sd) n 0 v).learn n sd e (f.tw - 160) f.band f.prof

/-- MODEL_UPDATE (R297, R300–R305): the samples of a lane's oldest ended firing are used, within 2 ms of its end; the
firing is kept until its check at OPEN_T has been made (06 R269). `e.val` says that the
transfer of new latencies to Stitch is delivered. -/
def execModelUpdate (e : Seen Bool) (n : Fin 160) (s : State) : Host.Outcome State Fault Refusal :=
  .next ((s.begin e.el).onTile (n / 8) fun u =>
    match (u.lane n).done.find? fun f => !f.used with
    | none => u
    | some f =>
      if !f.kneeDone || !f.seatDone then u
      else
        let row := u.useRow n f
        let oEn := u.lrnCfg n 0
        let cEn := u.lrnCfg n 1
        let exclO := !oEn || (row ≠ 8 && row ≠ 7 && (row ≠ 5 || f.knee.isSome))
        let exclC := !cEn || row == 1 || row == 2
        let s1 := ((u.updAt n f.opn fun g => { g with used := true }).updLane n fun l =>
          { l with done := l.done.filter fun g => !(g.checked && g.used) }).when (exclO || exclC) fun v => v.count (R.LRN_EXCLUDED n) 1
        let s2 := match f.knee with
          | some k => if exclO then s1 else s1.useSample n .opening f (k - f.opn)
          | none => s1
        let s3 := match f.seat, f.closed with
          | some t, some c => if exclC then s2 else s2.useSample n .closing f (t - c)
          | _, _ => s2
        s3.sendLat e.val n)

/-- The host accepts a shift (R306). -/
def State.acceptShift (s : State) (n : Nat) (sd : Side) : State :=
  if s.rbit (R.LRN_STAT n) (frozenBit sd) then
    let m := s.rsfld (R.LRN_SHIFT_MEAN n) (16 * sideNum sd) 16
    ((((s.updLane n fun l => l.setBase sd (l.base sd + m * 256)).modelSat n).setBit (R.LRN_STAT n) (frozenBit sd) false).setFld
      (R.LRN_SHIFT_MEAN n) (16 * sideNum sd) 16 0).startAcq n sd
  else s

/-- The seed is loaded into both bases and TC values, band offsets are 0, and acquisition starts for both sides (R67,
R303, R307). -/
def State.loadSeed (s : State) (n : Nat) : State :=
  let tc := s.reg (R.LRN_SEED_TC n)
  ((s.updLane n fun l => { l with
    baseO := (s.rfld (R.LRN_SEED_OPEN n) 0 24 : Int) * 256, baseC := (s.rfld (R.LRN_SEED_CLOSE n) 0 24 : Int) * 256,
    tcO := sfld tc 0 16 * 256, tcC := sfld tc 16 16 * 256, bands := [], runO := [], runC := [] }).startAcq n
      .opening).startAcq n .closing

/-- CLEAR (R307). -/
def State.clearModel (s : State) (n : Nat) : State :=
  let s1 := (s.loadSeed n).updLane n fun l => { l with appliedO := 0, appliedC := 0 }
  let s2 := ((s1.setBit (R.LRN_STAT n) lsFrozenOpen false).setBit (R.LRN_STAT n) lsFrozenClose false).setBit
    (R.LRN_STAT n) lsLearned false
  (s2.setReg (R.LRN_SHIFT_MEAN n) 0).sendLat true n

/-- A write of LRN_CMD (R306, R307, R315). -/
def lrnCmd (n : Nat) (w : Word) (s : State) : State :=
  let s1 :=
    if w.getLsbD 0 then s.clearModel n
    else (s.when (w.getLsbD 1) fun u => u.acceptShift n .opening).when (w.getLsbD 2) fun u => u.acceptShift n .closing
  s1.when (w.getLsbD 3) fun u => u.updLane n fun l => { l with calNow := true }

/-- ACCEPT_OPEN, ACCEPT_CLOSE, LRN_CLEAR, BURNISH_NOW (R306, R307, R315): the bits of LRN_CMD. -/
def execAcceptOpen (el : Nat) (p : Port) (n : Fin 160) (s : State) : Host.Outcome State Fault Refusal :=
  .next ((s.begin el).writeCmd p (R.LRN_CMD n) 2 (lrnCmd n))

/-- ACCEPT_CLOSE (R306). -/
def execAcceptClose (el : Nat) (p : Port) (n : Fin 160) (s : State) : Host.Outcome State Fault Refusal :=
  .next ((s.begin el).writeCmd p (R.LRN_CMD n) 4 (lrnCmd n))

/-- LRN_CLEAR (R307). -/
def execLrnClear (el : Nat) (p : Port) (n : Fin 160) (s : State) : Host.Outcome State Fault Refusal :=
  .next ((s.begin el).writeCmd p (R.LRN_CMD n) 1 (lrnCmd n))

/-- BURNISH_NOW (R315). -/
def execBurnishNow (el : Nat) (p : Port) (n : Fin 160) (s : State) : Host.Outcome State Fault Refusal :=
  .next ((s.begin el).writeCmd p (R.LRN_CMD n) 8 (lrnCmd n))

/-- BURNISH_AGE, s, saturating; all ones before the first accepted calibration (07 Table 6). -/
def State.burnAge (s : State) (n : Nat) : Nat :=
  match (s.lane n).burnAt with
  | some t => satN 32 (roundDiv (s.now - t : Nat) 1000000000).toNat
  | none => 0xFFFFFFFF

/-- STITCH_LANE_NEXT of a lane lies more than 2 ms ahead, or its calendar is empty (R315). That of a HELD entry reads 0 (log 116). -/
def State.idleGap (s : State) (n : Nat) : Bool :=
  match s.logicalOf n with
  | none => true
  | some k => match Tab.get (fun _ => []) s.stitch.cal k with
    | [] => true
    | e :: _ => !e.held && decide ((s.localDt (n / 8)) + 2000000 < e.opn)

/-- A lane of a tile qualifies for a calibration (R315). -/
def State.burnMay (s : State) (n : Nat) : Bool :=
  decide (s.role n ≠ 0) && !s.laneBusy n && (s.lane n).pulses.isEmpty && (s.safeOn (chLane n)).isNone && s.idleGap n &&
    (decide (s.rfld (R.BURNISH_PERIOD (n / 8)) 0 16 ≤ s.burnAge n) || (s.lane n).calNow)

/-- BURNISH_START (R315, R316): of the lanes that qualify, the one with the largest age; the lowest number of equals. -/
def execBurnishStart (el : Nat) (t : Fin 20) (s : State) : Host.Outcome State Fault Refusal :=
  .next ((s.begin el).onTile t fun u =>
    if !u.rbit (R.LRN_TILE_CFG t) 1 || u.rbit (R.BURNISH_STAT t) 31 || (u.tile t).idle.isSome then u
    else match argMax (fun n => (u.burnAge n : Int)) ((tileLanes t).filter fun n => u.burnMay n) with
      | none => u
      | some n =>
        (u.setReg (R.BURNISH_STAT t) (wordN (2 ^ 31 + n % 8 * 256 + 1))).setTile t { u.tile t with burn := some (u.localDt t) })

/-- BURNISH_STAT's step now (R316, Table 4). -/
def burnStep (d : Int) : Nat :=
  if d < 64000 then 1 else if d < 148000 then 2 else if d < 212000 then 3 else if d < 296000 then 4 else 5

/-- The results of a calibration (R316): offsets in mA and mV, gains in 2⁻¹⁶, and the comparator offset in mA. -/
def burnOk (io ig vo vg co : Int) : Bool :=
  decide (io.natAbs ≤ 50) && decide (ig.natAbs * 20 ≤ 65536) && decide (vo.natAbs ≤ 200) &&
    decide (vg.natAbs * 100 ≤ 3 * 65536) && decide (co.natAbs ≤ 30)

/-- BURNISH_COMPLETE (R316, R318): the running calibration of a tile has finished its steps with these results. -/
def execBurnishComplete (el : Nat) (t : Fin 20) (io ig vo vg co : BitVec 16) (s : State) :
    Host.Outcome State Fault Refusal :=
  .next ((s.begin el).onTile t fun u =>
    match (u.tile t).burn with
    | none => u
    | some b =>
      if (u.localDt t) < b + 496000 then u
      else
        let n := 8 * t.val + u.rfld (R.BURNISH_STAT t) 8 3
        let s1 := (u.burnEnd t).updLane n fun l =>
          { l with calNow := false }
        if burnOk io.toInt ig.toInt vo.toInt vg.toInt co.toInt then
          ((((s1.setReg (R.BURNISH_I_CORR n) (ig ++ io)).setReg (R.BURNISH_V_CORR n) (vg ++ vo)).setReg (R.BURNISH_DAC n)
            (co.setWidth 32)).count (R.BURNISH_DONE n) 1).updLane n fun l =>
              { l with burnAt := some u.now, stale := false }
        else (s1.event (R.LRN_FLAGS n) lfBurnFail).fault srcAdcCal n 0)

/-- BURNISH_STALE (R319): BURNISH_AGE reaches BURNISH_MAXAGE. The age of a lane never calibrated is past it from reset; it
is reported once. -/
def execBurnishStale (el : Nat) (n : Fin 160) (s : State) : Host.Outcome State Fault Refusal :=
  .next ((s.begin el).onTile (n / 8) fun u =>
    if !(u.lane n).stale && decide (u.rfld (R.BURNISH_MAXAGE (n / 8)) 0 16 ≤ u.burnAge n) then
      ((u.updLane n fun l => { l with stale := true }).event (R.LRN_FLAGS n) lfBurnStale).fault srcAdcCalStale n 0
    else u)

/-- Where a lane's record lies in the store (R311; 16 Tables 4 and 5). -/
def laneRecAt (n : Nat) : Nat := 0x16800000 + n * 256

/-- LRN_TC of a lane: both values rounded to 1/16 of 10 ns per °C (07 Table 6). -/
def State.tcWord (s : State) (n : Nat) : Word :=
  let l := s.lane n
  let f (v : Int) : Nat := (satI 16 (roundDiv v 256) % 65536).toNat
  wordN (f l.tcC * 65536 + f l.tcO)

/-- The stored record of a lane (R311, Table 3). Table 3 gives the Burnish words 14 bytes and names 10; the other four are
free values (log 5). -/
def State.laneRec (s : State) (n : Nat) (open4 : Word) : List Byte :=
  let l := s.lane n
  let st := s.reg (R.LRN_STAT n)
  let flags := b2n (st.getLsbD lsLearned) + 2 * b2n (st.getLsbD lsFrozenClose) + 4 * b2n (st.getLsbD lsFrozenOpen)
  let w (v : Int) : List Byte := bytesOfWord (wordI v)
  let body := leBytes 2 0x4C4D ++ leBytes 1 n ++ leBytes 1 flags ++ w l.baseO ++ w l.baseC ++ bytesOfWord (s.tcWord n) ++
    ((List.range 8).map fun b => w (s.bandTerm n .opening b)).flatten ++
    ((List.range 8).map fun b => w (s.bandTerm n .closing b)).flatten ++
    leBytes 2 (satN 16 l.appliedO) ++ leBytes 2 (satN 16 l.appliedC) ++ bytesOfWord (s.reg (R.BURNISH_I_CORR n)) ++
    bytesOfWord (s.reg (R.BURNISH_V_CORR n)) ++ leBytes 2 (s.rfld (R.BURNISH_DAC n) 0 16) ++ bytesOfWord open4 ++
    leBytes 8 s.dt ++ List.replicate 146 0
  body ++ bytesOfWord (crc32c body)

/-- The models of every physical lane are copied into the store (R311), as often as 16 R638 allows. -/
def State.copyModels (s : State) : State :=
  let s1 := forN (fun n u =>
    u.wearing (laneRecAt n) fun v =>
      let d := v.draw 42
      d.2.setStoreBytes (laneRecAt n) (d.2.laneRec n d.1)) 160 s
  { s1 with rcd := { s1.rcd with copyAt := s.now } }

/-- MODEL_COPY (R311): every 600 s. -/
def execModelCopy (el : Nat) (s : State) : Host.Outcome State Fault Refusal :=
  let t := s.begin el
  .next (if t.works 36 ∧ t.rfld R.MSS_STAT 0 2 = 0 ∧ t.rcd.copyAt + 600000000000 ≤ t.now then t.copyModels else t)

/-- A lane's record is restored at boot (R312): its model where magic, lane number and CRC are right, and otherwise
RESTORE_FAIL and source MODEL_RESTORE. `hits` is what the reads of the store meet; an uncorrectable word fails the record. -/
def State.restoreLane (s0 : State) (hits : List EccHit) (n : Nat) : State :=
  let s := s0.devRead hits (laneRecAt n) 256
  let b := s.storeBytes (laneRecAt n) 256
  let i32 (o : Nat) : Int := (BitVec.ofNat 32 (leAt b o 4)).toInt
  let i16 (o : Nat) : Int := (BitVec.ofNat 16 (leAt b o 2)).toInt
  if leAt b 0 2 = 0x4C4D ∧ leAt b 2 1 = n ∧ leAt b 0xFC 4 = (crc32c (b.take 252)).toNat ∧
      (s.poisonIn (laneRecAt n) 256).isEmpty then
    let bands := forN (fun k t => Tab.set (fun _ => (0 : Int)) t k (i32 (0x10 + 4 * k))) 16 []
    let aO := leAt b 0x50 2
    let aC := leAt b 0x52 2
    let s1 := s.updLane n fun l => { l with
      baseO := leAt b 4 4, baseC := leAt b 8 4, tcO := i16 0xC * 256, tcC := i16 0xE * 256, bands := bands,
      appliedO := aO, appliedC := aC, acqO := aO, acqC := aC }
    let s2 := ((s1.setReg (R.BURNISH_I_CORR n) (wordN (leAt b 0x54 4))).setReg (R.BURNISH_V_CORR n)
      (wordN (leAt b 0x58 4))).setReg (R.BURNISH_DAC n) (wordN (leAt b 0x5C 2))
    let fl := leAt b 3 1
    ((((((s2.setBit (R.LRN_STAT n) lsRestored true).setBit (R.LRN_STAT n) lsLearned true).setBit (R.LRN_STAT n)
      lsFrozenClose (fl / 2 % 2 == 1)).setBit (R.LRN_STAT n) lsFrozenOpen (fl / 4 % 2 == 1)).setBit (R.LRN_STAT n)
      lsAcqOpen (decide (aO < 16))).setBit (R.LRN_STAT n) lsAcqClose (decide (aC < 16)))
  else (s.event (R.LRN_FLAGS n) lfRestoreFail).fault srcModelRestore n 0

end Sys2Proof.Machine
end

