-- ==== Sys2Proof/Machine/SafeState.lean ====
section
/-!
DEFINITION. Cinch, the safe-state controller, and loss of ground (14_safety_and_faults.md, R558–R587, R703; 06 R277, 08 R329, 10
R420), with the commands of the fault manager's registers.
-/
namespace Sys2Proof.Machine

/-- Bits of FM_IRQ_STAT (Table 11). -/
abbrev fiCinch : Nat := 5
abbrev fiSafe : Nat := 6
abbrev fiRefused : Nat := 7

/-- An event of FM_IRQ_STAT; nothing reaches island 37 while it is isolated. -/
def State.fmEvent (s : State) (i : Nat) : State := s.when (s.up 37) fun t => t.event R.FM_IRQ_STAT i

/-! The safe-state controller (R580–R586). -/

/-- The fail-safe channels that island `i` holds (R38), and all of them. -/
def chansOf (i : Nat) : List Nat :=
  if i < 20 then (List.range 8).map fun j => chLane (8 * i + j)
  else if i < 22 then (List.range 4).map fun j => chAxis (4 * (i - 20) + j)
  else if i = 22 then (List.range 8).map chCmp
  else if i < 29 then (List.range 4).map fun j => chSwitch (4 * (i - 23) + j)
  else []
def allChans : List Nat := (List.range 29).flatMap chansOf

/-- The island that holds a channel. -/
def islandOfChan (ch : Nat) : Nat :=
  if ch < 160 then ch / 8 else if ch < 184 then 23 + (ch - 160) / 4 else if ch < 192 then 20 + (ch - 184) / 4 else 22

/-- The stored fail-safe state of a channel (Table 7). -/
def State.storedState (s : State) (ch : Nat) : Nat :=
  if ch < 160 then s.rfld (R.SAFE_LANE (ch / 16)) (2 * (ch % 16)) 2
  else if ch < 184 then s.rfld (if ch < 176 then R.SAFE_SW0 else R.SAFE_SW1) (2 * ((ch - 160) % 16)) 2
  else if ch < 192 then s.rfld R.SAFE_AXCMP (2 * (ch - 184)) 2
  else s.rfld R.SAFE_AXCMP (16 + (ch - 192)) 1

/-- What the stage of a channel does when its line asserts APPLY with state `st` (R580), and when it is released (R585). -/
def State.lineOn (s : State) (ch st : Nat) : State :=
  if ch < 160 then s.laneLineOn ch st
  else if ch < 184 then s.swLineOn (ch - 160) st
  else if ch < 192 then s.axLineOn (ch - 184)
  else s.cmpLineOn (ch - 192) st
def State.lineOff (s : State) (ch st : Nat) : State :=
  if ch < 160 then s.laneLineOff ch st
  else if ch < 184 then s.swLineOff (ch - 160)
  else if ch < 192 then s.axLineOff (ch - 184)
  else s.cmpLineOff (ch - 192)

/-- A line takes a state, or is released. -/
def State.setLine (s : State) (ch : Nat) (v : Option Nat) : State :=
  ({ s with safe := { s.safe with applied := Tab.set (fun _ => none) s.safe.applied ch v } }).pinLatch

/-- The stored state of a channel is applied, unless one is already (R583, R586). -/
def State.applyChan (s : State) (ch : Nat) : State :=
  match s.safeOn ch with
  | some _ => s
  | none =>
    let st := s.storedState ch
    (s.setLine ch (some st)).lineOn ch st
def State.applyChans (s : State) (l : List Nat) : State := forL (fun ch t => t.applyChan ch) l s

/-- An application is recorded: it adds its cause bit to SAFE_STAT, whose cause bits the occurrence carries (R551, R583). -/
def State.applied (s : State) (cause : Nat) : State :=
  let t := s.setBit R.SAFE_STAT cause true
  ((t.count R.SAFE_APPLY_CNT 1).fmEvent fiSafe).fault srcSafeState 0 (wordN (t.rfld R.SAFE_STAT 0 3))

/-- The bits of SAFE_STAT (Table 10). -/
abbrev scIsland : Nat := 0
abbrev scHost : Nat := 1
abbrev scCinch : Nat := 2

/-- The whole table is applied with a cause (R583; 02 R96). -/
def State.applyAll (s : State) (cause : Nat) : State :=
  ((s.applyChans allChans).applied cause).handoverSafe (List.range 22)

/-- The stored states of an island that is declared down are applied, while island 38 works (R38, R583). -/
def State.applyIsland (s : State) (i : Nat) : State :=
  if (chansOf i).isEmpty || !s.up 38 then s
  else
    let s1 := { s with safe := { s.safe with islands := s.safe.islands.filter (fun j => j != i) ++ [i] } }
    ((s1.applyChans (chansOf i)).applied scIsland).handoverSafe [i]

/-- A cause that covers a channel remains (R585). -/
def State.covered (s : State) (ch : Nat) : Bool :=
  s.safe.toggleLost || s.rbit R.SAFE_STAT scHost || s.rbit R.SAFE_STAT scCinch ||
    s.safe.islands.contains (islandOfChan ch)

/-- Every line without a cause is released (R585). -/
def State.releaseLines (s : State) : State :=
  forL (fun e t =>
    match e.2 with
    | some st => if t.covered e.1 then t else (t.lineOff e.1 st).setLine e.1 none
    | none => t) s.safe.applied s

/-- The ISLAND cause of an island is removed (R585). -/
def State.releaseIsland (s : State) (i : Nat) : State :=
  let l := s.safe.islands.filter fun j => j != i
  let s1 := { s with safe := { s.safe with islands := l } }
  (s1.when l.isEmpty fun t => t.when (t.up 38) fun u => u.setBit R.SAFE_STAT scIsland false).releaseLines

/-- After the reset of an island its stages still carry the states of the lines that stay applied (R40, R585). -/
def State.holdLines (s : State) (i : Nat) : State :=
  forL (fun ch t => match t.safeOn ch with
    | some st => t.lineOn ch st
    | none => t) (chansOf i) s

/-- Cinch is EXPIRED (CINCH_STAT.STATE 3). -/
def State.expired (s : State) : Bool := s.rfld R.CINCH_STAT 30 2 == 3

/-- What a write of SAFE_CMD does (R583–R585). -/
def safeCmd (w : Word) (s : State) : State :=
  if w.getLsbD 0 then
    let s1 := s.applyAll scHost
    s1.when (w.getLsbD 1) fun t => t.fmEvent fiRefused
  else if w.getLsbD 1 then
    if s.expired then s.fmEvent fiRefused
    else ((s.setBit R.SAFE_STAT scHost false).setBit R.SAFE_STAT scCinch false).releaseLines
  else s

/-- SAFE_APPLY (R583, R584). -/
def execSafeApply (el : Nat) (p : Port) (v : Word) (s : State) : Host.Outcome State Fault Refusal :=
  .next ((s.begin el).writeCmd p R.SAFE_CMD (v ||| 1) safeCmd)

/-- SAFE_RELEASE (R585). -/
def execSafeRelease (el : Nat) (p : Port) (v : Word) (s : State) : Host.Outcome State Fault Refusal :=
  .next ((s.begin el).writeCmd p R.SAFE_CMD (v ||| 2) safeCmd)

/-- ISLAND38_LOSS (R703): the alive toggle has been absent for 4 µs. Every stage applies its stored state and no block records
it; the pins assert until a device reset; Cinch stops. -/
def execIsland38Loss (el : Nat) (s : State) : Host.Outcome State Fault Refusal :=
  let t := s.begin el
  .next (if t.up 38 then
    let a := t.applyChans allChans
    let b := { a with safe := { a.safe with toggleLost := true }, fm := { a.fm with pinsLatched := true } }
    ((b.setUp 38 false).event R.SYS_ISLAND_LOST1 6).fault srcIslandClock 38 0
  else t)

/-! Cinch (R571–R579). -/

/-- CINCH_STAT: STATE, Q, ERRCNT and NEXT. -/
def State.cinchState (s : State) : Nat := s.rfld R.CINCH_STAT 30 2
def State.cinchQ (s : State) : Nat := s.rfld R.CINCH_STAT 16 8
def State.cinchErr (s : State) : Nat := s.rfld R.CINCH_STAT 8 3
def State.cinchNext (s : State) : Nat := s.rfld R.CINCH_STAT 0 2

/-- Cinch beside its registers takes a new value. -/
def State.updCinch (s : State) (f : CinchSt → CinchSt) : State := { s with cinch := f s.cinch }

/-- The expected answer i (R574), and the next question (R573). -/
def cinchAnswer (q i seed : Nat) : Nat := (29 * q + 55 * i + seed) % 256
def cinchStep (q : Nat) : Nat := if q % 2 = 1 then Nat.xor (q / 2) 0xB8 else q / 2

/-- A bad answer of the window, with its cause (R576). -/
def State.cinchBad (s : State) (cause : Nat) : State :=
  ((s.updCinch fun c => { c with bad := some cause }).count R.CINCH_BAD_ANS 1).setFld R.CINCH_STAT 0 2 0

/-- The length of the running window, ns on the island 38 oscillator (R575, R578). -/
def State.cinchLen (s : State) : Nat :=
  (if s.cinch.first then s.rfld R.CINCH_WIN 16 16 else s.rfld R.CINCH_WIN 8 8) * 1000000

/-- The time in the window by the island 38 oscillator: what is reported, held to the ±5 % of its rate (R575). -/
def State.cinchTime (s : State) (t38 : Nat) : Nat :=
  let e := s.now - s.cinch.start
  max (e * 95 / 100) (min t38 (e * 105 / 100))

/-- The running window may have ended: its length has passed on an oscillator at most 5 % fast (R575). -/
def State.cinchOver (s : State) : Bool := decide (s.cinchLen * 100 ≤ (s.now - s.cinch.start) * 105)

/-- An answer arrives `t38` ns into the window, on the island 38 oscillator (R575, R576). One that is ignored counts in
CINCH_CRC_ERR (R571). -/
def State.cinchTake (s : State) (i : Nat) (a : Byte) (t38 : Nat) : State :=
  let first := s.cinch.first
  if s.cinchState = 0 ∨ s.cinch.bad.isSome then s.count R.CINCH_CRC_ERR 1
  else if s.cinch.done ∨ i ≠ s.cinchNext ∨ a.toNat ≠ cinchAnswer s.cinchQ i (s.rfld R.CINCH_CFG 0 8) then s.cinchBad 1
  else if i = 3 then
    if !first ∧ s.cinchTime t38 < s.rfld R.CINCH_WIN 0 8 * 1000000 then s.cinchBad 2
    else (s.updCinch fun c => { c with done := true }).setFld R.CINCH_STAT 0 2 0
  else s.setFld R.CINCH_STAT 0 2 (i + 1)

/-- The status byte of the Cinch port (Table 6). -/
def State.cinchStatus (s : State) : Byte :=
  BitVec.ofNat 8 (128 * b2n (!s.up 37) + 64 * b2n s.faultPin + 32 * b2n s.expired + 4 * s.cinchErr + s.cinchNext)

/-- A transaction on the Cinch port (R571, R572): what MISO drives, taken when CS falls, and what the supervisor sent. While
island 38 is down MISO is high impedance (R703). -/
def State.cinchXfer (s : State) (cmd arg chk : Byte) (len t38 : Nat) : State :=
  if s.up 38 then
    let q : Byte := BitVec.ofNat 8 s.cinchQ
    let s1 := s.send (.cinch (([0xFF, q, s.cinchStatus, crc8 [q, s.cinchStatus]] : List Byte).take len))
    if len ≠ 4 ∨ chk ≠ crc8 [cmd, arg] then s1.count R.CINCH_CRC_ERR 1
    else if cmd = 0x0F then s1
    else if 0x80 ≤ cmd.toNat ∧ cmd.toNat ≤ 0x83 then
      if s.rbit R.CINCH_CFG 30 then s1.count R.CINCH_CRC_ERR 1 else s1.cinchTake (cmd.toNat - 0x80) arg t38
    else s1.count R.CINCH_CRC_ERR 1
  else s

/-- CINCH_QUERY (R572). -/
def execCinchQuery (el : Nat) (cmd arg chk : Byte) (len t38 : Nat) (s : State) : Host.Outcome State Fault Refusal :=
  .next ((s.begin el).cinchXfer cmd arg chk len t38)

/-- CINCH_ANSWER (R576). -/
def execCinchAnswer (el : Nat) (cmd arg chk : Byte) (len t38 : Nat) (s : State) : Host.Outcome State Fault Refusal :=
  .next ((s.begin el).cinchXfer cmd arg chk len t38)

/-- What a write of CINCH_ANSWER does (R571). -/
def cinchWritten (t38 : Nat) (w : Word) (s : State) : State :=
  if s.rbit R.CINCH_CFG 30 then s.cinchTake (fld w 8 2) (w.extractLsb' 0 8) t38 else s.count R.CINCH_CRC_ERR 1

/-- CINCH_ANSWER_WRITE (R571). -/
def execCinchAnswerWrite (el : Nat) (p : Port) (v : Word) (t38 : Nat) (s : State) : Host.Outcome State Fault Refusal :=
  .next ((s.begin el).writeCmd p R.CINCH_ANSWER v (cinchWritten t38))

/-- Cinch reaches RUN (R564, R578, R579). -/
def State.cinchRun (s : State) : State :=
  ((s.setFld R.CINCH_STAT 30 2 2).updCinch fun c => { c with awaitRun := false }).pinLatch

/-- The end of a good window (R573, R577–R579). -/
def State.cinchGood (s : State) : State :=
  let e := s.cinchErr - 1
  let s1 := (s.setFld R.CINCH_STAT 8 3 e).setFld R.CINCH_STAT 16 8 (cinchStep s.cinchQ)
  if s.cinchState = 1 ∨ e = 0 then s1.cinchRun else s1

/-- The end of a window that is not good (R577–R579). -/
def State.cinchMissed (s : State) : State :=
  let lim := s.rfld R.CINCH_CFG 16 3
  let e := if s.cinch.first then lim else if s.cinchErr < 7 then s.cinchErr + 1 else 7
  let s1 := (((s.count R.CINCH_MISS 1).setFld R.CINCH_STAT 8 3 e).fmEvent fiCinch).fault srcCinchMiss 0
    (wordN (s.cinch.bad.getD 0))
  if lim ≤ e ∧ !s.expired then
    ((s1.setFld R.CINCH_STAT 30 2 3).count R.CINCH_EXPIRIES 1).applyAll scCinch
  else s1

/-- CINCH_WINDOW_END (R575, R577–R579): the running window ends, by the island 38 oscillator, and the next one opens. -/
def execCinchWindowEnd (el : Nat) (s : State) : Host.Outcome State Fault Refusal :=
  let t := s.begin el
  .next (if t.up 38 ∧ t.cinchState ≠ 0 ∧ t.cinchOver then
    let u := if t.cinch.done && t.cinch.bad.isNone then t.cinchGood else t.cinchMissed
    (u.updCinch fun c => { c with bad := none, done := false, first := false, start := t.now }).setFld R.CINCH_STAT 0 2 0
  else t)

/-- Cinch starts when boot loading ends (R571, R578). -/
def State.cinchStart (s : State) : State :=
  if s.rbit R.CINCH_CFG 31 && s.up 38 then
    (s.setReg R.CINCH_STAT 0x40A50000).updCinch fun _ => ⟨none, false, true, true, s.now⟩
  else s

/-! The fault manager's registers. -/

/-- FM_SRC_ACK (R558, R559). -/
def srcAcked (src : Nat) (w : Word) (s : State) : State :=
  s.when (w.getLsbD 0 && decide (src ∈ faultCodes)) fun t =>
    if src ∈ t.acked then { t with acked := t.acked.erase src } else t.ack src
def execFmSrcAck (el : Nat) (p : Port) (src : Fin 128) (s : State) : Host.Outcome State Fault Refusal :=
  .next ((s.begin el).writeCmd p (R.FM_SRC_ACK src) 1 (srcAcked src))

/-- FM_SRC_STAT_READ (R560). -/
def execFmSrcStatRead (el : Nat) (p : Port) (src : Fin 128) (s : State) : Host.Outcome State Fault Refusal :=
  .next ((s.begin el).readCmd p (R.FM_SRC_STAT src) fun t => t.readSrcStat src)

/-- What a write of FM_CMD does: bit 1 PIN_TEST, with the levels read back from the balls; bit 0 CNT_CLEAR, which reaches
the counters in island 38 while it works. -/
def fmCmd (faultLow safeLow : Bool) (w : Word) (s : State) : State :=
  (s.when (w.getLsbD 1) fun t => t.pinTestStart faultLow safeLow).when (w.getLsbD 0) fun t =>
    t.clearRegs (fmCounters.filter fun a => t.up (islandOf a))

/-- PIN_TEST (R566). -/
def execPinTest (el : Nat) (p : Port) (faultLow safeLow : Bool) (s : State) : Host.Outcome State Fault Refusal :=
  .next ((s.begin el).writeCmd p R.FM_CMD 2 (fmCmd faultLow safeLow))

/-- FM_CNT_CLEAR (R587). -/
def execFmCntClear (el : Nat) (p : Port) (s : State) : Host.Outcome State Fault Refusal :=
  .next ((s.begin el).writeCmd p R.FM_CMD 1 (fmCmd true true))

/-! Loss of ground. -/

/-- GROUND_LOSS (06 R277, 08 R329, 10 R420): every lane, group, bridge and switch turns off; one occurrence for the device. -/
def execGroundLoss (el : Nat) (s : State) : Host.Outcome State Fault Refusal :=
  let t := s.begin el
  .next (if t.sys.gndLost then t
    else
      let a := { ((forN (fun i u => u.cutTile i) 20 t).traceStop (fun _ => true) t.dtI) with sys := { t.sys with gndLost := true } }
      ((forN (fun i (u : State) => u.axStop i) 8 a).swAllOff).fault srcGndLoss 0 0)

/-- GROUND_RETURN (06 R277, R279, 10 R420): the flags set, switch channels return to their commanded states, and lanes in
fail-safe HOLD resume it. -/
def execGroundReturn (el : Nat) (s : State) : Host.Outcome State Fault Refusal :=
  let t := s.begin el
  .next (if t.sys.gndLost then
    let a := { t with sys := { t.sys with gndLost := false } }
    let b := forN (fun i u => (u.when (u.up i) fun w => w.event (R.TILE_IRQ_STAT i) tiGndLoss).resumeHold i) 20 a
    (b.swEvent 8).swAllRestore
  else t)

end Sys2Proof.Machine
end

