-- ==== Sys2Proof/Machine/Security.lean ====
section
/-!
DEFINITION. The security commands (15_security_and_update.md, R590–R595, R600–R602, R612–R615, R618–R625): ownership, keys,
attestation, debug, and the update of images and firmware. What the engine's random source yields, and whether OTP burns read back,
come with the command.
-/
namespace Sys2Proof.Machine

/-- The result codes of Table 13. -/
abbrev scOk : Nat := 0
abbrev scBusy : Nat := 1
abbrev scRefused : Nat := 2
abbrev scSignature : Nat := 3
abbrev scFormat : Nat := 4
abbrev scNoSession : Nat := 5
abbrev scOtpFail : Nat := 6
abbrev scMssBusy : Nat := 7
abbrev scIdLost : Nat := 8

/-- Nothing met. -/
def SecIn.none : SecIn := ⟨[], [], []⟩

/-- `n` bytes of the command buffer from offset `o` on, and the buffer from its first byte on taking bytes. -/
def State.secBuf (s : State) (o n : Nat) : List Byte :=
  (List.range n).map fun i => (s.reg (R.SEC_BUF ((o + i) / 4))).extractLsb' (8 * ((o + i) % 4)) 8
def State.setWords (s : State) (a : Nat) : List Word → State
  | [] => s
  | w :: r => (s.setReg a w).setWords (a + 4) r
def State.setSecBuf (s : State) (l : List Byte) : State := s.setWords (R.SEC_BUF 0) (wordsOfBytes l)

/-- A command ends with a result (R625); what it changed in the security records is written (R589). -/
def State.secEnd (s : State) (op res : Nat) : State :=
  (s.putRec.setReg R.SEC_CMD_STAT (wordN (op * 256 + res))).when (res != 0) fun t => t.event R.SEC_IRQ_STAT siRefused

/-- A burn does not read back (R590). -/
def State.otpFail (s : State) (op : Nat) : State := (s.event R.SEC_IRQ_STAT siOtp).secEnd op scOtpFail

/-- Owner key `k` with its hash comes into force (R594). -/
def State.setOwner (s : State) (k : Nat) (hash : List Byte) : State :=
  ((s.setFld R.SEC_STAT 0 2 k).setBit R.SEC_STAT stOwned true).setWords (R.SEC_OWNER_HASH 0) (wordsOfBytes (fit 48 hash))

/-- The hash of the owner key in the command buffer: SHA-384 of its 97-byte point (R592, R593). -/
def State.keyHash (s : State) : List Byte := sha384 (s.secBuf 0 97)

/-- The key record for OWNER_HASH`k` is stored: the key in the command buffer. -/
def State.storeKey (s : State) (k : Nat) : State :=
  (s.updSec fun q => { q with recs := Tab.set (fun _ => []) q.recs k (s.secBuf 0 97) }).putRec

/-- A signature whose R and S stand in the command buffer at offsets `r` and `q` verifies under some of `keys` over a message. -/
def State.bufSig (s : State) (keys : List (List Byte)) (m : List Byte) (r q : Nat) : Bool :=
  keys.any fun k => ecdsaOk k (sha384 m) (s.secBuf r 48) (s.secBuf q 48)

/-- How many of `n` burns in turn read back before the first that does not (R590); a verdict that is missing is good. -/
def burned (burns : List Bool) (n : Nat) : Nat := ((burns ++ List.replicate n true).take n).findIdx (! ·)

/-- TAKE_OWNER (R591, R592). On a device that is treated as unowned although a hash is burned (R594), the burn of another hash
reads back differently (R590). -/
def State.takeOwner (s : State) (i : SecIn) : State :=
  let h := s.keyHash
  if s.owned then s.secEnd 1 scRefused
  else if s.secBuf 0 1 ≠ [4] then s.secEnd 1 scFormat
  else if !i.burns.headD true ∨ s.sec.owners.headD h ≠ h then (s.storeKey 0).otpFail 1
  else ((((s.storeKey 0).updSec fun q => { q with owners := h :: q.owners.tail }).setOwner 0 h).setBit R.SEC_STAT stBad false).secEnd 1
    scOk

/-- ROTATE_OWNER (R593, R595): the key record, the next hash, and the revocation of the hash before, each burn read back (R590). -/
def State.rotateOwner (s : State) (i : SecIn) : State :=
  let n := s.sec.owners.length
  let h := s.keyHash
  if !s.owned ∨ 4 ≤ n then s.secEnd 2 scRefused
  else if s.secBuf 0 1 ≠ [4] then s.secEnd 2 scFormat
  else if !s.bufSig (s.ownerKeys.take 1) (s.serial ++ s.secBuf 0 97) 0x68 0x98 then s.secEnd 2 scSignature
  else if !i.burns.headD true then (s.storeKey n).otpFail 2
  else
    let t := (((s.storeKey n).updSec fun q => { q with owners := q.owners ++ [h], prevOk := true }).setOwner n h).setBit R.SEC_STAT
      stPrev true
    if i.burns.tail.headD true then
      (t.updSec fun q => { q with revoked := q.revoked ||| BitVec.twoPow 4 (n - 1) }).secEnd 2 scOk
    else t.otpFail 2

/-- The session port of a host port; QSPI has none (R600). -/
def sessOf (p : Port) : Option Nat :=
  match p with
  | .eth1 => some ssEth1
  | .usb => some ssUsb
  | .qspi => none

/-- A key slot takes a key, or is emptied: SEC_KEY_STAT and SEC_KEY_USE show it. -/
def State.setKey (s : State) (k : Nat) (v : Option KeySlot) : State :=
  (((s.updSec fun q => { q with keys := Tab.set (fun _ => none) q.keys k v }).setBit R.SEC_KEY_STAT k v.isSome).setFld
    R.SEC_KEY_USE (2 * k) 2 ((v.map KeySlot.usage).getD 0)).notePicks s

/-- KEY_LOAD (R600). -/
def State.keyLoad (s : State) (p : Port) (k : Nat) : State :=
  let use := leNat (s.secBuf 0 1)
  let kek := match sessOf p with
    | some j => Tab.get (fun _ => []) s.sec.keks j
    | none => []
  if 8 ≤ k ∨ use = 0 ∨ 2 < use then s.secEnd 3 scFormat
  else if kek.isEmpty then s.secEnd 3 scNoSession
  else match kwUnwrap kek (s.secBuf 8 40) with
    | none => s.secEnd 3 scRefused
    | some b => (s.setKey k (some ⟨use, b⟩)).secEnd 3 scOk

/-- KEY_ERASE (R600). -/
def State.keyErase (s : State) (k : Nat) : State :=
  if 8 ≤ k then s.secEnd 4 scFormat else (s.setKey k none).secEnd 4 scOk

/-- The patch chain (Table 8): H_0 is zero, and H_k is the SHA-384 of H_(k−1) and the digest of patch k. -/
def State.patchChain (s : State) : List Byte :=
  s.ldr.digests.foldl (fun h d => sha384 (h ++ d)) (List.replicate 48 0)

/-- The attestation report (Table 8), signed with the identity key; `rnd` is what the random source yields for the signature. -/
def State.attReport (s : State) (nonce rnd : List Byte) : List Byte :=
  let words (f : Nat → Nat) : List Byte := ((List.range 12).map fun k => bytesOfWord (s.reg (f k))).flatten
  let fw := s.sec.fwSlot
  let b := leBytes 4 0x54535441 ++ leBytes 2 1 ++ leBytes 2 0x180 ++ s.serial ++ fit 32 nonce ++ leBytes 8 s.dt ++ leBytes 1 s.dtState ++ leBytes 7 0 ++
    fit 48 (Tab.get (fun _ => []) s.sec.fwDigest fw) ++ bytesOfWord (s.reg R.SEC_FW_VERSION) ++
    leBytes 2 (s.rfld R.SEC_FW_RB 16 16) ++ leBytes 1 (s.rfld R.SEC_FW_RB 0 6) ++
    leBytes 1 (fw + 128 * b2n (s.slot (2 + fw) == 3)) ++ words R.LDR_DIGEST ++ bytesOfWord (s.reg R.LDR_VERSION) ++
    leBytes 2 (s.rfld R.SEC_IMG_RB 16 16) ++ leBytes 1 (s.rfld R.SEC_IMG_RB 0 6) ++ leBytes 1 (s.rfld R.LDR_PATCH 0 6) ++
    fit 48 s.patchChain ++ words R.SEC_OWNER_HASH ++ leBytes 1 s.ownerSlot ++
    leBytes 1 (b2n s.sealed + 2 * b2n (s.rfld R.SEC_DBG_STAT 0 2 != 0) + 4 * b2n s.sec.tampered +
      8 * b2n (s.rfld R.SEC_SESS_STAT 8 3 != 0)) ++ leBytes 2 0 ++ bytesOfWord (s.reg R.SEC_TAMPER_CNT) ++ leBytes 8 0
  b ++ ecdsaSign s.sec.idKey (randScalar (fit 48 rnd)) (sha384 b)

/-- ATTEST (R612). -/
def State.attest (s : State) (i : SecIn) : State :=
  if s.sec.idLost then s.secEnd 5 scIdLost
  else if !s.mssReady then s.secEnd 5 scMssBusy
  else (s.setSecBuf (s.attReport (s.secBuf 0 32) i.rnd)).secEnd 5 scOk

/-- `n` words of free values (log 5). -/
def State.drawWords (tag : Nat) : Nat → State → List Word × State
  | 0, s => ([], s)
  | n + 1, s =>
    let d := s.draw tag
    let r := State.drawWords tag n d.2
    (d.1 :: r.1, r.2)

/-- DBG_CHALLENGE (R613): 32 random bytes, free values. -/
def State.dbgChallenge (s : State) : State :=
  let r := State.drawWords 51 8 s
  let b := (r.1.map bytesOfWord).flatten
  ((r.2.setSecBuf b).updSec fun q => { q with challenge := some (b, s.now) }).secEnd 6 scOk

/-- A signature verifies under a Grenyan firmware key that is not revoked, whose hash the boot ROM holds: under one of the public keys
that a signature admits (R613; DEDUCED, log 207). -/
def State.grenyanSig (s : State) (m : List Byte) (r q : Nat) : Bool :=
  let d := sha384 m
  (ecdsaKeys d (s.secBuf r 48) (s.secBuf q 48)).any fun k =>
    ecdsaOk k d (s.secBuf r 48) (s.secBuf q 48) &&
      (List.range 4).any fun i => !s.sec.grnRevoked.getLsbD i && s.sec.grnHash.getD i [] == sha384 k

/-- DBG_RESPONSE (R613, R614). A challenge serves one response. -/
def State.dbgResponse (s : State) : State :=
  let level := leNat (s.secBuf 0 1)
  let s1 := s.updSec fun q => { q with challenge := none }
  match s.sec.challenge with
  | none => s.secEnd 7 scRefused
  | some (b, t) =>
    if s.sec.debugOff ∨ t + 60000000000 ≤ s.now then s1.secEnd 7 scRefused
    else if level = 0 ∨ 2 < level ∨ (s.secBuf 1 7).any fun x => x != 0 then s1.secEnd 7 scFormat
    else if s.secBuf 8 32 ≠ b ∨ s.secBuf 0x28 8 ≠ s.serial then s1.secEnd 7 scRefused
    else if !(if level = 1 then s.bufSig (s.ownerKeys.take 1) (s.secBuf 0 0x30) 0x30 0x60
        else s.grenyanSig (s.secBuf 0 0x30) 0x30 0x60) then s1.secEnd 7 scSignature
    else
      let s2 := s1.when (level == 2) State.zeroizeSlots
      ((s2.setFld R.SEC_DBG_STAT 0 2 (max level (s.rfld R.SEC_DBG_STAT 0 2))).event R.SEC_IRQ_STAT siDebug).secEnd 7 scOk

/-- The scan paths, which the spec does not describe, are open (R614). -/
def State.scanOpen (s : State) : Bool := s.rfld R.SEC_DBG_STAT 0 2 == 2

/-- A tamper setting with 0b11 stored as 0b10 (R615). -/
def tamperStored (w : Word) : Word :=
  ((List.range 5).foldl (fun v k => if fld v (2 * k) 2 = 3 then setFld v (2 * k) 2 2 else v) w) &&& 0x3FF

/-- TAMPER_LOWER (R615), signed with the owner key in force or the previous one (R595). -/
def State.tamperLower (s : State) : State :=
  if !s.owned then s.secEnd 8 scRefused
  else if !s.bufSig s.ownerKeys (s.serial ++ s.secBuf 0 4) 8 0x38 then s.secEnd 8 scSignature
  else (s.setReg R.SEC_TAMPER_CFG (tamperStored (s.reg (R.SEC_BUF 0)))).secEnd 8 scOk

/-! Updates (R618–R624). -/

/-- The slot of a target that holds what the host stages (R618, Table 5): of those that the window lets it write the one written last,
else A before B (log 84). -/
def State.stageSlot (s : State) (target : Nat) : Option Nat :=
  let l := (slotsOf target).filter fun k => s.windowWritable (slotBase k)
  match Tab.get (fun _ => none) s.sec.staged target with
  | some k => if l.contains k then some k else l.head?
  | none => l.head?

/-- The bits of SEC_UPD_STAT that show a revert. -/
def revBit (target : Nat) : Nat := if target = 2 then 17 else 16

/-- The pair (E, M) of a slot's content, as ROLLBACK. -/
def State.slotRb (s : State) (k : Nat) : Nat := s.img (slotBase k) (if k < 2 then 0x14 else 0x10) 2
def rbReg (target : Nat) : Nat := if target = 2 then R.SEC_FW_RB else R.SEC_IMG_RB

/-- An update commit, an activation or the start of trial firmware is under way (R619). -/
def State.updBusy (s : State) : Bool := s.sec.commit.isSome || s.sec.fwWait.isSome

/-- The length of what a slot holds, as its header gives it, within the slot. -/
def State.slotLen (s : State) (k : Nat) : Nat := min (s.img (slotBase k) 8 4) (if k < 2 then 0x600000 else 0x400000)

/-- A commit begins (R618): the MSS starts to read the slot. -/
def State.commitStart (s : State) (target k : Nat) (sec : Bool) (hits : List EccHit) : State :=
  (s.updSec fun q => { q with commit := some (target, k, sec) }).devRead hits (slotBase k) (s.slotLen k)

/-- The staged slot is verified (R618): PENDING or INVALID, and the loader code. A STAGE_COMMIT that waits for it ends. -/
def State.commitEnd (s : State) (target k : Nat) (sec : Bool) : State :=
  let r : Nat × State :=
    if target = 2 then ((s.fwFail (slotBase k)).getD lcNone, s.updSec fun q => { q with
      fwDigest := Tab.set (fun _ => []) q.fwDigest (k - 2) (s.fwImgDigest (slotBase k)) })
    else match s.verify (slotBase k) 0x600000 true with
      | .inl f => (f.code, s.ldrResult f.code f.sect f.pos)
      | .inr _ => (lcNone, s)
  let t := ((r.2.setSlot k (if r.1 = lcNone then 2 else 1)).setBit R.SEC_UPD_STAT (revBit target) false).setReg R.SEC_UPD_RESULT
    (wordN r.1)
  let u := (t.event R.SEC_IRQ_STAT siDone).updSec fun q => { q with commit := none }
  (u.when sec fun v => v.secEnd 0x10 scOk).usbDone false r.1

/-- UPD_COMMIT (R618, R619): the command is BUSY until the verification has ended. -/
def State.updCommit (s : State) (target : Nat) (i : SecIn) : State :=
  if target ≠ 0 ∧ target ≠ 2 then s.secEnd 0x10 scFormat
  else if s.updBusy then s.secEnd 0x10 scBusy
  else if !s.mssReady then s.secEnd 0x10 scMssBusy
  else match s.stageSlot target with
    | none => s.secEnd 0x10 scRefused
    | some k => (s.commitStart target k true i.hits).setReg R.SEC_CMD_STAT 0x80001000

/-- UPD_ABORT (R618). -/
def State.updAbort (s : State) (target : Nat) : State :=
  if target ≠ 0 ∧ target ≠ 2 then s.secEnd 0x11 scFormat
  else match s.slotIn target 2 with
    | none => s.secEnd 0x11 scRefused
    | some k => (s.setSlot k 0).secEnd 0x11 scOk

/-- A trial is reverted (R623): its slot becomes INVALID and the FALLBACK slot ACTIVE. A firmware revert restarts the MSS
into it. -/
def State.revert (s : State) (target : Nat) : State :=
  match s.slotIn target 3 with
  | none => s
  | some k =>
    let o := otherSlot k
    let back := s.slot o == 5
    let s2 := (s.setSlot k 1).when back fun t => t.setSlot o 4
    let s3 := (s2.setBit R.SEC_UPD_STAT (revBit target) true).event R.SEC_IRQ_STAT siRevert
    if target = 2 then
      ((s3.updSec fun q => { q with fwTrial := none, fwWait := none }).when back fun t => t.runFw o).mssRestart mcRevert []
    else s3.updSec fun q => { q with imgTrial := none, imgReverted := true }

/-- FW_ACTIVATE (R619, R621): the pending slot becomes TRIAL and the slot that runs FALLBACK, and the MSS restarts into the trial after
the boot ROM has verified it. In recovery no slot runs. -/
def State.fwActivate (s : State) (param : Nat) (i : SecIn) : State :=
  if param ≠ 2 then s.secEnd 0x12 scFormat
  else if s.updBusy ∨ s.ldrState = ldVerifying then s.secEnd 0x12 scBusy
  else match s.slotIn 2 2 with
    | none => s.secEnd 0x12 scRefused
    | some k =>
      let s0 := s.when (s.rfld R.MSS_STAT 0 2 != 2) fun t => t.setSlot (otherSlot k) 5
      let s1 := ((s0.setSlot k 3).secEnd 0x12 scOk).devRead i.hits (slotBase k) (s.slotLen k)
      match s1.fwFail (slotBase k) with
      | some _ => s1.revert 2
      | none =>
        ((s1.runFw k).updSec fun q => { q with fwTrial := some s.now, fwWait := some s.now }).mssRestart mcActivate []

/-- UPD_CONFIRM (R602, R619, R622, R595): the pair is stored, and then the epoch steps are burned, each read back, until one does not
(R590). -/
def State.updConfirm (s : State) (target : Nat) (i : SecIn) : State :=
  if target ≠ 0 ∧ target ≠ 2 then s.secEnd 0x13 scFormat
  else if s.updBusy then s.secEnd 0x13 scBusy
  else match s.slotIn target 3 with
    | none => s.secEnd 0x13 scRefused
    | some k =>
      let rb := s.slotRb k
      let o := s.rfld (rbReg target) 0 6
      let steps := rb / 1024 - o
      let o1 := o + burned i.burns steps
      let other := otherSlot k
      let keyNow := (s.storeBytes (slotBase k + 0x18) 8) == keyId (s.ownerKey s.ownerSlot)
      let s1 := (s.setSlot k 4).setReg (rbReg target) (wordN (rb * 65536 + o1))
      let s2 := s1.when (decide (2 ≤ s.slot other)) fun t =>
        t.setSlot other (if rb ≤ s.slotRb other ∧ o1 ≤ s.slotRb other / 1024 then 5 else 6)
      let s3 := s2.updSec fun q => if target = 2 then { q with fwTrial := none } else { q with imgTrial := none }
      let s4 := s3.when (target == 0 && s.owned && keyNow) fun t =>
        (t.updSec fun q => { q with prevOk := false }).setBit R.SEC_STAT stPrev false
      if o1 < o + steps then s4.otpFail 0x13 else s4.secEnd 0x13 scOk

/-- The counters of the security block (R625). -/
def secCounters : List Nat := [R.SEC_SESS_FAIL, R.SEC_WIN_REFUSED]

/-- A security command through port `p` (Table 13): OP in bits [7:0], PARAM in bits [15:8]. One that is written while another is BUSY
ends with BUSY (R625). -/
def secCmd (p : Port) (i : SecIn) (w : Word) (s : State) : State :=
  let op := fld w 0 8
  let par := fld w 8 8
  let zero (f : State → State) : State := if par = 0 then f s else s.secEnd op scFormat
  if s.rbit R.SEC_CMD_STAT 31 then
    (s.setReg R.SEC_CMD_STAT (wordN (2 ^ 31 + op * 256 + scBusy))).event R.SEC_IRQ_STAT siRefused
  else match op with
  | 0x01 => zero fun t => t.takeOwner i
  | 0x02 => zero fun t => t.rotateOwner i
  | 0x03 => s.keyLoad p par
  | 0x04 => s.keyErase par
  | 0x05 => zero fun t => t.attest i
  | 0x06 => zero State.dbgChallenge
  | 0x07 => zero State.dbgResponse
  | 0x08 => zero State.tamperLower
  | 0x10 => s.updCommit par i
  | 0x11 => s.updAbort par
  | 0x12 => s.fwActivate par i
  | 0x13 => s.updConfirm par i
  | 0x1F => zero fun t => (t.clearRegs secCounters).secEnd 0x1F scOk
  | _ => s.secEnd op scFormat

/-- A security command of a row: the word written, and what the command meets. -/
def State.secRow (s : State) (p : Port) (w : Nat) (i : SecIn) : State := s.writeCmd p R.SEC_CMD (wordN w) (secCmd p i)

/-- TAKE_OWNER (R592). -/
def execTakeOwner (el : Nat) (p : Port) (par : Byte) (burns : List Bool) (s : State) : Host.Outcome State Fault Refusal :=
  .next ((s.begin el).secRow p (par.toNat * 256 + 0x01) ⟨burns, [], []⟩)

/-- ROTATE_OWNER (R593): whether the burn of the new hash, and that of the revocation, read back. -/
def execRotateOwner (el : Nat) (p : Port) (par : Byte) (hashOk revOk : Bool) (s : State) : Host.Outcome State Fault Refusal :=
  .next ((s.begin el).secRow p (par.toNat * 256 + 0x02) ⟨[hashOk, revOk], [], []⟩)

/-- KEY_LOAD (R600): `hi` stands in the upper half of the word written, which has no field there. -/
def execKeyLoad (el : Nat) (p : Port) (k : BitVec 8) (hi : BitVec 16) (s : State) : Host.Outcome State Fault Refusal :=
  .next ((s.begin el).secRow p (hi.toNat * 65536 + k.toNat * 256 + 0x03) SecIn.none)

/-- KEY_ERASE (R600). -/
def execKeyErase (el : Nat) (p : Port) (k : BitVec 8) (s : State) : Host.Outcome State Fault Refusal :=
  .next ((s.begin el).secRow p (k.toNat * 256 + 0x04) SecIn.none)

/-- ATTEST (R612): `rnd` is what the random source yields for the signature. -/
def execAttest (el : Nat) (p : Port) (rnd : List Byte) (s : State) : Host.Outcome State Fault Refusal :=
  .next ((s.begin el).secRow p 0x05 ⟨[], rnd, []⟩)

/-- DBG_CHALLENGE (R613). -/
def execDbgChallenge (el : Nat) (p : Port) (s : State) : Host.Outcome State Fault Refusal :=
  .next ((s.begin el).secRow p 0x06 SecIn.none)

/-- DBG_RESPONSE (R613, R614). -/
def execDbgResponse (el : Nat) (p : Port) (par : Byte) (s : State) : Host.Outcome State Fault Refusal :=
  .next ((s.begin el).secRow p (par.toNat * 256 + 0x07) SecIn.none)

/-- DBG_CHALLENGE_EXPIRY (R613). -/
def execDbgChallengeExpiry (el : Nat) (s : State) : Host.Outcome State Fault Refusal :=
  .next ((s.begin el).onIsland 37 fun t =>
    match t.sec.challenge with
    | some (_, c) => if c + 60000000000 ≤ t.now then t.updSec fun q => { q with challenge := none } else t
    | none => t)

/-- TAMPER_LOWER (R615). -/
def execTamperLower (el : Nat) (p : Port) (par : Byte) (s : State) : Host.Outcome State Fault Refusal :=
  .next ((s.begin el).secRow p (par.toNat * 256 + 0x08) SecIn.none)

/-- UPD_COMMIT (R618): `c` is what the reads of the slot meet. -/
def execUpdCommit (el : Nat) (p : Port) (target : BitVec 8) (c : List EccHit) (s : State) : Host.Outcome State Fault Refusal :=
  .next ((s.begin el).secRow p (target.toNat * 256 + 0x10) ⟨[], [], c⟩)

/-- UPD_ABORT (R618). -/
def execUpdAbort (el : Nat) (p : Port) (target : BitVec 8) (s : State) : Host.Outcome State Fault Refusal :=
  .next ((s.begin el).secRow p (target.toNat * 256 + 0x11) SecIn.none)

/-- FW_ACTIVATE (R621): `c` is what the boot ROM's reads of the slot meet. -/
def execFwActivate (el : Nat) (p : Port) (c : List EccHit) (s : State) : Host.Outcome State Fault Refusal :=
  .next ((s.begin el).secRow p 0x212 ⟨[], [], c⟩)

/-- UPD_CONFIRM (R622). -/
def execUpdConfirm (el : Nat) (p : Port) (target : BitVec 8) (burns : List Bool) (s : State) :
    Host.Outcome State Fault Refusal :=
  .next ((s.begin el).secRow p (target.toNat * 256 + 0x13) ⟨burns, [], []⟩)

/-- SEC_CNT_CLEAR (R625). -/
def execSecCntClear (el : Nat) (p : Port) (s : State) : Host.Outcome State Fault Refusal :=
  .next ((s.begin el).secRow p 0x1F SecIn.none)

/-- TRIAL_TIMEOUT (R623): the trial of images, or of firmware, has not been confirmed in time. -/
def execTrialTimeout (el : Nat) (fw : Bool) (s : State) : Host.Outcome State Fault Refusal :=
  .next ((s.begin el).onIsland 37 fun t =>
    match if fw then t.sec.fwTrial else t.sec.imgTrial with
    | some b =>
      if b + t.rfld R.SEC_UPD_TRIAL 0 16 * 1000000000 ≤ t.now then t.revert (if fw then 2 else 0) else t
    | none => t)

/-- FW_READY_TIMEOUT (R621): trial firmware has not reported ready within 5 s. -/
def execFwReadyTimeout (el : Nat) (s : State) : Host.Outcome State Fault Refusal :=
  .next ((s.begin el).onIsland 37 fun t =>
    match t.sec.fwWait with
    | some b => if b + 5000000000 ≤ t.now then t.revert 2 else t
    | none => t)

/-- STORE_WINDOW_WRITE (R603, R604): a write through the store window. -/
def windowWrite (p : Port) (a : Nat) (v : Word) (s : State) : Nat × State := s.hostWrite p a v fun _ t => (errAddress, t)
def execStoreWindowWrite (el : Nat) (p : Port) (o : BitVec 27) (v : Word) (s : State) : Host.Outcome State Fault Refusal :=
  let a := 0x10000000 + o.toNat
  .next ((s.begin el).atPort p (.wrote p a errIslandDown) fun t =>
    let r := windowWrite p a v t
    r.2.send (.wrote p a r.1))

/-- MSS_DEBUG_HALT (R614): a debugger at an open level halts the MSS, which stops its work as in an MSS restart. -/
def execMssDebugHalt (el : Nat) (s : State) : Host.Outcome State Fault Refusal :=
  .next ((s.begin el).onIsland 36 fun t =>
    if t.rfld R.SEC_DBG_STAT 0 2 ≠ 0 ∧ !t.mgt.halted then
      (((t.updMgt fun g => { g with halted := true }).setFld R.MSS_STAT 0 2 1).noFix).ldrMssLost
    else t)

/-- DEBUG_HALT_END (16 R627). -/
def execDebugHaltEnd (el : Nat) (s : State) : Host.Outcome State Fault Refusal :=
  .next ((s.begin el).onIsland 36 fun t =>
    if t.mgt.halted then (t.updMgt fun g => { g with halted := false }).mssRestart mcDebug [] else t)

end Sys2Proof.Machine
end

