-- ==== Sys2Proof/Machine/Loader.lean ====
section
/-!
DEFINITION. The Trellis loader (02_trellis_images.md): loading at boot, sealing, staging and verification, the live handover, and
its commands.
-/
namespace Sys2Proof.Machine

/-! Applying sections (R61, R66, R67, R72). -/

/-- The writable bits of the register at `a` for an item, and those that applying a section returns to reset. The setting that the
backup domain keeps has no other reset value (17 Table 10). -/
def imgBits (a : Nat) : Word :=
  match regHit? a with
  | some h => h.row.rw ||| h.row.rws ||| h.row.img
  | none => 0
def rstBits (a : Nat) : Word :=
  match regHit? a with
  | some h => if a = R.PWR_BK_CFG then 0 else h.row.rw ||| h.row.rws
  | none => 0

/-- An item is applied where `keep` takes its register; the permission table belongs to the loader's registers. -/
def State.applyItem (keep : Nat → Bool) (i : Item) (s : State) : State :=
  match i with
  | .set a m v =>
    if keep a then
      let k := imgBits a &&& m
      let old := s.reg a
      s.setReg a ((old &&& ~~~ k) ||| (s.stored a ((old &&& ~~~ k) ||| (v &&& k)) &&& k))
    else s
  | .permit q => s.when (keep R.LDR_CTRL) fun t => t.updLdr fun l => { l with permits := l.permits ++ [q] }
  | _ => s

/-- The RW and RWS fields of the registers of a list return to their reset values. -/
def State.resetFields (s : State) (l : List Nat) : State :=
  forL (fun a t => t.setReg a ((t.reg a &&& ~~~ rstBits a) ||| (resetWord a &&& rstBits a))) l s

/-- The registers that the items of a section address. -/
def Sect.addrs (q : Sect) : List Nat := q.items.filterMap fun i => match i with
  | .set a _ _ => some a
  | _ => none

/-- A section is applied to the registers that `keep` takes (R66): its fields return to reset, its items follow in stored order,
and the blocks react. A lane without a learned model starts from its seed (R67). -/
def State.applySect (keep : Nat → Bool) (q : Sect) (s : State) : State :=
  let rs := sectRanges q.type q.inst
  let held := (s.regs.map Prod.fst).filter fun a => inRanges rs a && keep a
  let s1 := forL (State.applyItem keep) q.items (s.resetFields held)
  let touched := (sortBy (fun a b => decide (a ≤ b)) (held ++ q.addrs.filter keep)).eraseDups
  let s2 := forL (fun a t => if t.reg a = s.reg a then t else t.imgHook s a) touched s1
  if q.type = 0x10 ∧ keep (R.TILE_CTRL q.inst) then
    forL (fun n t => if t.rbit (R.LRN_STAT n) lsLearned then t else t.loadSeed n) (tileLanes q.inst) s2
  else if q.type = 0x11 ∧ keep (R.AX_CTRL (4 * q.inst)) then s2.motionApplied q.inst
  else s2

/-- Sections in the order in which the loader applies them (R76). -/
def sectOrder (l : List Sect) : List Sect :=
  sortBy (fun a b => decide (a.type * 256 + a.inst ≤ b.type * 256 + b.inst)) l
def State.applySects (keep : Nat → Bool) (l : List Sect) (s : State) : State := forL (State.applySect keep) (sectOrder l) s

/-- The lane map and the spares take new values (R71). -/
def State.setMap (s : State) (m : List Nat × List Nat) : State :=
  let s1 := forN (fun n t => t.setFld (R.LDR_MAP (n / 4)) (8 * (n % 4)) 8 (m.1.getD n 0xFF)) 160 s
  forN (fun p t => t.setBit (R.LDR_SPARE (p / 32)) (p % 32) (m.2.contains p)) 160 s1

/-- The latencies of every lane go to Stitch (07 R300). -/
def State.sendLats (s : State) : State := forN (fun n t => t.sendLat true n) 160 s

/-! Boot (R74–R78). -/

/-- The image slot that boot loads first (15 R620, R624): the trial slot, else the active one, else the fallback. -/
def State.bootSlot (s : State) : Option Nat :=
  match s.slotIn 0 3 with
  | some k => some k
  | none => match s.slotIn 0 4 with
    | some k => some k
    | none => s.slotIn 0 5

/-- The first slot of a list whose full image verifies; a slot that fails becomes INVALID, and its failure is shown (R68, 15
R624). -/
def State.bootTry (s : State) (hits : List EccHit) : List Nat → Option (Nat × List Sect) × State
  | [] => (none, s)
  | k :: r =>
    let t := s.devRead hits (slotBase k) (min (s.img (slotBase k) 8 4) 0x600000)
    match t.verify (slotBase k) 0x600000 true with
    | .inl f => ((t.ldrResult f.code f.sect f.pos).setSlot k 1).bootTry hits r
    | .inr l => (some (k, l), t)

/-! Remapped lanes (R67, R72). -/

/-- A learned model and coil state go from one physical lane to another; the runs start from 0 (R72), and
those of outliers start empty (DESIGN CHOICE, log 183). -/
def State.carryModel (s old : State) (src dst : Nat) : State :=
  let m := old.lane src
  let st := s.reg (R.LRN_STAT dst)
  ((s.updLane dst fun l => { l with
    baseO := m.baseO, baseC := m.baseC, tcO := m.tcO, tcC := m.tcC, bands := m.bands, appliedO := m.appliedO,
    appliedC := m.appliedC, acqO := m.acqO, acqC := m.acqC, tw := m.tw, tb := m.tb, runO := [], runC := [], act := 0,
    actSince := none }).setReg (R.LRN_STAT dst) ((st &&& 0x40000000) ||| (old.reg (R.LRN_STAT src) &&& 0x9E00FFFF))).setReg
    (R.LRN_SHIFT_MEAN dst) (old.reg (R.LRN_SHIFT_MEAN src))

/-- The new map takes effect for one remapped logical lane `n`, which goes to `p` (R67, R72; 05 R213). -/
def State.remapOne (old : State) (e : Nat × Nat × Bool) (s : State) : State :=
  let n := e.1
  let p := e.2.1
  if 160 ≤ p then s.when (old.physOf n).isSome fun t => t.unmapLane n
  else match old.physOf n, e.2.2 with
    | some o, true => s.carryModel old o p
    | _, _ => if s.rbit (R.LRN_STAT p) lsLearned then s else s.loadSeed p

/-- The patch-log entries of the slot are verified and applied in order (R74, R75); `n` of them are marked valid. An entry that fails
shows its failure (R68); `hits` is what the reads of the entries meet. A MAP item with CARRY_MODEL copies the model that was restored for the old lane (R72; DEDUCED, log 139). -/
def State.bootPatches (s0 : State) (hits : List EccHit) (k n : Nat) : Nat → State
  | 0 => s0
  | fuel + 1 =>
    let i := s0.rfld R.LDR_PATCH 0 6
    if n ≤ i then s0
    else
      let s := s0.devRead hits (slotBase k + 0x600000 + i * 0x10000) 0x10000
      match s.verify (slotBase k + 0x600000 + i * 0x10000) 0x10000 false with
      | .inl f => (s.ldrResult f.code f.sect f.pos).ldrWarn lwPatchStopped
      | .inr q =>
        let s1 := (s.setMap (s.mapAfter false q)).applySects (fun _ => true) q
        let s2 := (forL (State.remapOne s) (s.remappedBy q) s1).setFld R.LDR_PATCH 0 6 (i + 1)
        (s2.updLdr fun d => { d with
          inForce := d.inForce ++ q
          digests := d.digests ++ [s.imgDigest (slotBase k + 0x600000 + i * 0x10000)] }).bootPatches hits k n fuel

/-- The device seals (R78). -/
def State.seal (s : State) : State := s.setBit R.LDR_STAT 31 true

/-- Boot loading ends: the device seals in mode 0, Cinch starts, the recorder opens its intervals, and the power state is RUN
(R78, 14 R578, 16 R644, 17 Table 7). What GNSS retained comes back as aids, the time relation where DT has run on (11 R440). -/
def State.bootEnd (s : State) (hits : List EccHit) : State :=
  let s1 := s.updLdr fun d => { d with bootEnded := true, endAt := s.now }
  let s2 := if s1.rfld R.LDR_SEAL_CFG 0 2 = 0 then s1.seal else s1
  let s3 := { s2.recStart with rcd := { s2.recStart.rcd with copyAt := s.now } }
  let s4 := s3.restoreAids hits
  ((s4.cinchStart).setFld R.PWR_STAT 0 2 1).sendLats.pinLatch

/-- The full image of slot `k` comes into force (R68, R76); the lanes' learned models are read from the store (07 R312). -/
def State.bootFull (s : State) (hits : List EccHit) (k : Nat) (l : List Sect) : State :=
  let s1 := forN (fun n t => t.restoreLane hits n) 160 s
  let s2 := s1.updLdr fun d => { d with
    permits := [], inForce := l, digests := [], staged := [], rb := s.img (slotBase k) 0x14 2 }
  let s3 := (s2.setMap (s2.mapAfter true l)).applySects (fun _ => true) l
  let s4 := (s3.setWords (R.LDR_DIGEST 0) (wordsOfBytes (fit 48 (s.imgDigest (slotBase k))))).setReg R.LDR_VERSION
    (wordN (s.img (slotBase k) 0x10 4))
  let s5 := ((s4.setBit R.LDR_STAT 30 true).setBit R.LDR_STAT 29 (k == 1)).setFld R.LDR_PATCH 0 6 0
  s5.when (s.slot k == 3) fun t => t.updSec fun q => { q with imgTrial := some s.now }

/-- BOOT_IMAGE_LOAD (R74–R78; 07 R312; 15 R620, R624): the started firmware loads the image. `a`, `b` and
`patches` are the errors that reads of the store meet. Where no full image verifies the device
stays unconfigured. -/
def execBootImageLoad (el : Nat) (a b patches : List EccHit) (s : State) :
    Host.Outcome State Fault Refusal :=
  let t := s.begin el
  .next (if t.clk.inReset || !t.mssReady || t.ldr.bootEnded then t
  else match t.bootSlot with
    | none => t
    | some k =>
      let hits := a ++ b ++ patches
      let o := otherSlot k
      match t.bootTry hits (if t.slot o = 4 ∨ t.slot o = 5 then [k, o] else [k]) with
      | (none, u) => u
      | (some (j, l), u) => (((u.bootFull hits j l).bootPatches hits j (u.marked j) 32).bootEnd hits))

/-- SEAL_TIMEOUT (R78). -/
def execSealTimeout (el : Nat) (s : State) : Host.Outcome State Fault Refusal :=
  .next ((s.begin el).onIsland 37 fun t =>
    if t.ldr.bootEnded ∧ !t.sealed ∧ t.rfld R.LDR_SEAL_CFG 0 2 = 1 ∧
        t.ldr.endAt + t.rfld R.LDR_SEAL_CFG 16 16 * 1000000000 ≤ t.now then (t.seal).ldrWarn lwSealTimeout
    else t)

/-! Staging and handover (R86–R102). -/

/-- Where the staged partial image lies (R86). -/
def State.stageBase (s : State) : Nat :=
  0x10000000 + s.trellisSlot * 0x800000 + 0x600000 + min 31 (s.rfld R.LDR_PATCH 0 6) * 0x10000

/-- LDR_SET of a partial image (R88): the tiles of its sections, both tiles of each changed map entry, and the lane map. -/
def State.handoverSet (s : State) (l : List Sect) : Word :=
  let tiles := l.filterMap fun q => if q.type = 0x10 then some q.inst else if q.type = 0x11 then some (20 + q.inst) else none
  let maps := (List.range 160).filterMap fun n =>
    match stagedMap l n with
    | some (p, _) =>
      let o := s.rfld (R.LDR_MAP (n / 4)) (8 * (n % 4)) 8
      if o = p then none else some [o, p]
    | none => none
  let phys := (maps.flatten.filter fun p => decide (p < 160)).map fun p => p / 8
  let m := if l.any fun q => q.type == 2 then [24] else []
  (tiles ++ phys ++ m).foldl (fun w i => w ||| bit i) 0

/-- The MSS has verified the staged image (R87, R88; 15 R623); `hits` is what its reads meet. A STAGE_COMMIT that waits for it ends
(13 R544). -/
def State.verifyDone (s0 : State) (hits : List EccHit) : State :=
  let n := (s0.reg R.LDR_STAGE_LEN).toNat
  let s := s0.devRead hits s0.stageBase (min n 0x10000)
  let fail (f : ImgFail) : State := (s.ldrFail f.code f.sect f.pos).usbDone true f.code
  if s.imageOk ∧ s.sec.imgReverted then fail ⟨lcPatchLogFull, 0xFF, 0x16⟩
  else match s.verify s.stageBase n false with
    | .inl f => fail f
    | .inr l =>
      (((((s.ldrResult lcNone 0xFF 0).setLdr ldStaged).setReg R.LDR_SET (s.handoverSet l)).event R.LDR_IRQ_STAT
        liVerified).updLdr fun d => { d with staged := l, stagedDigest := s.imgDigest s.stageBase }).usbDone true lcNone

/-- The MSS works on a commit of a target: it runs, or in recovery it is the boot ROM's and serves firmware alone (15 R598). -/
def State.mssServes (s : State) (target : Nat) : Bool :=
  s.mssReady || (s.up 36 && s.rfld R.MSS_STAT 0 2 == 2 && target == 2)

/-- VERIFY_COMPLETE (R87, R88; 15 R618): the verification in progress ends, that of an update before that of a staged partial image
(DESIGN CHOICE, log 208); `c` is what its reads of the store meet. -/
def execVerifyComplete (el : Nat) (c : List EccHit) (s : State) : Host.Outcome State Fault Refusal :=
  .next ((s.begin el).onIsland 37 fun t =>
    match t.sec.commit with
    | some (target, k, sec) =>
      if t.mssServes target then (t.devRead c (slotBase k) (t.slotLen k)).commitEnd target k sec else t
    | none => if t.ldrState ≠ ldVerifying ∨ !t.mssReady then t else t.verifyDone c)

/-- ARM in STAGED (R90). A tile of the set that is down, or a channel of it in a fail-safe state, refuses the handover (R96). -/
def State.ldrArm (s : State) : State :=
  let s1 := ((s.setReg64 R.LDR_ARM_DT_LO s.dt).setLdr ldLoading).updLdr fun d => { d with th := none, swapped := false }
  let isl := (List.range 22).filter fun i => s.inSet i
  if isl.any fun i => !s.up i then s1.handoverRefuse lcIslandDown
  else if isl.any fun i => (chansOf i).any fun ch => (s.safeOn ch).isSome then s1.handoverRefuse lcSafeState
  else s1

/-- A state command, by its bit in LDR_CTRL (Table 7, R89). -/
def State.ldrCommand (s : State) (c : Nat) : State :=
  let st := s.ldrState
  let drop (t : State) : State := t.updLdr fun d => { d with staged := [], shadow := [], th := none }
  if c = 0 ∧ st = ldIdle then s.setLdr ldVerifying
  else if c = 1 ∧ st = ldStaged then s.ldrArm
  else if c = 2 ∧ st = ldStaged then drop (s.setLdr ldIdle)
  else if c = 2 ∧ st = ldSearching then ((s.setLdr ldStaged).event R.LDR_IRQ_STAT liVerified).updLdr fun d => { d with shadow := [], th := none }
  else if c = 3 ∧ ldDone ≤ st then drop (s.setLdr ldIdle)
  else s.ldrWarn lwCmdIgnored

/-- What a write of LDR_CTRL does (R78, R79, R103). -/
def ldrCtrl (w : Word) (s : State) : State :=
  let s1 := match (List.range 4).filter fun i => w.getLsbD i with
    | [] => s
    | c :: r => (s.ldrCommand c).when (!r.isEmpty) fun t => t.ldrWarn lwCmdIgnored
  let s2 := s1.when (w.getLsbD 4 && s.ldr.bootEnded && s.rfld R.LDR_SEAL_CFG 0 2 == 1) State.seal
  s2.when (w.getLsbD 5) fun t =>
    t.clearRegs [R.LDR_RESEARCH, R.LDR_DEFER, R.LDR_REFUSE_CNT, R.LDR_HANDOVER_REFUSED]

/-- LDR_VERIFY (R86, R89). -/
def execLdrVerify (el : Nat) (p : Port) (s : State) : Host.Outcome State Fault Refusal :=
  .next ((s.begin el).writeCmd p R.LDR_CTRL 1 ldrCtrl)

/-- LDR_ARM (R89, R90). -/
def execLdrArm (el : Nat) (p : Port) (s : State) : Host.Outcome State Fault Refusal :=
  .next ((s.begin el).writeCmd p R.LDR_CTRL 2 ldrCtrl)

/-- LDR_ABORT (R89, R101). -/
def execLdrAbort (el : Nat) (p : Port) (s : State) : Host.Outcome State Fault Refusal :=
  .next ((s.begin el).writeCmd p R.LDR_CTRL 4 ldrCtrl)

/-- LDR_ACK (R89). -/
def execLdrAck (el : Nat) (p : Port) (s : State) : Host.Outcome State Fault Refusal :=
  .next ((s.begin el).writeCmd p R.LDR_CTRL 8 ldrCtrl)

/-- LDR_SEAL (R78, R79). -/
def execLdrSeal (el : Nat) (p : Port) (s : State) : Host.Outcome State Fault Refusal :=
  .next ((s.begin el).writeCmd p R.LDR_CTRL 16 ldrCtrl)

/-- LDR_CLEAR_CNT (Table 9). -/
def execLdrClearCnt (el : Nat) (p : Port) (s : State) : Host.Outcome State Fault Refusal :=
  .next ((s.begin el).writeCmd p R.LDR_CTRL 32 ldrCtrl)

/-- The shadow banks that the tiles build from the staged sections by R66, beside the running configuration (R90). -/
def State.shadowBanks (s : State) : Tab Word :=
  ((s.applySects (fun _ => true) s.ldr.staged).regs).filter fun e =>
    s.ldr.staged.any fun q => q.type != 2 && inRanges (sectRanges q.type q.inst) e.1

/-- SHADOW_BANKS_LOADED (R90, R92): every tile of the set has its shadow bank, and the search begins. -/
def execShadowBanksLoaded (el : Nat) (s : State) : Host.Outcome State Fault Refusal :=
  .next ((s.begin el).onIsland 37 fun t =>
    if t.ldrState = ldLoading then
      let u := (t.setLdr ldSearching).updLdr fun d => { d with loadEnd := t.dt, shadow := t.shadowBanks }
      if u.rfld R.LDR_SET 20 2 = 0 then u.setTh u.findTh else u
    else t)

/-- TH_FINAL (R93, R97): DT has reached T_h − 10 µs. `x` says that Stitch's transfers are delivered. -/
def execThFinal (el : Nat) (x : Bool) (s : State) : Host.Outcome State Fault Refusal :=
  .next ((s.begin el).onIsland 37 fun t =>
    match t.ldr.th with
    | some h =>
      if t.ldrState = ldSearching ∧ h - 10000 ≤ (t.dt : Int) ∧ h ≤ t.thLimit then
        ((t.setLdr ldFinal).setTh (some h)).recomputeMapped x
      else t
    | none => t)

/-- Firings of pulsed lanes of the set that are in progress (R95, R99). -/
def State.deferred (s : State) : Nat :=
  ((List.range 160).filter fun n => s.inSet (n / 8) && match (s.lane n).firing with
    | some f => !f.pwm
    | none => false).length

/-- The configuration that lanes of the set keep across the swap at `h`: a pulsed lane to the end of a firing in progress (R99), a PWM
lane to its first period start at or after T_h (R95). -/
def State.keepBanks (s : State) (h : Int) : State :=
  forN (fun p t =>
    let bank (u : Option Int) : State :=
      t.updLane p fun l => { l with old := some ⟨u, s.regs.filter fun e => e.1 / 65536 == (R.TILE_CTRL (p / 8)) / 65536⟩ }
    let pwm := (s.logicalOf p).filter fun n => s.isPwm n
    if s.inSet (p / 8) then
      match pwm, (s.lane p).firing.isSome with
      | some n, _ => bank (some (s.gridFrom n h))
      | none, true => bank none
      | none, false => t
    else t) 160 s

/-- HANDOVER_SWAP (R94, R95, R99): DT has reached T_h. -/
def execHandoverSwap (el : Nat) (s : State) : Host.Outcome State Fault Refusal :=
  .next ((s.begin el).onIsland 37 fun t =>
    match t.ldr.th with
    | some h =>
      if t.ldrState = ldFinal ∧ !t.ldr.swapped ∧ h ≤ (t.dt : Int) then
        let l := t.ldr.staged
        let u := ((t.count R.LDR_DEFER t.deferred).keepBanks h).applySects (fun _ => true) l
        let v := forL (State.remapOne t) t.remapped (u.setMap (t.mapAfter false l))
        (v.updLdr fun d => { d with inForce := d.inForce ++ sectOrder l, swapped := true }).sendLats
      else t
    | none => t)

/-- PATCH_LOG_MARKED (R94): the patch-log entry is marked valid, and DONE is entered. -/
def execPatchLogMarked (el : Nat) (s : State) : Host.Outcome State Fault Refusal :=
  .next ((s.begin el).onIsland 37 fun t =>
    if t.ldrState = ldFinal ∧ t.ldr.swapped then
      let n := t.rfld R.LDR_PATCH 0 6 + 1
      (((((t.setMarked t.trellisSlot n).setFld R.LDR_PATCH 0 6 n).setLdr ldDone).event R.LDR_IRQ_STAT liDone).updLdr
        fun d => { d with digests := d.digests ++ [d.stagedDigest], th := none })
    else t)

/-- BOUNDARY_TIMEOUT (R96). -/
def execBoundaryTimeout (el : Nat) (s : State) : Host.Outcome State Fault Refusal :=
  .next ((s.begin el).onIsland 37 fun t =>
    if (t.ldrState = ldLoading ∨ t.ldrState = ldSearching) ∧ t.thLimit - 10000 ≤ (t.dt : Int) then
      t.handoverRefuse lcBoundary
    else t)

/-- What a write of LDR_REFUSE_ACK does (R85): the primary capture is released, and a valid secondary one moves into it. -/
def refuseAck (w : Word) (s : State) : State :=
  if w.getLsbD 0 ∧ s.rbit R.LDR_REFUSE_INFO 8 then
    if s.rbit R.LDR_REFUSE_INFO2 8 then
      (((s.setReg R.LDR_REFUSE_ADDR (s.reg R.LDR_REFUSE_ADDR2)).setReg R.LDR_REFUSE_DATA (s.reg R.LDR_REFUSE_DATA2)).setReg
        R.LDR_REFUSE_INFO (s.reg R.LDR_REFUSE_INFO2)).clearRegs [R.LDR_REFUSE_ADDR2, R.LDR_REFUSE_DATA2, R.LDR_REFUSE_INFO2]
    else s.clearRegs [R.LDR_REFUSE_ADDR, R.LDR_REFUSE_DATA, R.LDR_REFUSE_INFO]
  else s

/-- LDR_REFUSE_ACK (R85). -/
def execLdrRefuseAck (el : Nat) (p : Port) (s : State) : Host.Outcome State Fault Refusal :=
  .next ((s.begin el).writeCmd p R.LDR_REFUSE_ACK 1 refuseAck)

end Sys2Proof.Machine
end

