-- ==== Sys2Proof/Machine/Islands.lean ====
section
/-!
DEFINITION. Islands (01_architecture.md, R32–R43, R54–R59, R704, R705): transfers across a boundary, the loss of an island's clock,
restarts, and the islands' copies of DT.
-/
namespace Sys2Proof.Machine

/-- The system block beside its registers takes a new value. -/
def State.updSys (s : State) (f : SysSt → SysSt) : State := { s with sys := f s.sys }

/-! The boundary handshake (R32–R37). -/

/-- The parity of a payload is right (Table 3): odd over DATA[35:0], and over the tag with DATA[63:36]. Which half holds which
bits is DEDUCED (log 101). -/
def LinkWord.ok (w : LinkWord) : Bool :=
  let half (l : List Bool) (p : Bool) : Bool := (l.filter fun b => b).length % 2 == 1 - b2n p
  half ((List.range 36).map fun i => w.data.getLsbD i) (w.par.getLsbD 0) &&
    half (((List.range 28).map fun i => w.data.getLsbD (36 + i)) ++ (List.range 8).map fun i => w.tag.getLsbD i)
      (w.par.getLsbD 1)

/-- A transfer has failed: its sender learns of it (R34, R35). The access `acc` that it carried ends with TIMEOUT where its row
comes (13 R521, Table 1), and without one the row whose transfer it was finds it failed (log 182). -/
def State.linkFail (s : State) (src dst : Nat) (acc : Option (Port × Nat)) : State :=
  (s.updSys fun q => match acc with
    | some x => { q with failingAcc := x :: q.failingAcc }
    | none => { q with failing := (src, dst) :: q.failing }).send (.link src dst false)

/-- A receiver refuses every request: it is isolated (R37), or it is the MSS and restarts (R41). What a row sends to it, and an access
to it, is refused where the row comes. -/
def State.refusesLink (s : State) (dst : Nat) : Bool := !s.up dst || (dst == 36 && s.rfld R.MSS_STAT 0 2 == 1)

/-- LINK_TRANSFER (R32–R34, R37, R41): `first` is the payload as it arrives, `again` as it arrives when it is repeated. `acc` is the
register access it carries. -/
def execLinkTransfer (el : Nat) (src dst : Fin 39) (first again : LinkWord) (acc : Option (Port × Nat)) (s : State) :
    Host.Outcome State Fault Refusal :=
  .next ((s.begin el).onIsland src fun t =>
    let ok (w : LinkWord) : State :=
      (t.updSys fun q => { q with delivered := Tab.set (fun _ => 0) q.delivered (src * 64 + dst) (w.tag ++ w.data) }).send
        (.link src dst true)
    if t.refusesLink dst then t.send (.link src dst false)
    else if t.stopped dst then t.linkTimeout.send (.link src dst false)
    else if LinkWord.ok first then ok first
    else if LinkWord.ok again then ok again
    else ((t.count R.SYS_HS_PARITY 1).updSys fun q => { q with parityNew := true }).linkFail src dst acc)

/-- HANDSHAKE_TIMEOUT (R35): ACK has not risen 2 µs after REQ rose. -/
def execHandshakeTimeout (el : Nat) (src dst : Fin 39) (acc : Option (Port × Nat)) (s : State) :
    Host.Outcome State Fault Refusal :=
  .next ((s.begin el).onIsland src fun t =>
    t.linkTimeout.linkFail src dst acc)

/-- SYS_CNT_CLEAR (Table 10). It leaves "changed since last read" of the two handshake counters (Table 12, ISLAND) as it is:
DESIGN CHOICE (log 180). -/
def sysCntClear (w : Word) (s : State) : State :=
  s.when (w.getLsbD 0) fun t => t.clearRegs [R.SYS_HS_TIMEOUT, R.SYS_HS_PARITY, R.SYS_DT_STEP]
def execSysCntClear (el : Nat) (p : Port) (s : State) : Host.Outcome State Fault Refusal :=
  .next ((s.begin el).writeCmd p R.SYS_CNT_CLEAR 1 sysCntClear)

/-! Loss of an island's clock (R36–R38). -/

/-- Twice the nominal clock edges of an island in 1 µs (Table 2); 0 for island 38, which has no monitor (17 R665). -/
def edges2 (i : Nat) : Nat :=
  if i < 20 then 400 else if i < 22 then 200 else if i = 22 then 400 else if i < 29 then 100 else if i = 29 then 800
  else if i < 34 then 400 else if i = 34 then 625 else if i = 35 then 160 else if i = 36 then 800 else if i = 37 then 400 else 0

/-- An island is declared down (R36–R38; 02 R96; 14 R565). -/
def State.declareDown (s : State) (i : Nat) : State :=
  if !s.up i then s
  else
    let s1 := ((s.updSys fun q => { q with
      heldIrq := Tab.set (fun _ => 0) q.heldIrq i (s.irqOf i),
      goodWin := Tab.set (fun _ => 0) q.goodWin i 0,
      restart := Tab.set (fun _ => .none) q.restart i .none }).handoverDown i).setUp i false
    let s2 := s1.event (if i < 32 then R.SYS_ISLAND_LOST0 else R.SYS_ISLAND_LOST1) (i % 32)
    let s3 := if i = 37 then { s2 with fm := { s2.fm with pinsLatched := true } } else s2.fault srcIslandClock i 0
    s3.applyIsland i

/-- CLOCK_MONITOR_WINDOW (R36, R40, R702): the boundary monitor has counted `edges` in a window of 1 µs; `e.val` says whether the
clock runs at its end. An island whose clock has stopped carries nothing out from then on, and is declared down by the count of
a later window. The monitor ignores a gated clock (17 R668). -/
def execClockMonitorWindow (e : Seen Bool) (isl : Fin 39) (edges : Nat) (s : State) :
    Host.Outcome State Fault Refusal :=
  let u := s.begin e.el
  let n := edges2 isl
  let d := ((2 * edges : Nat) - n : Int).natAbs
  let t := if n = 0 then u else
    u.updSys fun q => { q with stopped := Tab.set (fun _ => false) q.stopped isl.val (!e.val) }
  .next (if t.clk.inReset || n == 0 || !t.gateOpen isl then t
  else if t.up isl then (if edges = 0 ∨ n < 20 * d then t.declareDown isl else t)
  else
    let g := if 100 * d ≤ 3 * n then Tab.get (fun _ => 0) t.sys.goodWin isl + 1 else 0
    t.updSys fun q => { q with goodWin := Tab.set (fun _ => 0) q.goodWin isl g })

/-! Restarts (R40, R58, R59). -/

/-- The restart of an island. -/
def State.restartOf (s : State) (i : Nat) : RestartPhase := Tab.get (fun _ => .none) s.sys.restart i
def State.setRestart (s : State) (i : Nat) (r : RestartPhase) : State :=
  s.updSys fun q => { q with restart := Tab.set (fun _ => .none) q.restart i r }

/-- What a write of SYS_ISLAND_RESTART0 or 1 does: a bit of an isolated island asks for its restart; any other bit has no effect and
makes the write an address error (R40, R58, R59). -/
def restartWrite (hi : Bool) (w : Word) (s : State) : Nat × State :=
  let bits := (List.range 32).filterMap fun i => if w.getLsbD i then some (i + if hi then 32 else 0) else none
  let isl := if hi then bits.filter fun i => decide (i < 39) else bits
  let may (i : Nat) : Bool := decide (i < 37) && !s.up i
  (if isl.all may then 0 else errAddress,
    forL (fun i t => if may i && t.restartOf i == .none then t.setRestart i .held else t) isl s)

/-- ISLAND_RESTART (R40). -/
def execIslandRestart (el : Nat) (p : Port) (hi : Bool) (v : Word) (s : State) : Host.Outcome State Fault Refusal :=
  let a := if hi then R.SYS_ISLAND_RESTART1 else R.SYS_ISLAND_RESTART0
  .next ((s.begin el).atPort p (.wrote p a errIslandDown) fun t =>
    let r := t.hostWrite p a v (restartWrite hi)
    r.2.send (.wrote p a r.1))

/-- A lane's restart keeps its model and its coil's state, whatever its reloaded section says (R704). -/
def State.laneRestart (s old : State) (n : Nat) : State :=
  let l := old.lane n
  let keep : Word := 0x9E000000
  let s1 := s.updLane n fun q => { q with
    baseO := l.baseO, baseC := l.baseC, tcO := l.tcO, tcC := l.tcC, bands := l.bands, appliedO := l.appliedO,
    appliedC := l.appliedC, acqO := l.acqO, acqC := l.acqC, tw := l.tw, tb := l.tb, burnAt := l.burnAt, stale := l.stale }
  let same (a : Nat) (t : State) : State := t.setReg a (old.reg a)
  same (R.BURNISH_I_CORR n) (same (R.BURNISH_V_CORR n) (same (R.BURNISH_DAC n) (same (R.LRN_SHIFT_MEAN n)
    (s1.setReg (R.LRN_STAT n) (old.reg (R.LRN_STAT n) &&& keep)))))

/-- A switch channel after the reset of its cluster: a stage whose line keeps it on stays on (14 R580). -/
def State.swRestart (s old : State) (h : Nat) : State :=
  let on := old.swOut h && match s.safeOn (chSwitch h) with
    | some st => st != swSafeOff
    | none => false
  (s.updSwch h fun _ => SwChSt.init).setChBit h hsOutOn on

/-- An island resets (R40 step 1): its registers, and what it holds beside them. -/
def State.resetIsland (s : State) (i : Nat) : State :=
  let s1 := s.resetRegs ((s.regs.map Prod.fst).filter fun a => islandOf a == i)
  if i < 20 then forL (fun n t => t.setLane n LaneSt.init) (tileLanes i) (s1.setTile i TileSt.init)
  else if i < 22 then
    forL (fun a t => t.updAxis a fun q => { AxisSt.init with kept := q.kept, chopA := q.chopA, chopB := q.chopB })
      (tileAxes (i - 20)) s1
  else if i = 22 then { s1 with fb := ⟨[], [], [], []⟩ }
  else if i < 29 then
    let s2 := forL (fun h t => t.swRestart s h) (clChannels (i - 23)) s1
    if i = 23 then
      let s3 := s2.setFldI R.SW_VBAT 0 16 s2.sw.vbat
      s3.setReg R.SW_STAT (bitsWord (fun h => s3.chBit h hsOutOn) 24)
    else s2
  else if i = 29 then { s1 with intake := State.reset.intake }
  else if i = 30 then s1.stitchClear
  else if i = 31 then { s1 with gnd := GndSt.init }
  else if i = 32 then { s1 with time := DtSt.init }
  else if i = 33 then { s1 with gnss := { State.reset.gnss with kept := s.gnss.kept, keptAt := s.gnss.keptAt } }
  else if i = 34 then
    let s2 := { s1 with port := { s1.port with eth0 := EthSt.init, eth1 := EthSt.init, lastReq := none, reqs := [] } }
    (((s2.dropSas .eth0).dropSas .eth1).closeSession ssEth0).closeSession ssEth1
  else if i = 35 then { s1 with cans := [] }
  else if i = 36 then s1.mssRestart 0 []
  else s1

/-- ISLAND_RESTART_BEGIN (R40, R704, R705): a held restart begins once the clock has been good for 100 µs. The island resets and
reloads its sections with the patches in force; its stages keep the states of their lines. -/
def execIslandRestartBegin (el : Nat) (isl : Fin 39) (s : State) : Host.Outcome State Fault Refusal :=
  let t := s.begin el
  .next (if t.restartOf isl = .held ∧ !t.up isl ∧ 100 ≤ Tab.get (fun _ => 0) t.sys.goodWin isl then
    let u := forL (State.applySect fun a => islandOf a == isl) t.ldr.inForce (t.resetIsland isl)
    let v := if isl.val < 20 then forL (fun n x => x.laneRestart t n) (tileLanes isl) u else u
    ((v.holdLines isl).setRestart isl .running).when (isl.val == 32 || isl.val == 35) State.trimShow
  else t)

/-- ISLAND_UP (R40, R585; 06 R275; 07 R300; 10 R400): the island reports itself up, and its ISLAND cause is removed. Every tile sends its
latencies again to a restarted Stitch. -/
def execIslandUp (el : Nat) (isl : Fin 39) (s : State) : Host.Outcome State Fault Refusal :=
  let t := s.begin el
  .next (if t.restartOf isl = .running then
    let u := (((t.setRestart isl .none).setUp isl true).releaseIsland isl)
    let v := if 23 ≤ isl.val ∧ isl.val < 29 ∧ u.up 23 then
        forN (fun h x => if x.up (swIsland h) then x.setBit R.SW_STAT h (x.chBit h hsOutOn) else x) 24 u
      else u
    if isl = 30 then
      forN (fun n x => x.updLane n fun l => { l with sent := none }) 160 { v with gnd := { v.gnd with again := true } }
    else if isl.val < 20 then v.when v.sys.inhibit fun x => x.inhibitTile isl []
    else if isl = 35 then v.canReportDrain
    else v
  else t)

/-! Device time in the islands (R42, R43). -/

/-- DT_SYNC_TOKEN (R42, R43; 11 R466): an island compares its local DT, which has drifted by `drift` ns since its last token, with
the announced instant. A pending step of DT whose second boundary the token marks is applied first. -/
def execDtSyncToken (el : Nat) (isl : Fin 38) (drift : Int) (s : State) : Host.Outcome State Fault Refusal :=
  let t := (s.begin el).onIsland 32 State.dtDue
  let i : Nat := isl
  let d := Tab.get (fun _ => 0) t.sys.localDt i + drift
  let put (u : State) (x : Int) : State := u.updSys fun q => { q with localDt := Tab.set (fun _ => 0) q.localDt i x }
  .next (if !t.up i || !t.ungated i then put t d
  else if d.natAbs ≤ 100 then put t (d - clampI (-2) 2 d)
  else
    let u := put ((((t.noteSat R.SYS_DT_LAST (satI 32 (-d) != -d)).count R.SYS_DT_STEP 1).setReg R.SYS_DT_LAST (wordN i)).fault srcDtDiverge i (wordI (satI 32 (-d)))) 0
    if i < 20 then forL (fun n x => x.spoil n fun f => { f with cut := true }) (tileLanes i) u else u)

end Sys2Proof.Machine
end

