-- ==== Sys2Proof/Machine/Clocks.lean ====
section
/-!
DEFINITION. Clock sources, the reference, gates, rails and power states (17_clocks_power_reset.md, R656–R675).
-/
namespace Sys2Proof.Machine

/-- Clocks beside their registers take a new value. -/
def State.updClk (s : State) (f : ClkSt → ClkSt) : State := { s with clk := f s.clk }

/-- The reference runs on the IRO (R656). -/
def State.onIro (s : State) : Bool := s.rbit R.CLK_STAT csRefOnIro

/-! Sources (R658–R665). -/

/-- The bit of CLK_STAT of a clock source, by its code (Table 1). -/
def srcBit (k : Nat) : Nat := if k = 4 then csPll else 16 + k

/-- The reference falls back to the IRO (R662, R663). `forced` says that the old clock's edge did not come in time. -/
def State.fallBack (s : State) (forced : Bool) : State :=
  let s1 := (((s.setBit R.CLK_STAT csRefOnIro true).event R.CLK_IRQ_STAT ciFallback).updClk fun c => { c with fallback := true })
  s1.when forced fun t => (t.count R.CLK_FORCED_CNT 1).event R.CLK_IRQ_STAT ciForced

/-- The reference moves to the main PLL (R661, R662): away from an IRO that has stopped, the switch is forced. -/
def State.toMain (s : State) : State :=
  let s1 := (s.setBit R.CLK_STAT csRefOnIro false).updClk fun c => { c with fallback := false, selWait := false }
  s1.when (s.onIro && !s.rbit R.CLK_STAT csIro) fun t =>
    ((t.count R.CLK_FORCED_CNT 1).event R.CLK_IRQ_STAT ciForced).fault srcClockSource 3 1

/-- The link of an Ethernet port goes up or down (13 Table 11). -/
def State.linkSet (s : State) (e : EthPort) (b : Bool) : State :=
  let n := ethNum e
  s.when (s.rbit (R.ETH_STAT n) 31 != b) fun t => (t.setBit (R.ETH_STAT n) 31 b).event R.PORT_IRQ_STAT n

/-- CLOCK_SOURCE_LOST (R662, R663, R665, Table 3): source `k` is declared lost. A switch of the reference away from a lost
TCXO is forced, since no edge of the main PLL comes (R663, Table 4); `forced` says so for a main PLL out of lock. The main PLL is lost only while the TCXO is present. -/
def execClockSourceLost (el : Nat) (k : Fin 5) (forced : Bool) (s : State) : Host.Outcome State Fault Refusal :=
  let t := s.begin el
  .next (if t.clk.inReset || !t.rbit R.CLK_STAT (srcBit k) || (k.val == 4 && !t.rbit R.CLK_STAT csTcxo) then t
  else
    let falls := (k.val = 0 ∨ k.val = 4) ∧ !t.onIro
    let forced := forced || k.val == 0
    let s1 := (((t.setBit R.CLK_STAT (srcBit k) false).count R.CLK_LOSS_CNT 1).event R.CLK_IRQ_STAT ciLost)
    let s2 := if k.val = 0 then (s1.setBit R.CLK_STAT csPll false).updClk fun c => { c with
        tcxoAt := none, selWait := false }
      else if k.val = 1 then s1.onIsland 34 fun u => (u.linkSet .eth0 false).linkSet .eth1 false
      else if k.val = 2 then s1.updClk fun c => { c with rtcOk := false }
      else s1
    let s3 := if falls then s2.fallBack forced else s2
    let s4 := (s3.fault srcClockSource k (if falls ∧ forced then 1 else 0)).trimShow
    if k.val = 3 ∧ t.onIro then forN (fun i u => u.declareDown i) 38 s4 else s4)

/-- The main PLL is locked: the reference moves to it at boot, and after a fallback only when the host has asked (R658, R663,
R664). -/
def State.pllLock (s : State) : State :=
  let s1 := s.setBit R.CLK_STAT csPll true
  if s.clk.fallback && !s.clk.selWait then s1
  else s1.toMain

/-- CLOCK_SOURCE_OK (R665, Table 3): source `k` has been good for its recovery time. -/
def execClockSourceOk (el : Nat) (k : Fin 5) (s : State) : Host.Outcome State Fault Refusal :=
  let t := s.begin el
  .next (if t.clk.inReset || t.rbit R.CLK_STAT (srcBit k) || (k.val == 4 && !t.rbit R.CLK_STAT csTcxo) then t
  else
    let s1 := (if k.val = 4 then t.pllLock else t.setBit R.CLK_STAT (srcBit k) true).event R.CLK_IRQ_STAT ciOk
    (s1.updClk fun c => if k.val = 0 then { c with tcxoAt := some t.now } else c).trimShow)

/-- PLL_LOCKED (R658). -/
def execPllLocked (el : Nat) (s : State) : Host.Outcome State Fault Refusal :=
  let t := s.begin el
  .next (if !t.clk.inReset && t.rbit R.CLK_STAT csTcxo && !t.rbit R.CLK_STAT csPll then t.pllLock else t)

/-- The trim interval of a source, ns: a CAN message trims by itself (Table 2). -/
def trimInterval (c : Nat) : Nat := if c = 1 then 1000000000 else if c = 2 then 0 else 1000000

/-- IRO_TRIM (R659, R660): at a trim interval the IRO's error against the trim source in use is measured, in 0.1 ppm, and the
trim takes one step against it. `sof` says whether USB start-of-frame marks arrive: without
them the bus of a configured device is suspended (13 Table 10; DEDUCED, log 210). -/
def execIroTrim (el : Nat) (err : Int) (sof : Bool) (s : State) : Host.Outcome State Fault Refusal :=
  .next ((s.begin el).onIsland 37 fun t =>
    let u := ((t.updClk fun c => { c with sof := sof }).setBit R.USB_STAT 29 (!sof && t.rbit R.USB_STAT 30)).trimShow
    if u.trimSrc = 15 ∨ u.now < u.clk.trimAt + trimInterval u.trimSrc then u
    else ((u.updClk fun c => { c with trimAt := u.now }).setRegI R.CLK_IRO_ERR err).setRegI R.CLK_IRO_TRIM
      ((u.reg R.CLK_IRO_TRIM).toInt - clampI (-1) 1 err))

/-- The counters of the clock and power block (R679). -/
def clkCounters : List Nat := [R.CLK_FORCED_CNT, R.CLK_LOSS_CNT, R.PWR_OOW_CNT]

/-- What a write of CLK_CMD does: bit 1 SEL_MAIN (R664), bit 0 CNT_CLEAR. -/
def clkCmd (w : Word) (s : State) : State :=
  let good := match s.clk.tcxoAt with
    | some t => decide (t + 100000000 ≤ s.now)
    | none => false
  let s1 := if !w.getLsbD 1 then s
    else if !good then s.event R.CLK_IRQ_STAT ciRefused
    else if !s.onIro then s
    else if s.rbit R.CLK_STAT csPll then s.toMain
    else s.updClk fun c => { c with selWait := true }
  s1.when (w.getLsbD 0) fun t => t.clearRegs clkCounters

/-- SEL_MAIN (R664). -/
def execSelMain (el : Nat) (p : Port) (s : State) : Host.Outcome State Fault Refusal :=
  .next ((s.begin el).writeCmd p R.CLK_CMD 2 clkCmd)

/-- CLK_CNT_CLEAR (R679). -/
def execClkCntClear (el : Nat) (p : Port) (s : State) : Host.Outcome State Fault Refusal :=
  .next ((s.begin el).writeCmd p R.CLK_CMD 1 clkCmd)

/-! Gates (R666–R668, Table 5). -/

/-- Results of CLK_GATE_RESULT (Table 10). -/
abbrev cgOk : Nat := 0
abbrev cgBusy : Nat := 1
abbrev cgInUse : Nat := 2
abbrev cgParentOff : Nat := 3
abbrev cgUnknown : Nat := 4

/-- A gate's parent (Table 5). -/
def gateParent (g : Nat) : Option Nat :=
  if g = 1 ∨ g = 2 then some 0
  else if 5 ≤ g ∧ g ≤ 8 then some 4
  else if 20 ≤ g then some (12 + (g - 20) / 4)
  else none

/-- A gate's block is in use (Table 5). -/
def State.gateInUse (s : State) (g : Nat) : Bool :=
  let any (l : List Nat) : Bool := l.any fun x => s.gateOn x
  let four (k : Nat) : List Nat := (List.range 4).map fun j => k + j
  if g = 0 then any [1, 2]
  else if g ≤ 2 then (four (4 * (g - 1))).any fun a => s.rbit (R.AX_CTRL a) 16
  else if g = 3 then
    (List.range 8).any (fun k => s.rbit (R.ENC_CFG k) 12 || s.rbit (R.PRB_CFG k) 8 || s.rbit (R.CMP_CFG k) 0) ||
      (List.range 4).any fun k => s.rfld (R.Q_CFG k) 0 2 != 0
  else if g = 4 then any (four 5)
  else if g ≤ 8 then !s.canInit (g - 5)
  else if g = 9 then s.rbit R.GNSS_CTRL 0
  else if g = 10 then s.rbit (R.ETH_CTRL 1) 0 || !s.rbit R.PORT_CFG 0
  else if g = 11 then s.rbit R.USB_STAT 31
  else if g ≤ 16 then any (four (20 + 4 * (g - 12)))
  else (tileLanes (g - 20)).any fun n => s.role n != 0

/-- A gate is on or off, and a request has its result. -/
def State.setGate (s : State) (g : Nat) (b : Bool) : State :=
  if g < 32 then s.setBit R.CLK_GATE_STAT0 g b else s.setBit R.CLK_GATE_STAT1 (g - 32) b
def State.gateResult (s : State) (pending : Bool) (g res : Nat) : State :=
  s.setReg R.CLK_GATE_RESULT (wordN (2 ^ 31 * b2n pending + g * 256 + res))

/-- What a write of CLK_GATE_CMD does (R666, R667). IN_USE refuses a request for off alone: DEDUCED (log 92). -/
def gateCmd (w : Word) (s : State) : State :=
  let g := fld w 0 6
  let on := w.getLsbD 8
  if s.clk.gate.isSome then s.gateResult true g cgBusy
  else if (17 ≤ g ∧ g ≤ 19) ∨ 39 < g then s.gateResult false g cgUnknown
  else if s.gateOn g == on then s.gateResult false g cgOk
  else if on then
    if (gateParent g).any fun x => !s.gateOn x then s.gateResult false g cgParentOff
    else (s.setGate g true).gateResult false g cgOk
  else if s.gateInUse g then s.gateResult false g cgInUse
  else (s.gateResult true g cgOk).updClk fun c => { c with gate := some (g, s.now) }

/-- CLK_GATE_CMD (R666). -/
def execClkGateCmd (el : Nat) (p : Port) (v : Word) (s : State) : Host.Outcome State Fault Refusal :=
  .next ((s.begin el).writeCmd p R.CLK_GATE_CMD v gateCmd)

/-- The island whose clock a gate stops; a parent gate has that of its blocks (Table 5). -/
def gateIsland (g : Nat) : Nat :=
  if g = 0 then 20 else if g ≤ 3 then 19 + g else if g ≤ 8 then 35 else if g = 9 then 33 else if g = 10 then 34 else if g = 11 then 37
  else if g ≤ 16 then 4 * (g - 12) else g - 20

/-- 1,024 cycles of a gate's clock, ns (R667). -/
def gateLimit (g : Nat) : Nat := 2048000 / edges2 (gateIsland g)

/-- GATE_IDLE (R667): the block of the pending gate has reached idle, within the time or not; or the time is over. -/
def execGateIdle (el : Nat) (idle : Bool) (s : State) : Host.Outcome State Fault Refusal :=
  .next ((s.begin el).onIsland 37 fun t =>
    match t.clk.gate with
    | some (g, b) =>
      let u := t.updClk fun c => { c with gate := none }
      let late := decide (b + gateLimit g < t.now)
      if idle && !late then (u.setGate g false).gateResult false g cgOk
      else if late then u.gateResult false g cgBusy
      else t
    | none => t)

/-! Rails (R669, Table 6). -/

/-- The reporting window of a rail, mV, for VIO at 1.8 V or at 3.3 V. -/
def railWindow (r : Nat) (vio33 : Bool) : Int × Int :=
  match r with
  | 0 => (700, 800)
  | 1 => (745, 855)
  | 2 => (840, 960)
  | 3 => (1680, 1920)
  | 4 => (1120, 1280)
  | 5 => if vio33 then (3069, 3531) else (1674, 1926)
  | 6 => (1550, 3650)
  | 8 => (5500, 37000)
  | _ => (7500, 62000)
def railIn (r : Nat) (vio33 : Bool) (mv : Nat) : Bool :=
  decide ((railWindow r vio33).1 ≤ (mv : Int)) && decide ((mv : Int) ≤ (railWindow r vio33).2)

/-- RAIL_OUT_OF_WINDOW (R669; 16 Table 9): a rail has been outside its window for 5 µs. -/
def execRailOutOfWindow (el : Nat) (r : Fin 14) (mv : BitVec 16) (vio33 : Bool) (s : State) :
    Host.Outcome State Fault Refusal :=
  .next ((s.begin el).onIsland 37 fun t =>
    if railIn r vio33 mv.toNat ∨ t.rbit (R.PWR_RAIL r) 31 then t
    else
      let s1 := (t.setReg (R.PWR_RAIL r) (wordN (2 ^ 31 + mv.toNat))).recAdd 3 (r / 8) (r % 8) mv.toNat
      ((s1.count R.PWR_OOW_CNT 1).event R.PWR_IRQ_STAT 0).fault srcSupply r (mv.setWidth 32))

/-- RAIL_IN_WINDOW (R669): a rail has been inside its window for 1 ms. -/
def execRailInWindow (el : Nat) (r : Fin 14) (mv : BitVec 16) (vio33 : Bool) (s : State) :
    Host.Outcome State Fault Refusal :=
  .next ((s.begin el).onIsland 37 fun t =>
    if railIn r vio33 mv.toNat ∧ t.rbit (R.PWR_RAIL r) 31 then t.setReg (R.PWR_RAIL r) (mv.setWidth 32) else t)

/-! Power states (R672–R675). -/

/-- The work of a power-down that is the MSS's, in the order of 16 R639: lane models, GNSS aids, recorder, marker. -/
def State.powerDownRest (s : State) : State :=
  (s.copyModels.gnssRetain.recCloseAll 2).updMgt fun g => { g with marker := true }

/-- What runs at a power-down warning (16 R639): the raster flush, and the work of the MSS, which waits for it while it restarts. -/
def State.powerDownWork (s : State) : State :=
  let t := s.onIsland 31 State.writeBackAll
  t.when (t.mssReady && t.up 36) State.powerDownRest

/-- HOLDUP (Table 7). -/
def State.holdup (s : State) : Bool := s.rfld R.PWR_STAT 0 2 == 3

/-- An enabled input warns (R672): PWRFAIL_N asserted, or VBAT below its threshold, mV; and every enabled input is good, VBAT 500 mV
above its threshold (R673). -/
def State.pdWarns (s : State) (pin : Bool) (vbat : Nat) : Bool :=
  (s.rbit R.PWR_PD_CFG 31 && pin) || (s.rbit R.PWR_PD_CFG 30 && decide (vbat < s.rfld R.PWR_PD_CFG 0 16))
def State.pdGood (s : State) (pin : Bool) (vbat : Nat) : Bool :=
  !(s.rbit R.PWR_PD_CFG 31 && pin) && (!s.rbit R.PWR_PD_CFG 30 || decide (s.rfld R.PWR_PD_CFG 0 16 + 500 < vbat))

/-- POWER_DOWN_WARNING (R672): PWRFAIL_N has been asserted or not for 10 µs (`pin`), and VBAT at `vbat` mV for 100 µs. -/
def execPowerDownWarning (el : Nat) (pin : Bool) (vbat : BitVec 16) (s : State) : Host.Outcome State Fault Refusal :=
  .next ((s.begin el).onIsland 37 fun t =>
    if t.pdWarns pin vbat.toNat && !t.holdup then ((t.setFld R.PWR_STAT 0 2 3).event R.PWR_IRQ_STAT 1).powerDownWork else t)

/-- POWER_DOWN_END (R673): PWRFAIL_N has been asserted or not, and VBAT at so many mV, for 10 ms. -/
def execPowerDownEnd (e : Seen (Bool × BitVec 16)) (s : State) : Host.Outcome State Fault Refusal :=
  .next ((s.begin e.el).onIsland 37 fun t =>
    if t.holdup && t.pdGood e.val.1 e.val.2.toNat then
      let s1 := ((t.updMgt fun g => { g with marker := false }).updRec fun r => { r with
        vals := [], due := [], waits := [], openAt := [], openAll := t.dt })
      (s1.setFld R.PWR_STAT 0 2 (b2n t.ldr.bootEnded)).event R.PWR_IRQ_STAT 2
    else t)

/-- MSS_READY (16 R627, R628, R639, R645): the firmware reports ready; the closes that waited for it are made, then
the session messages are checked, and the work of a power-down is done. -/
def execMssReady (el : Nat) (s : State) : Host.Outcome State Fault Refusal :=
  .next ((s.begin el).onIsland 36 fun t =>
    if t.rfld R.MSS_STAT 0 2 = 1 ∧ !t.mgt.halted then
      ({ t.setFld R.MSS_STAT 0 2 0 with sec := { t.sec with fwWait := none } }).onIsland 37 fun u =>
        u.recCatchUp.sessResume.when (u.holdup && !u.mgt.marker) State.powerDownRest
    else t)

/-- RTC_LATCH (R675): at a second boundary of DT the backup domain latches DT and the count of its crystal. -/
def execRtcLatch (el : Nat) (s : State) : Host.Outcome State Fault Refusal :=
  let t := s.begin el
  .next (if !t.clk.inReset && t.rbit R.PWR_BK_CFG 0 && decide (t.dt % 1000000000 = 0) then
    t.updClk fun c => { c with latch := some t.dt, rtcOk := t.rbit R.CLK_STAT csX32k }
  else t)

end Sys2Proof.Machine
end

