-- ==== Sys2Proof/Machine/Ground.lean ====
section
/-!
DEFINITION. The GROUND block (04_ground_sections_and_coverage.md, R137–R173): vehicle state, history, the evaluation
pass over COVER lanes and spot events, the coverage raster's marks and paging, and its commands.
-/
namespace Sys2Proof.Machine

/-- Events of GND_IRQ_STAT. -/
abbrev gVsRefused : Nat := 0
abbrev gStale : Nat := 1
abbrev gEdge : Nat := 2
abbrev gPageReady : Nat := 3
abbrev gEvDrop : Nat := 4
abbrev gDisagree : Nat := 5
abbrev gWbLost : Nat := 6
abbrev gDutyClip : Nat := 7
abbrev gOverrun : Nat := 8

/-- The state in force (GND_CUR_*). -/
def State.vs (s : State) : VState :=
  ⟨s.reg64 R.GND_CUR_DT_LO, s.reg48 R.GND_CUR_E_LO, s.reg48 R.GND_CUR_N_LO, (s.reg R.GND_CUR_HEAD).toNat,
    (s.reg R.GND_CUR_SPEED).toInt, (s.reg R.GND_CUR_YAW).toInt⟩

/-- The block takes a new value beside its registers. -/
def State.setGnd (s : State) (g : GndSt) : State := { s with gnd := g }

/-- A new state in force; what exceeds its register saturates (00 R8). -/
def State.setVs (s : State) (q : VState) : State :=
  let s1 := ((s.setReg64 R.GND_CUR_DT_LO q.t).setReg48I R.GND_CUR_E_LO q.e).setReg48I R.GND_CUR_N_LO q.n
  let s2 := ((s1.setReg R.GND_CUR_HEAD (wordN q.psi)).setRegI R.GND_CUR_SPEED q.v).setRegI R.GND_CUR_YAW q.w
  (s2.setBit R.GND_STAT 0 true).setGnd { s2.gnd with have_ := true }

/-- The state extrapolated to `t` with constant v and ω (R146). -/
def VState.at (q : VState) (t : Int) : VState :=
  let dt := t - (q.t : Int)
  let dpsi := roundDiv (q.w * dt * oneQ) 1000000000000000
  let y := dpsi / 2
  let sinc := if y = 0 then oneQ else sinQ y * oneQ / y
  let th := turnQ q.psi + y
  { t := t.toNat, e := q.e + roundDiv (q.v * dt * sinc * sinQ th) (10 ^ 7 * 2 ^ 192),
    n := q.n + roundDiv (q.v * dt * sinc * cosQ th) (10 ^ 7 * 2 ^ 192),
    psi := ((q.psi + toTurn dpsi) % 2 ^ 32).toNat, v := q.v, w := q.w }

/-- Datapath B (R153): the body-frame point (x, y) at `t`, in the local frame, µm. It turns about the instantaneous centre of
rotation, (v/ω)·r from the reference point, by Δψ; below 10 µrad/s it moves straight. -/
def VState.pivot (q : VState) (t x y : Int) : Int × Int :=
  let sn := sinQ (turnQ q.psi)
  let cs := cosQ (turnQ q.psi)
  let dt := t - (q.t : Int)
  if q.w.natAbs < 10 then
    let d := q.v * dt
    (q.e + roundDiv (10000000 * (x * sn + y * cs) + d * sn) (10 ^ 7 * 2 ^ 96),
      q.n + roundDiv (10000000 * (x * cs - y * sn) + d * cs) (10 ^ 7 * 2 ^ 96))
  else
    let th := turnQ q.psi + roundDiv (q.w * dt * oneQ) 1000000000000000
    let k := q.v * 100000000
    let f (c : Int) : Int := roundDiv (c * q.w.sign) (q.w.natAbs * 2 ^ 96)
    (q.e + f (k * cs + q.w * x * sinQ th + (q.w * y - k) * cosQ th),
      q.n + f (q.w * x * cosQ th - (q.w * y - k) * sinQ th - k * sn))

/-- Two points lie more than 5 mm apart (R153). -/
def apart (a b : Int × Int) : Bool := decide (25000000 < (a.1 - b.1) * (a.1 - b.1) + (a.2 - b.2) * (a.2 - b.2))

/-- A body-frame point in the local frame, and a point of the local frame in the body frame, µm (R137). -/
def VState.world (q : VState) (x y : Int) : Int × Int :=
  let sn := sinQ (turnQ q.psi)
  let cs := cosQ (turnQ q.psi)
  (q.e + roundDiv (x * sn + y * cs) (2 ^ 96), q.n + roundDiv (x * cs - y * sn) (2 ^ 96))
def VState.body (q : VState) (e n : Int) : Int × Int :=
  let sn := sinQ (turnQ q.psi)
  let cs := cosQ (turnQ q.psi)
  (roundDiv ((e - q.e) * sn + (n - q.n) * cs) (2 ^ 96), roundDiv ((e - q.e) * cs - (n - q.n) * sn) (2 ^ 96))

/-- A lane's ground speed, 0.1 mm/s (R157), as the pseudocode of 04 divides. -/
def VState.laneSpeed (q : VState) (y : Int) : Int := q.v - truncDiv (q.w * y) 100000000

/-- A lane's geometry: x, y, LENGTH and WIDTH in µm. -/
def State.laneX (s : State) (n : Nat) : Int := (s.reg (R.GND_LANE_X n)).toInt
def State.laneY (s : State) (n : Nat) : Int := (s.reg (R.GND_LANE_Y n)).toInt
def State.laneLen (s : State) (n : Nat) : Int := (s.rfld (R.GND_LANE_FOOT n) 16 16 : Int) * 1000
def State.laneWid (s : State) (n : Nat) : Int := (s.rfld (R.GND_LANE_FOOT n) 0 16 : Int) * 1000

/-- T_lead, ns, and the minimum lane speed. -/
def State.gndLead (s : State) : Int := (s.rfld R.GND_LEAD 0 16 : Int) * 10
def State.gndVmin (s : State) : Int := (s.rfld R.GND_VMIN 0 16 : Int)

/-- The guards of a lane, ns. -/
def State.guardOpen (s : State) (n : Nat) : Int := (s.rfld (R.STITCH_LANE_GUARD n) 0 16 : Int) * 10
def State.guardClose (s : State) (n : Nat) : Int := (s.rfld (R.STITCH_LANE_GUARD n) 16 16 : Int) * 10

/-- The look-ahead of a lane that is on, or off, ns (R149). -/
def State.lookAhead (s : State) (n : Nat) (on : Bool) : Int :=
  if on then s.gndLead + s.latOf n .closing * 10 - s.guardClose n + s.laneDelay n
  else s.gndLead + s.latOf n .opening * 10 + s.guardOpen n + s.laneDelay n


/-- What a look at one cell finds: outside the window or absent, excluded, applied, and whether its block was not
resident (R154, R168). -/
structure Look where
  out : Bool
  excl : Bool
  appl : Bool
  miss : Bool
  deriving DecidableEq, Repr

/-- A global block is resident in the cache (R168): 32 × 32 blocks about the centre. -/
def State.resident (s : State) (bi bj : Int) : Bool :=
  match s.gnd.centre with
  | some (ci, cj) => decide (ci - 16 ≤ bi) && decide (bi < ci + 16) && decide (cj - 16 ≤ bj) && decide (bj < cj + 16)
  | none => false

/-- A look at the cell of a point. -/
def State.look (s : State) (p : Int × Int) : Look :=
  let c := s.cellOf p.1 p.2
  match s.cellPlace c.1 c.2 with
  | none => ⟨true, false, false, false⟩
  | some (n, k) =>
    let b := s.cellBits n k
    ⟨false, b % 2 == 1, b / 2 == 1, !s.resident (c.1 / 64) (c.2 / 64)⟩

/-- The cache follows the reference point (R168): it is centred again once the point is 4 blocks from the centre. -/
def State.recentre (s : State) (q : VState) : State :=
  let c := s.cellOf q.e q.n
  let b := (c.1 / 64, c.2 / 64)
  match s.gnd.centre with
  | some o =>
    if 4 ≤ (b.1 - o.1).natAbs ∨ 4 ≤ (b.2 - o.2).natAbs then s.setGnd { s.gnd with centre := some b } else s
  | none => s.setGnd { s.gnd with centre := some b }

/-- A point lies closer than GND_EDGE_DIST to an edge of the window (R173), from within or from without. -/
def State.nearEdge (s : State) (p : Int × Int) : Bool :=
  let w := s.reg R.GND_RST_WIN
  let side : Int := (s.cellSize : Int) * 64
  let x := p.1 - (s.reg48 R.GND_RST_ORG_E_LO + sfld w 0 16 * side)
  let y := p.2 - (s.reg48 R.GND_RST_ORG_N_LO + sfld w 16 16 * side)
  let d : Int := ((s.reg R.GND_EDGE_DIST).toNat : Int)
  let out (a : Int) : Int := max 0 (max (-a) (a - 256 * side))
  if out x = 0 ∧ out y = 0 then
    decide (x < d) || decide (256 * side - x < d) || decide (y < d) || decide (256 * side - y < d)
  else decide (out x * out x + out y * out y < d * d)

/-- The samples of a footprint under a pose (R154). -/
def State.samples (s : State) (n : Nat) (q : VState) : List Look :=
  let sa := max 1 (s.rfld R.GND_SAMP 4 4)
  let sc := max 1 (s.rfld R.GND_SAMP 0 4)
  ((List.range sa).map fun a => (List.range sc).map fun b =>
    s.look (q.world (s.laneX n + roundDiv (s.laneLen n * (2 * (a : Int) + 1 - sa)) (2 * sa))
      (s.laneY n + roundDiv (s.laneWid n * (2 * (b : Int) + 1 - sc)) (2 * sc)))).flatten

/-- A point lies inside a quadrilateral, with half-open edges: an edge is crossed where its end rows lie on either side
of the point's row and the crossing lies to the right. -/
def inQuad (l : List (Int × Int)) (p : Int × Int) : Bool :=
  match l with
  | [] => false
  | a :: r =>
    let pairs := l.zip (r ++ [a])
    (pairs.filter fun e =>
      let (u, v) := e
      (decide (p.2 < u.2) != decide (p.2 < v.2)) &&
        (if u.2 < v.2 then decide ((p.1 - u.1) * (v.2 - u.2) < (v.1 - u.1) * (p.2 - u.2))
        else decide ((v.1 - u.1) * (p.2 - u.2) < (p.1 - u.1) * (v.2 - u.2)))).length % 2 == 1

/-- The least and the greatest of a list and a first value. -/
def minL (a : Int) (l : List Int) : Int := l.foldl min a
def maxL (a : Int) (l : List Int) : Int := l.foldl max a

/-- The integers from `a` to `b`. -/
def between (a b : Int) : List Int := (List.range (b + 1 - a).toNat).map fun i => a + i

/-- Every cell whose centre lies in a quadrilateral is marked, or lost outside the window (R170). Points are taken twice
as large, so that centres are whole numbers. -/
def State.sweep (s : State) (a b c d : Int × Int) : State :=
  let l := [a, b, c, d]
  let sz : Int := (s.cellSize : Int)
  let oe := s.reg48 R.GND_RST_ORG_E_LO
  let on := s.reg48 R.GND_RST_ORG_N_LO
  let es := l.map (·.1)
  let ns := l.map (·.2)
  let q := l.map fun p => (2 * p.1, 2 * p.2)
  let is := between (floorDiv (minL a.1 es - oe) s.cellSize) (floorDiv (maxL a.1 es - oe) s.cellSize)
  let js := between (floorDiv (minL a.2 ns - on) s.cellSize) (floorDiv (maxL a.2 ns - on) s.cellSize)
  forL (fun i t => forL (fun j u =>
    if inQuad q (2 * oe + (2 * i + 1) * sz, 2 * on + (2 * j + 1) * sz) then
      match u.cellPlace i j with
      | some (n, k) => u.mark n k
      | none => (u.count R.GND_WB_LOST 1).event R.GND_IRQ_STAT gWbLost
    else u) js t) is s

/-- The state is stale at `te` (R147). -/
def State.isStale (s : State) (te : Int) : Bool :=
  !s.gnd.have_ || (s.gnd.fused && s.gnd.drOver) ||
    decide (((s.reg R.GND_VS_MAXAGE).toNat : Int) * 1000000 < te - (s.vs.t : Int))

/-- The duty of a COVER lane at lane speed `v` (R158): unclipped, and clipped to DMIN to DMAX. -/
def State.rawDuty (s : State) (n : Nat) (v : Int) : Int :=
  roundDiv ((s.rfld (R.GND_LANE_DREF n) 0 16 : Int) * v) (s.reg R.GND_VREF).toNat
def State.handDuty (s : State) (n : Nat) (v : Int) : State :=
  let lo : Int := (s.rfld (R.GND_LANE_DLIM n) 0 16 : Int)
  let hi : Int := (s.rfld (R.GND_LANE_DLIM n) 16 16 : Int)
  let r := s.rawDuty n v
  let cl := decide (r < lo)
  let ch := !cl && decide (hi < r)
  let d := (if r < lo then lo else if hi < r then hi else r).toNat
  let s1 := (s.setBit (R.GND_LANE_STAT n) 4 cl).setBit (R.GND_LANE_STAT n) 5 ch
  let s2 := s1.when (cl || ch) fun t => (t.count R.GND_DUTY_CLIP 1).event R.GND_IRQ_STAT gDutyClip
  if (s2.glane n).duty = some d then s2
  else (s2.setGlane n { s2.glane n with duty := some d }).handOff 31 (.duty n d)

/-- What a pass carries from one evaluation to the next: the state, the time waited for the store, ns, how many
evaluations have begun, and whether a centre lay near the window's edge. -/
structure Pass where
  s : State
  wait : Int
  k : Nat
  near : Bool

/-- Some looks at cells have been made: those at blocks that were not resident are counted, and add up to 2 µs each, which the spec
leaves open within it (R168; free value, log 5). -/
def State.looked (s : State) (l : List Look) : State × Int :=
  let miss := (l.filter (·.miss)).length
  if miss = 0 then (s, 0)
  else
    let dw := s.draw 20
    (dw.2.count R.GND_CACHE_MISS miss, ((dw.1.toNat % (2000 * miss + 1) : Nat) : Int))

/-- The evaluation of one COVER lane (R149–R158, R170). `q` is the snapshot, `te` the period start, `bad` the lanes on which an
error of a datapath sets the two centres apart (R153; log 150); `again` says that its decision and duty are handed again (05
R705). Before a state was ever in force no duty is handed (DESIGN CHOICE, log 190). -/
def evalLane (q : VState) (te : Int) (stale : Bool) (bad : List Nat) (again : Bool) (n : Nat) (p : Pass) : Pass :=
  let s0 := p.s
  let tn := te + (p.k : Int) * 1000 + p.wait
  let off := stale && s0.rbit R.GND_CTRL 4
  let on := s0.rbit (R.GND_LANE_STAT n) 0
  let tau := s0.lookAhead n on
  let pose := q.at (tn + tau)
  let c := pose.world (s0.laneX n) (s0.laneY n)
  let v := q.laneSpeed (s0.laneY n)
  let sm := if off then [] else s0.samples n pose
  let lk := s0.looked sm
  let s1 := lk.1.when stale fun t => t.count R.GND_CNT_STALE 1
  let dis := !off && (bad.contains n || apart c (q.pivot (tn + tau) (s0.laneX n) (s0.laneY n)))
  let s2 := s1.when dis fun t =>
    ((t.count R.GND_DISAGREE 1).event R.GND_IRQ_STAT gDisagree).fault srcGroundDisagree n 0
  let outX := s0.rbit R.GND_CTRL 5
  let cov := (sm.filter fun l => if l.out then outX else l.excl || l.appl).length
  let f := if sm.isEmpty then s0.rfld (R.GND_LANE_STAT n) 16 16 else cov * 65535 / sm.length
  let tOver := s0.rfld R.GND_THRESH 16 16
  let rel := min (s0.rfld R.GND_THRESH 0 16) tOver
  let sw := s0.rbit (R.GND_LANE_CFG n) 8
  let slow := decide (v < s0.gndVmin)
  let new :=
    if !sw then false
    else if off then false
    else if slow then false
    else if dis then on
    else if s0.rbit R.GND_CTRL 8 && sm.any (·.excl) then false
    else if tOver ≤ f then false
    else if f < rel then true
    else on
  let s3 := (((s2.setFld (R.GND_LANE_STAT n) 16 16 f).setBit (R.GND_LANE_STAT n) 6
    (if off then s0.rbit (R.GND_LANE_STAT n) 6 else sm.any (·.out))).setBit
    (R.GND_LANE_STAT n) 3 (sw && !off && slow)).setBit (R.GND_LANE_STAT n) 2 (sw && off)
  let s4 := s3.setBit (R.GND_LANE_STAT n) 0 new
  let at_ := tn + s0.lookAhead n (!new) - s0.laneDelay n
  let s5 := s4.when (again || new != on) fun t => t.handOff 31 (.sectAct new 0 [n] (at_ * 256) false)
  let s6 := s5.when (s5.isPwm n && s5.gnd.have_) fun t =>
    (t.when again fun u => u.setGlane n { u.glane n with duty := none }).handDuty n v
  let here := q.at tn
  let xr := s0.laneX n - s0.laneLen n / 2
  let cl := here.world xr (s0.laneY n - s0.laneWid n / 2)
  let cr := here.world xr (s0.laneY n + s0.laneWid n / 2)
  let g := s6.glane n
  let s7 := match g.rear with
    | some (pl, pr) => s6.when (s6.rbit R.GND_CTRL 10 && g.delivers tn) fun t => t.sweep pl pr cr cl
    | none => s6
  let s8 := s7.setGlane n { s7.glane n with rear := some (cl, cr) }
  ⟨s8, p.wait + lk.2, p.k + 1, p.near || (!off && s0.nearEdge c)⟩

/-- Stitch still holds the spot pulse of an event on a lane, or has it waiting in its inbox. -/
def State.spotAlive (s : State) (n key : Nat) : Bool :=
  ((s.cal n).any fun e => e.members.any fun m => m.kind == .spot && m.key == key) ||
  s.stitch.inbox.any fun h => match h with
    | .target t => t.kind == .spot && t.key == key && !t.cancel && t.lanes.contains n
    | _ => false

/-- How many spot pulses are pending (R163). -/
def State.spotPending (s : State) : Nat := (s.gnd.events.map fun e => ((e.lanes.getD []).length)).sum

/-- The lanes of an event at a pose (R161). -/
def State.spotLanes (s : State) (q : VState) (x y : Int) (e : SpotEvent) : List Nat :=
  let spot (n : Nat) : Bool := s.rfld (R.GND_LANE_CFG n) 0 2 == 2
  if e.lateral then
    (List.range 160).filter fun n =>
      let yc := y - roundDiv (q.w * (x * x - s.laneX n * s.laneX n)) (200000000 * q.v).toNat
      spot n && decide (2 * ((yc - s.laneY n).natAbs : Int) <
        10 * (e.width : Int) + s.laneWid n + 2 * (s.reg R.GND_EV_MARGIN).toNat)
  else e.named.filter spot

/-- The interval of a spot pulse, 1/256 ns (R162). -/
def State.spotTimes (s : State) (tn x v : Int) (e : SpotEvent) (n : Nat) : Int × Int :=
  let base := (tn - s.laneDelay n) * 256
  let half2 := 10 * (e.extent : Int) + s.laneLen n
  (base + roundDiv ((2 * (x - s.laneX n) - half2) * 1280000000) v.toNat,
    base + roundDiv ((2 * (x - s.laneX n) + half2) * 1280000000) v.toNat)

/-- An event whose lanes are fixed has no pulse left. -/
def SpotEvent.done (e : SpotEvent) : Bool := (e.lanes.map List.isEmpty).getD false

/-- An event takes a new value, or goes where it has no pulse left. -/
def State.setSpot (s : State) (e : SpotEvent) : State :=
  let l := if SpotEvent.done e then s.gnd.events.filter fun z => z.key != e.key
    else s.gnd.events.map fun z => if z.key = e.key then e else z
  s.setGnd { s.gnd with events := l }

/-- One lane of an event at its evaluation (R162–R164, R168, R173): handed, re-timed, withdrawn, or done with.
Exclusion is tested when a pulse would first be handed, and a pulse excluded then is done with (DESIGN CHOICE, log 191). -/
def spotLane (q : VState) (tn x : Int) (n : Nat) (z : Pass × SpotEvent) : Pass × SpotEvent :=
  let (p, e) := z
  let s := p.s
  let v := q.laneSpeed (s.laneY n)
  let gone : SpotEvent :=
    { e with lanes := e.lanes.map fun l => l.filter fun z => z != n, handed := e.handed.filter fun z => z != n }
  let held := e.handed.contains n
  if held && !s.spotAlive n e.key then (p, gone)
  else if v < s.gndVmin then
    if held then ({ p with s := s.handOff 31 (.respot n e.key none) }, { e with handed := e.handed.filter fun z => z != n })
    else (p, e)
  else
    let iv := s.spotTimes tn x v e n
    let c := (q.at (iv.1 / 256 + s.laneDelay n)).world (s.laneX n) (s.laneY n)
    let near := p.near || s.nearEdge c
    if held then ({ p with s := s.handOff 31 (.respot n e.key (some iv)), near := near }, e)
    else
      let lk := if s.rbit R.GND_CTRL 9 then [s.look c] else []
      let r := s.looked lk
      let p1 : Pass := { p with wait := p.wait + r.2, near := near }
      if lk.any (·.excl) then ({ p1 with s := r.1.count R.GND_SPOT_EXCL 1 }, gone)
      else ({ p1 with s := r.1.handOff 31 (.target ⟨false, .spot, e.tag, 3, e.cls, [n], iv.1, iv.2, false, 0, 0, 0, e.key⟩) },
        { e with handed := n :: e.handed })

/-- The evaluation of one pending fire event (R148, R161–R164). -/
def evalSpot (q : VState) (te : Int) (stale : Bool) (key : Nat) (p : Pass) : Pass :=
  let s0 := p.s.when stale fun t => t.count R.GND_CNT_STALE 1
  let tn := te + (p.k : Int) * 1000 + p.wait
  let done (s : State) : Pass := ⟨s, p.wait, p.k + 1, p.near⟩
  match s0.gnd.events.find? fun e => e.key == key with
  | none => done s0
  | some e =>
    if stale && s0.rbit R.GND_CTRL 4 then
      done ((forL (fun n t => t.handOff 31 (.respot n key none)) (e.handed.filter fun n => s0.spotAlive n key) s0).setSpot
        { e with
          lanes := e.lanes.map (fun l => l.filter fun n => !(e.handed.contains n && !s0.spotAlive n key)), handed := [] })
    else
      let b := (q.at tn).body e.e e.n
      let fixed : Option (List Nat) × State :=
        match e.lanes with
        | some l => (some l, s0)
        | none =>
          if q.v < s0.gndVmin then (none, s0)
          else
            let l := s0.spotLanes q b.1 b.2 e
            let room := 1024 - s0.spotPending
            let rest := l.length - room
            (some (l.take room), s0.when (decide (0 < rest)) fun t =>
              (t.count R.GND_EV_DROP rest).event R.GND_IRQ_STAT gEvDrop)
      match fixed with
      | (none, s1) => done s1
      | (some l, s1) =>
        let r := forL (spotLane q tn b.1) l (⟨s1, p.wait, p.k + 1, p.near⟩, { e with lanes := some l })
        { r.1 with s := r.1.s.setSpot r.2 }

/-- The staleness of a pass (R147). -/
def State.setStale (s : State) (b : Bool) : State :=
  (s.when (b && !s.rbit R.GND_STAT 2) fun t => t.event R.GND_IRQ_STAT gStale).setBit R.GND_STAT 2 b

/-- A pass (R151): every COVER lane in order, then every pending event. -/
def State.evalPass (s : State) (bad : List Nat) : State :=
  let te := (s.dt : Int)
  let s1 := s.setGnd { s.gnd with
    fused := s.rbit R.GND_CTRL 1, period := some s.now, again := false
    dead := if s.rbit R.GND_CTRL 1 && s.gnd.fused then s.gnd.dead else none }
  let q := s1.vs
  let stale := s1.isStale te
  let s2 := (s1.setStale stale).recentre q
  let cover := (List.range 160).filter fun n => s2.rfld (R.GND_LANE_CFG n) 0 2 == 1
  let p1 := forL (evalLane q te stale bad s.gnd.again) cover ⟨s2, 0, 0, false⟩
  let p2 := forL (evalSpot q te stale) (p1.s.gnd.events.map (·.key)) p1
  let s3 := (p2.s.when (p2.near && !p2.s.rbit R.GND_STAT 5) fun t => t.event R.GND_IRQ_STAT gEdge).setBit R.GND_STAT 5
    p2.near
  s3.setGnd { s3.gnd with passEnd := (s3.now : Int) + (p2.k : Int) * 1000 + p2.wait }

/-- A period starts now (R151). -/
def State.periodStart (s : State) : Bool :=
  match s.gnd.period with
  | none => true
  | some t => decide (t + (s.reg R.GND_PERIOD).toNat * 1000 ≤ s.now)

/-- The lanes a record names: explicit lanes by R132, or in lateral mode every lane with |y_lane − y| ≤ 5·WIDTH (R160). -/
def State.eventLanes (s : State) (e : GndEvent) : List Nat :=
  if recLateral e.data then
    let y := (s.reg R.GND_EV_LAT_ORIGIN).toInt + 100 * (recX e.data : Int)
    (List.range 160).filter fun n => decide ((s.laneY n - y).natAbs ≤ 5 * recWidth e.data)
  else (s.explicitLanes e.stream (recFirst e.data) (recCount e.data)).1

/-- The history's state at `t`: the last entry at or before it, extrapolated (R145, R146). -/
def State.histAt (s : State) (t : Int) : Option VState :=
  (s.gnd.hist.find? fun h => decide ((h.t : Int) ≤ t)).map fun h => h.at t

/-- An event is dropped (R148, R159, R163). -/
def State.evDrop (s : State) (a : Nat) : State := (s.count a 1).event R.GND_IRQ_STAT gEvDrop

/-- An event is taken from the queue (R148, R159, R160). While the state is stale only fire events are dropped; cancels and section
actions act (DESIGN CHOICE, log 187). A cancel leaves alone a lateral event whose lanes are not fixed yet (DESIGN CHOICE, log 188). A record in explicit mode names no lateral position: it is a
free value (log 5). -/
def State.takeEvent (s : State) (e : GndEvent) : State :=
  let r := e.data
  match recAction r with
  | 0 =>
    if s.rbit R.GND_STAT 2 && s.rbit R.GND_CTRL 4 then s.evDrop R.GND_EV_DROP
    else match s.histAt e.tref with
      | none => s.evDrop R.GND_EV_STALE
      | some h =>
        let dw := s.draw 21
        let y := if recLateral r then (s.reg R.GND_EV_LAT_ORIGIN).toInt + 100 * (recX r : Int) else dw.1.toInt
        let s1 := if recLateral r then s else dw.2
        let p := h.world (s.reg (R.GND_EV (recClass r))).toInt y
        s1.setGnd { s1.gnd with
          events := s1.gnd.events ++ [⟨s1.gnd.nextKey, p.1, p.2, recTag r, recClass r, recLateral r,
            if recLateral r then [] else s1.eventLanes e, recExtent r, recWidth r, none, []⟩],
          nextKey := s1.gnd.nextKey + 1 }
  | 1 =>
    let l := s.eventLanes e
    let cut (z : SpotEvent) : SpotEvent :=
      if z.tag = recTag r then
        { z with
          lanes := z.lanes.map (fun k => k.filter fun n => !l.contains n),
          named := z.named.filter fun n => !l.contains n, handed := z.handed.filter fun n => !l.contains n }
      else z
    (s.setGnd { s.gnd with events := (s.gnd.events.map cut).filter fun z => !SpotEvent.done z }).handOff 31
      (.target ⟨true, .spot, recTag r, 3, recClass r, l, 0, 0, false, 0, 0, 0, 0⟩)
  | a => forL (fun n t => t.setBit (R.GND_LANE_CFG n) 8 (a == 2)) (s.eventLanes e) s

/-- A speed of wheel encoder `e` as 0.1 mm/s, times 65,536 · 100 (R141). -/
def State.wheel (s : State) (e : Nat) : Int := (s.reg (R.ENC_SPEED e)).toInt * (s.reg R.GND_WHEEL_SCALE).toNat

/-- The dead-reckoned state: the one in force, and after GND_DR_MAX the one kept beside it (R144). -/
def State.reckoned (s : State) : VState := s.gnd.dead.getD s.vs

/-- Dead reckoning to the present DT (R141). A wheel track of 0 leaves ω a free value, and so does the first state where
none is in force (log 5). After GND_DR_MAX it goes on beside the state in force (R144). Where no solution
was ever used the time without one counts from that first state (DESIGN CHOICE, log 189). -/
def State.deadReckon (s : State) : State :=
  let l := s.wheel (s.rfld R.GND_WHEEL_CFG 0 3)
  let r := s.wheel (s.rfld R.GND_WHEEL_CFG 4 3)
  let two := s.rbit R.GND_WHEEL_CFG 8
  let v := if two then roundDiv (l + r) 13107200 else roundDiv l 6553600
  let track := (s.reg R.GND_TRACK).toNat
  let dw := s.draw 22
  let w := if two then (if track = 0 then dw.1.toInt else roundDiv ((l - r) * 100000000) (6553600 * track))
    else s.gnd.cogRate
  let s0 := if two && track == 0 then dw.2 else s
  if s0.gnd.have_ then
    let q := ({ s0.reckoned with v := v, w := w }).at s0.dt
    if s0.gnd.drOver then s0.setGnd { s0.gnd with dead := some q } else s0.setVs q
  else
    let a := s0.draw 23
    let b := a.2.draw 24
    let c := b.2.draw 25
    (c.2.setVs ⟨s.dt, a.1.toInt, b.1.toInt, c.1.toNat, v, w⟩).setGnd
      { (c.2.setVs ⟨s.dt, a.1.toInt, b.1.toInt, c.1.toNat, v, w⟩).gnd with lastFix := s.now }

/-- The rate of the course over ground between two solutions, µrad/s (R141). -/
def cogRate (a b : Fix) : Int :=
  roundDiv (wrap32 ((b.cog : Int) - a.cog) * 2 * piQ * 10 ^ 15) (2 ^ 128 * (b.t - a.t))

/-- The entry of a history nearest an instant. -/
def nearest (t : Nat) : List VState → Option VState
  | [] => none
  | h :: r =>
    match nearest t r with
    | none => some h
    | some g => if ((h.t : Int) - t).natAbs ≤ ((g.t : Int) - t).natAbs then some h else some g

/-- A solution lies before the oldest history entry (R143). -/
def State.fixLate (s : State) (x : Fix) : Bool :=
  match s.gnd.hist.getLast? with
  | some h => decide (x.t < h.t)
  | none => false

/-- A solution is taken (R141–R144). A late one is discarded, and one without a 3D fix is not used, for the rate of the course over
ground neither. The lever arm is laid along the dead-reckoned heading at t_f, and the speed held against GND_COG_VMIN is the
dead-reckoned one at t_f; where the history is empty, the dead-reckoned state extrapolated to t_f stands for it (DESIGN CHOICE,
log 151). -/
def State.takeFix (s : State) (x : Fix) : State :=
  let vmin : Int := ((s.reg R.GND_COG_VMIN).toNat : Int)
  if s.fixLate x then s.count R.GND_FIX_LATE 1
  else if !x.ok then s
  else
    let rate := match s.gnd.sol with
      | some o => if vmin ≤ o.v && vmin ≤ x.v then cogRate o x else 0
      | none => 0
    let s1 := s.setGnd { s.gnd with sol := some x, cogRate := rate }
    if !(s1.gnd.fused && s1.gnd.have_) then s1
    else
      let q := s1.reckoned
      let h := (nearest x.t s1.gnd.hist).getD (q.at x.t)
      let o := ({ h with e := 0, n := 0 } : VState).world (s1.reg R.GND_ANT_X).toInt (s1.reg R.GND_ANT_Y).toInt
      let kp : Int := (s1.rfld R.GND_FUSE_GAIN 16 16 : Int)
      let kh : Int := (s1.rfld R.GND_FUSE_GAIN 0 16 : Int)
      let psi : Int := if vmin ≤ h.v then (q.psi + roundDiv (kh * wrap32 ((x.cog : Int) - h.psi)) 65536) % 2 ^ 32 else q.psi
      let s2 := s1.setVs { q with
        e := q.e + roundDiv (kp * (x.e - o.1 - h.e)) 65536, n := q.n + roundDiv (kp * (x.n - o.2 - h.n)) 65536,
        psi := psi.toNat }
      ((s2.setBit R.GND_STAT 1 true).setBit R.GND_STAT 3 false).setGnd
        { s2.gnd with lastFix := s2.now, drOver := false, dead := none }

/-- The counters of the GROUND block (Table 5, 0x200–0x22C). -/
def gndCounters : List Nat :=
  [R.GND_CNT_STALE, R.GND_VS_ORDER, R.GND_VS_FUTURE, R.GND_FIX_LATE, R.GND_DISAGREE, R.GND_EV_DROP, R.GND_EV_STALE,
    R.GND_SPOT_EXCL, R.GND_CACHE_MISS, R.GND_WB_LOST, R.GND_DUTY_CLIP, R.GND_OVERRUN]

/-- The slots with unwritten marks whose block leaves the window, and their eviction to the store (R172). -/
def State.leaving (s : State) : List Nat :=
  (s.gnd.marks.map Prod.fst).filter fun n => decide (blockOf (s.reg R.GND_RST_WIN) n ≠ blockOf s.gnd.next n)
def State.evict (s : State) : State := forL (fun n t => t.writeBack n) s.leaving s

/-- A page move begins (R172): every block that leaves the window is written back, and its slot becomes absent. -/
def State.pageMove (s : State) : State :=
  if s.paging then s
  else
    let s1 := (s.setGnd { s.gnd with next := s.reg R.GND_RST_WIN_NEXT, ready := false }).evict
    s1.setBit R.GND_STAT 4 true

/-- The new window is taken (R172). -/
def State.pageCommit (s : State) : State :=
  if s.paging then
    ((s.setReg R.GND_RST_WIN s.gnd.next).setBit R.GND_STAT 4 false).setGnd { s.gnd with ready := false }
  else s

/-- A write of GND_CMD. Bits of one write act in the order CNT_CLEAR, FLUSH, PAGE, COMMIT (log 16). -/
def gndCmd (w : Word) (s : State) : State :=
  let s1 := s.when (w.getLsbD 2) fun t => t.clearRegs gndCounters
  let s2 := s1.when (w.getLsbD 3) State.writeBackAll
  let s3 := s2.when (w.getLsbD 0) State.pageMove
  s3.when (w.getLsbD 1) State.pageCommit

/-- A write of GND_VS_YAW through port `p` commits the record (R139, R140), the lower words with it that were rewritten and whose
highest word was not. -/
def vsCommit (p : Port) (_ : Word) (s0 : State) : State :=
  let s := forL (fun lo t => t.commitHeld p lo 1) [R.GND_VS_DT_LO, R.GND_VS_E_LO, R.GND_VS_N_LO] s0
  let q : VState := ⟨s.reg64 R.GND_VS_DT_LO, s.reg48 R.GND_VS_E_LO, s.reg48 R.GND_VS_N_LO, (s.reg R.GND_VS_HEAD).toNat,
    (s.reg R.GND_VS_SPEED).toInt, (s.reg R.GND_VS_YAW).toInt⟩
  if s.gnd.have_ && decide (q.t ≤ s.vs.t) then (s.count R.GND_VS_ORDER 1).event R.GND_IRQ_STAT gVsRefused
  else if s.dt + 1000000 < q.t then (s.count R.GND_VS_FUTURE 1).event R.GND_IRQ_STAT gVsRefused
  else if s.rbit R.GND_CTRL 1 then s
  else s.setVs q

/-- GND_VS_COMMIT (R139, R140): GND_VS_YAW is written. -/
def execGndVsCommit (el : Nat) (p : Port) (v : Word) (s : State) : Host.Outcome State Fault Refusal :=
  .next ((s.begin el).writeCmd p R.GND_VS_YAW v (vsCommit p))

/-- FUSED_DR_TICK (R141): every 1 ms while the fused source is in use. -/
def execFusedDrTick (el : Nat) (s : State) : Host.Outcome State Fault Refusal :=
  .next ((s.begin el).onIsland 31 fun t =>
    if t.gnd.fused && (!t.gnd.have_ || decide (t.reckoned.t + 1000000 ≤ t.dt)) then t.deadReckon else t)

/-- FUSED_FIX (R142, R143): the next solution the MSS has delivered. -/
def execFusedFix (el : Nat) (s : State) : Host.Outcome State Fault Refusal :=
  .next ((s.begin el).onIsland 31 fun t =>
    match t.gnd.fixes with
    | [] => t
    | x :: r => (t.setGnd { t.gnd with fixes := r }).takeFix x)

/-- DR_ONLY_TIMEOUT (R144): no solution used for 1 s. -/
def execDrOnlyTimeout (el : Nat) (s : State) : Host.Outcome State Fault Refusal :=
  .next ((s.begin el).onIsland 31 fun t =>
    if t.gnd.fused && decide (t.gnd.lastFix + 1000000000 ≤ t.now) then
      (t.setBit R.GND_STAT 3 true).setBit R.GND_STAT 1 false
    else t)

/-- DR_MAX_EXPIRY (R144): no solution used for GND_DR_MAX ms; dead reckoning stops being the state in force. -/
def execDrMaxExpiry (el : Nat) (s : State) : Host.Outcome State Fault Refusal :=
  .next ((s.begin el).onIsland 31 fun t =>
    if t.gnd.fused && decide (t.gnd.lastFix + (t.reg R.GND_DR_MAX).toNat * 1000000 ≤ t.now) then
      (t.setBit R.GND_STAT 0 false).setGnd { t.gnd with drOver := true }
    else t)

/-- HISTORY_TICK (R145): at a DT multiple of 1 ms the state in force, extrapolated to it, enters the history; after GND_DR_MAX the
dead-reckoned state, which fused corrections read (DESIGN CHOICE, log 151). -/
def execHistoryTick (el : Nat) (s : State) : Host.Outcome State Fault Refusal :=
  .next ((s.begin el).onIsland 31 fun t =>
    if t.gnd.have_ ∧ t.dt % 1000000 = 0 then
      t.setGnd { t.gnd with hist := (t.reckoned.at t.dt :: t.gnd.hist).take 1024 }
    else t)

/-- EVAL_PASS (R151): a period starts and no pass runs. -/
def execEvalPass (el : Nat) (bad : List (Fin 160)) (s : State) : Host.Outcome State Fault Refusal :=
  .next ((s.begin el).onIsland 31 fun t =>
    if t.rbit R.GND_CTRL 0 && t.periodStart && decide (t.gnd.passEnd ≤ (t.now : Int)) then
      t.evalPass (bad.map Fin.val)
    else t)

/-- EVAL_PERIOD_SKIPPED (R152): a period starts while a pass runs. -/
def execEvalPeriodSkipped (el : Nat) (s : State) : Host.Outcome State Fault Refusal :=
  .next ((s.begin el).onIsland 31 fun t =>
    if t.rbit R.GND_CTRL 0 && t.periodStart && decide ((t.now : Int) < t.gnd.passEnd) then
      ((t.count R.GND_OVERRUN 1).event R.GND_IRQ_STAT gOverrun).setGnd { t.gnd with period := some t.now }
    else t)

/-- SPOT_EVENT_TAKE (R159): the oldest event of the queue, one per 1 µs. -/
def execSpotEventTake (el : Nat) (s : State) : Host.Outcome State Fault Refusal :=
  .next ((s.begin el).onIsland 31 fun t =>
    match t.gnd.queue with
    | [] => t
    | e :: r =>
      if (t.gnd.takenAt.map fun a => decide (a + 1000 ≤ t.now)).getD true then
        (t.setGnd { t.gnd with queue := r, takenAt := some t.now }).takeEvent e
      else t)

/-- BLOCK_WRITEBACK (R171): the marked block in slot `n` is written back to the store. -/
def execBlockWriteback (el : Nat) (n : Fin 65536) (s : State) : Host.Outcome State Fault Refusal :=
  .next ((s.begin el).onIsland 31 fun t => t.writeBack n)

/-- PAGE_READY (R172): the leaving blocks are evicted, as far as 16 R638 allows. -/
def execPageReady (el : Nat) (s : State) : Host.Outcome State Fault Refusal :=
  .next ((s.begin el).onIsland 31 fun t =>
    let t := if t.paging then t.evict else t
    if t.paging && !t.gnd.ready && t.leaving.isEmpty then (t.event R.GND_IRQ_STAT gPageReady).setGnd { t.gnd with ready := true } else t)

/-- GND_FLUSH (R171): GND_CMD.FLUSH is written. -/
def execGndFlush (el : Nat) (p : Port) (s : State) : Host.Outcome State Fault Refusal :=
  .next ((s.begin el).writeCmd p R.GND_CMD 8 gndCmd)

/-- GND_PAGE (R172): GND_CMD.PAGE is written. -/
def execGndPage (el : Nat) (p : Port) (s : State) : Host.Outcome State Fault Refusal :=
  .next ((s.begin el).writeCmd p R.GND_CMD 1 gndCmd)

/-- GND_COMMIT (R172): GND_CMD.COMMIT is written. -/
def execGndCommit (el : Nat) (p : Port) (s : State) : Host.Outcome State Fault Refusal :=
  .next ((s.begin el).writeCmd p R.GND_CMD 2 gndCmd)

/-- GND_CNT_CLEAR (R21): GND_CMD.CNT_CLEAR is written. -/
def execGndCntClear (el : Nat) (p : Port) (s : State) : Host.Outcome State Fault Refusal :=
  .next ((s.begin el).writeCmd p R.GND_CMD 4 gndCmd)

/-- RASTER_HOST_WRITE (R167): a host writes a word of the raster region, at its word offset. -/
def execRasterHostWrite (el : Nat) (p : Port) (i : Fin 16777216) (v : Word) (s : State) :
    Host.Outcome State Fault Refusal :=
  .next ((s.begin el).writeCmd p (rasterBase + 4 * i) v fun _ t => t)

end Sys2Proof.Machine
end

