-- ==== Sys2Proof/Machine/Reset.lean ====
section
/-!
DEFINITION. Device reset and secure boot (17_clocks_power_reset.md, R670–R678; 15_security_and_update.md, R594, R596–R598, R602,
R616, R617, R620, R623, R624; 16 R640).
-/
namespace Sys2Proof.Machine

/-- The registers that a device reset keeps (R677): those of the store, the records, OTP, the backup domain, and of the device
itself. -/
def keptReg (a : Nat) : Bool :=
  decide (a ∈ [R.PWR_BK_CFG, R.RST_CAUSE, R.SEC_TAMPER_EVT, R.SEC_TAMPER_CFG, R.SEC_TAMPER_CNT, R.SEC_UPD_STAT, R.SEC_IMG_RB,
    R.SEC_FW_RB, R.SEC_KEY_STAT, R.SEC_KEY_USE, R.SEC_SERIAL_LO, R.SEC_SERIAL_HI, R.REC_STAT, R.REC_SEQ_LO, R.REC_SEQ_HI,
    R.STORE_SCRUB_POS, R.PWR_HOURS, R.PWR_CYCLES]) ||
  (decide (R.SEC_CERT 0 ≤ a) && decide (a < R.SEC_CERT 512))

/-- A device reset (R677, R678): every island and the MSS restart, and the device is held in reset. The persistent store, OTP and
the backup domain keep what they hold. -/
def State.deviceReset (s : State) : State :=
  { State.reset with
    regs := s.regs.filter fun e => keptReg e.1
    dt := s.dt
    now := s.now
    nowRem := s.nowRem
    store := s.store
    pending := s.pending
    out := s.out
    free := s.free
    gnss := { State.reset.gnss with kept := s.gnss.kept, keptAt := s.gnss.keptAt }
    ldr := { State.reset.ldr with marked := s.ldr.marked }
    rcd := { State.reset.rcd with lastAt := s.rcd.lastAt, weights := s.rcd.weights }
    mgt := { State.reset.mgt with
      poison := s.mgt.poison, marker := s.mgt.marker, hourAt := s.mgt.hourAt, storeAt := s.mgt.storeAt,
      storeLate := s.mgt.storeLate }
    sec := { SecSt.init with
      keys := s.sec.keys, owners := s.sec.owners, revoked := s.sec.revoked, grnRevoked := s.sec.grnRevoked,
      debugOff := s.sec.debugOff, recs := s.sec.recs, prevOk := s.sec.prevOk, idLost := s.sec.idLost,
      latched := s.sec.latched, idKey := s.sec.idKey, tpKey := s.sec.tpKey, grnHash := s.sec.grnHash, copies := s.sec.copies }
    clk := { ClkSt.init with inReset := true, rails := s.clk.rails, latch := s.clk.latch, rtcOk := s.clk.rtcOk } }

/-- A device reset from one of the sources of Table 8, which sets its bit in RST_CAUSE (R676). -/
def State.resetBy (s : State) (cause : Nat) : State := s.deviceReset.event R.RST_CAUSE cause

/-- DEVICE_RESET (R676, R677): a reset from source `cause`. -/
def execDeviceReset (el : Nat) (cause : Fin 5) (s : State) : Host.Outcome State Fault Refusal :=
  .next ((s.begin el).resetBy cause)

/-- RESET_PIN (R676): RESET_N has been low for `ns`; a pulse shorter than 1 µs is ignored. -/
def execResetPin (el : Nat) (ns : Nat) (s : State) : Host.Outcome State Fault Refusal :=
  let t := s.begin el
  .next (if 1000 ≤ ns then t.resetBy 2 else t)

/-- RESET_ASSERT (R670): a rail with a reset threshold has been below it for 1 µs. Its source shows when reset is released. -/
def execResetAssert (el : Nat) (s : State) : Host.Outcome State Fault Refusal :=
  .next ((s.begin el).deviceReset.updClk fun c => { c with rails := true })

/-- What a write of RST_KEY does, and what one of RST_CMD does (R676). -/
def rstKey (p : Port) (w : Word) (s : State) : State :=
  s.updClk fun c => { c with key := if w = 0xC3A5 then some (s.now, p) else none }
def rstCmd (p : Port) (w : Word) (s : State) : State :=
  match s.clk.key with
  | some (t, q) => if w.getLsbD 0 ∧ p = q ∧ s.now ≤ t + 1000000 then s.resetBy 3 else s
  | none => s

/-- RST_KEY_WRITE (R676). -/
def execRstKeyWrite (el : Nat) (p : Port) (v : Word) (s : State) : Host.Outcome State Fault Refusal :=
  .next ((s.begin el).writeCmd p R.RST_KEY v (rstKey p))

/-- RST_DEVICE (R676). -/
def execRstDevice (el : Nat) (p : Port) (s : State) : Host.Outcome State Fault Refusal :=
  .next ((s.begin el).writeCmd p R.RST_CMD 1 (rstCmd p))

/-- DEBUG_RESET (R676; 15 R614): a reset requested through an open debug level. -/
def execDebugReset (el : Nat) (s : State) : Host.Outcome State Fault Refusal :=
  let t := s.begin el
  .next (if t.rfld R.SEC_DBG_STAT 0 2 ≠ 0 then t.resetBy 4 else t)

/-! Secure boot (15 R596). -/

/-- The cause of a reset by the rails, and what a loss of VBK loses (R676; 15 R617). -/
def State.railCause (s : State) (vbkLost : Bool) : State :=
  if !s.clk.rails then s
  else if vbkLost then
    let s1 := ((s.clearRegs [R.SEC_KEY_STAT, R.SEC_KEY_USE, R.SEC_TAMPER_EVT, R.PWR_BK_CFG]).setReg R.RST_CAUSE 1)
    (s1.updSec fun q => { q with keys := [], latched := 0, bkLost := true }).putRec.updClk fun c => { c with
      latch := none, rtcOk := false }
  else s.event R.RST_CAUSE 1

/-- DT starts from the backup-domain time where it is valid: the DT latched last and `count` periods of the crystal since (R675, 11
R456). -/
def State.bootTime (s : State) (count : Nat) (ran : Bool) : State :=
  match s.clk.latch with
  | some t =>
    if s.rbit R.PWR_BK_CFG 0 && s.clk.rtcOk && ran then
      let x := count * 7812500
      ({ s with dt := t + x / 256, dtFrac := x % 256 }).setBit R.PWR_STAT 8 true
    else { s with dt := 0, dtFrac := 0 }
  | none => { s with dt := 0, dtFrac := 0 }

/-- The copy of the security records that a read uses (15 R589): of the valid ones the one with the higher sequence number. A copy with
an uncorrectable word is not valid. -/
def State.recCopy (s : State) : Option SecCopy :=
  let ok (i : Nat) : Bool := (s.poisonIn (copyBase i) 0x8000).isEmpty
  let (a, b) := s.sec.copies
  match ok 0, ok 1 with
  | true, true => some (if b.seq < a.seq then a else b)
  | true, false => some a
  | false, true => some b
  | false, false => none

/-- The security records are read (15 R589, R596): `hits` is what the reads meet. Without a valid copy nothing is recorded. -/
def State.bootRead (s0 : State) (hits : List EccHit) : State :=
  let s := s0.devRead hits (copyBase 0) 0x10000
  let d := (s.recCopy.map SecCopy.data).getD SecData.init
  let t := s.updSec fun q => { q with recs := d.recs, prevOk := d.prevOk, keys := d.keys, idLost := q.idLost || d.idLost }
  let u := ((t.setFld R.SEC_IMG_RB 16 16 d.imgRb).setFld R.SEC_FW_RB 16 16 d.fwRb).setFld R.SEC_UPD_STAT 0 16 d.slots
  let v := ((u.setReg R.SEC_TAMPER_CFG d.tamperCfg).setReg R.SEC_TAMPER_CNT d.tamperCnt).setReg R.SEC_KEY_STAT
    (bitsWord (fun k => (Tab.get (fun _ => none) d.keys k).isSome) 8)
  forN (fun k w => w.setFld R.SEC_KEY_USE (2 * k) 2 (((Tab.get (fun _ => none) d.keys k).map KeySlot.usage).getD 0)) 8 v

/-- The boot ROM burns `n` OTP bits in turn; `burns` says of each in turn whether it reads back. Answers how many do before the first
that does not, which ends the burns and sets OTP_FAIL (15 R590), and the verdicts of the burns to come. -/
def State.bootBurns (s : State) (burns : List Bool) (n : Nat) : Nat × List Bool × State :=
  let m := burned burns n
  (m, burns.drop (m + b2n (decide (m < n))), s.when (decide (m < n)) fun t => t.event R.SEC_IRQ_STAT siOtp)

/-- The owner key in force, the highest whose key record matches its hash, and the revocations below it (15 R591, R594). -/
def State.bootOwner (s : State) (burns : List Bool) : List Bool × State :=
  let n := s.sec.owners.length
  match (List.range n).reverse.find? fun k => sha384 (s.ownerKey k) == s.sec.owners.getD k [] with
  | some k =>
    let todo := (List.range k).filter fun j => !s.sec.revoked.getLsbD j
    let b := s.bootBurns burns todo.length
    (b.2.1, ((b.2.2.setOwner k (s.sec.owners.getD k [])).setBit R.SEC_STAT stPrev s.sec.prevOk).updSec fun q => { q with
      revoked := (todo.take b.1).foldl (fun w j => w ||| BitVec.twoPow 4 j) q.revoked })
  | none => (burns, s.setBit R.SEC_STAT stBad (decide (0 < n)))

/-- Burns of epoch steps that the records show as pending (15 R596, R602): O goes to E where it is below it. -/
def State.bootBurn (x : List Bool × State) (a : Nat) : List Bool × State :=
  let o := x.2.rfld a 0 6
  let b := x.2.bootBurns x.1 (x.2.rfld a 26 6 - o)
  (b.2.1, b.2.2.setFld a 0 6 (o + b.1))

/-- Detections that the backup domain has latched are reported, and their responses carried out (15 R596, R616). -/
def State.bootTamper (s : State) : State :=
  let l := s.sec.latched
  (forN (fun k t => if l.getLsbD k then (t.tamperReport k).tamperResponse k else t) 5 s).updSec fun q => { q with latched := 0 }

/-- A trial interrupted by the reset is reverted (15 R623). -/
def State.bootRevert (s : State) (target : Nat) : State :=
  match s.slotIn target 3 with
  | none => s
  | some k =>
    let o := otherSlot k
    let s1 := (s.setSlot k 1).when (s.slot o == 5) fun t => t.setSlot o 4
    (s1.setBit R.SEC_UPD_STAT (revBit target) true).event R.SEC_IRQ_STAT siRevert

/-- A PENDING Trellis slot becomes TRIAL, and the old ACTIVE one FALLBACK (15 R620). -/
def State.bootPending (s : State) : State :=
  match s.slotIn 0 2 with
  | none => s
  | some k =>
    let o := otherSlot k
    (s.setSlot k 3).when (s.slot o == 4) fun t => t.setSlot o 5

/-- The boot ROM's steps (15 R596); `hits` is what its reads of the store meet, `burns` the verdicts on its burns in turn: epoch steps of
images and of firmware, then revocations. -/
def State.secureBoot (s0 : State) (hits : List EccHit) (burns : List Bool) : State :=
  let s := s0.bootRead hits
  let b := State.bootBurn (State.bootBurn (burns, s) R.SEC_IMG_RB) R.SEC_FW_RB
  let s1 := (b.2.bootOwner b.1).2.bootTamper
  let s2 := (s1.setBit R.SEC_STAT stIdLost s1.sec.idLost).setBit R.SEC_STAT stBkLost s1.sec.bkLost
  let s3 := ((s2.bootRevert 0).bootRevert 2).bootPending
  s3.bootFw 0 hits ((slotsOf 2).filter (fun k => s3.slot k == 4) ++ (slotsOf 2).filter (fun k => s3.slot k == 5))

/-- The power-down marker, and the count of boots (16 R640). -/
def State.bootMarker (s : State) : State :=
  let s1 := (s.setBit R.REC_STAT 30 (!s.mgt.marker)).setBit R.REC_STAT 29 false
  ((s1.when (!s.mgt.marker) fun t => t.event R.STORE_IRQ_STAT sqIncomplete).count R.PWR_CYCLES 1).updMgt fun g => { g with
    marker := false }

/-- RESET_RELEASE (R670, R675, R676; 15 R596): reset is released, and the boot ROM runs: `a` is what
its reads of the store meet, and `b` says which of its burns read back. `vbkLost` says that VBK was lost
meanwhile, `count` is the crystal's count since the last latch, and `ran` whether the RTC ran throughout. -/
def execResetRelease (el : Nat) (a : List EccHit) (b : List Bool) (vbkLost : Bool) (count : Nat) (ran : Bool) (s : State) :
    Host.Outcome State Fault Refusal :=
  let t := s.begin el
  .next (if t.clk.inReset then
    let u := (t.railCause vbkLost).updClk fun c => { c with inReset := false, rails := false }
    let v := u.updMgt fun g => { g with sramAt := t.now, hourAt := if t.clk.rails then t.now else g.hourAt }
    ((v.bootTime count ran).bootMarker).secureBoot a b
  else t)

end Sys2Proof.Machine
end

