-- ==== Sys2Proof/Machine/HostWrite.lean ====
section
/-!
DEFINITION. A host's write of any register: the command registers of every block, R166, and the row REGISTER_WRITE
(00_scope.md, R11–R21; 13 R519, R521).
-/
namespace Sys2Proof.Machine

/-- No report from outside. -/
def WriteEnv.none : WriteEnv := ⟨true, true, 0, Option.none, false, true, ⟨0, true⟩, SecIn.none⟩

/-- Nothing reported for a request. -/
def ReqEnv.none : ReqEnv := ⟨[], []⟩

/-- The counters of the ports (13 R546). -/
def portCounters : List Nat :=
  [R.PORT_ERR_CNT 0, R.PORT_ERR_CNT 1, R.PORT_ERR_CNT 2] ++
    ((List.range 2).map fun e => [R.ETH_RX_OK e, R.ETH_RX_FCS e, R.ETH_RX_OVERSIZE e, R.ETH_RX_FILTER e, R.ETH_SEC_UNPROT e,
      R.ETH_SEC_ICV e, R.ETH_SEC_REPLAY e, R.ETH_SEC_NOSA e, R.ETH_TX_OK e, R.ETH_PAUSE_TX e, R.ETH_PAUSE_RX e]).flatten ++
    [R.ETH1_REQ_DROP, R.ETH1_REQ_RESENT, R.ETH1_NOTIFY_TX, R.QSPI_WR_DROP, R.QSPI_CRC_ERR, R.QSPI_FORMAT_ERR, R.USB_CMD_CNT,
      R.USB_ERR_CNT]

/-- What a write of PORT_CMD does (13 R546): CNT_CLEAR reaches the counters in island 34 while it works. -/
def portCmd (w : Word) (s : State) : State :=
  s.when (w.getLsbD 0) fun t => t.clearRegs (portCounters.filter fun a => t.up (islandOf a))

/-- PORT_CNT_CLEAR (13 R546). -/
def execPortCntClear (el : Nat) (p : Port) (s : State) : Host.Outcome State Fault Refusal :=
  .next ((s.begin el).writeCmd p R.PORT_CMD 1 portCmd)

/-- The command registers of the system blocks: what a write of `w` does beyond storing, none for another register. -/
def sysCmd (p : Port) (base off idx : Nat) (w : Word) (e : WriteEnv) : Option (State → State) :=
  if base = 0x000000 then (if off = 0x60 then some (sysCntClear w) else none)
  else if base = 0x010000 then
    if off = 0x008 then some (clkCmd w)
    else if off = 0x040 then some (gateCmd w)
    else if off = 0x204 then some (rstKey p w)
    else if off = 0x208 then some (rstCmd p w)
    else none
  else if base = 0x020000 then
    if off = 0x00C then some (fmCmd e.faultLow e.safeLow w)
    else if off = 0x80C then some (cinchWritten e.t38 w)
    else if off = 0xC00 then some (safeCmd w)
    else if off = 0x102C then some (srcAcked idx w)
    else none
  else if base = 0x030000 then (if off = 0x00C then some (secCmd p e.sec w) else none)
  else if base = 0x040000 then (if off = 0x010 then some (recCmd w) else none)
  else if base = 0x050000 then
    if off = 0x000 then some (ldrCtrl w)
    else if off = 0x0A8 then some (refuseAck w)
    else none
  else if base = 0x800000 then (if off = 0x00C then some (portCmd w) else none)
  else if base = 0x900000 then (if off = 0x004 then some (mssCmd w) else none)
  else none

/-- The command registers of lanes, intake, Stitch and GROUND. -/
def laneCmd (p : Port) (base off inst idx : Nat) (w : Word) : Option (State → State) :=
  if base = 0x100000 then
    if off = 0x010 then some (tileCmd inst w)
    else if off = 0x644 then some (lrnCmd (8 * inst + idx) w)
    else none
  else if base = 0x300000 then
    if off = 0x01C then some (intakeClear w)
    else if off = 0x300 then
      if idx = 3 then some (tgtSubmit w)
      else some fun t => { t with intake := { t.intake with tgt := Tab.set (fun _ => 0) t.intake.tgt idx w } }
    else none
  else if base = 0x310000 then (if off = 0x010 then some (stitchCmd w) else none)
  else if base = 0x320000 then
    if off = 0x030 then some (gndCmd w)
    else if off = 0x060 then some (vsCommit p w)
    else none
  else none

/-- The command registers of axes, feedback, switches, CAN, GNSS and device time. -/
def fieldCmd (base off inst idx : Nat) (w : Word) (e : WriteEnv) : Option (State → State) :=
  if base = 0x400000 then
    if off = 0x010 then some (axCmd inst w)
    else if off = 0xC0C then some (motCmd (inst / 4) w)
    else none
  else if base = 0x410000 then
    if off = 0x000 then some (fbCmd w)
    else if off = 0x13C then some (encCmd idx w)
    else if off = 0x824 then some (prbCmd idx w)
    else none
  else if base = 0x500000 then (if off = 0x00C then some (swCmd w) else none)
  else if base = 0x501000 then (if off = 0x128 then some (swChCmd (4 * inst + idx) w) else none)
  else if base = 0x600000 then
    if off = 0x024 then some (canCmd inst e.onBus w)
    else if off = 0x140 then some (fifoPop inst w)
    else none
  else if base = 0x700000 then
    if off = 0x010 then some (gnssCmd e.iodOk e.navRef w)
    else if off = 0x050 then some State.aidHdrWritten
    else if off = 0x054 then some fun t => t.aidDataWritten w
    else none
  else if base = 0x710000 then (if off = 0x020 then some (dtCmd w) else none)
  else none

/-- What a write of `w` to a command register does beyond storing; none for a register that is no command register. -/
def hostCmd (p : Port) (base off inst idx : Nat) (w : Word) (e : WriteEnv) : Option (State → State) :=
  match sysCmd p base off idx w e, laneCmd p base off inst idx w with
  | some f, _ => some f
  | none, some f => some f
  | none, none => fieldCmd base off inst idx w e

/-- Address `a` is a lower word of a multi-word value that a host writes: the word is held (00 R18). -/
def isHeldWord (r : RegRow) (a : Nat) : Bool :=
  match spanAt? spans a with
  | some (lo, n) => r.stores a != 0 && a != lo + 4 * (n - 1)
  | none => false

/-- The cell size and the origin of the raster keep their values while GND_CTRL.EN is 1 (04 R166). -/
def State.rasterFixed (s : State) (a : Nat) : Bool := s.rbit R.GND_CTRL 0 && decide (0x320104 ≤ a ∧ a < 0x320118)

/-- The register's own rules for a word that has passed sealing. The registers of a reserved fault source take nothing (14, after
Table 3). -/
def hostAct (p : Port) (a : Nat) (e : WriteEnv) : WriteAct := fun w s =>
  match blockAt? regBlocks a, regHit? a with
  | some b, some h =>
    if s.rasterFixed a then (errAddress, s)
    else if b.base = 0x020000 ∧ h.row.count = 128 ∧ h.idx ∉ faultCodes then (0, s)
    else if b.base = 0x000000 ∧ h.row.off = 0x040 then restartWrite false w s
    else if b.base = 0x000000 ∧ h.row.off = 0x044 then restartWrite true w s
    else
      let t := s.storeAt p a w
      match hostCmd p b.base h.row.off h.inst h.idx w e with
      | some f => (0, f t)
      | none => (0, if isHeldWord h.row a then t else t.hostHook s a w e.onBus e.canBusy)
  | _, _ => (0, s)

/-- A host's write of one word, of a register or through the store window. Answers the port error code. -/
def State.writeWord (s : State) (p : Port) (a : Nat) (v : Word) (e : WriteEnv) : Nat × State :=
  if 0x10000000 ≤ a then windowWrite p a v s else s.hostWrite p a v (hostAct p a e)

/-- REGISTER_WRITE (R13, R15, R18, R41, R85, R100). -/
def execRegisterWrite (el : Nat) (p : Port) (a : Nat) (v : Word) (e : WriteEnv) (s : State) :
    Host.Outcome State Fault Refusal :=
  .next ((s.begin el).atPort p (.wrote p a errIslandDown) fun t =>
    let r := t.writeWord p a v e
    r.2.send (.wrote p a r.1))

end Sys2Proof.Machine
end

