-- ==== Sys2Proof/Machine/HostRead.lean ====
section
/-!
DEFINITION. A host's read of any register: what the registers show that are not stored, the captures of multi-word values and
of the blocks' own windows, the store window, and the row MULTIWORD_CAPTURE_READ (00_scope.md, R13, R17; 13 R519–R521).
-/
namespace Sys2Proof.Machine

/-- The seconds left of a time that ends at `e` (00 R7). -/
def State.secsTo (s : State) (e : Nat) : Nat := (roundDiv (e - s.now : Nat) 1000000000).toNat

/-- The seconds before a seal by timeout (02 R78), and those left in the running trial (15 R622, R623): a firmware trial before an
image trial. -/
def State.sealLeft (s : State) : Nat :=
  if s.ldr.bootEnded && !s.sealed && s.rfld R.LDR_SEAL_CFG 0 2 == 1 then
    s.secsTo (s.ldr.endAt + s.rfld R.LDR_SEAL_CFG 16 16 * 1000000000)
  else 0
def State.trialLeft (s : State) : Nat :=
  match s.sec.fwTrial, s.sec.imgTrial with
  | some b, _ => s.secsTo (b + s.rfld R.SEC_UPD_TRIAL 0 16 * 1000000000)
  | none, some b => s.secsTo (b + s.rfld R.SEC_UPD_TRIAL 0 16 * 1000000000)
  | none, none => 0

/-- The system blocks: registers that show what is held elsewhere. -/
def State.liveSys (s : State) (a base off idx : Nat) : Word :=
  let w := s.reg a
  if base = 0x000000 then
    if off = 0x10 then s.sysIrqStat
    else if off = 0x18 then s.sysIrqPend
    else if off = 0x20 then s.sysTileIrq
    else w
  else if base = 0x010000 then
    if off = 0x100 ∧ fld w 0 2 = 1 ∧ s.anyLine then Machine.setFld w 0 2 2 else w
  else if base = 0x020000 then
    if off = 0x000 then
      let r := s.pinsShown
      wordN (b2n r.2 * 2 + b2n r.1)
    else if off = 0x010 then bitsWord (fun i => (s.prim (32 * idx + i)).isSome) 32
    else if off = 0x020 then
      s.fm.lasting.foldl (fun v e => if e.2 && e.1 / 65536 / 32 == idx then v ||| bit (e.1 / 65536 % 32) else v) 0
    else if off = 0x054 then
      let src := s.rfld R.FM_BUCKET_SEL 0 7
      let inst := s.rfld R.FM_BUCKET_SEL 8 16
      Machine.setBit (wordN (s.bucket src inst)) 31 (s.lasting src inst)
    else if off = 0xC04 then Machine.setBit w 31 s.anyLine
    else w
  else if base = 0x030000 then (if off = 0x020 then wordN s.trialLeft else w)
  else if base = 0x040000 then (if off = 0x408 then wordN (s.tokens idx / tokUnit) else w)
  else if base = 0x050000 then
    if off = 0x010 then wordN (s.stageAddr.getD 0)
    else if off = 0x01C then wordN s.sealLeft
    else w
  else w

/-- A lane tile. -/
def State.liveTile (s : State) (a off t idx : Nat) : Word :=
  let w := s.reg a
  let n := 8 * t + idx
  if a = R.TILE_IRQ_STAT t then s.tileIrqStat t
  else if a = R.TILE_STAT t then Machine.setBit w 2 s.sys.inhibit
  else if off = 0x094 then
    if w.getLsbD 31 then Machine.setFld w 0 3 (burnStep (s.localDt t - ((s.tile t).burn).getD (s.localDt t))) else w
  else if off = 0x138 then
    wordN ((roundDiv (s.lane n).tb 65536 % 65536).toNat * 65536 + (roundDiv (s.lane n).tw 65536 % 65536).toNat)
  else if off = 0x144 then Machine.setFld w 30 2 (s.role n)
  else if off = 0x628 then wordI (s.lane n).baseO
  else if off = 0x62C then wordI (s.lane n).baseC
  else if off = 0x630 then s.tcWord n
  else if off = 0x63C then Machine.setFld (Machine.setFld w 21 3 (s.bandOf t)) 0 16 (satN 16 (s.lane n).appliedO)
  else if off = 0x670 then wordN (s.burnAge n)
  else if off = 0xA00 then
    let v (sd : Side) : Nat := (satI 16 (roundDiv (s.bandTerm (8 * t + idx / 8) sd (idx % 8)) 256) % 65536).toNat
    wordN (v .closing * 65536 + v .opening)
  else w

/-- The tile holds a committed pulse of a logical lane, by Stitch's record (STITCH_CAL_STAT.COMMITTED). -/
def State.hasCommitted (s : State) (n : Nat) : Bool :=
  s.stitch.committed.any fun k => k.lane == n && (match k.close with
    | some x => decide (s.dtI < x)
    | none => true)

/-- Intake, Stitch and GROUND. -/
def State.livePlan (s : State) (a base off idx : Nat) : Word :=
  let w := s.reg a
  if base = 0x300000 then (if off = 0x004 then Machine.setFld w 0 17 s.intake.fifo.length else w)
  else if base = 0x310000 then
    if off = 0x004 then wordN (s.poolAll * 65536 + s.fillAll)
    else if off = 0x1014 ∨ off = 0x1018 then
      wordN (((s.physOf idx).map fun p => s.latPhys p (if off = 0x1014 then .opening else .closing)).getD 0)
    else if off = 0x101C then
      let l := s.cal idx
      let fs := match s.physOf idx with
        | some p => (s.safeOn (chLane p)).isSome
        | none => false
      Machine.setBit (Machine.setBit (Machine.setBit (wordN ((l.filter (·.held)).length * 65536 + l.length)) 31 (s.sectShown idx)) 30
        (s.hasCommitted idx)) 29 fs
    else if off = 0x1020 ∨ off = 0x1024 then
      match s.cal idx with
      | [] => 0xFFFFFFFF
      | e :: _ => (s.calWords idx e).getD ((off - 0x1020) / 4) 0
    else w
  else if base = 0x320000 then
    if off = 0x0A4 then (if s.gnd.have_ then wordN (satN 32 (roundDiv (s.dt - s.vs.t : Nat) 1000).toNat) else 0xFFFFFFFF)
    else if off = 0x101C then Machine.setBit w 1 ((s.glane idx).delivers s.dt)
    else w
  else w

/-- Feedback, switches, GNSS and device time. -/
def State.liveField (s : State) (a base off inst idx : Nat) : Word :=
  let w := s.reg a
  if base = 0x410000 then (if a = R.FB_STAT then s.fbStat else w)
  else if base = 0x500000 then (if a = R.SW_IRQ_STAT then s.swIrqStat else w)
  else if base = 0x501000 then
    if a = R.SW_CL_STAT inst then s.swClStat inst
    else if off = 0x148 then wordN (s.swPauseLeft (4 * inst + idx))
    else w
  else if base = 0x700000 then (if off = 0x004 then s.gnssStat else w)
  else if base = 0x710000 then
    if off = 0x000 then wordN (s.dtFrac % 256)
    else if off = 0x004 then loW s.dt
    else if off = 0x008 then hiW64 s.dt
    else w
  else w

/-- The ports: frames that wait for a pause that has ended are sent (13 R526), and the buffer of QSPI (13 Table 10). -/
def State.livePort (s : State) (a off : Nat) : Word :=
  let w := s.reg a
  if off = 0x300 then
    Machine.setBit (wordN (satN 7 s.port.qBuf.length)) 31 (!s.port.qBuf.isEmpty)
  else if a = R.ETH_TX_OK 1 ∧ s.ethUp .eth1 ∧ s.ethFree .eth1 then wordN (satN 32 (w.toNat + (s.eth .eth1).waiting.length))
  else w

/-- What the register at `a` shows at this instant; a WO field reads 0 (R13). -/
def State.live (s : State) (a : Nat) : Word :=
  match blockAt? regBlocks a, regHit? a with
  | some b, some h =>
    let off := h.row.off
    let v :=
      if b.base < 0x100000 then s.liveSys a b.base off h.idx
      else if b.base = 0x100000 then s.liveTile a off h.inst h.idx
      else if b.base < 0x400000 then s.livePlan a b.base off h.idx
      else if b.base = 0x800000 then s.livePort a off
      else s.liveField a b.base off h.inst h.idx
    v &&& ~~~ h.row.wo
  | _, _ => 0

/-- What the debug port reads of the register at `a` (15 R614): an open level gives read access to every register. The table has
no row for such a read. -/
def State.debugRead (s : State) (a : Nat) : Option Word :=
  if s.rfld R.SEC_DBG_STAT 0 2 = 0 then none else some (s.live a)

/-- A read of the highest words' own capture, or of the present value where the port holds none (R17). -/
def State.captured (s : State) (p : Port) (a : Nat) : Word := (s.cap p a).getD (s.live a)

/-- Words are captured for a port at consecutive addresses (R17). -/
def State.setCaps (s : State) (p : Port) (a : Nat) : List Word → State
  | [] => s
  | w :: r => (s.setCap p a (some w)).setCaps p (a + 4) r

/-- The lowest word of a multi-word value is read: every word is captured for the port (R17). -/
def spanRead (p : Port) (lo n : Nat) : ReadAct := fun s =>
  (s.live lo, s.setCaps p lo ((List.range n).map fun i => s.live (lo + 4 * i)))

/-- A read of any register that no window of its own covers. -/
def plainRead (p : Port) (a : Nat) : ReadAct := fun s =>
  match spanAt? spans a with
  | some (lo, n) => if a = lo then spanRead p lo n s else (s.captured p a, s)
  | none => (s.live a, s)

/-- A read of a word of the store (16 R630, R636): `hits` is what it meets; an uncorrectable word reads 0 and is reported. -/
def storeRead (hits : List EccHit) (a : Nat) (v : Word) : ReadAct := fun s =>
  let t := s.devRead hits a 4
  (if t.poisoned (wordOf a) then 0 else v, t)

/-- A read of REC_WIN0–REC_WIN63 (16 R651–R653). -/
def winRead (hits : List EccHit) (i : Nat) : ReadAct := fun s =>
  let r := if i = 0 then win0Read s else if i = 63 then win63Read s else (s.recWord i, s)
  storeRead hits (recSlot s.recCursor + 4 * i) r.1 r.2

/-- A read of a capture word of a fault source (14 R560): as captured for its source, and the present words of a source that is
not captured. A reserved source reads 0. -/
def State.fmWord (s : State) (src k : Nat) : Word :=
  if src ∈ faultCodes then
    match s.fm.capWin with
    | some (q, l) => if q = src then l.getD k 0 else (s.srcWords src).getD k 0
    | none => (s.srcWords src).getD k 0
  else 0

/-- A read of the other words of the calendar capture (05 R184): as captured, and 0 before the first capture. -/
def State.calWord (s : State) (k : Nat) : Word := (s.stitch.capWin.getD []).getD k 0

/-- A read of the register at `a`, with what reading it does; `hits` is what a read of the store meets. -/
def readAct (p : Port) (a : Nat) (hits : List EccHit) : ReadAct := fun s =>
  match blockAt? regBlocks a, regHit? a with
  | some b, some h =>
    let off := h.row.off
    if b.base = 0x000000 ∧ off = 0x050 then (s.live a, { s with sys := { s.sys with timeoutNew := false } })
    else if b.base = 0x000000 ∧ off = 0x054 then (s.live a, { s with sys := { s.sys with parityNew := false } })
    else if b.base = 0x020000 ∧ off = 0x1004 then s.readSrcStat h.idx
    else if b.base = 0x020000 ∧ 0x1004 < off ∧ off < 0x1028 then (s.fmWord h.idx ((off - 0x1004) / 4), s)
    else if b.base = 0x020000 ∧ 0x1000 ≤ off ∧ h.idx ∉ faultCodes then (0, s)
    else if b.base = 0x040000 ∧ off = 0x100 then winRead hits h.idx s
    else if b.base = 0x310000 ∧ off = 0x064 then calCapture s
    else if b.base = 0x310000 ∧ 0x064 < off ∧ off < 0x078 then (s.calWord ((off - 0x064) / 4), s)
    else if b.base = 0x320000 ∧ off = 0x0A4 then
      (s.live a, s.noteSat a (s.gnd.have_ && decide (2 ^ 32 ≤ (roundDiv (s.dt - s.vs.t : Nat) 1000).toNat)))
    else if b.base = 0x410000 ∧ off = 0x810 then prbRead h.idx s
    else if b.base = 0x410000 ∧ 0x810 < off ∧ off < 0x824 then (s.prbWord h.idx ((off - 0x810) / 4), s)
    else if b.base = 0x600000 ∧ off = 0x1000 then objRead h.inst h.idx s
    else if b.base = 0x600000 ∧ 0x1000 < off ∧ off < 0x1050 then (s.objWordRead h.inst h.idx ((off - 0x1000) / 4), s)
    else plainRead p a s
  | _, _ => if 0x10000000 ≤ a then storeRead hits a (s.curWord a) s else (0, s)

/-- A host's read of one word. Answers the port error code and the value. -/
def State.readWord (s : State) (p : Port) (a : Nat) (hits : List EccHit) : Nat × Word × State :=
  s.hostRead p a (readAct p a hits)

/-- MULTIWORD_CAPTURE_READ (R17): a read of any word; `e` holds what a read of the store meets. -/
def execMultiwordCaptureRead (e : Seen (List EccHit)) (p : Port) (a : Nat) (s : State) : Host.Outcome State Fault Refusal :=
  .next ((s.begin e.el).readCmd p a (readAct p a e.val))

/-- REC_WIN0_READ (16 R652). -/
def execRecWin0Read (e : Seen (List EccHit)) (p : Port) (s : State) : Host.Outcome State Fault Refusal :=
  .next ((s.begin e.el).readCmd p (R.REC_WIN 0) (winRead e.val 0))

/-- REC_WIN63_READ (16 R652, R653). -/
def execRecWin63Read (e : Seen (List EccHit)) (p : Port) (s : State) : Host.Outcome State Fault Refusal :=
  .next ((s.begin e.el).readCmd p (R.REC_WIN 63) (winRead e.val 63))

end Sys2Proof.Machine
end

