-- ==== Sys2Proof/Machine/Ports.lean ====
section
/-!
DEFINITION. Register access over ETH1 and QSPI, notifications, PAUSE frames and links (13_host_ports.md, R525–R539).
-/
namespace Sys2Proof.Machine

/-! A run of accesses (R519, R529). -/

/-- Accesses in progress: what the outside reports of the writes to come and what reads of the store meet, the first failing status and
the index of its word, and the words read. -/
structure Run where
  s : State
  envs : List WriteEnv
  hits : List EccHit
  st : Nat
  at_ : Option Nat
  data : List Word

/-- A run begins; a status is noted: the first failure stands. -/
def Run.start (s : State) (envs : List WriteEnv) (hits : List EccHit) : Run := ⟨s, envs, hits, 0, none, []⟩
def Run.note (r : Run) (i code : Nat) : Run := if r.st = 0 ∧ code ≠ 0 then { r with st := code, at_ := some i } else r

/-- The word at index `i` of an access to address `a` that moves on or stays. -/
def accAddr (a : Word) (fixed : Bool) (i : Nat) : Nat := if fixed then a.toNat else (a.toNat + 4 * i) % 2 ^ 32

/-- Word `i` is read, and word `i` is written. -/
def Run.read (r : Run) (p : Port) (a i : Nat) : Run :=
  let q := r.s.readWord p a r.hits
  ({ r with s := q.2.2, data := r.data ++ [q.2.1] }).note i q.1
def Run.write (r : Run) (p : Port) (a i : Nat) (v : Word) : Run :=
  let q := r.s.writeWord p a v (r.envs.headD WriteEnv.none)
  ({ r with s := q.2, envs := r.envs.tail }).note i q.1

/-- A read-modify-write: the old value is returned, and nothing is written where the read fails. -/
def Run.rmw (r : Run) (p : Port) (a : Nat) (m v : Word) : Run :=
  let q := r.s.readWord p a r.hits
  let r1 := ({ r with s := q.2.2, data := r.data ++ [q.2.1] }).note 0 q.1
  if q.1 = 0 then r1.write p a 0 ((q.2.1 &&& ~~~ m) ||| (v &&& m)) else r1

/-- `n` words are read; a list of words is written. -/
def Run.readN (r : Run) (p : Port) (a : Word) (fixed : Bool) (n : Nat) : Run :=
  (List.range n).foldl (fun x i => x.read p (accAddr a fixed i) i) r
def Run.writeN (r : Run) (p : Port) (a : Word) (fixed : Bool) (l : List Word) : Run :=
  (l.zipIdx).foldl (fun x e => x.write p (accAddr a fixed e.2) e.2 e.1) r

/-! Register-access frames (R528–R533). -/

/-- An operation of a request (Table 4). -/
structure RegOp where
  op : Nat
  count : Nat
  addr : Word
  data : List Word

/-- The data words of an operation in its request, and in its response. -/
def reqWords (op count : Nat) : Nat := if op = 2 ∨ op = 5 then count else if op = 3 then 2 else 0
def respWords (op count : Nat) : Nat := if op = 1 ∨ op = 4 then count else if op = 3 then 1 else 0

/-- OP and COUNT lie within Table 4. -/
def opOk (op count : Nat) : Bool :=
  decide (1 ≤ op ∧ op ≤ 5) && (if op = 3 then count == 1 else decide (1 ≤ count ∧ count ≤ 256))

/-- `n` operations that fill a payload exactly. -/
def parseOps : Nat → List Byte → Option (List RegOp)
  | 0, b => if b.isEmpty then some [] else none
  | n + 1, b =>
    let op := leAt b 0 1
    let c := leAt b 2 2
    let k := 4 * reqWords op c
    if b.length < 8 + k ∨ !opOk op c then none
    else (parseOps n (b.drop (8 + k))).map fun l => ⟨op, c, wordN (leAt b 4 4), wordsOfBytes ((b.drop 8).take k)⟩ :: l

/-- The operations of a request, none where it is refused whole (R528). -/
def parseReq (b : List Byte) : Option (List RegOp) :=
  let n := leAt b 8 2
  if leAt b 2 1 ≠ 1 ∨ leAt b 3 1 % 2 = 1 ∨ n = 0 ∨ 64 < n ∨ 1472 < b.length then none
  else match parseOps n (b.drop 16) with
    | none => none
    | some l => if 1472 < 16 + (l.map fun o => 8 + 4 * respWords o.op o.count).sum then none else some l

/-- An operation is executed (R529). -/
def RegOp.run (o : RegOp) (r : Run) : Run :=
  match o.op with
  | 1 => r.readN .eth1 o.addr false o.count
  | 2 => r.writeN .eth1 o.addr false o.data
  | 3 => r.rmw .eth1 o.addr.toNat (o.data.getD 0 0) (o.data.getD 1 0)
  | 4 => r.readN .eth1 o.addr true o.count
  | _ => r.writeN .eth1 o.addr true o.data

/-- An operation in its response: its header with status and ERR_INDEX, and its words. -/
def RegOp.bytes (o : RegOp) (st : Nat) (at_ : Option Nat) (data : List Word) : List Byte :=
  leBytes 1 o.op ++ leBytes 1 st ++ leBytes 2 (at_.getD 0xFFFF) ++ bytesOfWord o.addr ++ (data.map bytesOfWord).flatten

/-- The operations of a request in stored order: their response bytes, and the first status that is not 0. After a failure, with
STOP_ON_ERR, the rest carry NOT_RUN. -/
def runOps (stop : Bool) (hits : List EccHit) : List RegOp → Nat → State → List WriteEnv → List Byte × Nat × State
  | [], st, s, _ => ([], st, s)
  | o :: l, st, s, envs =>
    if stop ∧ st ≠ 0 then
      let r := runOps stop hits l st s envs
      (o.bytes errNotRun none (List.replicate (respWords o.op o.count) 0) ++ r.1, r.2)
    else
      let x := o.run (Run.start s envs hits)
      let r := runOps stop hits l (if st = 0 then x.st else st) x.s x.envs
      (o.bytes x.st x.at_ x.data ++ r.1, r.2)

/-- The header of a response (Table 3). -/
def respHead (b : List Byte) (ops result dt : Nat) : List Byte :=
  leBytes 2 0x5A30 ++ leBytes 1 1 ++ leBytes 1 (leAt b 3 1 / 2 % 2 * 2 + 1) ++ leBytes 4 (leAt b 4 4) ++ leBytes 2 ops ++
    leBytes 1 result ++ leBytes 1 0 ++ leBytes 4 dt

/-- A request is answered: a frame to its source (R533). -/
def State.answer (s : State) (src : BitVec 48) (r : List Byte) : State :=
  (s.ethSend .eth1 (src.extractLsb' 0 32) (wordN (src.extractLsb' 32 16).toNat) 0x5A30 r).2

/-- A register-access request is executed, refused whole, or answered again (R528–R530). -/
def State.regRequest (s : State) (src : BitVec 48) (b : List Byte) (e : ReqEnv) : State :=
  let seq := leAt b 4 4
  match parseReq b with
  | none => s.answer src (respHead b 0 errFormat s.dt)
  | some l =>
    let again : Option (List Byte) := match s.port.lastReq with
      | some (q, r) => if q = seq then some r else none
      | none => none
    match again with
    | some r => (s.count R.ETH1_REQ_RESENT 1).answer src r
    | none =>
      let x := runOps ((leAt b 3 1).testBit 1) e.hits l 0 s e.writes
      let r := respHead b l.length x.2.1 s.dt ++ x.1
      ({ x.2.2 with port := { x.2.2.port with lastReq := some (seq, r) } }).answer src r

/-- A request while only the arbiter's island does not work: every word of it is refused with ISLAND_DOWN (01 R37, R41). -/
def State.regRefused (s : State) (src : BitVec 48) (b : List Byte) : State :=
  match parseReq b with
  | none => s.answer src (respHead b 0 errFormat s.dt)
  | some l => s.answer src (respHead b l.length errIslandDown s.dt ++
      (l.map fun o => o.bytes errIslandDown (some 0) (List.replicate (respWords o.op o.count) 0)).flatten)

/-- The oldest request that waits is executed (R529, R531). -/
def State.regNext (s : State) (e : ReqEnv) : State :=
  match s.port.reqs with
  | [] => s
  | q :: r =>
    let t : State := { s with port := { s.port with reqs := r } }
    if t.up 37 && t.ungated 37 then t.regRequest q.src q.body e else t.regRefused q.src q.body

/-- REG_ACCESS_REQUEST (R522, R528–R533): a frame received on ETH1 joins the requests that wait, or finds 8 of them and is dropped (R531).
Then the oldest `run` of those that wait are executed, with what the outside reports of each (log 203). -/
def execRegAccessRequest (el : Nat) (f : RxFrame) (run : Nat) (envs : List ReqEnv) (s : State) :
    Host.Outcome State Fault Refusal :=
  let r := (s.begin el).macRx .eth1 f
  let t := match r.1 with
    | some b =>
      if subtypeOf b ≠ 0x5A30 then r.2
      else if 8 ≤ r.2.port.reqs.length then (r.2.count R.ETH1_REQ_DROP 1).event R.PORT_IRQ_STAT 4
      else { r.2 with port := { r.2.port with reqs := r.2.port.reqs ++ [⟨f.src, b⟩] } }
    | none => r.2
  .next (if t.works 34 && t.ethClock .eth1 then forN (fun i u => u.regNext (envs.getD i ReqEnv.none)) (min run 8) t else t)

/-- The payload of a notification (Table 5). -/
def State.notification (s : State) (nseq : Nat) : List Byte :=
  leBytes 2 0x5A31 ++ leBytes 1 1 ++ leBytes 1 0 ++ leBytes 4 nseq ++ leBytes 8 s.dt ++ bytesOfWord s.sysIrqPend ++
    bytesOfWord s.sysTileIrq

/-- NOTIFY_TX (R534). -/
def execNotifyTx (el : Nat) (s : State) : Host.Outcome State Fault Refusal :=
  let t := (s.begin el).ethFlush .eth1
  let h := t.eth .eth1
  let free := match h.notifyAt with
    | some a => decide (a + t.rfld (R.ETH_NOTIFY 1) 0 16 * 1000 ≤ t.now)
    | none => true
  .next (if t.rbit (R.ETH_NOTIFY 1) 31 && t.sysIrqPend != h.notified && free && t.ethFree .eth1 then
    match t.ethSend .eth1 (t.reg (R.ETH_PEER_LO 1)) (t.reg (R.ETH_PEER_HI 1)) 0x5A31 (t.notification (h.nseq + 1)) with
    | (true, u) =>
      (u.setEth .eth1 { u.eth .eth1 with nseq := h.nseq + 1, notified := t.sysIrqPend, notifyAt := some t.now }).count
        R.ETH1_NOTIFY_TX 1
    | (false, _) => t
  else t)

/-- PAUSE_FRAME_RX (R522, R526). -/
def execPauseFrameRx (el : Nat) (e : EthPort) (f : RxFrame) (s : State) : Host.Outcome State Fault Refusal :=
  let t := s.begin el
  .next (if f.etherType = 0x8808 then (t.macRx e f).2 else t)

/-- ETH_LINK_CHANGE (R525; Table 11): the link of an enabled port comes up or goes down. The SAs are kept. ETH0 runs at 10 Gbit/s,
1000BASE-X at 1,000 Mbit/s, and SGMII at the speed reported. -/
def execEthLinkChange (el : Nat) (e : EthPort) (linkUp aneg : Bool) (speed : Fin 3) (s : State) :
    Host.Outcome State Fault Refusal :=
  .next ((s.begin el).onIsland 34 fun t =>
    let n := ethNum e
    if t.ethClock e && (t.rbit (R.ETH_CTRL n) 0 || !linkUp) then
      let a := linkUp && aneg && e == .eth1 && t.rbit (R.ETH_CTRL n) 1
      let sp := if e = .eth0 then 2 else if t.rfld (R.ETH_CTRL 1) 4 2 = 0 then 1 else min speed.val 1
      ((t.linkSet e linkUp).setBit (R.ETH_STAT n) 30 a).setFld (R.ETH_STAT n) 0 2 (if linkUp then sp else 0)
    else t)

/-! QSPI (R535–R539). -/

/-- A QSPI transaction of the row `code` begins with command byte `cmd` (R535, R537). The bytes of the other rows are theirs; an
unknown byte leaves the slave idle until QSPI_CS_N rises, and is counted. -/
def State.qRow (s : State) (code : Nat) (cmd : Byte) (act : State → State) : State :=
  s.onIsland 37 fun t =>
    if cmd.toNat = code then act t
    else if [0xEB, 0xEC, 0x32, 0x33, 0x35, 0x05].contains cmd.toNat then t
    else (t.count R.QSPI_FORMAT_ERR 1).event R.PORT_IRQ_STAT 5

/-- Each word carries a check byte (R539). -/
def State.qCrc (s : State) : Bool := s.rbit R.PORT_CFG 2

/-- The check byte of a word: over its address and its data (R539). -/
def qCheck (a : Nat) (d : List Byte) : Byte := crc8 (leBytes 4 a ++ d)

/-- A status byte, a word, and its check byte in the check mode (R536, R539). -/
def State.qWord (s : State) (a st : Nat) (v : Word) : List Byte :=
  leBytes 1 st ++ bytesOfWord v ++ if s.qCrc then [qCheck a (bytesOfWord v)] else []

/-- What the execution of a buffered write word adds to the report of its transaction: its status and the count of words (R538). Only
the last transaction is reported. -/
def State.qNote (s : State) (tx st done : Nat) : State :=
  s.when (tx == s.port.qTx) fun t => { t with port := { t.port with
    qStat := if t.port.qStat = 0 then st else t.port.qStat, qDone := t.port.qDone + done } }

/-- The oldest write word of the buffer executes, and `n` of them do (R537). -/
def State.qStep (s : State) : State :=
  match s.port.qBuf with
  | [] => s
  | w :: r =>
    let q := ({ s with port := { s.port with qBuf := r } }).writeWord .qspi w.addr w.data w.env
    q.2.qNote w.tx q.1 1
def State.qRun (s : State) (n : Nat) : State := forN (fun _ t => t.qStep) (min n s.port.qBuf.length) s

/-- Every buffered write word has executed: what a read, an RMW or a GET_STATUS waits for (R537). -/
def State.qDrain (s : State) : State := s.qRun 128

/-- `n` words are read, each with its own status byte. -/
def State.qRead (s : State) (hits : List EccHit) (a : Word) (fixed : Bool) (n : Nat) : State :=
  let r := (List.range n).foldl (fun (x : List Byte × State) i =>
    let b := accAddr a fixed i
    let q := x.2.readWord .qspi b hits
    (x.1 ++ s.qWord b q.1 q.2.1, q.2.2)) ([], s.qDrain)
  r.2.send (.qspi r.1)

/-- QREAD and QREAD_FIXED (R535–R537): `n` words are clocked out before QSPI_CS_N rises; `e` holds the command byte and what reads of
the store meet. -/
def execQread (e : Seen (Byte × List EccHit)) (a : Word) (n : Nat) (s : State) : Host.Outcome State Fault Refusal :=
  .next ((s.begin e.el).qRow 0xEB e.val.1 fun t => t.qRead e.val.2 a false n)
def execQreadFixed (e : Seen (Byte × List EccHit)) (a : Word) (n : Nat) (s : State) : Host.Outcome State Fault Refusal :=
  .next ((s.begin e.el).qRow 0xEC e.val.1 fun t => t.qRead e.val.2 a true n)

/-- A write word is discarded with a status (R537, R539), and counted where a counter is named. -/
def State.qDrop (s : State) (a st : Nat) (cnt : Option Nat) : State :=
  let t := match cnt with
    | some c => (s.count c 1).event R.PORT_IRQ_STAT 5
    | none => s
  (t.portFail .qspi a st).qNote t.port.qTx st 0

/-- Word `i` of the transaction, with the bytes clocked in for it, enters the buffer where it is not full (R537). A transaction has at
most 64 words (Table 6). -/
def State.qPut (s : State) (a : Word) (fixed : Bool) (env : WriteEnv) (i : Nat) (b : List Byte) : State :=
  let x := accAddr a fixed i
  let crc := s.qCrc
  if b.length < (if crc then 5 else 4) ∨ 64 ≤ i then s.qDrop x errFormat none
  else if 128 ≤ s.port.qBuf.length then s.qDrop x errFormat (some R.QSPI_WR_DROP)
  else if crc && b.getD 4 0 != qCheck x (b.take 4) then s.qDrop x errCrc (some R.QSPI_CRC_ERR)
  else { s with port := { s.port with qBuf := s.port.qBuf ++ [⟨x, wordN (leNat (b.take 4)), s.port.qTx, env⟩] } }

/-- Bytes in chunks of `k`; the last may be short. The first argument bounds the chunks. -/
def chunks (k : Nat) : Nat → List Byte → List (List Byte)
  | 0, _ => []
  | _, [] => []
  | n + 1, l => l.take k :: chunks k n (l.drop k)

/-- A write transaction (R537–R539): the bytes clocked in after the address. `pace` says how many buffered words execute before each
word is complete, and after the last; all of them where it says nothing (log 176). -/
def State.qWrite (s : State) (a : Word) (fixed : Bool) (b : List Byte) (pace : List Nat) (envs : List WriteEnv) : State :=
  let l := chunks (if s.qCrc then 5 else 4) b.length b
  let s1 : State := { s with port := { s.port with qTx := s.port.qTx + 1, qStat := 0, qDone := 0 } }
  ((l.zipIdx).foldl (fun t e => (t.qRun (pace.getD e.2 128)).qPut a fixed (envs.getD e.2 WriteEnv.none) e.2 e.1) s1).qRun
    (pace.getD l.length 128)

/-- QWRITE and QWRITE_FIXED (R535, R537, R539). -/
def execQwrite (e : Seen Byte) (a : Word) (b : List Byte) (pace : List Nat) (envs : List WriteEnv) (s : State) :
    Host.Outcome State Fault Refusal :=
  .next ((s.begin e.el).qRow 0x32 e.val fun t => t.qWrite a false b pace envs)
def execQwriteFixed (e : Seen Byte) (a : Word) (b : List Byte) (pace : List Nat) (envs : List WriteEnv) (s : State) :
    Host.Outcome State Fault Refusal :=
  .next ((s.begin e.el).qRow 0x33 e.val fun t => t.qWrite a true b pace envs)

/-- QRMW (R535, R537, R539): `check` is the check byte clocked in after VALUE. -/
def execQrmw (q : Seen (Byte × List EccHit)) (a m v : Word) (check : Byte) (e : WriteEnv) (s : State) :
    Host.Outcome State Fault Refusal :=
  .next ((s.begin q.el).qRow 0x35 q.val.1 fun t0 =>
    let t := t0.qDrain
    if t.qCrc && check != crc8 (bytesOfWord a ++ bytesOfWord m ++ bytesOfWord v) then
      let u := ((t.count R.QSPI_CRC_ERR 1).event R.PORT_IRQ_STAT 5).portFail .qspi a.toNat errCrc
      u.send (.qspi (t.qWord a.toNat errCrc 0))
    else
      let r := (Run.start t [e] q.val.2).rmw .qspi a.toNat m v
      r.s.send (.qspi (t.qWord a.toNat r.st (r.data.headD 0))))

/-- GET_STATUS (R537, R538): it waits until no write word is pending, so that BUSY is 0. -/
def execGetStatus (e : Seen Byte) (s : State) : Host.Outcome State Fault Refusal :=
  .next ((s.begin e.el).qRow 0x05 e.val fun t0 =>
    let t := t0.qDrain
    t.send (.qspi (bytesOfWord (wordN (t.port.qStat % 256 * 65536 + t.port.qDone % 65536)))))

end Sys2Proof.Machine
end

