-- ==== Sys2Proof/Machine/Sram.lean ====
section
/-!
DEFINITION. The on-die SRAM (16_management_and_recorder.md, R630–R632, R634): its scrub, the reads of its words by the blocks that own
them, and what an uncorrectable word discards.
-/
namespace Sys2Proof.Machine

/-- The sizes of the SRAM regions in 64-bit words (Table 3). -/
def sramSizes : List Nat := [131072, 20480, 40960, 32768, 131072, 131072, 131072, 5120, 32768, 130048]

/-- The region of an SRAM word index, and the word's index within it; and back. -/
def sramPlace : List Nat → Nat → Nat → Nat × Nat
  | [], r, w => (r, w)
  | n :: l, r, w => if w < n then (r, w) else sramPlace l (r + 1) (w - n)
def sramIndex (region word : Nat) : Nat := (sramSizes.take region).sum + word

/-- A word is known to be uncorrectable (R632), and becomes so or is written by its owner. -/
def State.sramBad (s : State) (i : Nat) : Bool := Tab.get (fun _ => false) s.mgt.sramBad i
def State.setSramBad (s : State) (i : Nat) (b : Bool) : State :=
  s.updMgt fun g => { g with sramBad := Tab.set (fun _ => false) g.sramBad i b }

/-- A read of the word `i` finds `err` (R630, R631); one that its owner has not written since it was found uncorrectable stays so
(R632). -/
def State.sramRead (s : State) (i : Nat) (err : Ecc) : Bool × State :=
  let pl := sramPlace sramSizes 0 i
  if s.sramBad i || err == .uncorrectable then
    (true, (((s.setSramBad i true).count R.SRAM_UE_CNT 1).event R.STORE_IRQ_STAT sqSramUe).fault srcSramUe pl.1 (wordN (8 * pl.2)))
  else if err = .corrected then (false, (s.count R.SRAM_CE_CNT 1).event R.STORE_IRQ_STAT sqSramCe)
  else (false, s)

/-- The requester discards the item that holds a poisoned word, and counts it (R631). Which counter of its block takes it the spec does not
say (DESIGN CHOICE, log 209). -/
def State.discard (s : State) (region : Nat) (item : SramItem) : State :=
  match region, item with
  | 0, .target i =>
    match s.intake.fifo[i]? with
    | some e => ((s.setFifo (s.intake.fifo.eraseIdx i)).fifoFell).count (R.INTAKE_S_FULLDROP e.stream) 1
    | none => s
  | 1, .entry n i => (s.upset [(n.val, i)]).sift n
  | 4, .marks n =>
    if (s.marksOf n).isSome then ((s.setMarks n none).count R.GND_WB_LOST 1).event R.GND_IRQ_STAT gWbLost else s
  | 7, .object c m =>
    let a := R.OBJ_CTRL c m
    if s.rbit a obDir && s.rbit a obTxReq then s.abortObj c m
    else if s.rbit a obNew then ((s.setBit a obNew false).count (R.CAN_RX_LOST c) 1).event (R.CAN_EVENT c) cvLost
    else s
  | 8, .interval k inst =>
    if (s.recVals k inst).isEmpty then s
    else ((s.updRec fun r => { r with vals := Tab.set (fun _ => []) r.vals (recKey k inst) [] }).count R.REC_STAGE_FULL 1).event
      R.REC_IRQ_STAT 3
  | 9, .request i =>
    if i < s.port.reqs.length then
      (({ s with port := { s.port with reqs := s.port.reqs.eraseIdx i } }).count R.ETH1_REQ_DROP 1).event R.PORT_IRQ_STAT 4
    else s
  | 9, .frame e i => s.setEth e { s.eth e with waiting := (s.eth e).waiting.eraseIdx i }
  | 9, .word i =>
    match s.port.qBuf[i]? with
    | some w => ({ s with port := { s.port with qBuf := s.port.qBuf.eraseIdx i } }).qDrop w.addr errFormat (some R.QSPI_WR_DROP)
    | none => s
  | _, _ => s

/-- The island of the block that reads an SRAM region (Table 3). -/
def sramIsland (region : Nat) : Nat := [29, 30, 30, 29, 31, 36, 33, 35, 37].getD region 34

/-- SRAM_SCRUB_READ (R630–R632, R634): the scrub reads the next SRAM word, which its owner may have written since; after the last word of
the last region the pass ends. `e` holds the cycles that the request has waited. A read of a word by its own block has no row of its own
and stands here (log 209): its item is discarded where the word is uncorrectable. -/
def execSramScrubRead (e : Seen Nat) (x : SramRead) (s : State) : Host.Outcome State Fault Refusal :=
  match x with
  | .scrub written err =>
    .next ((s.begin e.el).onIsland 37 fun t0 =>
      let pos := t0.mgt.sramPos
      let t := (t0.bgWait e.val).when written fun w => w.setSramBad pos false
      let u := (t.sramRead pos err).2
      if pos + 1 < sramSizes.sum then u.updMgt fun g => { g with sramPos := pos + 1 }
      else (u.updMgt fun g => { g with sramPos := 0, sramAt := u.now, sramLate := false }).count R.SRAM_SCRUB_PASSES 1)
  | .owner region word written err item =>
    .next ((s.begin e.el).onIsland (sramIsland region) fun t0 =>
      let i := sramIndex region word
      let t := t0.when written fun w => w.setSramBad i false
      if sramSizes.getD region 0 ≤ word then t
      else
        let r := t.sramRead i err
        if r.1 then r.2.discard region item else r.2)

end Sys2Proof.Machine
end

