-- ==== Sys2Proof/Machine/Usb.lean ====
section
/-!
DEFINITION. The USB service device: attach and detach, command blocks and the service commands (13_host_ports.md, R540–R544; 15
R598, R611, R612, R618; 16 R654).
-/
namespace Sys2Proof.Machine

/-- USB_ATTACH (R540): the pull-up connects. -/
def execUsbAttach (el : Nat) (s : State) : Host.Outcome State Fault Refusal :=
  .next ((s.begin el).onIsland 37 fun t =>
    if t.rbit R.USB_STAT 31 then t else (t.setBit R.USB_STAT 31 true).event R.PORT_IRQ_STAT 6)

/-- USB_DETACH (15 R611): detach, or a bus reset, which leaves the device attached; a command in progress is dropped. -/
def execUsbDetach (el : Nat) (busReset : Bool) (s : State) : Host.Outcome State Fault Refusal :=
  .next ((s.begin el).onIsland 37 fun t =>
    if t.rbit R.USB_STAT 31 then
      let u := (((t.setReg R.USB_STAT 0).setBit R.USB_STAT 31 busReset)).closeSession ssUsb
      { u.trimShow with port := { u.port with usbWait := none } }
    else t)

/-- The commands of Table 8, and the LEN each takes. -/
def usbKnown (cmd : Nat) : Bool := [0x01, 0x02, 0x03, 0x10, 0x11, 0x20, 0x30, 0x31, 0x32, 0x33].contains cmd
def usbLenOk (cmd len : Nat) : Bool :=
  if cmd = 0x01 then len == 64
  else if cmd = 0x02 ∨ cmd = 0x03 then decide (4 ≤ len ∧ len ≤ 4096 ∧ len % 4 = 0)
  else if cmd = 0x10 then decide (64 ≤ len ∧ len ≤ 65536 ∧ len % 64 = 0)
  else if cmd = 0x11 then len == 0
  else if cmd = 0x20 then decide (256 ≤ len ∧ len ≤ 65536 ∧ len % 256 = 0)
  else if cmd = 0x30 then len == 32
  else decide (1 ≤ len ∧ len ≤ 4096)

/-- What a command ends with: STATUS, bytes moved, RESULT and the IN data, and the state. -/
structure UsbEnd where
  st : Nat
  moved : Nat
  res : Nat
  data : List Byte
  s : State

/-- A command that ends without a data phase. -/
def UsbEnd.fail (s : State) (st : Nat) : UsbEnd := ⟨st, 0, 0, [], s⟩

/-- The status block is sent (R540, Table 10), unless the command waits for a verification. -/
def UsbEnd.finish (e : UsbEnd) (b : UsbBlk) : State :=
  if e.s.port.usbWait.isSome then e.s else e.s.usbStatus b e.st e.moved e.res e.data

/-- The MSS serves a command of Table 8 that is assigned to it (R543, 15 R598): always while it runs, and in recovery the staging of
firmware. -/
def State.usbServed (s : State) (b : UsbBlk) : Bool :=
  s.mssReady || (s.up 36 && s.rfld R.MSS_STAT 0 2 == 2 && (b.cmd == 0x10 || b.cmd == 0x11) && fld b.param 28 4 == 2)

/-- A command block of the row `code` is received (R540, R541, R543). A malformed block is the same in every row; a well-formed block
of another command belongs to that command's row. While a status block is due the endpoint answers NAK (R540). The reserved byte is not
among what R541 checks. A block ends a suspension of the bus. -/
def State.usbRow (s : State) (code : Nat) (b : UsbBlk) (act : State → UsbEnd) : State :=
  s.onIsland 37 fun t =>
    if !t.gateOn 11 || !t.rbit R.USB_STAT 31 || t.port.usbWait.isSome then t
    else
      let bad := b.magic != 0x5A50 || !usbKnown b.cmd.toNat || !usbLenOk b.cmd.toNat b.len.toNat
      if !bad && b.cmd.toNat != code then t
      else
        let u := (((t.setBit R.USB_STAT 30 true).setBit R.USB_STAT 29 false).trimShow.setFld R.USB_STAT 0 8 b.cmd.toNat).updSec fun q => { q with
          blkAt := t.now }
        if bad then (UsbEnd.fail u errFormat).finish b
        else if 0x10 ≤ code ∧ !u.usbServed b then (UsbEnd.fail u errMssBusy).finish b
        else (act u).finish b

/-- GET_INFO (Table 8). -/
def execGetInfo (el : Nat) (b : UsbBlk) (s : State) : Host.Outcome State Fault Refusal :=
  .next ((s.begin el).usbRow 0x01 b fun t =>
    let l := [R.SYS_ID, R.SYS_REV, R.LDR_STAT, R.LDR_VERSION] ++ (List.range 12).map R.LDR_DIGEST
    ⟨0, 64, 0, (l.map fun a => bytesOfWord (t.live a)).flatten, t⟩)

/-- REG_READ (R542, R529): `e` holds what reads of the store meet. -/
def execRegRead (e : Seen (List EccHit)) (b : UsbBlk) (s : State) : Host.Outcome State Fault Refusal :=
  .next ((s.begin e.el).usbRow 0x02 b fun t =>
    let r := (Run.start t [] e.val).readN .usb b.param false (b.len.toNat / 4)
    ⟨r.st, b.len.toNat, 0, (r.data.map bytesOfWord).flatten, r.s⟩)

/-- REG_WRITE (R518, R542, R529): `data` is what moves on EP2 OUT. -/
def execRegWrite (el : Nat) (b : UsbBlk) (data : List Byte) (envs : List WriteEnv) (s : State) :
    Host.Outcome State Fault Refusal :=
  .next ((s.begin el).usbRow 0x03 b fun t =>
    if t.mayWrite .usb then
      let r := (Run.start t envs []).writeN .usb b.param false (wordsOfBytes (fit b.len.toNat data))
      ⟨r.st, b.len.toNat, 0, [], r.s⟩
    else ⟨errNotOwner, b.len.toNat, 0, [], t.portFail .usb b.param.toNat errNotOwner⟩)

/-- The command needs an open service session, except for firmware in recovery (15 R598, R611). -/
def State.usbMay (s : State) (target : Nat) : Bool := s.sec.usbOpen || (s.rfld R.MSS_STAT 0 2 == 2 && target == 2)

/-- Bytes are staged at a window address: the first write into a slot's base region sets it EMPTY (15 R604). -/
def State.stageBytes (s : State) (a : Nat) (l : List Byte) : State := (s.touchSlot a).setStoreBytes a l

/-- The window address that STAGE_WRITE writes for a target, none where no slot may be written; and the bytes from there on. -/
def State.stageAt (s : State) (target : Nat) : Option (Nat × Nat) :=
  if target = 0 then (s.stageSlot 0).map fun k => (slotBase k, 0x600000)
  else if target = 1 then s.stageAddr.map fun a => (a, 0x10000)
  else if target = 2 then (s.stageSlot 2).map fun k => (slotBase k, 0x400000)
  else none

/-- STAGE_WRITE (R544; 15 R618). -/
def execStageWrite (el : Nat) (b : UsbBlk) (data : List Byte) (s : State) : Host.Outcome State Fault Refusal :=
  .next ((s.begin el).usbRow 0x10 b fun t =>
    let tg := fld b.param 28 4
    let off := fld b.param 0 28
    let n := b.len.toNat
    if !t.usbMay tg then UsbEnd.fail t errNotOwner
    else if 2 < tg ∨ off % 64 ≠ 0 then UsbEnd.fail t errFormat
    else if tg = 1 ∧ t.ldrState ≠ ldIdle then UsbEnd.fail t errBusy
    else match t.stageAt tg with
      | none => UsbEnd.fail t errAddress
      | some (a, size) =>
        if size < off + n then UsbEnd.fail t errFormat
        else ⟨0, n, 0, [], t.stageBytes (a + off) (fit n data)⟩)

/-- The status block of a command waits for the loader, or for a slot. -/
def State.usbHold (s : State) (b : UsbBlk) (loader : Bool) : State := { s with port := { s.port with usbWait := some (b, loader) } }

/-- STAGE_COMMIT (R544; 15 R618, R619): `c` is what the MSS's reads of the store meet. A partial image goes through the loader:
LDR_STAGE_LEN and VERIFY, and the status block when the loader leaves VERIFYING. The commit of a slot ends with the status block. -/
def execStageCommit (el : Nat) (b : UsbBlk) (c : List EccHit) (s : State) : Host.Outcome State Fault Refusal :=
  .next ((s.begin el).usbRow 0x11 b fun t =>
    let tg := fld b.param 28 4
    if !t.usbMay tg then UsbEnd.fail t errNotOwner
    else if tg = 1 then
      let n := fld b.param 0 28
      let u := ldrCtrl 1 ((t.setReg R.LDR_STAGE_LEN (wordN n)).devRead c t.stageBase (min n 0x10000))
      if u.ldrState = ldVerifying then ⟨0, 0, 0, [], u.usbHold b true⟩ else ⟨0, 0, u.rfld R.LDR_ERR 0 8, [], u⟩
    else if 2 < tg then UsbEnd.fail t errFormat
    else if t.updBusy then UsbEnd.fail t errBusy
    else match t.stageSlot tg with
      | none => UsbEnd.fail t errAddress
      | some k => ⟨0, 0, 0, [], (t.usbHold b false).commitStart tg k false c⟩)

/-- RECORDER_READ (R543; 16 R654): `e` holds what reads of the store meet. -/
def execRecorderRead (e : Seen (List EccHit)) (b : UsbBlk) (s : State) : Host.Outcome State Fault Refusal :=
  .next ((s.begin e.el).usbRow 0x20 b fun t =>
    let n := b.len.toNat / 256
    if !t.sec.usbOpen then UsbEnd.fail t errNotOwner
    else if 65536 < b.param.toNat + n then UsbEnd.fail t errFormat
    else
      let u := t.devRead e.val (recSlot b.param.toNat) (256 * n)
      ⟨0, b.len.toNat, 0, ((List.range n).map fun i => u.recordOut (b.param.toNat + i)).flatten, u⟩)

/-- USB_ATTEST (15 R612): the data is the nonce; `rnd` is what the random source yields for the signature. -/
def execUsbAttest (el : Nat) (b : UsbBlk) (nonce rnd : List Byte) (s : State) : Host.Outcome State Fault Refusal :=
  .next ((s.begin el).usbRow 0x30 b fun t =>
    if t.sec.idLost then ⟨0, 32, scIdLost, [], t⟩
    else ⟨0, 32, 0, [], t.updSec fun q => { q with report := t.attReport (fit 32 nonce) rnd }⟩)

/-- GET_REPORT (15 R612): the report made last, as much of it as LEN takes. -/
def execGetReport (el : Nat) (b : UsbBlk) (s : State) : Host.Outcome State Fault Refusal :=
  .next ((s.begin el).usbRow 0x31 b fun t =>
    let d := t.sec.report.take b.len.toNat
    ⟨0, d.length, 0, d, t⟩)

/-- SESSION_OUT (15 R605–R608, R611): a command block with its fields, and a session message to the device. -/
def execSessionOut (el : Nat) (magic : BitVec 16) (cmd rsv : Byte) (tag len param : Word) (x : Moved) (s : State) :
    Host.Outcome State Fault Refusal :=
  .next ((s.begin el).usbRow 0x32 ⟨magic, cmd, rsv, tag, len, param⟩ fun t =>
    ⟨0, len.toNat, 0, [], t.sessMsg ssUsb 0 (fit len.toNat x.data) x.rnd⟩)

/-- SESSION_IN (15, Sessions): the device's last message. -/
def execSessionIn (el : Nat) (b : UsbBlk) (s : State) : Host.Outcome State Fault Refusal :=
  .next ((s.begin el).usbRow 0x33 b fun t =>
    let d := t.sec.usbOut.take b.len.toNat
    ⟨0, d.length, 0, d, t⟩)

end Sys2Proof.Machine
end

