-- ==== Sys2Proof/Machine/Dispatch.lean ====
section
/-!
DEFINITION. The one table from commands to their meanings: an arm per constructor of Instr, each a direct call.
-/
namespace Sys2Proof.Machine

def exec (i : Instr) (s : State) : Host.Outcome State Fault Refusal :=
  match i with
  | .registerWrite el p a v e => Sys2Proof.Machine.execRegisterWrite el p a v e s
  | .multiwordCaptureRead e p a => Sys2Proof.Machine.execMultiwordCaptureRead e p a s
  | .linkTransfer el src dst first again acc => Sys2Proof.Machine.execLinkTransfer el src dst first again acc s
  | .handshakeTimeout el src dst acc => Sys2Proof.Machine.execHandshakeTimeout el src dst acc s
  | .clockMonitorWindow e isl edges => Sys2Proof.Machine.execClockMonitorWindow e isl edges s
  | .islandRestart el p hi v => Sys2Proof.Machine.execIslandRestart el p hi v s
  | .islandRestartBegin el isl => Sys2Proof.Machine.execIslandRestartBegin el isl s
  | .islandUp el isl => Sys2Proof.Machine.execIslandUp el isl s
  | .dtSyncToken el isl drift => Sys2Proof.Machine.execDtSyncToken el isl drift s
  | .sysCntClear el p => Sys2Proof.Machine.execSysCntClear el p s
  | .resetAssert el => Sys2Proof.Machine.execResetAssert el s
  | .resetRelease el a b vbkLost count ran => Sys2Proof.Machine.execResetRelease el a b vbkLost count ran s
  | .bootImageLoad el a b patches => Sys2Proof.Machine.execBootImageLoad el a b patches s
  | .sealTimeout el => Sys2Proof.Machine.execSealTimeout el s
  | .ldrSeal el p => Sys2Proof.Machine.execLdrSeal el p s
  | .ldrVerify el p => Sys2Proof.Machine.execLdrVerify el p s
  | .verifyComplete el c => Sys2Proof.Machine.execVerifyComplete el c s
  | .ldrArm el p => Sys2Proof.Machine.execLdrArm el p s
  | .shadowBanksLoaded el => Sys2Proof.Machine.execShadowBanksLoaded el s
  | .thFinal el x => Sys2Proof.Machine.execThFinal el x s
  | .handoverSwap el => Sys2Proof.Machine.execHandoverSwap el s
  | .patchLogMarked el => Sys2Proof.Machine.execPatchLogMarked el s
  | .boundaryTimeout el => Sys2Proof.Machine.execBoundaryTimeout el s
  | .ldrAbort el p => Sys2Proof.Machine.execLdrAbort el p s
  | .ldrAck el p => Sys2Proof.Machine.execLdrAck el p s
  | .ldrClearCnt el p => Sys2Proof.Machine.execLdrClearCnt el p s
  | .ldrRefuseAck el p => Sys2Proof.Machine.execLdrRefuseAck el p s
  | .huzerFrame el f => Sys2Proof.Machine.execHuzerFrame el f s
  | .pauseRefresh el => Sys2Proof.Machine.execPauseRefresh el s
  | .streamResync el p k => Sys2Proof.Machine.execStreamResync el p k s
  | .tgtSubmit el p v => Sys2Proof.Machine.execTgtSubmit el p v s
  | .targetDispatch el b => Sys2Proof.Machine.execTargetDispatch el b s
  | .intakeCntClear el p => Sys2Proof.Machine.execIntakeCntClear el p s
  | .beltSample el k ok => Sys2Proof.Machine.execBeltSample el k ok s
  | .stitchRetimeBelt el k x => Sys2Proof.Machine.execStitchRetimeBelt el k x s
  | .gndVsCommit el p v => Sys2Proof.Machine.execGndVsCommit el p v s
  | .fusedDrTick el => Sys2Proof.Machine.execFusedDrTick el s
  | .fusedFix el => Sys2Proof.Machine.execFusedFix el s
  | .drOnlyTimeout el => Sys2Proof.Machine.execDrOnlyTimeout el s
  | .drMaxExpiry el => Sys2Proof.Machine.execDrMaxExpiry el s
  | .historyTick el => Sys2Proof.Machine.execHistoryTick el s
  | .evalPass el bad => Sys2Proof.Machine.execEvalPass el bad s
  | .evalPeriodSkipped el => Sys2Proof.Machine.execEvalPeriodSkipped el s
  | .spotEventTake el => Sys2Proof.Machine.execSpotEventTake el s
  | .blockWriteback el n => Sys2Proof.Machine.execBlockWriteback el n s
  | .gndFlush el p => Sys2Proof.Machine.execGndFlush el p s
  | .gndPage el p => Sys2Proof.Machine.execGndPage el p s
  | .pageReady el => Sys2Proof.Machine.execPageReady el s
  | .gndCommit el p => Sys2Proof.Machine.execGndCommit el p s
  | .gndCntClear el p => Sys2Proof.Machine.execGndCntClear el p s
  | .rasterHostWrite el p iv v => Sys2Proof.Machine.execRasterHostWrite el p iv v s
  | .stitchPlace el x => Sys2Proof.Machine.execStitchPlace el x s
  | .latencyRecompute el n x => Sys2Proof.Machine.execLatencyRecompute el n x s
  | .stitchCommit el n hurt x => Sys2Proof.Machine.execStitchCommit el n hurt x s
  | .stitchCancel el x => Sys2Proof.Machine.execStitchCancel el x s
  | .sectionOn el x => Sys2Proof.Machine.execSectionOn el x s
  | .sectionOff el x => Sys2Proof.Machine.execSectionOff el x s
  | .dutyUpdate el x => Sys2Proof.Machine.execDutyUpdate el x s
  | .spotRetime el x => Sys2Proof.Machine.execSpotRetime el x s
  | .stitchFlush el p both => Sys2Proof.Machine.execStitchFlush el p both s
  | .stitchCntClear el p => Sys2Proof.Machine.execStitchCntClear el p s
  | .stitchCalCapture el p => Sys2Proof.Machine.execStitchCalCapture el p s
  | .ghTurnOn el t => Sys2Proof.Machine.execGhTurnOn el t s
  | .openInstant el n entries => Sys2Proof.Machine.execOpenInstant el n entries s
  | .peakReached el n iv => Sys2Proof.Machine.execPeakReached el n iv s
  | .peakEnd el n iv => Sys2Proof.Machine.execPeakEnd el n iv s
  | .boostTimeout el n iv => Sys2Proof.Machine.execBoostTimeout el n iv s
  | .holdReached el n iv => Sys2Proof.Machine.execHoldReached el n iv s
  | .chopCycle el n iv => Sys2Proof.Machine.execChopCycle el n iv s
  | .closeInstant el n iv => Sys2Proof.Machine.execCloseInstant el n iv s
  | .splitReached el n iv => Sys2Proof.Machine.execSplitReached el n iv s
  | .firingEnd el n iv => Sys2Proof.Machine.execFiringEnd el n iv s
  | .clampIntervalEnd el n e => Sys2Proof.Machine.execClampIntervalEnd el n e s
  | .clampPowerWindow el n p => Sys2Proof.Machine.execClampPowerWindow el n p s
  | .ghTurnOff el t => Sys2Proof.Machine.execGhTurnOff el t s
  | .groupTrip el t => Sys2Proof.Machine.execGroupTrip el t s
  | .grpClear el p t iv => Sys2Proof.Machine.execGrpClear el p t iv s
  | .groupOverload el t rms => Sys2Proof.Machine.execGroupOverload el t rms s
  | .ghStuck el t => Sys2Proof.Machine.execGhStuck el t s
  | .laneOpenCheck el n iv => Sys2Proof.Machine.execLaneOpenCheck el n iv s
  | .laneOpenHold el n low => Sys2Proof.Machine.execLaneOpenHold el n low s
  | .laneShort el n => Sys2Proof.Machine.execLaneShort el n s
  | .laneOc el n iv => Sys2Proof.Machine.execLaneOc el n iv s
  | .rmeasWindowClose el n k x => Sys2Proof.Machine.execRmeasWindowClose el n k x s
  | .thermalTick e t temp ig vpk cur => Sys2Proof.Machine.execThermalTick e t temp ig vpk cur s
  | .idleTestStart el t => Sys2Proof.Machine.execIdleTestStart el t s
  | .idleTestResult el t high => Sys2Proof.Machine.execIdleTestResult el t high s
  | .peakInhibit e => Sys2Proof.Machine.execPeakInhibit e s
  | .peakInhibitEnd el => Sys2Proof.Machine.execPeakInhibitEnd el s
  | .groundLoss el => Sys2Proof.Machine.execGroundLoss el s
  | .groundReturn el => Sys2Proof.Machine.execGroundReturn el s
  | .tileOt el t temp => Sys2Proof.Machine.execTileOt el t temp s
  | .tileOtClear el p t temp => Sys2Proof.Machine.execTileOtClear el p t temp s
  | .tileTempWarn el t temp => Sys2Proof.Machine.execTileTempWarn el t temp s
  | .tileCntClear el p t => Sys2Proof.Machine.execTileCntClear el p t s
  | .kneeSearchEnd el n k samples => Sys2Proof.Machine.execKneeSearchEnd el n k samples s
  | .stuckTimeReached el n => Sys2Proof.Machine.execStuckTimeReached el n s
  | .closingSearchEnd el n k x => Sys2Proof.Machine.execClosingSearchEnd el n k x s
  | .modelUpdate e n => Sys2Proof.Machine.execModelUpdate e n s
  | .acceptOpen el p n => Sys2Proof.Machine.execAcceptOpen el p n s
  | .acceptClose el p n => Sys2Proof.Machine.execAcceptClose el p n s
  | .lrnClear el p n => Sys2Proof.Machine.execLrnClear el p n s
  | .burnishNow el p n => Sys2Proof.Machine.execBurnishNow el p n s
  | .modelCopy el => Sys2Proof.Machine.execModelCopy el s
  | .burnishStart el t => Sys2Proof.Machine.execBurnishStart el t s
  | .burnishComplete el t io ig vo vg co => Sys2Proof.Machine.execBurnishComplete el t io ig vo vg co s
  | .burnishStale el n => Sys2Proof.Machine.execBurnishStale el n s
  | .profileUpdate el a ok d => Sys2Proof.Machine.execProfileUpdate el a ok d s
  | .holdCurrentSwitch el a => Sys2Proof.Machine.execHoldCurrentSwitch el a s
  | .stepPulse el a pos d => Sys2Proof.Machine.execStepPulse el a pos d s
  | .axisOc el a => Sys2Proof.Machine.execAxisOc el a s
  | .axisOpen el a b => Sys2Proof.Machine.execAxisOpen el a b s
  | .axisVmUv el a vm => Sys2Proof.Machine.execAxisVmUv el a vm s
  | .vmRecover el a vm => Sys2Proof.Machine.execVmRecover el a vm s
  | .motionOt el t temp => Sys2Proof.Machine.execMotionOt el t temp s
  | .motOtClear el p t temp => Sys2Proof.Machine.execMotOtClear el p t temp s
  | .motCntClear el p t => Sys2Proof.Machine.execMotCntClear el p t s
  | .axStop el p a => Sys2Proof.Machine.execAxStop el p a s
  | .axHold el p a => Sys2Proof.Machine.execAxHold el p a s
  | .axRelease el p a => Sys2Proof.Machine.execAxRelease el p a s
  | .encSync el p a => Sys2Proof.Machine.execEncSync el p a s
  | .setActual el p a => Sys2Proof.Machine.execSetActual el p a s
  | .encoderEdge el k n la lb => Sys2Proof.Machine.execEncoderEdge el k n la lb s
  | .encRateRecover el k => Sys2Proof.Machine.execEncRateRecover el k s
  | .indexEdge e k => Sys2Proof.Machine.execIndexEdge e k s
  | .encBreak el k => Sys2Proof.Machine.execEncBreak el k s
  | .encBreakClear el k => Sys2Proof.Machine.execEncBreakClear el k s
  | .speedWindowEnd el k => Sys2Proof.Machine.execSpeedWindowEnd el k s
  | .encLoad el p k => Sys2Proof.Machine.execEncLoad el p k s
  | .indexArm el p k => Sys2Proof.Machine.execIndexArm el p k s
  | .serialFrameStart el k => Sys2Proof.Machine.execSerialFrameStart el k s
  | .serialFrameEnd el k bits => Sys2Proof.Machine.execSerialFrameEnd el k bits s
  | .serialTimeout e k => Sys2Proof.Machine.execSerialTimeout e k s
  | .probeEdge el p n level => Sys2Proof.Machine.execProbeEdge el p n level s
  | .probeStuck el p => Sys2Proof.Machine.execProbeStuck el p s
  | .probeArm el p k => Sys2Proof.Machine.execProbeArm el p k s
  | .probePop el p k => Sys2Proof.Machine.execProbePop el p k s
  | .probeCapRead el p k => Sys2Proof.Machine.execProbeCapRead el p k s
  | .cmpValWrite el p c v => Sys2Proof.Machine.execCmpValWrite el p c v s
  | .cmpCfgWrite el p c v => Sys2Proof.Machine.execCmpCfgWrite el p c v s
  | .cmpPulseEnd el c => Sys2Proof.Machine.execCmpPulseEnd el c s
  | .fbCntClear el p => Sys2Proof.Machine.execFbCntClear el p s
  | .switchOn el p h => Sys2Proof.Machine.execSwitchOn el p h s
  | .switchOff el p h => Sys2Proof.Machine.execSwitchOff el p h s
  | .inrushEnd el h draw mean => Sys2Proof.Machine.execInrushEnd el h draw mean s
  | .limitEnter el h draw mean => Sys2Proof.Machine.execLimitEnter el h draw mean s
  | .limitTimeout el h => Sys2Proof.Machine.execLimitTimeout el h s
  | .fastTrip el h => Sys2Proof.Machine.execFastTrip el h s
  | .channelOt el h temp => Sys2Proof.Machine.execChannelOt el h temp s
  | .pauseEnd el h => Sys2Proof.Machine.execPauseEnd el h s
  | .channelRestart el h temp => Sys2Proof.Machine.execChannelRestart el h temp s
  | .triesClear el h => Sys2Proof.Machine.execTriesClear el h s
  | .clrRetry el p h => Sys2Proof.Machine.execClrRetry el p h s
  | .clrTh el p h temp => Sys2Proof.Machine.execClrTh el p h temp s
  | .clusterOt el k temp => Sys2Proof.Machine.execClusterOt el k temp s
  | .clusterOtClear el k temp => Sys2Proof.Machine.execClusterOtClear el k temp s
  | .switchOpenOn el h iv => Sys2Proof.Machine.execSwitchOpenOn el h iv s
  | .switchOpenOff el h v => Sys2Proof.Machine.execSwitchOpenOff el h v s
  | .switchStuck el h iv => Sys2Proof.Machine.execSwitchStuck el h iv s
  | .switchShortVbat el h v iv => Sys2Proof.Machine.execSwitchShortVbat el h v iv s
  | .vbatUv el v => Sys2Proof.Machine.execVbatUv el v s
  | .vbatUvRecover el v => Sys2Proof.Machine.execVbatUvRecover el v s
  | .reverseBattery el v => Sys2Proof.Machine.execReverseBattery el v s
  | .reverseEnd el v => Sys2Proof.Machine.execReverseEnd el v s
  | .overvolt el v => Sys2Proof.Machine.execOvervolt el v s
  | .swCntClear el p => Sys2Proof.Machine.execSwCntClear el p s
  | .antShort el iv => Sys2Proof.Machine.execAntShort el iv s
  | .antClear el p => Sys2Proof.Machine.execAntClear el p s
  | .antOpen el iv => Sys2Proof.Machine.execAntOpen el iv s
  | .aidTime el p => Sys2Proof.Machine.execAidTime el p s
  | .aidPos el p => Sys2Proof.Machine.execAidPos el p s
  | .aidNavCommit el p iodOk r => Sys2Proof.Machine.execAidNavCommit el p iodOk r s
  | .gnssForget el p => Sys2Proof.Machine.execGnssForget el p s
  | .navPop el p => Sys2Proof.Machine.execNavPop el p s
  | .gnssCntClear el p => Sys2Proof.Machine.execGnssCntClear el p s
  | .gnssRetain el => Sys2Proof.Machine.execGnssRetain el s
  | .measEpoch el ms => Sys2Proof.Machine.execMeasEpoch el ms s
  | .navUnit el c type bits pass inverted start done => Sys2Proof.Machine.execNavUnit el c type bits pass inverted start done s
  | .navSolution el q => Sys2Proof.Machine.execNavSolution el q s
  | .dtMeasurement el k e => Sys2Proof.Machine.execDtMeasurement el k e s
  | .dtSourceLoss el k => Sys2Proof.Machine.execDtSourceLoss el k s
  | .holdoverSecond el => Sys2Proof.Machine.execHoldoverSecond el s
  | .ppsEdge el rising frac => Sys2Proof.Machine.execPpsEdge el rising frac s
  | .timePulse el iv => Sys2Proof.Machine.execTimePulse el iv s
  | .dtModelClear el p => Sys2Proof.Machine.execDtModelClear el p s
  | .dtCntClear el p => Sys2Proof.Machine.execDtCntClear el p s
  | .rtcLatch el => Sys2Proof.Machine.execRtcLatch el s
  | .canInitSet e p c => Sys2Proof.Machine.execCanInitSet e p c s
  | .canInitClear el p c => Sys2Proof.Machine.execCanInitClear el p c s
  | .canFrameRx el c f => Sys2Proof.Machine.execCanFrameRx el c f s
  | .txReqSet el p c m => Sys2Proof.Machine.execTxReqSet el p c m s
  | .txReqWithdraw el p c m onBus => Sys2Proof.Machine.execTxReqWithdraw el p c m onBus s
  | .canAbortAll el p c onBus => Sys2Proof.Machine.execCanAbortAll el p c onBus s
  | .canFrameTxDone el c sof delay => Sys2Proof.Machine.execCanFrameTxDone el c sof delay s
  | .canError el c lec dTec dRec f => Sys2Proof.Machine.execCanError el c lec dTec dRec f s
  | .canRecover el p c => Sys2Proof.Machine.execCanRecover el p c s
  | .busoffRecovered e c => Sys2Proof.Machine.execBusoffRecovered e c s
  | .canFifoPop el p c k m => Sys2Proof.Machine.execCanFifoPop el p c k m s
  | .objCaptureRead el p c m => Sys2Proof.Machine.execObjCaptureRead el p c m s
  | .canFvWrite el p c m v => Sys2Proof.Machine.execCanFvWrite el p c m v s
  | .referenceRequest el c => Sys2Proof.Machine.execReferenceRequest el c s
  | .canTmHandoff el c => Sys2Proof.Machine.execCanTmHandoff el c s
  | .canCntClear el p c => Sys2Proof.Machine.execCanCntClear el p c s
  | .regAccessRequest el f run envs => Sys2Proof.Machine.execRegAccessRequest el f run envs s
  | .notifyTx el => Sys2Proof.Machine.execNotifyTx el s
  | .pauseFrameRx el e f => Sys2Proof.Machine.execPauseFrameRx el e f s
  | .portCntClear el p => Sys2Proof.Machine.execPortCntClear el p s
  | .qread e a n => Sys2Proof.Machine.execQread e a n s
  | .qreadFixed e a n => Sys2Proof.Machine.execQreadFixed e a n s
  | .qwrite e a b pace envs => Sys2Proof.Machine.execQwrite e a b pace envs s
  | .qwriteFixed e a b pace envs => Sys2Proof.Machine.execQwriteFixed e a b pace envs s
  | .qrmw q a m v check e => Sys2Proof.Machine.execQrmw q a m v check e s
  | .getStatus e => Sys2Proof.Machine.execGetStatus e s
  | .usbAttach el => Sys2Proof.Machine.execUsbAttach el s
  | .usbDetach el busReset => Sys2Proof.Machine.execUsbDetach el busReset s
  | .getInfo el b => Sys2Proof.Machine.execGetInfo el b s
  | .regRead e b => Sys2Proof.Machine.execRegRead e b s
  | .regWrite el b data envs => Sys2Proof.Machine.execRegWrite el b data envs s
  | .stageWrite el b data => Sys2Proof.Machine.execStageWrite el b data s
  | .stageCommit el b c => Sys2Proof.Machine.execStageCommit el b c s
  | .recorderRead e b => Sys2Proof.Machine.execRecorderRead e b s
  | .usbAttest el b nonce rnd => Sys2Proof.Machine.execUsbAttest el b nonce rnd s
  | .getReport el b => Sys2Proof.Machine.execGetReport el b s
  | .sessionOut el magic cmd rsv tag len param x => Sys2Proof.Machine.execSessionOut el magic cmd rsv tag len param x s
  | .sessionIn el b => Sys2Proof.Machine.execSessionIn el b s
  | .faultOccurrence el src inst detail => Sys2Proof.Machine.execFaultOccurrence el src inst detail s
  | .bucketLeak el src => Sys2Proof.Machine.execBucketLeak el src s
  | .reportFrameTx el => Sys2Proof.Machine.execReportFrameTx el s
  | .fmSrcAck el p src => Sys2Proof.Machine.execFmSrcAck el p src s
  | .fmSrcStatRead el p src => Sys2Proof.Machine.execFmSrcStatRead el p src s
  | .pinTest el p faultLow safeLow => Sys2Proof.Machine.execPinTest el p faultLow safeLow s
  | .pinTestEnd e => Sys2Proof.Machine.execPinTestEnd e s
  | .fmCntClear el p => Sys2Proof.Machine.execFmCntClear el p s
  | .cinchQuery el cmd arg chk len t38 => Sys2Proof.Machine.execCinchQuery el cmd arg chk len t38 s
  | .cinchAnswer el cmd arg chk len t38 => Sys2Proof.Machine.execCinchAnswer el cmd arg chk len t38 s
  | .cinchAnswerWrite el p v t38 => Sys2Proof.Machine.execCinchAnswerWrite el p v t38 s
  | .cinchWindowEnd el => Sys2Proof.Machine.execCinchWindowEnd el s
  | .safeApply el p v => Sys2Proof.Machine.execSafeApply el p v s
  | .safeRelease el p v => Sys2Proof.Machine.execSafeRelease el p v s
  | .island38Loss el => Sys2Proof.Machine.execIsland38Loss el s
  | .takeOwner el p par burns => Sys2Proof.Machine.execTakeOwner el p par burns s
  | .rotateOwner el p par hashOk revOk => Sys2Proof.Machine.execRotateOwner el p par hashOk revOk s
  | .keyLoad el p k hi => Sys2Proof.Machine.execKeyLoad el p k hi s
  | .keyErase el p k => Sys2Proof.Machine.execKeyErase el p k s
  | .attest el p rnd => Sys2Proof.Machine.execAttest el p rnd s
  | .dbgChallenge el p => Sys2Proof.Machine.execDbgChallenge el p s
  | .dbgResponse el p par => Sys2Proof.Machine.execDbgResponse el p par s
  | .dbgChallengeExpiry el => Sys2Proof.Machine.execDbgChallengeExpiry el s
  | .tamperLower el p par => Sys2Proof.Machine.execTamperLower el p par s
  | .updCommit el p target c => Sys2Proof.Machine.execUpdCommit el p target c s
  | .updAbort el p target => Sys2Proof.Machine.execUpdAbort el p target s
  | .fwActivate el p c => Sys2Proof.Machine.execFwActivate el p c s
  | .updConfirm el p target burns => Sys2Proof.Machine.execUpdConfirm el p target burns s
  | .secCntClear el p => Sys2Proof.Machine.execSecCntClear el p s
  | .trialTimeout el fw => Sys2Proof.Machine.execTrialTimeout el fw s
  | .fwReadyTimeout el => Sys2Proof.Machine.execFwReadyTimeout el s
  | .storeWindowWrite el p o v => Sys2Proof.Machine.execStoreWindowWrite el p o v s
  | .sessionHello el e f rnd => Sys2Proof.Machine.execSessionHello el e f rnd s
  | .sessionFinish el e fcsOk len dst src f => Sys2Proof.Machine.execSessionFinish el e fcsOk len dst src f s
  | .sessionTimeout el k => Sys2Proof.Machine.execSessionTimeout el k s
  | .oldSaDelete el e => Sys2Proof.Machine.execOldSaDelete el e s
  | .serviceSessionTimeout el => Sys2Proof.Machine.execServiceSessionTimeout el s
  | .tamperDetect el k => Sys2Proof.Machine.execTamperDetect el k s
  | .mssLockstep e => Sys2Proof.Machine.execMssLockstep e s
  | .mssRestart el p => Sys2Proof.Machine.execMssRestart el p s
  | .mssWatchdog e => Sys2Proof.Machine.execMssWatchdog e s
  | .mssReady el => Sys2Proof.Machine.execMssReady el s
  | .mssCntClear el p => Sys2Proof.Machine.execMssCntClear el p s
  | .tempPoll el temps => Sys2Proof.Machine.execTempPoll el temps s
  | .sramScrubRead e x => Sys2Proof.Machine.execSramScrubRead e x s
  | .storeScrubRead e err => Sys2Proof.Machine.execStoreScrubRead e err s
  | .scrubLate el store => Sys2Proof.Machine.execScrubLate el store s
  | .powerDownWarning el pin vbat => Sys2Proof.Machine.execPowerDownWarning el pin vbat s
  | .powerDownEnd e => Sys2Proof.Machine.execPowerDownEnd e s
  | .poweredHour el => Sys2Proof.Machine.execPoweredHour el s
  | .intervalClose e k inst => Sys2Proof.Machine.execIntervalClose e k inst s
  | .recCloseAll el p => Sys2Proof.Machine.execRecCloseAll el p s
  | .recCntClear el p => Sys2Proof.Machine.execRecCntClear el p s
  | .traceArm el p n decim => Sys2Proof.Machine.execTraceArm el p n decim s
  | .recWin0Read e p => Sys2Proof.Machine.execRecWin0Read e p s
  | .recWin63Read e p => Sys2Proof.Machine.execRecWin63Read e p s
  | .recCursorWrite el p v => Sys2Proof.Machine.execRecCursorWrite el p v s
  | .pllLocked el => Sys2Proof.Machine.execPllLocked el s
  | .clockSourceLost el k forced => Sys2Proof.Machine.execClockSourceLost el k forced s
  | .clockSourceOk el k => Sys2Proof.Machine.execClockSourceOk el k s
  | .iroTrim el err sof => Sys2Proof.Machine.execIroTrim el err sof s
  | .selMain el p => Sys2Proof.Machine.execSelMain el p s
  | .clkCntClear el p => Sys2Proof.Machine.execClkCntClear el p s
  | .clkGateCmd el p v => Sys2Proof.Machine.execClkGateCmd el p v s
  | .gateIdle el idle => Sys2Proof.Machine.execGateIdle el idle s
  | .railOutOfWindow el r mv vio33 => Sys2Proof.Machine.execRailOutOfWindow el r mv vio33 s
  | .railInWindow el r mv vio33 => Sys2Proof.Machine.execRailInWindow el r mv vio33 s
  | .resetPin el ns => Sys2Proof.Machine.execResetPin el ns s
  | .rstKeyWrite el p v => Sys2Proof.Machine.execRstKeyWrite el p v s
  | .rstDevice el p => Sys2Proof.Machine.execRstDevice el p s
  | .deviceReset el cause => Sys2Proof.Machine.execDeviceReset el cause s
  | .phaseChopCycle el a b iv => Sys2Proof.Machine.execPhaseChopCycle el a b iv s
  | .microstepEmit el a d => Sys2Proof.Machine.execMicrostepEmit el a d s
  | .satelliteAcquired e sig sv elev second => Sys2Proof.Machine.execSatelliteAcquired e sig sv elev second s
  | .carrierLockLoss el c bits => Sys2Proof.Machine.execCarrierLockLoss el c bits s
  | .antOpenRecover el iv => Sys2Proof.Machine.execAntOpenRecover el iv s
  | .protocolException el c => Sys2Proof.Machine.execProtocolException el c s
  | .ethLinkChange el e linkUp aneg speed => Sys2Proof.Machine.execEthLinkChange el e linkUp aneg speed s
  | .recorderSample el mv => Sys2Proof.Machine.execRecorderSample el mv s
  | .mssDebugHalt el => Sys2Proof.Machine.execMssDebugHalt el s
  | .debugHaltEnd el => Sys2Proof.Machine.execDebugHaltEnd el s
  | .debugReset el => Sys2Proof.Machine.execDebugReset el s
  | .switchHotChange el h temp => Sys2Proof.Machine.execSwitchHotChange el h temp s

end Sys2Proof.Machine
end

