-- ==== Sys2Proof/Safety.lean ====
section
/-!
DEFINITION. What a safe run is: one in which every step answers a next state. No rule of the spec stops the block for
good, so a step that faults or refuses is the model's stop, not the device's. Beside it, the terms in which statements name
the conditions of a command and what it leaves alone.
-/
namespace Sys2Proof

/-- One step from `s` answers a next state. -/
def StepSafe (s : Machine.State) : Prop := ∃ t, Machine.step s = .next t

/-- `n` steps from `s` all answer next states. -/
def RunSafe : Nat → Machine.State → Prop
  | 0, _ => True
  | n + 1, s => ∃ t, Machine.step s = .next t ∧ RunSafe n t

namespace Machine

/-- Island `i` is up and its clock runs. -/
abbrev State.Runs (s : State) (i : Nat) : Prop := s.up i = true ∧ s.ungated i = true

/-- Port `p` and the arbiter behind it work: island 37 runs, and for ETH1 island 34 as well. -/
abbrev State.PortRuns (s : State) (p : Port) : Prop := s.Runs 37 ∧ (p = .eth1 → s.Runs 34)

/-- A write of the register at `a` through port `p` passes every check, and the device is not sealed, so that no field of it is
refused. -/
abbrev State.Takes (s : State) (p : Port) (a : Nat) : Prop := s.PortRuns p ∧ s.accessErr p a true = 0 ∧ s.sealed = false

/-- A read of the register at `a` through port `p` passes every check. -/
abbrev State.Gives (s : State) (p : Port) (a : Nat) : Prop := s.PortRuns p ∧ s.accessErr p a false = 0

/-- `t` is `s` at the start of a command `el` ns later with `o` sent out, but for registers and for the record of what the hardware
has set in them and of results that saturated (R8, R16). -/
abbrev State.SameButRegs (s t : State) (el : Nat) (o : List Out) : Prop :=
  t = { s.begin el with out := o, regs := t.regs, fresh := t.fresh, sats := t.sats }

/-- Every register outside `l` reads in `t` as in `s`. -/
def State.RegsBut (s t : State) (l : List Nat) : Prop := ∀ a, a ∉ l → t.reg a = s.reg a

/-- Every byte of the store reads in `t` as in `s`. -/
def State.SameStore (s t : State) : Prop := ∀ a, t.storeByte a = s.storeByte a

/-- The tables that hold registers and the store are in their canonical form. -/
def State.Canonical (s : State) : Prop := Tab.wf resetWord s.regs = true ∧ Tab.wf (fun _ => 0) s.store = true

/-- What port `p` asks at `a` is answered as far as the configuration goes: a full image is in force and the port's session is not
one of a device without an owner, or the block answers without an image. -/
abbrev State.Answers (s : State) (p : Port) (a : Nat) : Prop :=
  (s.imageOk = true ∧ ¬(p = .eth1 ∧ s.rbit R.SEC_SESS_STAT 16 = true)) ∨ answersUnconfigured a = true

/-- From `s`, `el` ns later, an access of port `p` at `a` has failed with `code` and `o` has answered it: nothing but the port's failure
registers has changed, and the failure of a transfer of this access (01 R34) is no longer outstanding. -/
def State.Refused (s t : State) (el : Nat) (p : Port) (a code : Nat) (o : Out) : Prop :=
  t = { s.begin el with out := [o], regs := t.regs, fresh := t.fresh, sats := t.sats,
                        sys := { s.sys with failingAcc := s.sys.failingAcc.erase (p, a) } } ∧
  s.RegsBut t [R.PORT_ERR_ADDR (portNum p), R.PORT_ERR_INFO (portNum p), R.PORT_ERR_CNT (portNum p), R.PORT_IRQ_STAT] ∧
  t.reg (R.PORT_ERR_ADDR (portNum p)) = wordN a ∧ t.reg (R.PORT_ERR_INFO (portNum p)) = wordN code ∧
  t.reg (R.PORT_ERR_CNT (portNum p)) = wordN (satN 32 ((s.reg (R.PORT_ERR_CNT (portNum p))).toNat + 1)) ∧
  t.reg R.PORT_IRQ_STAT = s.reg R.PORT_IRQ_STAT ||| bit 7

/-- `t` is `s` `el` ns later but for physical lane `n`, the registers of `l`, and how many
free values have been drawn (log 5). -/
def State.OnlyLane (s t : State) (el n : Nat) (l : List Nat) : Prop :=
  t = { s.begin el with regs := t.regs, fresh := t.fresh, sats := t.sats, free := t.free, lanes := t.lanes } ∧
  (∀ m, m ≠ n → t.lane m = s.lane m) ∧ s.RegsBut t l

/-- The same but for axis `a`. -/
def State.OnlyAxis (s t : State) (el a : Nat) (l : List Nat) (o : List Out) : Prop :=
  t = { s.begin el with out := o, regs := t.regs, fresh := t.fresh, sats := t.sats, axes := t.axes } ∧
  (∀ m, m ≠ a → t.axis m = s.axis m) ∧ s.RegsBut t l

end Machine

end Sys2Proof
end

