-- ==== Sys2Proof/WellFormed.lean ====
section
/-!
DEFINITION. Which commands the outside can send: the bounds on operands that their types do not carry.
-/
namespace Sys2Proof

/-- An address of the 32-bit register space (00_scope.md, Registers). -/
def addrOk (a : Nat) : Bool := decide (a < 2 ^ 32)

/-- A received frame: its length covers the two addresses, the EtherType, the payload and the FCS (13 R522). -/
def RxFrame.ok (f : RxFrame) : Bool := decide (f.body.length + 18 ≤ f.len)

/-- A CAN frame: its payload has the length that its DLC names, a remote frame carries none and is no FD frame, and a base identifier
lies in bits [28:18] (12 R484). -/
def dlcLength (fdf : Bool) (d : Nat) : Nat :=
  if d ≤ 8 then d
  else if fdf then ([12, 16, 20, 24, 32, 48, 64] : List Nat).getD (d - 9) 64
  else 8
def CanFrame.ok (f : CanFrame) : Bool :=
  (f.data.length == if f.rtr then 0 else dlcLength f.fdf f.dlc.toNat) && !(f.rtr && f.fdf) && (f.ide || f.id.extractLsb' 0 18 == 0)

/-- The data of a USB command has the length that its block names (13 R540). -/
def UsbBlk.carries (b : UsbBlk) (data : List Byte) : Bool := decide (data.length = b.len.toNat)

/-- Errors of the persistent store lie in it: 2²⁴ words (16 Table 4). -/
def hitsOk (l : List EccHit) : Bool := l.all fun h => decide (h.word < 2 ^ 24)

/-- The check of a command. -/
def WellFormed : Instr → Bool
  | .registerWrite _ _ a _ _ => addrOk a
  | .multiwordCaptureRead e _ a => addrOk a && hitsOk e.val
  | .linkTransfer _ _ _ _ _ acc => acc.all fun x => addrOk x.2
  | .handshakeTimeout _ _ _ acc => acc.all fun x => addrOk x.2
  | .huzerFrame _ f => f.ok
  | .regAccessRequest _ f _ _ => f.ok
  | .pauseFrameRx _ _ f => f.ok
  | .sessionHello _ _ f _ => f.ok
  | .sessionFinish _ _ fcsOk len dst src f => (RxFrame.mk fcsOk len dst src f.vlan f.etherType f.body).ok
  | .verifyComplete _ c => hitsOk c
  | .resetRelease _ a _ _ count _ => hitsOk a && decide (count < 2 ^ 64)
  | .bootImageLoad _ a b l => hitsOk a && hitsOk b && hitsOk l
  | .updCommit _ _ _ c => hitsOk c
  | .fwActivate _ _ c => hitsOk c
  | .stageCommit _ _ c => hitsOk c
  | .evalPass _ bad => bad.Nodup
  | .canFrameRx _ _ f => f.ok
  | .measEpoch _ ms => (ms.map SatMeas.ch).Nodup
  | .qread e .. => hitsOk e.val.2
  | .regRead e .. => hitsOk e.val
  | .recorderRead e .. => hitsOk e.val
  | .intervalClose e .. => hitsOk e.val
  | .recWin0Read e .. => hitsOk e.val
  | .recWin63Read e .. => hitsOk e.val
  | .mssLockstep e => hitsOk e.val
  | .mssWatchdog e => hitsOk e.val
  | .qwrite .. => true
  | .qwriteFixed .. => true
  | .qreadFixed e .. => hitsOk e.val.2
  | .qrmw q .. => hitsOk q.val.2
  | .regWrite _ b data _ => b.carries data
  | .stageWrite _ b data => b.carries data
  | .usbAttest _ b nonce _ => b.carries nonce
  | .sessionOut _ _ _ _ _ len _ x => decide (x.data.length = len.toNat)
  | .thermalTick _ _ _ _ vpk cur => decide (vpk.length = 500) && decide (cur.length = 8) && cur.all fun l => decide (l.length ≤ 2000)
  | .tempPoll _ l => decide (l.length = 28)
  | .recorderSample _ l => decide (l.length = 14)
  | .clockMonitorWindow .. | .islandRestart .. | .islandRestartBegin .. | .islandUp .. | .dtSyncToken ..
  | .sysCntClear .. | .resetAssert .. | .sealTimeout .. | .ldrSeal .. | .ldrVerify .. | .ldrArm ..
  | .shadowBanksLoaded .. | .thFinal .. | .handoverSwap .. | .patchLogMarked .. | .boundaryTimeout .. | .ldrAbort ..
  | .ldrAck .. | .ldrClearCnt .. | .ldrRefuseAck .. | .pauseRefresh .. | .streamResync .. | .tgtSubmit ..
  | .targetDispatch .. | .intakeCntClear .. | .beltSample .. | .stitchRetimeBelt .. | .gndVsCommit ..
  | .fusedDrTick .. | .fusedFix .. | .drOnlyTimeout .. | .drMaxExpiry .. | .historyTick .. | .evalPeriodSkipped ..
  | .spotEventTake .. | .blockWriteback .. | .gndFlush .. | .gndPage .. | .pageReady .. | .gndCommit ..
  | .gndCntClear .. | .rasterHostWrite .. | .stitchPlace .. | .latencyRecompute .. | .stitchCommit ..
  | .stitchCancel .. | .sectionOn .. | .sectionOff .. | .dutyUpdate .. | .spotRetime .. | .stitchFlush ..
  | .stitchCntClear .. | .stitchCalCapture .. | .ghTurnOn .. | .openInstant .. | .peakReached .. | .peakEnd ..
  | .boostTimeout .. | .holdReached .. | .chopCycle .. | .closeInstant .. | .splitReached .. | .firingEnd ..
  | .clampIntervalEnd .. | .clampPowerWindow .. | .ghTurnOff .. | .groupTrip .. | .grpClear .. | .groupOverload ..
  | .ghStuck .. | .laneOpenCheck .. | .laneOpenHold .. | .laneShort .. | .laneOc .. | .rmeasWindowClose ..
  | .idleTestStart .. | .idleTestResult .. | .peakInhibit .. | .peakInhibitEnd .. | .groundLoss .. | .groundReturn ..
  | .tileOt .. | .tileOtClear .. | .tileTempWarn .. | .tileCntClear .. | .kneeSearchEnd .. | .stuckTimeReached ..
  | .closingSearchEnd .. | .modelUpdate .. | .acceptOpen .. | .acceptClose .. | .lrnClear .. | .burnishNow ..
  | .modelCopy .. | .burnishStart .. | .burnishComplete .. | .burnishStale .. | .profileUpdate ..
  | .holdCurrentSwitch .. | .stepPulse .. | .axisOc .. | .axisOpen .. | .axisVmUv .. | .vmRecover .. | .motionOt ..
  | .motOtClear .. | .motCntClear .. | .axStop .. | .axHold .. | .axRelease .. | .encSync .. | .setActual ..
  | .encoderEdge .. | .encRateRecover .. | .indexEdge .. | .encBreak .. | .encBreakClear .. | .speedWindowEnd ..
  | .encLoad .. | .indexArm .. | .serialFrameStart .. | .serialFrameEnd .. | .serialTimeout .. | .probeEdge ..
  | .probeStuck .. | .probeArm .. | .probePop .. | .probeCapRead .. | .cmpValWrite .. | .cmpCfgWrite ..
  | .cmpPulseEnd .. | .fbCntClear .. | .switchOn .. | .switchOff .. | .inrushEnd .. | .limitEnter ..
  | .limitTimeout .. | .fastTrip .. | .channelOt .. | .pauseEnd .. | .channelRestart .. | .triesClear ..
  | .clrRetry .. | .clrTh .. | .clusterOt .. | .clusterOtClear .. | .switchOpenOn .. | .switchOpenOff ..
  | .switchStuck .. | .switchShortVbat .. | .vbatUv .. | .vbatUvRecover .. | .reverseBattery .. | .reverseEnd ..
  | .overvolt .. | .swCntClear .. | .antShort .. | .antClear .. | .antOpen .. | .aidTime .. | .aidPos ..
  | .aidNavCommit .. | .gnssForget .. | .navPop .. | .gnssCntClear .. | .gnssRetain .. | .navUnit ..
  | .navSolution .. | .dtMeasurement .. | .dtSourceLoss .. | .holdoverSecond .. | .ppsEdge .. | .timePulse ..
  | .dtModelClear .. | .dtCntClear .. | .rtcLatch .. | .canInitSet .. | .canInitClear .. | .txReqSet ..
  | .txReqWithdraw .. | .canAbortAll .. | .canFrameTxDone .. | .canError .. | .canRecover .. | .busoffRecovered ..
  | .canFifoPop .. | .objCaptureRead .. | .canFvWrite .. | .referenceRequest .. | .canTmHandoff .. | .canCntClear ..
  | .notifyTx .. | .portCntClear .. | .getStatus .. | .usbAttach ..
  | .usbDetach .. | .getInfo .. | .getReport .. | .sessionIn ..
  | .faultOccurrence .. | .bucketLeak .. | .reportFrameTx .. | .fmSrcAck .. | .fmSrcStatRead .. | .pinTest ..
  | .pinTestEnd .. | .fmCntClear .. | .cinchQuery .. | .cinchAnswer .. | .cinchAnswerWrite .. | .cinchWindowEnd ..
  | .safeApply .. | .safeRelease .. | .island38Loss .. | .takeOwner .. | .rotateOwner .. | .keyLoad .. | .keyErase ..
  | .attest .. | .dbgChallenge .. | .dbgResponse .. | .dbgChallengeExpiry .. | .tamperLower .. | .updAbort ..
  | .updConfirm .. | .secCntClear .. | .trialTimeout .. | .fwReadyTimeout .. | .storeWindowWrite ..
  | .sessionTimeout .. | .oldSaDelete .. | .serviceSessionTimeout .. | .tamperDetect .. 
  | .mssRestart .. | .mssReady .. | .mssCntClear .. | .sramScrubRead .. | .storeScrubRead ..
  | .scrubLate .. | .powerDownWarning .. | .powerDownEnd .. | .poweredHour .. | .recCloseAll ..
  | .recCntClear .. | .traceArm .. | .recCursorWrite .. | .pllLocked ..
  | .clockSourceLost .. | .clockSourceOk .. | .iroTrim .. | .selMain .. | .clkCntClear .. | .clkGateCmd ..
  | .gateIdle .. | .railOutOfWindow .. | .railInWindow .. | .resetPin .. | .rstKeyWrite .. | .rstDevice ..
  | .deviceReset .. | .phaseChopCycle .. | .microstepEmit .. | .satelliteAcquired .. | .carrierLockLoss ..
  | .antOpenRecover .. | .protocolException .. | .ethLinkChange .. | .mssDebugHalt .. | .debugHaltEnd ..
  | .debugReset .. | .switchHotChange .. => true

end Sys2Proof
end

