-- ==== Sys2Proof/Certificates/Slice0/Obligations.lean ====
section
/-!
DEFINITION. The statements about the model, for the provers.
-/
open Sys2Proof Sys2Proof.Machine

/-- Under the conditions that the rules give, each row of a lane tile and its group high-side ends in the state its
  rule names: the group turns on and off, trips, is cleared, is reported overloaded or stuck, the tile reports its
  temperature, and the idle test starts and ends. (06_lane_drive.md, R228, R229, 06_lane_drive.md, R243–R247,
  06_lane_drive.md, R272, R275, 06_lane_drive.md, R280, R281) -/
def Obligations.GroupAndTileRowsComplete : Prop :=
  (∀ (el : Nat) (t : Fin 20) (o : Int) (s u : State),
    u = s.begin el → s.Runs t → o ∈ u.waiting t → o - 2000 ≤ u.localDt t → u.tileBlocked t = false →
      exec (.ghTurnOn el t) s = .next (u.ghOn t)) ∧
  (∀ (el : Nat) (t : Fin 20) (s u : State),
    u = s.begin el → s.Runs t → u.groupBusy t = false → (u.tile t).ghLast + 20000 ≤ u.localDt t →
      (∀ o ∈ u.waiting t, (u.tile t).ghLast + 20000 + 50000 < o) →
      exec (.ghTurnOff el t) s = .next (u.ghOff t)) ∧
  (∀ (el : Nat) (t : Fin 20) (s u : State),
    u = s.begin el → s.Runs t →
      exec (.groupTrip el t) s = .next (u.tripGroup t false)) ∧
  (∀ (el : Nat) (p : Port) (t : Fin 20) (i : BitVec 16) (v : State) (s u : State),
    u = s.begin el → v = u.setFld (R.GRP_IMEAS t) 0 16 i.toNat → v.Takes p (R.TILE_CMD t) →
      exec (.grpClear el p t i) s = .next ((tileCmd t 2 (v.storeAt p (R.TILE_CMD t) 2)).send (.wrote p (R.TILE_CMD
        t) 0))) ∧
  (∀ (el : Nat) (t : Fin 20) (rms : BitVec 16) (v w : State) (s u : State),
    u = s.begin el → s.Runs t → 8000 < rms.toNat → v = u.setFld (R.GRP_IMEAS t) 16 16 rms.toNat →
      (v.tile t).overload = false → w = (v.event (R.TILE_IRQ_STAT t) tiOverload).count (R.GRP_OVERLOAD_CNT t) 1 →
      exec (.groupOverload el t rms) s = .next (w.setTile t { w.tile t with overload := true })) ∧
  (∀ (el : Nat) (t : Fin 20) (s u : State),
    u = s.begin el → s.Runs t → u.rbit (R.TILE_STAT t) tsGhOn = false → (u.tile t).stuck = false →
      (u.tile t).ghOff + 100000 ≤ u.localDt t →
      exec (.ghStuck el t) s = .next ((((u.setTile t { u.tile t with stuck := true }).event (R.TILE_IRQ_STAT t)
        tiStuck).count (R.GRP_STUCK_CNT t) 1).fault srcGroupStuck t 0)) ∧
  (∀ (el : Nat) (t : Fin 20) (temp : BitVec 16) (s u : State),
    u = s.begin el → s.Runs t → 1360 ≤ temp.toInt → (u.setFld (R.TILE_TEMP t) 0 16 temp.toNat).rbit (R.TILE_STAT t)
      tsOt = false →
      exec (.tileOt el t temp) s = .next ((((((u.setFld (R.TILE_TEMP t) 0 16 temp.toNat).cutTile t).setBit
        (R.TILE_STAT t) tsOt true).event (R.TILE_IRQ_STAT t) tiOt)).fault srcTileOt t 0)) ∧
  (∀ (el : Nat) (p : Port) (t : Fin 20) (temp : BitVec 16) (v : State) (s u : State),
    u = s.begin el → v = u.setFld (R.TILE_TEMP t) 0 16 temp.toNat → v.Takes p (R.TILE_CMD t) →
      exec (.tileOtClear el p t temp) s = .next ((tileCmd t 4 (v.storeAt p (R.TILE_CMD t) 4)).send (.wrote p
        (R.TILE_CMD t) 0))) ∧
  (∀ (el : Nat) (t : Fin 20) (temp : BitVec 16) (s u : State),
    u = s.begin el → s.Runs t → (u.setFld (R.TILE_TEMP t) 0 16 temp.toNat).rsfld (R.TILE_TEMP_WARN t) 0 16 ≤
      temp.toInt →
      exec (.tileTempWarn el t temp) s = .next ((u.setFld (R.TILE_TEMP t) 0 16 temp.toNat).event (R.TILE_IRQ_STAT t)
        tiWarn)) ∧
  (∀ (el : Nat) (cur : List (Fin 160 × Nat)) (s u : State),
    u = s.begin el → u.sys.inhibit = false →
      exec (.peakInhibit ⟨el, cur⟩) s = .next (forL (fun t w => w.onTile t fun v => v.inhibitTile t cur) (List.range
        20) { u with sys := { u.sys with inhibit := true } })) ∧
  (∀ (el : Nat) (s u : State),
    u = s.begin el →
      exec (.peakInhibitEnd el) s = .next { u with sys := { u.sys with inhibit := false } }) ∧
  (∀ (el : Nat) (t : Fin 20) (v : State) (s u : State),
    u = s.begin el → s.Runs t → (u.tile t).idle = none → (u.tile t).idleAt + (u.rfld (R.TILE_IDLE_DIAG t) 0 16 :
      Int) * 1000000 ≤ u.localDt t → u.idleMay t = true → v = u.burnAbandonTile t →
      exec (.idleTestStart el t) s = .next (v.setTile t
        { v.tile t with idle := some (v.localDt t, v.idleLanes t) })) ∧
  (∀ (el : Nat) (t : Fin 20) (high : List (Fin 8)) (b : Int) (l : List Nat) (w : State) (s u : State),
    u = s.begin el → s.Runs t → (u.tile t).idle = some (b, l) → b + 40000 ≤ u.localDt t → w = u.idleAbort t →
      exec (.idleTestResult el t high) s = .next (forL (fun n v => if high.any fun h => h.val == n % 8 then
        ((v.event (R.LANE_DIAG n) ldIdleOpen).count (R.LANE_OPEN_CNT n) 1).fault srcLaneOpen n 1 else v) l
        (w.setTile t { w.tile t with idleAt := b })))

/-- Under the conditions that the rules give, each row of a firing ends in the state its rule names, from the open
  instant through the peak, hold and release phases to its end, with its clamp measurements, its open, short and
  over-current checks and its resistance measurement. (06_lane_drive.md, R230–R242, 06_lane_drive.md, R248–R252,
  06_lane_drive.md, R257, R258, 06_lane_drive.md, R260–R271) -/
def Obligations.FiringRowsComplete : Prop :=
  (∀ (el : Nat) (n : Fin 160) (entries : List Word) (q : TilePulse) (r : List TilePulse) (v : State) (s u : State),
    u = s.begin el → s.Runs (n / 8) → (u.lane n).pulses = q :: r → q.opn ≤ u.localDt (n / 8) →
      (v = (u.updLane n fun l => { l with pulses := r }).setBit (R.LANE_STAT n) lsPending (!r.isEmpty)) →
      v.safeOn (chLane n) = none → v.tileBlocked (n / 8) = false → v.rbit (R.LANE_STAT n) lsOcLatched = false →
      v.thAct n ≠ 2 → v.laneBusy n = false →
      exec (.openInstant el n entries) s = .next (v.fire n q entries)) ∧
  (∀ (el : Nat) (n : Fin 160) (i : Nat) (f : Firing) (s u : State),
    u = s.begin el → s.Runs (n / 8) → (u.lane n).firing = some f → u.phase n = phPeak → f.peakAt = none →
      f.dead = false → f.opn + 500 ≤ u.localDt (n / 8) → (u.lane n).thr ≤ i →
      u.localDt (n / 8) ≤ f.opn + (fld f.prof.tmax 0 24 : Int) * 10 →
      exec (.peakReached el n i) s = .next (((u.updFiring n fun g =>
        { g with peakAt := some (u.localDt (n / 8)) }).setFldN (R.LANE_PEAK_TIME n) 0 24 (roundDiv (u.localDt (n /
        8) - f.opn) 10).toNat).updLane n fun l =>
        { l with offAt := some (max (u.localDt (n / 8)) (l.onAt + 1000)) })) ∧
  (∀ (el : Nat) (n : Fin 160) (i : Nat) (f : Firing) (t e : Int) (s u : State),
    u = s.begin el → s.Runs (n / 8) → (u.lane n).firing = some f → f.peakAt = some t → u.phase n = phPeak →
      e = min (t + (fld f.prof.peak 16 16 : Int) * 10) (f.opn + (fld f.prof.tmax 0 24 : Int) * 10) →
      e ≤ u.localDt (n / 8) →
      exec (.peakEnd el n i) s = .next (u.peakToHold n i e)) ∧
  (∀ (el : Nat) (n : Fin 160) (i : Nat) (f : Firing) (s u : State),
    u = s.begin el → s.Runs (n / 8) → (u.lane n).firing = some f → u.phase n = phPeak → f.peakAt = none →
      f.opn + (fld f.prof.tmax 0 24 : Int) * 10 ≤ u.localDt (n / 8) →
      exec (.boostTimeout el n i) s = .next (((((u.updFiring n fun g => { g with tmo := true }).event (R.LANE_DIAG
        n) ldBoost).count (R.LANE_BOOST_TIMEOUT n) 1).setFld (R.LANE_PEAK_TIME n) 0 24 (fld f.prof.tmax 0
        24)).peakToHold n i (f.opn + (fld f.prof.tmax 0 24 : Int) * 10))) ∧
  (∀ (el : Nat) (n : Fin 160) (i th : Nat) (f : Firing) (s u : State),
    u = s.begin el → s.Runs (n / 8) → (u.lane n).firing = some f → u.phase n = phHold → f.dead = false →
      (u.lane n).sw ≠ .on → th = u.shifted n (u.holdThr n (fld f.prof.hold 0 16)) → i ≤ th →
      exec (.holdReached el n i) s = .next (u.updLane n fun l =>
        { l with sw := .on, onAt := u.localDt (n / 8), thr := th, wins := cycleEnd (u.localDt (n / 8)) l.wins })) ∧
  (∀ (el : Nat) (n : Fin 160) (i : Nat) (f : Firing) (v : State) (s u : State),
    u = s.begin el → s.Runs (n / 8) → (u.lane n).firing = some f → u.phase n = phHold → v = u.chopNow n →
      v.phase n = phHold → (v.lane n).sw = .on → (v.lane n).offAt = none →
      (v.lane n).onAt + 1000 ≤ v.localDt (n / 8) → (v.lane n).thr ≤ i →
      exec (.chopCycle el n i) s = .next (v.updLane n fun x => { x with offAt := some (v.localDt (n / 8)) })) ∧
  (∀ (el : Nat) (n : Fin 160) (i : Nat) (f : Firing) (c : Int) (s u : State),
    u = s.begin el → s.Runs (n / 8) → (u.lane n).firing = some f → f.close = some c → f.closed = none →
      c ≤ u.localDt (n / 8) →
      exec (.closeInstant el n i) s = .next ((u.updFiring n fun g =>
        { g with closed := some c, endAt := some (c + f.release) }).enterAt n phRelease (if f.dead ∨ i ≤ fld
        f.prof.decay 16 16 then .off else .slow) c)) ∧
  (∀ (el : Nat) (n : Fin 160) (i : Nat) (f : Firing) (s u : State),
    u = s.begin el → s.Runs (n / 8) → (u.lane n).firing = some f → u.phase n = phRelease → (u.lane n).sw = .slow →
      i ≤ fld f.prof.decay 16 16 →
      exec (.splitReached el n i) s = .next (u.updLane n fun l => { l with sw := .off })) ∧
  (∀ (el : Nat) (n : Fin 160) (i : Nat) (f : Firing) (e : Int) (s u : State),
    u = s.begin el → s.Runs (n / 8) → (u.lane n).firing = some f → f.endAt = some e → e ≤ u.localDt (n / 8) →
      i ≤ 20 →
      exec (.firingEnd el n i) s = .next ((u.enterPhase n phIdle .off).endFiring n e)) ∧
  (∀ (el : Nat) (n : Fin 160) (e : Nat) (s u : State),
    u = s.begin el → s.Runs (n / 8) → 3000 < e → ((u.setFldN (R.LANE_CLAMP_EMAX n) 0 16 (max (u.rfld
      (R.LANE_CLAMP_EMAX n) 0 16) e)).recAdd 2 (n / 8) 11 e).diagRuns n = true →
      exec (.clampIntervalEnd el n e) s = .next (((((u.setFldN (R.LANE_CLAMP_EMAX n) 0 16 (max (u.rfld
        (R.LANE_CLAMP_EMAX n) 0 16) e)).recAdd 2 (n / 8) 11 e).noteSat (R.LANE_DIAG n) (satN 32 e != e)).event
        (R.LANE_DIAG n) ldEnergy).fault srcClamp n (wordN (satN 32 e)))) ∧
  (∀ (el : Nat) (n : Fin 160) (p : Nat) (s u : State),
    u = s.begin el → s.Runs (n / 8) → 300 < p → u.diagRuns n = true →
      exec (.clampPowerWindow el n p) s = .next ((((u.setFldN (R.LANE_CLAMP_PAVG n) 0 16 p).noteSat (R.LANE_DIAG n)
        (satN 32 (p * 100) != p * 100)).event (R.LANE_DIAG n) ldPower).fault srcClamp n (wordN (satN 32 (p *
        100))))) ∧
  (∀ (el : Nat) (n : Fin 160) (i : Nat) (f : Firing) (s u : State),
    u = s.begin el → s.Runs (n / 8) → (u.seek n (fun g => !g.checked && decide (g.opn + (fld g.prof.diag 16 16 :
      Int) * 10 ≤ u.localDt (n / 8))) = some f) → f.armed = true → i < fld f.prof.diag 0 16 →
      exec (.laneOpenCheck el n i) s = .next (((u.updAt n f.opn fun g => { g with checked := true }).updLane n fun l
        => { l with done := l.done.filter fun g => !(g.checked && g.used) }).openFound n f.opn)) ∧
  (∀ (el : Nat) (n : Fin 160) (f : Firing) (s u : State),
    u = s.begin el → s.Runs (n / 8) → (u.lane n).firing = some f → u.phase n = phHold → f.armed = true →
      exec (.laneOpenHold el n true) s = .next (u.openFound n f.opn)) ∧
  (∀ (el : Nat) (n : Fin 160) (v : State) (s u : State),
    u = s.begin el → s.Runs (n / 8) → u.diagRuns n = true → u.rbit (R.TILE_STAT (n / 8)) tsGhOn = true →
      (u.laneSw n != .on) = true → v = ((u.event (R.LANE_DIAG n) ldShort).count (R.LANE_SHORT_CNT n) 1).fault
      srcLaneShort n 0 →
      exec (.laneShort el n) s = .next (if (v.laneReg n (R.GRP_CFG (n / 8))).getLsbD 0 then v.tripGroup (n / 8) true
        else v)) ∧
  (∀ (el : Nat) (n : Fin 160) (i : Nat) (v w : State) (s u : State),
    u = s.begin el → s.Runs (n / 8) → u.diagRuns n = true → u.ocThr n < i →
      v = ((u.event (R.LANE_DIAG n) ldOc).count (R.LANE_OC_CNT n) 1).fault srcLaneOc n 0 →
      (w = ((v.chopNow n).spoil n fun f =>
      { f with dead := true, diag2 := true, leftAt := if u.phase n = phPeak ∧ f.peakAt.isNone ∧ f.leftAt.isNone then some (v.localDt (n / 8)) else f.leftAt }).updLane
      n fun l => { l with sw := .off, offAt := none }) →
      exec (.laneOc el n i) s = .next (if (w.laneReg n (R.LANE_CFG n)).getLsbD 1 then w.setBit (R.LANE_STAT n)
        lsOcLatched true else w)) ∧
  (∀ (el : Nat) (n : Fin 160) (k : Nat) (x : Samples) (w : RWin) (r : List RWin) (a tm : Int) (u1 u2 : State) (r20 :
    Nat) (q : Int × State) (s u : State),
    u = s.begin el → s.Runs (n / 8) → u1 = u.chopNow n → u1.closedWin n = some (w, r) →
      (u2 = u1.updLane n fun l => { l with wins := r }) → w.first = some a →
      r20 = fld (u2.laneReg n (R.LANE_COIL_R20 n)) 0 24 → r20 ≠ 0 → w.opens + 500000 ≤ w.last →
      (q = u2.resistance ((sampleRows k x).filter fun y => decide (a ≤ y.at_) && decide (y.at_ < w.last))) →
      (r20 : Int) ≤ 2 * q.1 → q.1 ≤ 2 * (r20 : Int) → tm = roundDiv (160 * 1000 * r20 + (q.1 - r20) * 2035623) (1000
      * r20) →
      exec (.rmeasWindowClose el n k x) s = .next (((q.2.setFldN (R.LANE_COIL_RMEAS n) 0 24 q.1.toNat).setFldI
        (R.LANE_COIL_TMEAS n) 0 16 tm).updLane n fun l => { l with tMeas := some tm }))

/-- Under the conditions that the rules give, each row of the thermal tick, the knee and closing searches, the model
  update, the stuck report and the Burnish calibration ends in the state its rule names. (06_lane_drive.md,
  R264–R268, 07_latency_learning.md, R288–R305, 07_latency_learning.md, R308–R311, 07_latency_learning.md,
  R315–R319) -/
def Obligations.LearnerRowsComplete : Prop :=
  (∀ (el : Nat) (t : Fin 20) (temp ig : BitVec 16) (vpk : List (BitVec 16)) (cur : List (List Int)) (x : Bool) (s1
    s2 s3 s4 : State) (ta : Int) (m : Nat) (s u : State),
    u = s.begin el → s.Runs t → (m = (meanI (vpk.map fun w => (w.toNat : Int))).toNat) →
      s1 = ((u.setReg (R.TILE_TEMP t) (temp.setWidth 32)).setReg (R.TILE_VPK t) (wordN m)).setFld (R.GRP_IMEAS t) 0
      16 ig.toNat → (ta = 65536 * if s1.rbit (R.TILE_CTRL t) 0 then s1.rsfld (R.TILE_TAMB_HOST t) 0 16 else
      temp.toInt) → (s2 = forL (fun n w => w.thermal n ta (w.meanSq n (cur.getD (n % 8) []))) (tileLanes t) s1) →
      s3 = s2.setTile t { s2.tile t with band := some (s2.nextBand t m) } →
      (s4 = forL (fun n v => v.recAdd 2 t (n % 8) (round16 (v.lane n).tw)) (tileLanes t) s3) →
      exec (.thermalTick ⟨el, x⟩ t temp ig vpk cur) s = .next (forL (fun n v => v.sendLat x n) (tileLanes t)
        (((s4.recAdd 2 t 8 temp.toInt).recAdd 2 t 9 m).recAdd 2 t 10 ig.toNat))) ∧
  (∀ (el : Nat) (n : Fin 160) (k : Nat) (samples : List Int) (f : Firing) (used : List (Int × Int)) (j : Nat) (v :
    Int × State) (s1 : State) (s u : State),
    u = s.begin el → s.Runs (n / 8) → (u.seek n (fun g => !g.kneeDone) = some f) →
      (used = (samples.zipIdx.map fun q => (500 * ((k + q.2 : Nat) : Int), q.1)).filter fun q => f.searched q.1) →
      findDip (2 * (fld f.prof.detect 0 16 : Int)) 0 ((medians (used.map (·.2))).headD 0) none (medians (used.map
      (·.2))) = some j → v = u.vertex (medians (used.map (·.2))) j (used.getD (j + 1) (0, 0)).1 →
      (s1 = (v.2.updAt n f.opn fun g => { g with kneeDone := true, knee := some v.1 }).setMeas (R.LRN_MEAS_OPEN n)
      (measured (v.1 - f.opn) (sfld f.prof.ofs 0 16))) →
      exec (.kneeSearchEnd el n k samples) s = .next (if s1.stuckElig n f then s1.kneeFound n else s1)) ∧
  (∀ (el : Nat) (n : Fin 160) (f : Firing) (s u : State),
    u = s.begin el → s.Runs (n / 8) → (u.lane n).firing = some f → f.kneeDone = true → f.knee = none →
      u.stuckElig n f = true → 20000000 ≤ u.actTime n →
      exec (.stuckTimeReached el n) s = .next (u.stuckReport n true)) ∧
  (∀ (el : Nat) (n : Fin 160) (k : Nat) (x : Samples) (f : Firing) (t c : Int) (w s2 : State) (s u : State),
    u = s.begin el → s.Runs (n / 8) → (u.seek n (fun g => g.kneeDone && !g.seatDone && g.closed.isSome) = some f) →
      f.closed = some c → c + (fld f.prof.closeWin 16 16 : Int) * 1000 ≤ u.localDt (n / 8) →
      (u.findSeat n f c ((sampleRows k x).filter fun y => !u.occupied n y.at_) = (some t, w)) →
      (s2 = (w.updAt n f.opn fun g => { g with seatDone := true, seat := some t }).setMeas (R.LRN_MEAS_CLOSE n)
      (measured (t - c) (sfld f.prof.ofs 16 16))) →
      exec (.closingSearchEnd el n k x) s = .next (if s2.missElig n f then s2.setFld (R.LRN_STAT n) 18 3 0 else s2))
        ∧
  (∀ (el : Nat) (n : Fin 160) (x : Bool) (f : Firing) (k : Int) (s1 : State) (s u : State),
    u = s.begin el → s.Runs (n / 8) → ((u.lane n).done.find? (fun g => !g.used) = some f) → f.kneeDone = true →
      f.seatDone = true → f.knee = some k → f.seat = none → u.lrnCfg n 0 = true → u.lrnCfg n 1 = true →
      u.useRow n f = 8 → (s1 = (u.updAt n f.opn fun g => { g with used := true }).updLane n fun l =>
      { l with done := l.done.filter fun g => !(g.checked && g.used) }) →
      exec (.modelUpdate ⟨el, x⟩ n) s = .next ((s1.useSample n .opening f (k - f.opn)).sendLat x n)) ∧
  (∀ (el : Nat) (t : Fin 20) (n : Nat) (s u : State),
    u = s.begin el → s.Runs t → u.rbit (R.LRN_TILE_CFG t) 1 = true → u.rbit (R.BURNISH_STAT t) 31 = false →
      (u.tile t).idle = none → (argMax (fun j => (u.burnAge j : Int)) ((tileLanes t).filter fun j => u.burnMay j) =
      some n) →
      exec (.burnishStart el t) s = .next ((u.setReg (R.BURNISH_STAT t) (wordN (2 ^ 31 + n % 8 * 256 + 1))).setTile
        t { u.tile t with burn := some (u.localDt t) })) ∧
  (∀ (el : Nat) (t : Fin 20) (io ig vo vg co : BitVec 16) (b : Int) (n : Nat) (s u : State),
    u = s.begin el → s.Runs t → (u.tile t).burn = some b → b + 496000 ≤ u.localDt t →
      n = 8 * t.val + u.rfld (R.BURNISH_STAT t) 8 3 → burnOk io.toInt ig.toInt vo.toInt vg.toInt co.toInt = true →
      exec (.burnishComplete el t io ig vo vg co) s = .next (((((((u.burnEnd t).updLane n fun l =>
        { l with calNow := false }).setReg (R.BURNISH_I_CORR n) (ig ++ io)).setReg (R.BURNISH_V_CORR n) (vg ++
        vo)).setReg (R.BURNISH_DAC n) (co.setWidth 32)).count (R.BURNISH_DONE n) 1).updLane n fun l =>
        { l with burnAt := some u.now, stale := false })) ∧
  (∀ (el : Nat) (n : Fin 160) (s u : State),
    u = s.begin el → s.Runs (n / 8) → (u.lane n).stale = false →
      u.rfld (R.BURNISH_MAXAGE (n / 8)) 0 16 ≤ u.burnAge n →
      exec (.burnishStale el n) s = .next (((u.updLane n fun l => { l with stale := true }).event (R.LRN_FLAGS n)
        lfBurnStale).fault srcAdcCalStale n 0)) ∧
  (∀ (el : Nat) (s u : State),
    u = s.begin el → s.works 36 = true → u.rfld R.MSS_STAT 0 2 = 0 → u.rcd.copyAt + 600000000000 ≤ u.now →
      exec (.modelCopy el) s = .next u.copyModels)

/-- A write of a command bit of a lane tile, a learner, the intake, Stitch or the GROUND block that every check of
  an access lets pass does what its bit says and is answered with OK; a read of the calendar capture answers the
  captured word. (06_lane_drive.md, R244, R280, 07_latency_learning.md, R306, R307, R315, R320,
  05_stitch_scheduling.md, R184, R214, 04_ground_sections_and_coverage.md, R139, R140, R171, R172,
  03_targets_and_trajectories.md, R107, R112, R113, 13_host_ports.md, R519, R521) -/
def Obligations.LaneCommandsComplete : Prop :=
  (∀ (el : Nat) (p : Port) (t : Fin 20) (s u : State),
    u = s.begin el → s.Takes p (R.TILE_CMD t) →
      exec (.tileCntClear el p t) s = .next (((u.storeAt p (R.TILE_CMD t) 1).clearRegs (tileCounters t)).send
        (.wrote p (R.TILE_CMD t) 0))) ∧
  (∀ (el : Nat) (p : Port) (n : Fin 160) (s u : State),
    u = s.begin el → s.Takes p (R.LRN_CMD n) →
      exec (.acceptOpen el p n) s = .next (((u.storeAt p (R.LRN_CMD n) 2).acceptShift n .opening).send (.wrote p
        (R.LRN_CMD n) 0))) ∧
  (∀ (el : Nat) (p : Port) (n : Fin 160) (s u : State),
    u = s.begin el → s.Takes p (R.LRN_CMD n) →
      exec (.acceptClose el p n) s = .next (((u.storeAt p (R.LRN_CMD n) 4).acceptShift n .closing).send (.wrote p
        (R.LRN_CMD n) 0))) ∧
  (∀ (el : Nat) (p : Port) (n : Fin 160) (s u : State),
    u = s.begin el → s.Takes p (R.LRN_CMD n) →
      exec (.lrnClear el p n) s = .next (((u.storeAt p (R.LRN_CMD n) 1).clearModel n).send (.wrote p (R.LRN_CMD n)
        0))) ∧
  (∀ (el : Nat) (p : Port) (n : Fin 160) (s u : State),
    u = s.begin el → s.Takes p (R.LRN_CMD n) →
      exec (.burnishNow el p n) s = .next (((u.storeAt p (R.LRN_CMD n) 8).updLane n fun l =>
        { l with calNow := true }).send (.wrote p (R.LRN_CMD n) 0))) ∧
  (∀ (el : Nat) (p : Port) (k : Fin 4) (w : Word) (s u : State),
    u = s.begin el → w = u.reg (R.INTAKE_S_CFG k) ||| 1 → s.Takes p (R.INTAKE_S_CFG k) →
      exec (.streamResync el p k) s = .next (((u.storeAt p (R.INTAKE_S_CFG k) w).setBit (R.INTAKE_S_STAT k) 0
        false).send (.wrote p (R.INTAKE_S_CFG k) 0))) ∧
  (∀ (el : Nat) (p : Port) (v : Word) (s u : State),
    u = s.begin el → s.Takes p (R.INTAKE_TGT_W 3) →
      exec (.tgtSubmit el p v) s = .next ((tgtSubmit v (u.storeAt p (R.INTAKE_TGT_W 3) v)).send (.wrote p
        (R.INTAKE_TGT_W 3) 0))) ∧
  (∀ (el : Nat) (p : Port) (s u : State),
    u = s.begin el → s.Takes p R.INTAKE_CNT_CLEAR →
      exec (.intakeCntClear el p) s = .next (((u.storeAt p R.INTAKE_CNT_CLEAR 1).clearRegs intakeCounters).send
        (.wrote p R.INTAKE_CNT_CLEAR 0))) ∧
  (∀ (el : Nat) (p : Port) (both : Bool) (s u : State),
    u = s.begin el → s.Takes p R.STITCH_CMD →
      exec (.stitchFlush el p both) s = .next ((stitchCmd (if both then 3 else 2) (u.storeAt p R.STITCH_CMD (if both
        then 3 else 2))).send (.wrote p R.STITCH_CMD 0))) ∧
  (∀ (el : Nat) (p : Port) (s u : State),
    u = s.begin el → s.Takes p R.STITCH_CMD →
      exec (.stitchCntClear el p) s = .next (((u.storeAt p R.STITCH_CMD 1).clearRegs stitchCounters).send (.wrote p
        R.STITCH_CMD 0))) ∧
  (∀ (el : Nat) (p : Port) (s u : State),
    u = s.begin el → s.Gives p R.STITCH_CAL_OPEN_LO →
      exec (.stitchCalCapture el p) s = .next ((calCapture u).2.send (.read p R.STITCH_CAL_OPEN_LO (calCapture u).1
        0))) ∧
  (∀ (el : Nat) (p : Port) (v : Word) (s u : State),
    u = s.begin el → s.Takes p R.GND_VS_YAW →
      exec (.gndVsCommit el p v) s = .next ((vsCommit p v (u.storeAt p R.GND_VS_YAW v)).send (.wrote p R.GND_VS_YAW
        0))) ∧
  (∀ (el : Nat) (p : Port) (s u : State),
    u = s.begin el → s.Takes p R.GND_CMD →
      exec (.gndFlush el p) s = .next (((u.storeAt p R.GND_CMD 8).writeBackAll).send (.wrote p R.GND_CMD 0))) ∧
  (∀ (el : Nat) (p : Port) (s u : State),
    u = s.begin el → s.Takes p R.GND_CMD →
      exec (.gndPage el p) s = .next (((u.storeAt p R.GND_CMD 1).pageMove).send (.wrote p R.GND_CMD 0))) ∧
  (∀ (el : Nat) (p : Port) (s u : State),
    u = s.begin el → s.Takes p R.GND_CMD →
      exec (.gndCommit el p) s = .next (((u.storeAt p R.GND_CMD 2).pageCommit).send (.wrote p R.GND_CMD 0))) ∧
  (∀ (el : Nat) (p : Port) (s u : State),
    u = s.begin el → s.Takes p R.GND_CMD →
      exec (.gndCntClear el p) s = .next (((u.storeAt p R.GND_CMD 4).clearRegs gndCounters).send (.wrote p R.GND_CMD
        0))) ∧
  (∀ (el : Nat) (p : Port) (i : Fin 16777216) (v : Word) (s u : State),
    u = s.begin el → s.PortRuns p → s.accessErr p (rasterBase + 4 * i) true = 0 →
      exec (.rasterHostWrite el p i v) s = .next ((u.rasterHost (rasterBase + 4 * i) (bytesOfWord v)).send (.wrote p
        (rasterBase + 4 * i) 0)))

/-- Under the conditions that the rules give, each row of the intake, of Stitch and of the GROUND block ends in the
  state its rule names: a frame is taken, a target dispatched, placed, committed, re-timed or cancelled, a section
  switched, a duty handed on, the vehicle state carried on, and the raster written back and paged.
  (03_targets_and_trajectories.md, R104–R111, R116, R122, R123, 04_ground_sections_and_coverage.md, R141–R145, R151,
  R152, R159, R171, R172, 05_stitch_scheduling.md, R174–R183, R191, R197–R200, R210–R217, R220, 13_host_ports.md,
  R522, R526) -/
def Obligations.PlanRowsComplete : Prop :=
  (∀ (el : Nat) (f : RxFrame) (body : List Byte) (t : State) (s u : State),
    u = s.begin el → (u.macRx .eth0 f).1 = some body → subtypeOf body = 0x5A17 → t = (u.macRx .eth0 f).2 →
      t.Runs 29 →
      exec (.huzerFrame el f) s = .next (t.huzer body)) ∧
  (∀ (el : Nat) (s u : State),
    u = s.begin el → u.rbit R.INTAKE_STAT 24 = true → u.intake.pauseAt + u.rfld (R.ETH_PAUSE 0) 16 16 * 1000 ≤ u.now
      →
      exec (.pauseRefresh el) s = .next
        { u.pauseTx (u.rfld (R.ETH_PAUSE 0) 0 16) with intake := { (u.pauseTx (u.rfld (R.ETH_PAUSE 0) 0 16)).intake with pauseAt := (u.pauseTx (u.rfld (R.ETH_PAUSE 0) 0 16)).now } })
        ∧
  (∀ (el : Nat) (b : DataB) (e : FifoEntry) (r : List FifoEntry) (s u : State),
    u = s.begin el → s.Runs 29 → u.rfld R.INTAKE_CTRL 4 2 ≠ 0 → u.intake.fifo = e :: r →
      exec (.targetDispatch el b) s = .next (((u.setFifo r).fifoFell).dispatch e b)) ∧
  (∀ (el : Nat) (k : Fin 4) (s u : State),
    u = s.begin el → s.Runs 29 → u.rbit (R.INTAKE_S_CFG k) 1 = true → u.dt % 65536 = 0 → u.works 22 = true →
      u.rbit (R.ENC_STAT (u.rfld (R.INTAKE_S_CFG k) 24 3)) 30 = true →
      exec (.beltSample el k true) s = .next (u.carry 22 29 (fun v => v.beltSample true k) fun v => v.beltLost k)) ∧
  (∀ (el : Nat) (x : Bool) (g : Target) (s u : State),
    u = s.begin el → s.Runs 30 → u.stitch.inbox.head? = some (.target g) → g.cancel = false →
      exec (.stitchPlace el x) s = .next (forL (fun n v => v.placeTarget x g n) g.lanes u.takeInbox)) ∧
  (∀ (el : Nat) (x : Bool) (g : Target) (s u : State),
    u = s.begin el → s.Runs 30 → u.stitch.inbox.head? = some (.target g) → g.cancel = true →
      exec (.stitchCancel el x) s = .next (forL (fun n v => v.cancelLane x g n) g.lanes u.takeInbox)) ∧
  (∀ (el : Nat) (x : Bool) (tag : Nat) (lanes : List Nat) (arr : Int) (raw : Bool) (s u : State),
    u = s.begin el → s.Runs 30 → u.stitch.inbox.head? = some (.sectAct true tag lanes arr raw) →
      exec (.sectionOn el x) s = .next (forL (fun n v => v.sectOn x tag arr raw n) lanes u.takeInbox)) ∧
  (∀ (el : Nat) (x : Bool) (tag : Nat) (lanes : List Nat) (arr : Int) (raw : Bool) (s u : State),
    u = s.begin el → s.Runs 30 → u.stitch.inbox.head? = some (.sectAct false tag lanes arr raw) →
      exec (.sectionOff el x) s = .next (forL (fun n v => v.sectOff x arr raw n) lanes u.takeInbox)) ∧
  (∀ (el : Nat) (x : Bool) (n d : Nat) (s u : State),
    u = s.begin el → s.Runs 30 → u.stitch.inbox.head? = some (.duty n d) →
      exec (.dutyUpdate el x) s = .next
        ({ u.takeInbox with stitch := { u.takeInbox.stitch with duty := Tab.set (fun _ => 0) u.takeInbox.stitch.duty n d } }.pwmResume
        x n)) ∧
  (∀ (el : Nat) (x : Bool) (n key : Nat) (iv : Option (Int × Int)) (s u : State),
    u = s.begin el → s.Runs 30 → u.stitch.inbox.head? = some (.respot n key iv) →
      exec (.spotRetime el x) s = .next (u.takeInbox.respot x n key iv)) ∧
  (∀ (el : Nat) (n : Fin 160) (x : Bool) (l : Nat) (v : State) (s u : State),
    u = s.begin el → s.Runs 30 → (v =
      { u with stitch := { u.stitch with changed := u.stitch.changed.filter fun q => q != n } }) →
      v.logicalOf n = some l →
      exec (.latencyRecompute el n x) s = .next ((v.recomputeLane x l).after x l)) ∧
  (∀ (el : Nat) (n : Fin 160) (hurt : List (Nat × Nat)) (x : Bool) (p : Nat) (e : Entry) (v : State) (s u : State),
    u = s.begin el → s.Runs 30 → v = (u.upset hurt).sift n → v.physOf n = some p →
      v.stitch.changed.contains p = false → (v.cal n).head? = some e → e.held = false → e.opn - 10000 ≤ v.dtI →
      v.commitTurn n e = true →
      exec (.stitchCommit el n hurt x) s = .next (((v.setCal n (v.cal n).tail).commit x n e).after x n)) ∧
  (∀ (el : Nat) (k : Fin 4) (x : Bool) (s u : State),
    u = s.begin el → s.Runs 30 → u.beltValid k = true →
      exec (.stitchRetimeBelt el k x) s = .next (forL (fun n v => v.retimeLane x k n) (List.range 160) u)) ∧
  (∀ (el : Nat) (s u : State),
    u = s.begin el → s.Runs 31 → u.gnd.fused = true → ((u.gnd.have_ = false ∨ u.reckoned.t + 1000000 ≤ u.dt)) →
      exec (.fusedDrTick el) s = .next u.deadReckon) ∧
  (∀ (el : Nat) (x : Fix) (r : List Fix) (s u : State),
    u = s.begin el → s.Runs 31 → u.gnd.fixes = x :: r →
      exec (.fusedFix el) s = .next ((u.setGnd { u.gnd with fixes := r }).takeFix x)) ∧
  (∀ (el : Nat) (s u : State),
    u = s.begin el → s.Runs 31 → u.gnd.fused = true → u.gnd.lastFix + 1000000000 ≤ u.now →
      exec (.drOnlyTimeout el) s = .next ((u.setBit R.GND_STAT 3 true).setBit R.GND_STAT 1 false)) ∧
  (∀ (el : Nat) (s u : State),
    u = s.begin el → s.Runs 31 → u.gnd.fused = true → u.gnd.lastFix + (u.reg R.GND_DR_MAX).toNat * 1000000 ≤ u.now →
      exec (.drMaxExpiry el) s = .next ((u.setBit R.GND_STAT 0 false).setGnd
        { (u.setBit R.GND_STAT 0 false).gnd with drOver := true })) ∧
  (∀ (el : Nat) (s u : State),
    u = s.begin el → s.Runs 31 → u.gnd.have_ = true → u.dt % 1000000 = 0 →
      exec (.historyTick el) s = .next (u.setGnd
        { u.gnd with hist := (u.reckoned.at u.dt :: u.gnd.hist).take 1024 })) ∧
  (∀ (el : Nat) (bad : List (Fin 160)) (s u : State),
    u = s.begin el → s.Runs 31 → u.rbit R.GND_CTRL 0 = true → u.periodStart = true → u.gnd.passEnd ≤ (u.now : Int) →
      exec (.evalPass el bad) s = .next (u.evalPass (bad.map Fin.val))) ∧
  (∀ (el : Nat) (s u : State),
    u = s.begin el → s.Runs 31 → u.rbit R.GND_CTRL 0 = true → u.periodStart = true → (u.now : Int) < u.gnd.passEnd →
      exec (.evalPeriodSkipped el) s = .next (((u.count R.GND_OVERRUN 1).event R.GND_IRQ_STAT gOverrun).setGnd
        { u.gnd with period := some u.now })) ∧
  (∀ (el : Nat) (e : GndEvent) (r : List GndEvent) (s u : State),
    u = s.begin el → s.Runs 31 → u.gnd.queue = e :: r → (∀ a, u.gnd.takenAt = some a → a + 1000 ≤ u.now) →
      exec (.spotEventTake el) s = .next ((u.setGnd { u.gnd with queue := r, takenAt := some u.now }).takeEvent e))
        ∧
  (∀ (el : Nat) (n : Fin 65536) (s u : State),
    u = s.begin el → s.Runs 31 →
      exec (.blockWriteback el n) s = .next (u.writeBack n)) ∧
  (∀ (el : Nat) (s u : State),
    u = s.begin el → s.Runs 31 → u.paging = true → u.evict.paging = true → u.evict.gnd.ready = false →
      u.evict.leaving = [] →
      exec (.pageReady el) s = .next ((u.evict.event R.GND_IRQ_STAT gPageReady).setGnd
        { u.evict.gnd with ready := true }))

/-- Under the conditions that the rules give, each row of an axis or a motion tile ends in the state its rule names:
  an update of the profile, a step pulse, a microstep, the chopper, the change to the hold current, over-current, an
  open phase, supply and temperature, and the command bits. (08_motion_axes.md, R324–R332, 08_motion_axes.md,
  R339–R341, R346, 08_motion_axes.md, R348, R354, R357, R360, R361, 13_host_ports.md, R519, R521) -/
def Obligations.MotionRowsComplete : Prop :=
  (∀ (el : Nat) (a : Fin 8) (ok : Bool) (d : BitVec 16) (v : State) (s u : State),
    u = s.begin el → s.Runs (axisIsland a) → u.localDt (axisIsland a) % 10000 = 0 → (u.axis a).upAt = none →
      (v = ((u.updAxis a fun q => { q with upAt := some (u.localDt (axisIsland a)) }).axStopNow a).setFld (R.AX_STAT
      a) 0 2 (u.rfld (R.AX_CTRL a) 0 2)) →
      exec (.profileUpdate el a ok d) s = .next ((((v.generate a d.toInt).axShow a).deviation a ok).motionSearch a))
        ∧
  (∀ (el : Nat) (a : Fin 8) (t : Nat) (s u : State),
    u = s.begin el → s.Runs (axisIsland a) → (u.axis a).still = some t →
      t + u.rfld (R.AX_HOLD_DELAY a) 0 16 * 1000000 ≤ u.now → u.rbit (R.AX_STAT a) asHoldCurrent = false →
      exec (.holdCurrentSwitch el a) s = .next (u.holdCurrent a true)) ∧
  (∀ (el : Nat) (a : Fin 8) (pos : Bool) (d : BitVec 16) (v : State) (s u : State),
    u = s.begin el → s.Runs (axisIsland a) → u.axMode a = 2 → (u.axis a).edgeAt = none →
      (v = u.updAxis a fun q => { q with edgeAt := some u.now }) → v.rbit (R.AX_STAT a) asHeld = false →
      v.axIdle a = false →
      exec (.stepPulse el a pos d) s = .next (v.coarse a (if pos then 256 / 2 ^ v.rfld (R.AX_CTRL a) 8 3 else -(256
        / 2 ^ v.rfld (R.AX_CTRL a) 8 3)) d.toInt)) ∧
  (∀ (el : Nat) (a : Fin 8) (d : BitVec 16) (q : AxisSt) (s u : State),
    u = s.begin el → s.Runs (axisIsland a) → q = u.axis a → q.left ≠ 0 →
      q.stepT + (q.stepN - q.left.natAbs) * (q.per.getD 0 * 10) / q.stepN ≤ u.now →
      exec (.microstepEmit el a d) s = .next ((u.updAxis a fun x => { x with left := x.left - x.left.sign }).micro a
        q.left.sign d.toInt)) ∧
  (∀ (el : Nat) (a : Fin 8) (b : Bool) (i : BitVec 16) (c : Chop) (s u : State),
    u = s.begin el → s.Runs (axisIsland a) → u.bridgesOn a = true →
      (c = (if b then (u.axis a).chopB else (u.axis a).chopA)) → c.drive = true → c.since + 500 ≤ u.now →
      (u.phaseTarget a b).natAbs ≤ i.toInt.natAbs → ((u.phaseTarget a b = 0 ∨ i.toInt.sign = (u.phaseTarget a
      b).sign)) →
      exec (.phaseChopCycle el a b i) s = .next (u.setAxis a (if b then
        { u.axis a with chopB := ⟨false, u.now, i.toInt⟩ } else
        { u.axis a with chopA := ⟨false, u.now, i.toInt⟩ }))) ∧
  (∀ (el : Nat) (a : Fin 8) (b : Bool) (i : BitVec 16) (c : Chop) (s u : State),
    u = s.begin el → s.Runs (axisIsland a) → u.bridgesOn a = true →
      (c = (if b then (u.axis a).chopB else (u.axis a).chopA)) → c.drive = false →
      c.since + u.rfld (R.AX_CHOP a) 16 16 * 10 ≤ u.now → i.toInt.natAbs < (u.phaseTarget a b).natAbs →
      exec (.phaseChopCycle el a b i) s = .next (u.setAxis a (if b then
        { u.axis a with chopB := ⟨true, u.now, i.toInt⟩ } else
        { u.axis a with chopA := ⟨true, u.now, i.toInt⟩, ramp := min 16 ((u.axis a).ramp + 1) }))) ∧
  (∀ (el : Nat) (a : Fin 8) (b : Bool) (i : BitVec 16) (s u : State),
    u = s.begin el → s.Runs (axisIsland a) → u.bridgesOn a = false →
      exec (.phaseChopCycle el a b i) s = .next (u.setAxis a (if b then
        { u.axis a with chopB := ⟨false, u.now, i.toInt⟩ } else
        { u.axis a with chopA := ⟨false, u.now, i.toInt⟩ }))) ∧
  (∀ (el : Nat) (a : Fin 8) (s u : State),
    u = s.begin el → s.Runs (axisIsland a) →
      exec (.axisOc el a) s = .next ((((u.event (R.AX_EVENT a) aeOc).setBit (R.AX_STAT a) asOcLatched true).axStop
        a).fault srcAxisOc a 0)) ∧
  (∀ (el : Nat) (a : Fin 8) (b : Bool) (s u : State),
    u = s.begin el → s.Runs (axisIsland a) → 200 ≤ (u.phaseTarget a b).natAbs →
      exec (.axisOpen el a b) s = .next ((u.event (R.AX_EVENT a) (if b then aeOpenB else aeOpenA)).fault srcAxisOpen
        a (wordN (b2n b)))) ∧
  (∀ (el : Nat) (a : Fin 8) (vm : BitVec 16) (v : State) (s u : State),
    u = s.begin el → s.Runs (axisIsland a) → v = u.setReg (R.MOT_VM (a / 4)) (vm.setWidth 32) → vm.toNat < 7000 →
      v.rbit (R.AX_STAT a) asVmUv = false →
      exec (.axisVmUv el a vm) s = .next ((((v.event (R.AX_EVENT a) aeVmUv).setBit (R.AX_STAT a) asVmUv true).axStop
        a).fault srcAxisVmUv a 0)) ∧
  (∀ (el : Nat) (a : Fin 8) (vm : BitVec 16) (s u : State),
    u = s.begin el → s.Runs (axisIsland a) → 7500 < vm.toNat →
      exec (.vmRecover el a vm) s = .next ((u.setReg (R.MOT_VM (a / 4)) (vm.setWidth 32)).setBit (R.AX_STAT a)
        asVmUv false)) ∧
  (∀ (el : Nat) (t : Fin 2) (temp : BitVec 16) (v : State) (s u : State),
    u = s.begin el → s.Runs (20 + t.val) → v = u.setReg (R.MOT_TEMP t) (temp.setWidth 32) → 1360 ≤ temp.toInt →
      v.rbit (R.MOT_STAT t) 0 = false →
      exec (.motionOt el t temp) s = .next ((forL (fun a w => w.axStop a) (tileAxes t) (v.setBit (R.MOT_STAT t) 0
        true)).fault srcMotionOt t 0)) ∧
  (∀ (el : Nat) (p : Port) (t : Fin 2) (temp : BitVec 16) (v : State) (s u : State),
    u = s.begin el → v = u.setReg (R.MOT_TEMP t) (temp.setWidth 32) → v.Takes p (R.MOT_CMD t) →
      exec (.motOtClear el p t temp) s = .next ((motCmd t 2 (v.storeAt p (R.MOT_CMD t) 2)).send (.wrote p (R.MOT_CMD
        t) 0))) ∧
  (∀ (el : Nat) (p : Port) (t : Fin 2) (s u : State),
    u = s.begin el → s.Takes p (R.MOT_CMD t) →
      exec (.motCntClear el p t) s = .next (((u.storeAt p (R.MOT_CMD t) 1).clearRegs (motCounters t)).send (.wrote p
        (R.MOT_CMD t) 0))) ∧
  (∀ (el : Nat) (p : Port) (a : Fin 8) (s u : State),
    u = s.begin el → s.Takes p (R.AX_CMD a) →
      exec (.axStop el p a) s = .next ((axCmd a 1 (u.storeAt p (R.AX_CMD a) 1)).send (.wrote p (R.AX_CMD a) 0))) ∧
  (∀ (el : Nat) (p : Port) (a : Fin 8) (s u : State),
    u = s.begin el → s.Takes p (R.AX_CMD a) →
      exec (.axHold el p a) s = .next ((axCmd a 2 (u.storeAt p (R.AX_CMD a) 2)).send (.wrote p (R.AX_CMD a) 0))) ∧
  (∀ (el : Nat) (p : Port) (a : Fin 8) (s u : State),
    u = s.begin el → s.Takes p (R.AX_CMD a) →
      exec (.axRelease el p a) s = .next ((axCmd a 4 (u.storeAt p (R.AX_CMD a) 4)).send (.wrote p (R.AX_CMD a) 0)))
        ∧
  (∀ (el : Nat) (p : Port) (a : Fin 8) (s u : State),
    u = s.begin el → s.Takes p (R.AX_CMD a) →
      exec (.encSync el p a) s = .next ((axCmd a 8 (u.storeAt p (R.AX_CMD a) 8)).send (.wrote p (R.AX_CMD a) 0))) ∧
  (∀ (el : Nat) (p : Port) (a : Fin 8) (s u : State),
    u = s.begin el → s.Takes p (R.AX_CMD a) →
      exec (.setActual el p a) s = .next ((axCmd a 16 (u.storeAt p (R.AX_CMD a) 16)).send (.wrote p (R.AX_CMD a)
        0)))

/-- Under the conditions that the rules give, each row of the encoder channels, serial ports, probes and compare
  units ends in the state its rule names, and each of their commands does what its bit says.
  (09_position_feedback.md, R362–R374, 09_position_feedback.md, R375–R386, 09_position_feedback.md, R390–R397,
  13_host_ports.md, R519, R521) -/
def Obligations.FeedbackRowsComplete : Prop :=
  (∀ (el : Nat) (k : Fin 8) (n : Nat) (la lb : Bool) (s u : State),
    u = s.begin el → s.Runs 22 → u.rfld (R.ENC_CFG k) 0 6 < n → u.rbit (R.ENC_CFG k) 12 = true →
      ((u.enc k).la != la) = true → ((u.enc k).lb != lb) = false →
      exec (.encoderEdge el k n la lb) s = .next ((u.setEnc k { u.enc k with la := la, lb := lb }).encCount k ((la
        != lb) != u.rbit (R.ENC_CFG k) 10) (u.sampleAt n))) ∧
  (∀ (el : Nat) (k : Fin 8) (t : Nat) (s u : State),
    u = s.begin el → s.Runs 22 → (u.enc k).rateAt = some t → t + 1000000 ≤ u.now →
      exec (.encRateRecover el k) s = .next ((u.setEnc k { u.enc k with rateAt := none }).encShow k)) ∧
  (∀ (el : Nat) (k : Fin 8) (n : Nat) (v : State) (s u : State),
    u = s.begin el → s.Runs 22 → (u.enc k).lz = false → u.rfld (R.ENC_CFG k) 0 6 < n →
      v = ((u.setEnc k { u.enc k with lz := true }).setReg48 (R.ENC_INDEX_LO k) (u.posAt k (u.sampleAt n))).event
      (R.ENC_EVENT k) eeIndex →
      exec (.indexEdge ⟨el, (n, true)⟩ k) s = .next (if v.rbit (R.ENC_CFG k) 11 && v.rbit (R.ENC_STAT k) esArmed
        then (v.setBit (R.ENC_STAT k) esArmed false).encLoad k 0 (u.sampleAt n) else v)) ∧
  (∀ (el : Nat) (k : Fin 8) (s u : State),
    u = s.begin el → s.Runs 22 → u.rbit (R.ENC_CFG k) 8 = false → u.rbit (R.ENC_STAT k) esBreak = false →
      exec (.encBreak el k) s = .next ((((u.setBit (R.ENC_STAT k) esBreak true).event (R.ENC_EVENT k)
        eeBreak).encShow k).fault srcEncBreak k 0)) ∧
  (∀ (el : Nat) (k : Fin 8) (s u : State),
    u = s.begin el → s.Runs 22 →
      exec (.encBreakClear el k) s = .next ((u.setBit (R.ENC_STAT k) esBreak false).encShow k)) ∧
  (∀ (el : Nat) (k : Fin 8) (w : Nat) (t0 r0 : Int) (v : State) (s u : State),
    u = s.begin el → s.Runs 22 → w = u.rfld (R.ENC_CFG k) 15 17 → u.fbDt % (w * 1000 : Nat) = 0 →
      (u.enc k).win = some (t0, w, r0) → t0 + (w * 1000 : Nat) = u.fbDt →
      v = u.setRegI (R.ENC_SPEED k) (roundDiv (wrap48 (u.encRaw k - r0) * 1000000) w) →
      exec (.speedWindowEnd el k) s = .next (v.setEnc k { v.enc k with win := some (u.fbDt, w, u.encRaw k) })) ∧
  (∀ (el : Nat) (p : Port) (k : Fin 8) (s u : State),
    u = s.begin el → s.Takes p (R.ENC_CMD k) →
      exec (.encLoad el p k) s = .next ((encCmd k 1 (u.storeAt p (R.ENC_CMD k) 1)).send (.wrote p (R.ENC_CMD k) 0)))
        ∧
  (∀ (el : Nat) (p : Port) (k : Fin 8) (s u : State),
    u = s.begin el → s.Takes p (R.ENC_CMD k) →
      exec (.indexArm el p k) s = .next (((u.storeAt p (R.ENC_CMD k) 2).setBit (R.ENC_STAT k) esArmed true).send
        (.wrote p (R.ENC_CMD k) 0))) ∧
  (∀ (el : Nat) (k : Fin 4) (s u : State),
    u = s.begin el → s.Runs 22 → u.rfld (R.Q_CFG k) 0 2 ≠ 0 → u.fbDt % (u.rfld (R.Q_CFG k) 16 16 * 1000 : Nat) = 0 →
      (u.ser k).frame = none →
      exec (.serialFrameStart el k) s = .next (u.setSer k { u.ser k with frame := some u.fbDt.toNat })) ∧
  (∀ (el : Nat) (k : Fin 4) (bits data : List Bool) (t0 i : Nat) (s u : State),
    u = s.begin el → s.Runs 22 → (u.ser k).frame = some t0 → u.serHead k bits = some (i, data) →
      u.serBits k ≤ data.length → (t0 : Int) + u.maTime k bits.length ≤ u.fbDt → u.maTime k i ≤ u.serLimit k →
      u.fbDt ≤ (t0 + u.maTime k bits.length + u.serLimit k : Nat) →
      exec (.serialFrameEnd el k bits) s = .next ((u.setSer k { u.ser k with frame := none }).serTake k t0 data)) ∧
  (∀ (el : Nat) (k : Fin 4) (bits : List Bool) (t0 e : Nat) (s u : State),
    u = s.begin el → s.Runs 22 → (u.ser k).frame = some t0 → u.serDue k t0 bits = some e → (e : Int) ≤ u.fbDt →
      exec (.serialTimeout ⟨el, bits⟩ k) s = .next (((u.setSer k { u.ser k with frame := none }).serWarn k
        false).serFail k 1)) ∧
  (∀ (el : Nat) (p : Fin 8) (n : Nat) (v : State) (s u : State),
    u = s.begin el → s.Runs 22 → u.rbit (R.PRB_STAT p) psLevel = false → u.rfld (R.PRB_CFG p) 0 6 < n →
      v = (u.setBit (R.PRB_STAT p) psLevel true).setProbe p { u.probe p with since := u.now } →
      v.prbActive p true = true → v.prbArmed p = true → v.rfld (R.PRB_CFG p) 10 2 = 0 →
      exec (.probeEdge el p n true) s = .next (v.capture p true (v.sampleAt n))) ∧
  (∀ (el : Nat) (p : Fin 8) (s u : State),
    u = s.begin el → s.Runs 22 → u.rfld (R.PRB_CFG p) 16 16 ≠ 0 →
      u.prbActive p (u.rbit (R.PRB_STAT p) psLevel) = true → u.rbit (R.PRB_STAT p) psStuck = false →
      (u.probe p).since + u.rfld (R.PRB_CFG p) 16 16 * 1000 ≤ u.now →
      exec (.probeStuck el p) s = .next (((u.setBit (R.PRB_STAT p) psStuck true).event (R.PRB_EVENT p)
        peStuck).fault srcProbeStuck p 0)) ∧
  (∀ (el : Nat) (p : Port) (k : Fin 8) (s u : State),
    u = s.begin el → s.Takes p (R.PRB_CMD k) →
      exec (.probeArm el p k) s = .next ((((u.storeAt p (R.PRB_CMD k) 2).setBit (R.PRB_STAT k) psArmed true).prbShow
        k).send (.wrote p (R.PRB_CMD k) 0))) ∧
  (∀ (el : Nat) (p : Port) (k : Fin 8) (s u : State),
    u = s.begin el → s.Takes p (R.PRB_CMD k) →
      exec (.probePop el p k) s = .next ((((u.storeAt p (R.PRB_CMD k) 1).setProbe k
        { (u.storeAt p (R.PRB_CMD k) 1).probe k with fifo := ((u.storeAt p (R.PRB_CMD k) 1).probe k).fifo.tail }).prbShow
        k).send (.wrote p (R.PRB_CMD k) 0))) ∧
  (∀ (el : Nat) (p : Port) (k : Fin 8) (s u : State),
    u = s.begin el → s.Gives p (R.PRB_CAP_INFO k) →
      exec (.probeCapRead el p k) s = .next ((prbRead k u).2.send (.read p (R.PRB_CAP_INFO k) (prbRead k u).1 0))) ∧
  (∀ (el : Nat) (p : Port) (c : Fin 8) (v w : Word) (s u : State),
    u = s.begin el → s.Takes p (R.CMP_VAL_HI c) → w = extHi 0x410000 0xC14 v →
      exec (.cmpValWrite el p c v) s = .next (((u.storeAt p (R.CMP_VAL_HI c) w).cmpWritten c).send (.wrote p
        (R.CMP_VAL_HI c) 0))) ∧
  (∀ (el : Nat) (p : Port) (c : Fin 8) (v : Word) (s u : State),
    u = s.begin el → s.Takes p (R.CMP_CFG c) →
      exec (.cmpCfgWrite el p c v) s = .next (((u.storeAt p (R.CMP_CFG c) v).cmpWritten c).send (.wrote p (R.CMP_CFG
        c) 0))) ∧
  (∀ (el : Nat) (c : Fin 8) (e : Nat) (s u : State),
    u = s.begin el → s.Runs 22 → u.pulseEnd c = some e → e ≤ u.now →
      (u.setPulse c none).rbit (R.CMP_STAT c) csFailsafe = false →
      exec (.cmpPulseEnd el c) s = .next ((u.setPulse c none).setBit (R.CMP_STAT c) csPin false)) ∧
  (∀ (el : Nat) (p : Port) (s u : State),
    u = s.begin el → s.Takes p R.FB_CMD →
      exec (.fbCntClear el p) s = .next (((u.storeAt p R.FB_CMD 1).clearRegs fbCounters).send (.wrote p R.FB_CMD
        0)))

/-- Under the conditions that the rules give, each row of a switch channel, a cluster or the supply of the switches
  ends in the state its rule names, and each of their commands does what its bit says. (10_load_switches.md,
  R400–R404, 10_load_switches.md, R407–R418, 10_load_switches.md, R419–R423, R431, 13_host_ports.md, R519, R521) -/
def Obligations.SwitchRowsComplete : Prop :=
  (∀ (el : Nat) (p : Port) (h : Fin 24) (s u : State),
    u = s.begin el → s.Takes p (R.SW_CH_CTRL h) →
      exec (.switchOn el p h) s = .next (((u.storeAt p (R.SW_CH_CTRL h) 1).swCtrlWritten h (u.rbit (R.SW_CH_CTRL h)
        0)).send (.wrote p (R.SW_CH_CTRL h) 0))) ∧
  (∀ (el : Nat) (p : Port) (h : Fin 24) (s u : State),
    u = s.begin el → s.Takes p (R.SW_CH_CTRL h) →
      exec (.switchOff el p h) s = .next (((u.storeAt p (R.SW_CH_CTRL h) 0).swCtrlWritten h (u.rbit (R.SW_CH_CTRL h)
        0)).send (.wrote p (R.SW_CH_CTRL h) 0))) ∧
  (∀ (el : Nat) (h : Fin 24) (draw : Nat) (mean : BitVec 16) (e : Nat) (v : State) (s u : State),
    u = s.begin el → s.Runs (swIsland h) → (u.swch h).inrush = some e → e ≤ u.now →
      (v = (((u.setChBit h hsInrush false).setChBit h hsLimit false).updSwch h fun c =>
      { c with inrush := none }).swMeasure h draw mean) →
      exec (.inrushEnd el h draw mean) s = .next (if v.swLimitMa h < draw then v.swLimit h else v)) ∧
  (∀ (el : Nat) (h : Fin 24) (draw : Nat) (mean : BitVec 16) (v : State) (s u : State),
    u = s.begin el → s.Runs (swIsland h) → v = u.swMeasure h draw mean → v.chBit h hsOutOn = true →
      v.swLimitMa h < draw → v.chBit h hsLimit = false → v.chBit h hsInrush = false →
      exec (.limitEnter el h draw mean) s = .next (v.swLimit h)) ∧
  (∀ (el : Nat) (h : Fin 24) (b : Nat) (s u : State),
    u = s.begin el → s.Runs (swIsland h) → (u.swch h).lim = some b →
      b + u.rfld (R.SW_CH_TIME h) 16 16 * 10000 ≤ u.now →
      exec (.limitTimeout el h) s = .next (u.swTrip h .oc)) ∧
  (∀ (el : Nat) (h : Fin 24) (s u : State),
    u = s.begin el →
      exec (.fastTrip el h) s = .next (u.swHardTrip h .oc)) ∧
  (∀ (el : Nat) (h : Fin 24) (temp : BitVec 16) (s u : State),
    u = s.begin el → 1320 ≤ temp.toInt → s.Runs (swIsland h) →
      exec (.channelOt el h temp) s = .next ((u.swTemp h temp).swHardTrip h .ot)) ∧
  (∀ (el : Nat) (h : Fin 24) (e : Nat) (s u : State),
    u = s.begin el → s.Runs (swIsland h) → (u.swch h).pause = some e → e ≤ u.now →
      exec (.pauseEnd el h) s = .next ((u.swEndPause h).swTryOn h)) ∧
  (∀ (el : Nat) (h : Fin 24) (temp : BitVec 16) (s u : State),
    u = s.begin el → s.Runs (swIsland h) →
      exec (.channelRestart el h temp) s = .next ((u.swTemp h temp).swTryOn h)) ∧
  (∀ (el : Nat) (h : Fin 24) (temp : BitVec 16) (s u : State),
    u = s.begin el → s.Runs (swIsland h) →
      exec (.switchHotChange el h temp) s = .next ((u.swTemp h temp).swTryOn h)) ∧
  (∀ (el : Nat) (h : Fin 24) (s u : State),
    u = s.begin el → s.Runs (swIsland h) → u.chBit h hsOutOn = true →
      (u.swch h).onAt + u.rfld (R.SW_CH_RETRY h) 16 16 * 1000000 ≤ u.now →
      exec (.triesClear el h) s = .next (u.setFld (R.SW_CH_STAT h) 0 4 0)) ∧
  (∀ (el : Nat) (p : Port) (h : Fin 24) (s u : State),
    u = s.begin el → s.Takes p (R.SW_CH_CMD h) →
      exec (.clrRetry el p h) s = .next ((((((u.storeAt p (R.SW_CH_CMD h) 1).setChBit h hsRetryLatched false).setFld
        (R.SW_CH_STAT h) 0 4 0).swEndPause h).swTryOn h).send (.wrote p (R.SW_CH_CMD h) 0))) ∧
  (∀ (el : Nat) (p : Port) (h : Fin 24) (temp : BitVec 16) (v : State) (s u : State),
    u = s.begin el → s.Runs (swIsland h) → v = u.swTemp h temp → v.Takes p (R.SW_CH_CMD h) →
      exec (.clrTh el p h temp) s = .next ((swChCmd h 2 (v.storeAt p (R.SW_CH_CMD h) 2)).send (.wrote p (R.SW_CH_CMD
        h) 0))) ∧
  (∀ (el : Nat) (k : Fin 6) (temp : BitVec 16) (v w : State) (s u : State),
    u = s.begin el → s.Runs (23 + k) → v = u.setFld (R.SW_CL_TEMP k) 0 16 temp.toNat →
      (v.rfld (R.SW_CL_CFG k) 0 16 : Int) ≤ temp.toInt → v.rbit (R.SW_CL_STAT k) 31 = false →
      w = (((v.setBit (R.SW_CL_STAT k) 31 true).event (R.SW_CL_EVENT k) 0).count (R.SW_CL_OT_CNT k) 1).fault
      srcClusterOt k 0 →
      exec (.clusterOt el k temp) s = .next (forL (fun h x => if x.chBit h hsLimit && !x.chBit h hsInrush then
        x.swTrip h .cl else x) (clChannels k) w)) ∧
  (∀ (el : Nat) (k : Fin 6) (temp : BitVec 16) (v : State) (s u : State),
    u = s.begin el → s.Runs (23 + k) → v = u.setFld (R.SW_CL_TEMP k) 0 16 temp.toNat →
      temp.toInt < (v.rfld (R.SW_CL_CFG k) 0 16 : Int) - 80 →
      exec (.clusterOtClear el k temp) s = .next (v.setBit (R.SW_CL_STAT k) 31 false)) ∧
  (∀ (el : Nat) (h : Fin 24) (i : Word) (v : State) (s u : State),
    u = s.begin el → s.Runs (swIsland h) → v = u.swCurrent h i → fld i 0 16 < fld (v.reg (R.SW_CH_OPEN h)) 0 16 →
      v.chBit h hsOutOn = true → v.chBit h hsInrush = false → v.chBit h hsOpenOn = false →
      (v.swch h).winEnd + fld (v.reg (R.SW_CH_OPEN h)) 16 16 * 1000000 ≤ v.now →
      exec (.switchOpenOn el h i) s = .next ((((v.setChBit h hsOpenOn true).event (R.SW_CH_EVENT h) heOpenOn).count
        (R.SW_CH_OPEN_CNT h) 1).fault srcSwitchOpen h 0)) ∧
  (∀ (el : Nat) (h : Fin 24) (x : BitVec 16) (v : State) (s u : State),
    u = s.begin el → s.Runs (swIsland h) → v = u.swVout h x → 2000 ≤ x.toInt → x.toInt ≤ 4000 →
      v.chBit h hsOutOn = false → v.rbit (R.SW_CH_CFG h) 1 = true → v.chBit h hsOpenOff = false →
      (v.swch h).offAt + 10000000 ≤ v.now →
      exec (.switchOpenOff el h x) s = .next ((((v.setChBit h hsOpenOff true).event (R.SW_CH_EVENT h)
        heOpenOff).count (R.SW_CH_OPEN_CNT h) 1).fault srcSwitchOpen h 1)) ∧
  (∀ (el : Nat) (h : Fin 24) (i : Word) (v : State) (s u : State),
    u = s.begin el → s.Runs (swIsland h) → v = u.swCurrent h i → v.chBit h hsOutOn = false →
      v.swSupplyHeld h = false → (v.swch h).stuck = false → (v.swch h).offAt + 1000000 ≤ v.now → 100 < fld i 0 16 →
      exec (.switchStuck el h i) s = .next (((v.updSwch h fun q => { q with stuck := true }).event (R.SW_CH_EVENT h)
        heStuckOn).fault srcSwitchStuck h 0)) ∧
  (∀ (el : Nat) (h : Fin 24) (x : BitVec 16) (i : Word) (v : State) (s u : State),
    u = s.begin el → s.Runs (swIsland h) → v = (u.swVout h x).swCurrent h i → v.chBit h hsOutOn = false →
      (v.swch h).short = false → (v.swch h).offAt + 1000000 ≤ v.now → 4000 < x.toInt → fld i 0 16 < 100 →
      exec (.switchShortVbat el h x i) s = .next (((v.updSwch h fun q => { q with short := true }).event
        (R.SW_CH_EVENT h) heShortVbat).fault srcSwitchShortVbat h 0)) ∧
  (∀ (el : Nat) (v : Int) (w : State) (s u : State),
    u = s.begin el → v < 4500 → w = u.swVbat v → w.sw.uv = false →
      exec (.vbatUv el v) s = .next ((({ w with sw := { w.sw with uv := true } }).swAllOff).swEvent siUv)) ∧
  (∀ (el : Nat) (v : Int) (w : State) (s u : State),
    u = s.begin el → 5000 < v → w = u.swVbat v →
      exec (.vbatUvRecover el v) s = .next ({ w with sw := { w.sw with uv := false } }.swAllRestore)) ∧
  (∀ (el : Nat) (v : Int) (w : State) (s u : State),
    u = s.begin el → -32000 ≤ v → v ≤ -1000 → w = u.swVbat v →
      exec (.reverseBattery el v) s = .next ({ w with sw := { w.sw with rev := true } }.swAllOff)) ∧
  (∀ (el : Nat) (v : Int) (w : State) (s u : State),
    u = s.begin el → 6000 < v → u.sw.rev = true → w = u.swVbat v →
      exec (.reverseEnd el v) s = .next ((({ w with sw := { w.sw with rev := false, uv := false } }).swEvent
        siReverse).swAllRestore)) ∧
  (∀ (el : Nat) (v : Int) (s u : State),
    u = s.begin el → 36000 < v →
      exec (.overvolt el v) s = .next ((u.swVbat v).swEvent siOvervolt)) ∧
  (∀ (el : Nat) (p : Port) (s u : State),
    u = s.begin el → s.Takes p R.SW_CMD →
      exec (.swCntClear el p) s = .next ((forL (fun k t => t.onIsland (23 + k) fun v => v.clearRegs (swCounters k))
        (List.range 6) (u.storeAt p R.SW_CMD 1)).send (.wrote p R.SW_CMD 0)))

/-- Under the conditions that the rules give, each row of the antenna, the aids, the tracking channels, the
  navigation data and the device time ends in the state its rule names, and each of their commands does what its bit
  says. (11_gnss_and_device_time.md, R432–R440, 11_gnss_and_device_time.md, R443–R453, 11_gnss_and_device_time.md,
  R457–R465, 11_gnss_and_device_time.md, R468–R470, 13_host_ports.md, R519, R521, 17_clocks_power_reset.md, R675) -/
def Obligations.GnssAndTimeRowsComplete : Prop :=
  (∀ (el : Nat) (i : BitVec 16) (s u : State),
    u = s.begin el → s.Runs 33 → u.biasOn = true → 80 < i.toNat →
      exec (.antShort el i) s = .next (((((u.setFld R.GNSS_ANT_STAT 0 16 0).setBit R.GNSS_ANT_STAT 31 true).event
        R.GNSS_IRQ_STAT giAntShort).count R.GNSS_ANT_SHORT_CNT 1).fault srcGnssAntShort 0 0)) ∧
  (∀ (el : Nat) (i : BitVec 16) (s u : State),
    u = s.begin el → s.Runs 33 → u.biasOn = true → i.toNat < 3 →
      exec (.antOpen el i) s = .next (((u.setFld R.GNSS_ANT_STAT 0 16 i.toNat).setBit R.GNSS_ANT_STAT 30 true).event
        R.GNSS_IRQ_STAT giAntOpen)) ∧
  (∀ (el : Nat) (i : BitVec 16) (s u : State),
    u = s.begin el → s.Runs 33 → u.biasOn = true → 3 ≤ i.toNat →
      exec (.antOpenRecover el i) s = .next ((u.setFld R.GNSS_ANT_STAT 0 16 i.toNat).setBit R.GNSS_ANT_STAT 30
        false)) ∧
  (∀ (el : Nat) (p : Port) (s u : State),
    u = s.begin el → s.Takes p R.GNSS_CMD →
      exec (.antClear el p) s = .next ((((u.storeAt p R.GNSS_CMD 16).setBit R.GNSS_ANT_STAT 31 false).biasShow
        ((u.storeAt p R.GNSS_CMD 16)).biasOn).send (.wrote p R.GNSS_CMD 0))) ∧
  (∀ (el : Nat) (p : Port) (s u : State),
    u = s.begin el → s.Takes p R.GNSS_CMD →
      exec (.aidTime el p) s = .next (((u.storeAt p R.GNSS_CMD 1).aidTime).send (.wrote p R.GNSS_CMD 0))) ∧
  (∀ (el : Nat) (p : Port) (s u : State),
    u = s.begin el → s.Takes p R.GNSS_CMD →
      exec (.aidPos el p) s = .next (((u.storeAt p R.GNSS_CMD 2).aidPos).send (.wrote p R.GNSS_CMD 0))) ∧
  (∀ (el : Nat) (p : Port) (iodOk : Bool) (ref : NavRef) (s u : State),
    u = s.begin el → s.Takes p R.GNSS_CMD →
      exec (.aidNavCommit el p iodOk ref) s = .next (((u.storeAt p R.GNSS_CMD 4).aidNav iodOk ref).send (.wrote p
        R.GNSS_CMD 0))) ∧
  (∀ (el : Nat) (p : Port) (s u : State),
    u = s.begin el → s.Takes p R.GNSS_CMD →
      exec (.gnssForget el p) s = .next (((u.storeAt p R.GNSS_CMD 64).updGnss fun g =>
        { g with aids := GnssAids.init, kept := GnssAids.init }).send (.wrote p R.GNSS_CMD 0))) ∧
  (∀ (el : Nat) (p : Port) (s u : State),
    u = s.begin el → s.Takes p R.GNSS_CMD →
      exec (.navPop el p) s = .next ((((u.storeAt p R.GNSS_CMD 8).updGnss fun g =>
        { g with fifo := g.fifo.tail }).navShow).send (.wrote p R.GNSS_CMD 0))) ∧
  (∀ (el : Nat) (p : Port) (s u : State),
    u = s.begin el → s.Takes p R.GNSS_CMD →
      exec (.gnssCntClear el p) s = .next (((u.storeAt p R.GNSS_CMD 32).clearRegs gnssCounters).send (.wrote p
        R.GNSS_CMD 0))) ∧
  (∀ (el : Nat) (s u : State),
    u = s.begin el → u.mssReady = true → u.gnss.keptAt + 600000000000 ≤ u.now →
      exec (.gnssRetain el) s = .next u.gnssRetain) ∧
  (∀ (el : Nat) (sig : Fin 3) (sv : BitVec 8) (elev : Int) (dop off : Nat) (second : Bool) (c : Nat) (v : State) (s
    u : State),
    u = s.begin el → s.Runs 33 → u.gnssSearch = true → ((u.gchans.any fun x => sameSat x.2.sig x.2.sv sig sv.toNat)
      = false) → satOk sig sv.toNat = true → u.sigOn sig = true → u.mayFind sig sv.toNat elev = true →
      u.inSearch sig dop off = true → sig.val ≠ 2 → u.freeChan = some c →
      v = u.assign sig sv.toNat elev second (dop, off) →
      exec (.satelliteAcquired ⟨el, dop, off⟩ sig sv elev second) s = .next (if second && u.rbit R.GNSS_CTRL 4 then
        v.assign (sig + 3) sv.toNat elev second (dop, off) else v)) ∧
  (∀ (el : Nat) (c : Fin 64) (bits : Bool) (q : GnssChan) (s u : State),
    u = s.begin el → s.Runs 33 → u.gchan c = some q →
      exec (.carrierLockLoss el c bits) s = .next (u.setGchan c (some
        { q with lock := q.lock &&& (if bits then 0x31 else 0x3D), slips := (q.slips + 1) % 256, carrierAt := none, lost := q.lost || bits, lossAt := if bits then (u.dt : Int) else q.lossAt })))
        ∧
  (∀ (el : Nat) (ms : List SatMeas) (seq : Nat) (s u : State),
    u = s.begin el → s.Runs 33 → u.gnssRun = true → u.dt % (1000000000 / gnssHz (u.rfld R.GNSS_CTRL 8 3)) = 0 →
      seq = (u.gnss.seq + 1) % 2 ^ 32 →
      ∃ t, exec (.measEpoch el ms) s = .next t ∧
      t.gnss.seq = seq ∧ t.reg R.GNSS_EPOCH_STAT = wordN (u.gnss.seq % 2 * 2 ^ 31 + seq % 2 ^ 31) ∧ t.rbit
        R.GNSS_IRQ_STAT giEpoch = true) ∧
  (∀ (el : Nat) (c : Fin 64) (type : Fin 5) (bits : List Bool) (pass inverted : Bool) (start : Nat) (q : GnssChan)
    (r : List Byte) (w : State) (s u : State),
    u = s.begin el → s.Runs 33 → u.gchan c = some q → u.gnssRun = true → type.val = unitOf q.sig →
      q.lastUnit = none → q.lost = false → q.lossAt ≤ (start : Int) → u.gnss.fifo.length < 256 → pass = true →
      r = leBytes 1 c ++ leBytes 1 type ++ leBytes 1 q.sv ++ leBytes 1 (1 + 4 * b2n inverted) ++ leBytes 2 (navBits
      type) ++ leBytes 2 0 ++ leBytes 8 start ++ bytesOfBits 48 (bits.take (navBits type)) →
      (w = ((u.setGchan c (some { q with lastUnit := some (start : Int) })).updGnss fun g =>
      { g with fifo := g.fifo ++ [r], sbas := g.sbas || type.val == 4 }).navShow) →
      exec (.navUnit el c type bits pass inverted start none) s = .next (if u.gnss.fifo.isEmpty then w.event
        R.GNSS_IRQ_STAT giNav else w)) ∧
  (∀ (el : Nat) (q : NavSol) (s u : State),
    u = s.begin el → s.Runs 33 → u.gnssRun = true → u.rbit R.GNSS_CTRL 6 = true → u.mssReady = true →
      q.epoch ≤ u.dt → solEpoch (gnssHz (u.rfld R.GNSS_CTRL 8 3)) q.epoch = true →
      exec (.navSolution el q) s = .next (u.publish q)) ∧
  (∀ (el : Nat) (k : Fin 3) (e : Int) (s u : State),
    u = s.begin el → s.Runs 32 →
      exec (.dtMeasurement el k e) s = .next (u.dtMeasure k (if k.val = dtPps then e - roundDiv e 1000000000 *
        1000000000 else e))) ∧
  (∀ (el : Nat) (rising : Bool) (frac : BitVec 8) (x : Int) (v w : State) (s u : State),
    u = s.begin el → s.Runs 32 → rising = !u.rbit R.DT_PPS_CFG 16 → v = u.dtDue → v.time.ppsAt = none →
      x = ((v.dt : Int) - v.rsfld R.DT_PPS_CFG 0 16) * 256 + frac.toNat →
      (w = (v.dtGood dtPps 1).updTime fun q => { q with ppsAt := some v.now }) →
      exec (.ppsEdge el rising frac) s = .next (if v.dtQual dtPps || w.dtQual dtPps then w.dtMeasure dtPps (roundDiv
        (x - roundDiv x 256000000000 * 256000000000) 256) else w)) ∧
  (∀ (el : Nat) (k : Fin 3) (v w : State) (s u : State),
    u = s.begin el → s.Runs 32 → v = u.dtDue → v.dtQual k = true →
      (Tab.get (fun _ => 0) v.time.lastGood k + dtTimeout k ≤ v.now) →
      w = (((v.setBit R.DT_STAT (8 + k) false).count R.DT_SRC_LOSS_CNT 1).dtBad k).trimShow → k.val ≠ dtCan →
      w.dtState ≠ dtLocked →
      exec (.dtSourceLoss el k) s = .next w) ∧
  (∀ (el : Nat) (n : Nat) (v : State) (s u : State),
    u = s.begin el → s.Runs 32 → n = (u.reg R.DT_HO_TIME).toNat + 1 → u.dtState = dtHoldover →
      u.time.hoAt + n * 1000000000 ≤ u.now → v = (u.setReg R.DT_HO_TIME (wordN n)).setReg R.DT_FREQ_ADJ (wordI
      (clampI (-1000000) 1000000 (u.time.fint + roundDiv ((u.reg R.DT_AGE_RATE).toInt * n) 100000000))) →
      exec (.holdoverSecond el) s = .next (v.setEst (roundDiv ((u.time.est0 * 2000000000 + (u.reg
        R.DT_HO_FUNC).toNat * n * 2000000 + (u.reg R.DT_HO_AGEUNC).toNat * n * n : Nat) : Int) 2000000000).toNat)) ∧
  (∀ (el : Nat) (i : Fin 2) (v : State) (s u : State),
    u = s.begin el → s.Runs 32 → v = u.dtDue → v.rbit (R.DT_TP_CFG i) 0 = true →
      v.rbit (R.DT_TP_CFG i) (4 + v.dtState) = true → ((v.dt : Int) - (v.reg (R.DT_TP_OFS i)).toInt) % ((v.reg
      (R.DT_TP_PERIOD i)).toNat : Int) = 0 → v.time.stepAt = none →
      exec (.timePulse el i) s = .next (((v.setReg64 (R.DT_TP_LAST_LO i) v.dt).setReg (R.DT_TP_SEQ i) (wordN (satN
        31 (v.rfld (R.DT_TP_SEQ i) 0 31 + 1)))).updTime fun q =>
        { q with pulses := Tab.set (fun _ => none) q.pulses i (some (v.now + (v.reg (R.DT_TP_WIDTH i)).toNat)) })) ∧
  (∀ (el : Nat) (p : Port) (s u : State),
    u = s.begin el → s.Takes p R.DT_CMD →
      exec (.dtModelClear el p) s = .next ((dtCmd 2 (u.storeAt p R.DT_CMD 2)).send (.wrote p R.DT_CMD 0))) ∧
  (∀ (el : Nat) (p : Port) (s u : State),
    u = s.begin el → s.Takes p R.DT_CMD →
      exec (.dtCntClear el p) s = .next (((((u.storeAt p R.DT_CMD 1).clearRegs [R.DT_STEP_CNT,
        R.DT_SRC_LOSS_CNT]).setFld (R.DT_TP_SEQ 0) 0 31 0).setFld (R.DT_TP_SEQ 1) 0 31 0).send (.wrote p R.DT_CMD
        0))) ∧
  (∀ (el : Nat) (s u : State),
    u = s.begin el → u.clk.inReset = false → u.rbit R.PWR_BK_CFG 0 = true → u.dt % 1000000000 = 0 →
      exec (.rtcLatch el) s = .next (u.updClk fun c =>
        { c with latch := some u.dt, rtcOk := u.rbit R.CLK_STAT csX32k }))

/-- Under the conditions that the rules give, each row of a CAN controller ends in the state its rule names: a frame
  is received, sent or withdrawn, an error is counted, bus-off recovers, a reference is requested and handed on; and
  each of their commands does what its bit says. (12_can_fd.md, R474–R478, 12_can_fd.md, R482, R489–R497,
  12_can_fd.md, R500, R501, R505, 12_can_fd.md, R512, R514, 13_host_ports.md, R519, R521) -/
def Obligations.CanRowsComplete : Prop :=
  (∀ (el : Nat) (p : Port) (b : Bool) (c : Fin 4) (w : Word) (s u : State),
    u = s.begin el → w = u.reg (R.CAN_CTRL c) ||| 1 → s.Takes p (R.CAN_CTRL c) →
      exec (.canInitSet ⟨el, b⟩ p c) s = .next (((u.storeAt p (R.CAN_CTRL c) w).canCtrlWritten u c b).send (.wrote p
        (R.CAN_CTRL c) 0))) ∧
  (∀ (el : Nat) (p : Port) (c : Fin 4) (w : Word) (s u : State),
    u = s.begin el → w = u.reg (R.CAN_CTRL c) &&& ~~~ 1 → s.Takes p (R.CAN_CTRL c) →
      exec (.canInitClear el p c) s = .next (((u.storeAt p (R.CAN_CTRL c) w).canCtrlWritten u c false).send (.wrote
        p (R.CAN_CTRL c) 0))) ∧
  (∀ (el : Nat) (p : Port) (c : Fin 4) (m : Fin 128) (w : Word) (s u : State),
    u = s.begin el → w = (u.reg (R.OBJ_CTRL c m) &&& ~~~ 0xDC) ||| bit obTxReq → s.Takes p (R.OBJ_CTRL c m) →
      exec (.txReqSet el p c m) s = .next (((u.storeAt p (R.OBJ_CTRL c m) w).objCtrlWritten u c m false).send
        (.wrote p (R.OBJ_CTRL c m) 0))) ∧
  (∀ (el : Nat) (p : Port) (c : Fin 4) (m : Fin 128) (onBus : Bool) (w : Word) (s u : State),
    u = s.begin el → w = u.reg (R.OBJ_CTRL c m) &&& ~~~ 0xDC &&& ~~~ bit obTxReq → s.Takes p (R.OBJ_CTRL c m) →
      exec (.txReqWithdraw el p c m onBus) s = .next (((u.storeAt p (R.OBJ_CTRL c m) w).objCtrlWritten u c m
        onBus).send (.wrote p (R.OBJ_CTRL c m) 0))) ∧
  (∀ (el : Nat) (c : Fin 4) (f : CanFrame) (v : State) (s u : State),
    u = s.begin el → s.Runs 35 → u.gateOn (5 + c) = true → u.canLive c f.sof = true → (u.canMode c == 2) = false →
      f.fdf = false → (v = (u.when (u.canSends c) fun x => x.txFailed c f.sof).noKeyEvent c) →
      exec (.canFrameRx el c f) s = .next (((((v.when (!v.canTxHeld c) fun x => x.send (.canAck c)).recOk
        c).refCheck c f).offer c f).canEnd c)) ∧
  (∀ (el : Nat) (c : Fin 4) (sof : Nat) (delay : BitVec 7) (m : Nat) (t v : State) (s u : State),
    u = s.begin el → s.Runs 35 → u.gateOn (5 + c) = true → u.canLive c sof = true → t = u.noKeyEvent c →
      t.canLive c sof = true → t.canSends c = true → t.txSelect c sof = some (.obj m) →
      v = (t.setErr c (t.tec c - 1) (t.rec_ c)).loopDelay c (t.objFrame c m sof) (some delay) →
      exec (.canFrameTxDone el c sof delay) s = .next ((v.objSent c m sof (t.objFrame c m sof)).canEnd c)) ∧
  (∀ (el : Nat) (p : Port) (c : Fin 4) (onBus : Option (Fin 128)) (s u : State),
    u = s.begin el → s.Takes p (R.CAN_CMD c) →
      exec (.canAbortAll el p c onBus) s = .next ((canCmd c (onBus.map (·.val)) 4 (u.storeAt p (R.CAN_CMD c)
        4)).send (.wrote p (R.CAN_CMD c) 0))) ∧
  (∀ (el : Nat) (p : Port) (c : Fin 4) (s u : State),
    u = s.begin el → s.Takes p (R.CAN_CMD c) →
      exec (.canRecover el p c) s = .next ((canCmd c none 2 (u.storeAt p (R.CAN_CMD c) 2)).send (.wrote p (R.CAN_CMD
        c) 0))) ∧
  (∀ (el : Nat) (p : Port) (c : Fin 4) (s u : State),
    u = s.begin el → s.Takes p (R.CAN_CMD c) →
      exec (.canCntClear el p c) s = .next (((u.storeAt p (R.CAN_CMD c) 1).clearRegs (canCounters c)).send (.wrote p
        (R.CAN_CMD c) 0))) ∧
  (∀ (el : Nat) (c : Fin 4) (lec : Fin 7) (dTec dRec : Nat) (f : CanErr) (s u : State),
    u = s.begin el → s.Runs 35 → u.gateOn (5 + c) = true → lec ≠ 0 → u.canLive c f.sof = true → f.sending = false →
      u.canMode c ≠ 2 → isoSteps lec (u.canState c == 1) false dTec dRec = true →
      exec (.canError el c lec dTec dRec f) s = .next ((u.canErr c lec dTec dRec).canEnd c)) ∧
  (∀ (el : Nat) (c : Fin 4) (n : Nat) (s u : State),
    u = s.begin el → s.Runs 35 → u.gateOn (5 + c) = true → 128 ≤ n → u.rbit (R.CAN_STAT c) 28 = true →
      (u.can c).recAt + n * u.integrate c ≤ u.now →
      exec (.busoffRecovered ⟨el, n⟩ c) s = .next ((((u.setFld (R.CAN_STAT c) 16 8 128).setBit (R.CAN_STAT c) 28
        false).setErr c 0 0).event (R.CAN_EVENT c) cvRecovered)) ∧
  (∀ (el : Nat) (c : Fin 4) (n : Nat) (s u : State),
    u = s.begin el → s.Runs 35 → u.gateOn (5 + c) = true → n < 128 → u.rbit (R.CAN_STAT c) 28 = true →
      (u.can c).recAt + n * u.integrate c ≤ u.now →
      exec (.busoffRecovered ⟨el, n⟩ c) s = .next (u.setFld (R.CAN_STAT c) 16 8 n)) ∧
  (∀ (el : Nat) (c : Fin 4) (s u : State),
    u = s.begin el → s.Runs 35 → u.gateOn (5 + c) = true → u.canLive c u.dt = true → u.rbit (R.CAN_CFG c) 0 = true →
      u.rbit (R.CAN_CFG c) 1 = false →
      exec (.protocolException el c) s = .next (((u.canJoin c).event (R.CAN_EVENT c) cvProtoExc).canEnd c)) ∧
  (∀ (el : Nat) (p : Port) (c : Fin 4) (k : Fin 8) (m : Fin 128) (s u : State),
    u = s.begin el → s.Takes p (R.CAN_FIFO_POP c) →
      exec (.canFifoPop el p c k m) s = .next ((fifoPop c (wordN (m * 256 + k)) (u.storeAt p (R.CAN_FIFO_POP c)
        (wordN (m * 256 + k)))).send (.wrote p (R.CAN_FIFO_POP c) 0))) ∧
  (∀ (el : Nat) (p : Port) (c : Fin 4) (m : Fin 128) (s u : State),
    u = s.begin el → s.Gives p (R.OBJ_CTRL c m) →
      exec (.objCaptureRead el p c m) s = .next ((objRead c m u).2.send (.read p (R.OBJ_CTRL c m) (objRead c m u).1
        0))) ∧
  (∀ (el : Nat) (p : Port) (c : Fin 4) (m : Fin 128) (v : Word) (s u : State),
    u = s.begin el → s.Takes p (R.CAN_FV c m) →
      exec (.canFvWrite el p c m v) s = .next (((u.storeAt p (R.CAN_FV c m) v).fvWritten c m).send (.wrote p
        (R.CAN_FV c m) 0))) ∧
  (∀ (el : Nat) (c : Fin 4) (s u : State),
    u = s.begin el → s.Runs 35 → u.gateOn (5 + c) = true → u.rbit (R.CAN_TM_CFG c) 31 = true →
      u.dtState = dtLocked → s.works 32 = true → u.dt % (u.rfld (R.CAN_TM_PERIOD c) 0 16 * 1000000) = 0 →
      exec (.referenceRequest el c) s = .next ((u.updCan c fun q =>
        { q with ref := some u.dt, refOk := q.refOk && q.ref.isNone }).notePick u c)) ∧
  (∀ (el : Nat) (c : Fin 4) (e : Int) (s u : State),
    u = s.begin el → s.Runs 35 → u.gateOn (5 + c) = true → s.works 32 = true → u.rfld R.DT_CAN_SRC 0 2 = c →
      (u.can c).handAt ≠ some (u.dt / 1000000000) → (u.can c).lastE = some e →
      exec (.canTmHandoff el c) s = .next ((u.updCan c fun q =>
        { q with handAt := some (u.dt / 1000000000) }).dtMeasure dtCan e))

/-- Under the conditions that the rules give, each row of the boundary handshake, the clock monitors, the island
  restarts, the device time of the islands, the clock sources, the gates, the rails, the power-down and the resets
  ends in the state its rule names. (01_architecture.md, R32–R43, 01_architecture.md, R58, R59,
  17_clocks_power_reset.md, R658–R669, 17_clocks_power_reset.md, R670–R679, 13_host_ports.md, R519, R521) -/
def Obligations.IslandAndClockRowsComplete : Prop :=
  (∀ (el : Nat) (src dst : Fin 39) (first again : LinkWord) (acc : Option (Port × Nat)) (s u : State),
    u = s.begin el → s.Runs src → u.refusesLink dst = false → u.stopped dst = false → LinkWord.ok first = true →
      exec (.linkTransfer el src dst first again acc) s = .next ((u.updSys fun q =>
        { q with delivered := Tab.set (fun _ => 0) q.delivered (src * 64 + dst) (first.tag ++ first.data) }).send
        (.link src dst true))) ∧
  (∀ (el : Nat) (src dst : Fin 39) (acc : Option (Port × Nat)) (s u : State),
    u = s.begin el → s.Runs src →
      exec (.handshakeTimeout el src dst acc) s = .next ((u.linkTimeout).linkFail src dst acc)) ∧
  (∀ (el : Nat) (isl : Fin 39) (edges : Nat) (runs : Bool) (v : State) (s u : State),
    u = s.begin el → u.clk.inReset = false → edges2 isl ≠ 0 →
      (v = u.updSys fun q => { q with stopped := Tab.set (fun _ => false) q.stopped isl.val (!runs) }) →
      u.gateOpen isl = true → u.up isl = true → edges = 0 →
      exec (.clockMonitorWindow ⟨el, runs⟩ isl edges) s = .next (v.declareDown isl)) ∧
  (∀ (el : Nat) (p : Port) (hi : Bool) (v : Word) (a : Nat) (s u : State),
    u = s.begin el → (a = if hi then R.SYS_ISLAND_RESTART1 else R.SYS_ISLAND_RESTART0) → s.Takes p a →
      (restartWrite hi v u).1 = 0 →
      exec (.islandRestart el p hi v) s = .next ((restartWrite hi v u).2.send (.wrote p a 0))) ∧
  (∀ (el : Nat) (isl : Fin 39) (v : State) (s u : State),
    u = s.begin el → u.restartOf isl = .held → u.up isl = false → (100 ≤ Tab.get (fun _ => 0) u.sys.goodWin isl) →
      (v = forL (State.applySect fun a => islandOf a == isl) u.ldr.inForce (u.resetIsland isl)) →
      exec (.islandRestartBegin el isl) s = .next ((((if isl.val < 20 then forL (fun n x => x.laneRestart u n)
        (tileLanes isl) v else v).holdLines isl).setRestart isl .running).when (isl.val == 32 || isl.val == 35)
        State.trimShow)) ∧
  (∀ (el : Nat) (isl : Fin 39) (s u : State),
    u = s.begin el → u.restartOf isl = .running → isl.val = 22 →
      exec (.islandUp el isl) s = .next (((u.setRestart isl .none).setUp isl true).releaseIsland isl)) ∧
  (∀ (el : Nat) (isl : Fin 38) (drift d : Int) (v : State) (s u : State),
    u = s.begin el → v = u.onIsland 32 State.dtDue → v.up isl = true → v.ungated isl = true →
      (d = Tab.get (fun _ => 0) v.sys.localDt isl + drift) → d.natAbs ≤ 100 →
      exec (.dtSyncToken el isl drift) s = .next (v.updSys fun q =>
        { q with localDt := Tab.set (fun _ => 0) q.localDt isl (d - clampI (-2) 2 d) })) ∧
  (∀ (el : Nat) (p : Port) (s u : State),
    u = s.begin el → s.Takes p R.SYS_CNT_CLEAR →
      exec (.sysCntClear el p) s = .next (((u.storeAt p R.SYS_CNT_CLEAR 1).clearRegs [R.SYS_HS_TIMEOUT,
        R.SYS_HS_PARITY, R.SYS_DT_STEP]).send (.wrote p R.SYS_CNT_CLEAR 0))) ∧
  (∀ (el : Nat) (s u : State),
    u = s.begin el → u.clk.inReset = false → u.rbit R.CLK_STAT csTcxo = true → u.rbit R.CLK_STAT csPll = false →
      exec (.pllLocked el) s = .next u.pllLock) ∧
  (∀ (el : Nat) (k : Fin 5) (forced : Bool) (s u : State),
    u = s.begin el → u.clk.inReset = false → u.rbit R.CLK_STAT (srcBit k) = true → k.val = 2 →
      exec (.clockSourceLost el k forced) s = .next (((((((u.setBit R.CLK_STAT (srcBit k) false).count
        R.CLK_LOSS_CNT 1).event R.CLK_IRQ_STAT ciLost).updClk fun c => { c with rtcOk := false }).fault
        srcClockSource k 0).trimShow))) ∧
  (∀ (el : Nat) (k : Fin 5) (s u : State),
    u = s.begin el → u.clk.inReset = false → u.rbit R.CLK_STAT (srcBit k) = false → k.val = 2 →
      exec (.clockSourceOk el k) s = .next ((((u.setBit R.CLK_STAT (srcBit k) true).event R.CLK_IRQ_STAT
        ciOk).updClk fun c => c).trimShow)) ∧
  (∀ (el : Nat) (err : Int) (sf : Bool) (v : State) (s u : State),
    u = s.begin el → s.Runs 37 → (v = ((u.updClk fun c => { c with sof := sf }).setBit R.USB_STAT 29 (!sf && u.rbit
      R.USB_STAT 30)).trimShow) → v.trimSrc ≠ 15 → v.clk.trimAt + trimInterval v.trimSrc ≤ v.now →
      exec (.iroTrim el err sf) s = .next (((v.updClk fun c => { c with trimAt := v.now }).setRegI R.CLK_IRO_ERR
        err).setRegI R.CLK_IRO_TRIM ((v.reg R.CLK_IRO_TRIM).toInt - clampI (-1) 1 err))) ∧
  (∀ (el : Nat) (p : Port) (s u : State),
    u = s.begin el → s.Takes p R.CLK_CMD →
      exec (.selMain el p) s = .next ((clkCmd 2 (u.storeAt p R.CLK_CMD 2)).send (.wrote p R.CLK_CMD 0))) ∧
  (∀ (el : Nat) (p : Port) (s u : State),
    u = s.begin el → s.Takes p R.CLK_CMD →
      exec (.clkCntClear el p) s = .next (((u.storeAt p R.CLK_CMD 1).clearRegs clkCounters).send (.wrote p R.CLK_CMD
        0))) ∧
  (∀ (el : Nat) (p : Port) (v : Word) (s u : State),
    u = s.begin el → s.Takes p R.CLK_GATE_CMD →
      exec (.clkGateCmd el p v) s = .next ((gateCmd v (u.storeAt p R.CLK_GATE_CMD v)).send (.wrote p R.CLK_GATE_CMD
        0))) ∧
  (∀ (el : Nat) (g b : Nat) (v : State) (s u : State),
    u = s.begin el → s.Runs 37 → u.clk.gate = some (g, b) → (v = u.updClk fun c => { c with gate := none }) →
      u.now ≤ b + gateLimit g →
      exec (.gateIdle el true) s = .next ((v.setGate g false).gateResult false g cgOk)) ∧
  (∀ (el : Nat) (idle : Bool) (g b : Nat) (v : State) (s u : State),
    u = s.begin el → s.Runs 37 → u.clk.gate = some (g, b) → (v = u.updClk fun c => { c with gate := none }) →
      b + gateLimit g < u.now →
      exec (.gateIdle el idle) s = .next (v.gateResult false g cgBusy)) ∧
  (∀ (el : Nat) (r : Fin 14) (mv : BitVec 16) (vio33 : Bool) (s u : State),
    u = s.begin el → s.Runs 37 → ¬ railIn r vio33 mv.toNat → u.rbit (R.PWR_RAIL r) 31 = false →
      exec (.railOutOfWindow el r mv vio33) s = .next (((((u.setReg (R.PWR_RAIL r) (wordN (2 ^ 31 +
        mv.toNat))).recAdd 3 (r / 8) (r % 8) mv.toNat).count R.PWR_OOW_CNT 1).event R.PWR_IRQ_STAT 0).fault
        srcSupply r (mv.setWidth 32))) ∧
  (∀ (el : Nat) (r : Fin 14) (mv : BitVec 16) (vio33 : Bool) (s u : State),
    u = s.begin el → s.Runs 37 → railIn r vio33 mv.toNat → u.rbit (R.PWR_RAIL r) 31 = true →
      exec (.railInWindow el r mv vio33) s = .next (u.setReg (R.PWR_RAIL r) (mv.setWidth 32))) ∧
  (∀ (el : Nat) (pin : Bool) (vbat : BitVec 16) (s u : State),
    u = s.begin el → s.Runs 37 → u.pdWarns pin vbat.toNat = true → u.holdup = false →
      exec (.powerDownWarning el pin vbat) s = .next (((u.setFld R.PWR_STAT 0 2 3).event R.PWR_IRQ_STAT
        1).powerDownWork)) ∧
  (∀ (el : Nat) (pin : Bool) (vbat : BitVec 16) (v : State) (s u : State),
    u = s.begin el → s.Runs 37 → u.holdup = true → u.pdGood pin vbat.toNat = true →
      (v = (u.updMgt fun g => { g with marker := false }).updRec fun r =>
      { r with vals := [], due := [], waits := [], openAt := [], openAll := u.dt }) →
      exec (.powerDownEnd ⟨el, pin, vbat⟩) s = .next ((v.setFld R.PWR_STAT 0 2 (b2n u.ldr.bootEnded)).event
        R.PWR_IRQ_STAT 2)) ∧
  (∀ (el : Nat) (cause : Fin 5) (s u : State),
    u = s.begin el →
      exec (.deviceReset el cause) s = .next (u.resetBy cause)) ∧
  (∀ (el : Nat) (ns : Nat) (s u : State),
    u = s.begin el → 1000 ≤ ns →
      exec (.resetPin el ns) s = .next (u.resetBy 2)) ∧
  (∀ (el : Nat) (s u : State),
    u = s.begin el → u.rfld R.SEC_DBG_STAT 0 2 ≠ 0 →
      exec (.debugReset el) s = .next (u.resetBy 4)) ∧
  (∀ (el : Nat) (s u : State),
    u = s.begin el →
      exec (.resetAssert el) s = .next (u.deviceReset.updClk fun c => { c with rails := true })) ∧
  (∀ (el : Nat) (p : Port) (v : Word) (s u : State),
    u = s.begin el → s.Takes p R.RST_KEY →
      exec (.rstKeyWrite el p v) s = .next ((rstKey p v (u.storeAt p R.RST_KEY v)).send (.wrote p R.RST_KEY 0))) ∧
  (∀ (el : Nat) (p : Port) (t : Nat) (s u : State),
    u = s.begin el → s.Takes p R.RST_CMD → (u.storeAt p R.RST_CMD 1).clk.key = some (t, p) →
      (u.storeAt p R.RST_CMD 1).now ≤ t + 1000000 →
      exec (.rstDevice el p) s = .next (((u.storeAt p R.RST_CMD 1).resetBy 3).send (.wrote p R.RST_CMD 0))) ∧
  (∀ (el : Nat) (a : List EccHit) (b : List Bool) (vbkLost : Bool) (count : Nat) (ran : Bool) (v w : State) (s u :
    State),
    u = s.begin el → u.clk.inReset = true → (v = (u.railCause vbkLost).updClk fun c =>
      { c with inReset := false, rails := false }) → (w = v.updMgt fun g =>
      { g with sramAt := u.now, hourAt := if u.clk.rails then u.now else g.hourAt }) →
      exec (.resetRelease el a b vbkLost count ran) s = .next (((w.bootTime count ran).bootMarker).secureBoot a b))

/-- Under the conditions that the rules give, each row of image loading, sealing, verification and the handover ends
  in the state its rule names, and each bit of LDR_CTRL and LDR_REFUSE_ACK does what it says. (02_trellis_images.md,
  R74–R79, 02_trellis_images.md, R85–R101, 13_host_ports.md, R519, R521, 15_security_and_update.md, R620, R624) -/
def Obligations.LoaderRowsComplete : Prop :=
  (∀ (el : Nat) (a b patches h : List EccHit) (k j : Nat) (l : List Sect) (v : State) (s u : State),
    u = s.begin el → u.clk.inReset = false → u.mssReady = true → u.ldr.bootEnded = false → u.bootSlot = some k →
      h = a ++ b ++ patches → ((u.bootTry h (if u.slot (otherSlot k) = 4 ∨ u.slot (otherSlot k) = 5 then [k,
      otherSlot k] else [k])).1 = some (j, l)) → (v = (u.bootTry h (if u.slot (otherSlot k) = 4 ∨ u.slot (otherSlot
      k) = 5 then [k, otherSlot k] else [k])).2) →
      exec (.bootImageLoad el a b patches) s = .next (((v.bootFull h j l).bootPatches h j (v.marked j) 32).bootEnd
        h)) ∧
  (∀ (el : Nat) (s u : State),
    u = s.begin el → s.Runs 37 → u.ldr.bootEnded = true → u.sealed = false → u.rfld R.LDR_SEAL_CFG 0 2 = 1 →
      u.ldr.endAt + u.rfld R.LDR_SEAL_CFG 16 16 * 1000000000 ≤ u.now →
      exec (.sealTimeout el) s = .next ((u.seal).ldrWarn lwSealTimeout)) ∧
  (∀ (el : Nat) (p : Port) (s u : State),
    u = s.begin el → s.Takes p R.LDR_CTRL →
      exec (.ldrVerify el p) s = .next ((ldrCtrl 1 (u.storeAt p R.LDR_CTRL 1)).send (.wrote p R.LDR_CTRL 0))) ∧
  (∀ (el : Nat) (p : Port) (s u : State),
    u = s.begin el → s.Takes p R.LDR_CTRL →
      exec (.ldrArm el p) s = .next ((ldrCtrl 2 (u.storeAt p R.LDR_CTRL 2)).send (.wrote p R.LDR_CTRL 0))) ∧
  (∀ (el : Nat) (p : Port) (s u : State),
    u = s.begin el → s.Takes p R.LDR_CTRL →
      exec (.ldrAbort el p) s = .next ((ldrCtrl 4 (u.storeAt p R.LDR_CTRL 4)).send (.wrote p R.LDR_CTRL 0))) ∧
  (∀ (el : Nat) (p : Port) (s u : State),
    u = s.begin el → s.Takes p R.LDR_CTRL →
      exec (.ldrAck el p) s = .next ((ldrCtrl 8 (u.storeAt p R.LDR_CTRL 8)).send (.wrote p R.LDR_CTRL 0))) ∧
  (∀ (el : Nat) (p : Port) (s u : State),
    u = s.begin el → s.Takes p R.LDR_CTRL →
      exec (.ldrSeal el p) s = .next ((ldrCtrl 16 (u.storeAt p R.LDR_CTRL 16)).send (.wrote p R.LDR_CTRL 0))) ∧
  (∀ (el : Nat) (p : Port) (s u : State),
    u = s.begin el → s.Takes p R.LDR_CTRL →
      exec (.ldrClearCnt el p) s = .next (((u.storeAt p R.LDR_CTRL 32).clearRegs [R.LDR_RESEARCH, R.LDR_DEFER,
        R.LDR_REFUSE_CNT, R.LDR_HANDOVER_REFUSED]).send (.wrote p R.LDR_CTRL 0))) ∧
  (∀ (el : Nat) (p : Port) (s u : State),
    u = s.begin el → s.Takes p R.LDR_REFUSE_ACK →
      exec (.ldrRefuseAck el p) s = .next ((refuseAck 1 (u.storeAt p R.LDR_REFUSE_ACK 1)).send (.wrote p
        R.LDR_REFUSE_ACK 0))) ∧
  (∀ (el : Nat) (c : List EccHit) (s u : State),
    u = s.begin el → s.Runs 37 → u.sec.commit = none → u.ldrState = ldVerifying → u.mssReady = true →
      exec (.verifyComplete el c) s = .next (u.verifyDone c)) ∧
  (∀ (el : Nat) (v : State) (s u : State),
    u = s.begin el → s.Runs 37 → u.ldrState = ldLoading → (v = (u.setLdr ldSearching).updLdr fun d =>
      { d with loadEnd := u.dt, shadow := u.shadowBanks }) →
      exec (.shadowBanksLoaded el) s = .next (if v.rfld R.LDR_SET 20 2 = 0 then v.setTh v.findTh else v)) ∧
  (∀ (el : Nat) (x : Bool) (h : Int) (s u : State),
    u = s.begin el → s.Runs 37 → u.ldr.th = some h → u.ldrState = ldSearching → h - 10000 ≤ (u.dt : Int) →
      h ≤ u.thLimit →
      exec (.thFinal el x) s = .next (((u.setLdr ldFinal).setTh (some h)).recomputeMapped x)) ∧
  (∀ (el : Nat) (h : Int) (v w : State) (s u : State),
    u = s.begin el → s.Runs 37 → u.ldr.th = some h → u.ldrState = ldFinal → u.ldr.swapped = false →
      h ≤ (u.dt : Int) → (v = ((u.count R.LDR_DEFER u.deferred).keepBanks h).applySects (fun _ => true)
      u.ldr.staged) → w = forL (State.remapOne u) u.remapped (v.setMap (u.mapAfter false u.ldr.staged)) →
      exec (.handoverSwap el) s = .next ((w.updLdr fun d =>
        { d with inForce := d.inForce ++ sectOrder u.ldr.staged, swapped := true }).sendLats)) ∧
  (∀ (el : Nat) (n : Nat) (s u : State),
    u = s.begin el → s.Runs 37 → u.ldrState = ldFinal → u.ldr.swapped = true → n = u.rfld R.LDR_PATCH 0 6 + 1 →
      exec (.patchLogMarked el) s = .next ((((((u.setMarked u.trellisSlot n).setFld R.LDR_PATCH 0 6 n).setLdr
        ldDone).event R.LDR_IRQ_STAT liDone)).updLdr fun d =>
        { d with digests := d.digests ++ [d.stagedDigest], th := none })) ∧
  (∀ (el : Nat) (s u : State),
    u = s.begin el → s.Runs 37 → ((u.ldrState = ldLoading ∨ u.ldrState = ldSearching)) →
      u.thLimit - 10000 ≤ (u.dt : Int) →
      exec (.boundaryTimeout el) s = .next (u.handoverRefuse lcBoundary))

/-- Under the conditions that the rules give, each row of the register accesses, of the Ethernet ports, of QSPI and
  of USB ends in the state its rule names and answers what its rule says. (00_scope.md, R13, R17, R18,
  13_host_ports.md, R519–R530, 13_host_ports.md, R534–R546, 15_security_and_update.md, R603–R607, R612) -/
def Obligations.PortRowsComplete : Prop :=
  (∀ (el : Nat) (p : Port) (a : Nat) (v : Word) (e : WriteEnv) (s u : State),
    u = s.begin el → s.PortRuns p →
      exec (.registerWrite el p a v e) s = .next ((u.writeWord p a v e).2.send (.wrote p a (u.writeWord p a v
        e).1))) ∧
  (∀ (el : Nat) (p : Port) (a : Nat) (x : List EccHit) (s u : State),
    u = s.begin el → s.Gives p a →
      exec (.multiwordCaptureRead ⟨el, x⟩ p a) s = .next ((readAct p a x u).2.send (.read p a (readAct p a x u).1
        0))) ∧
  (∀ (el : Nat) (p : Port) (s u : State),
    u = s.begin el → s.Takes p R.PORT_CMD →
      exec (.portCntClear el p) s = .next ((portCmd 1 (u.storeAt p R.PORT_CMD 1)).send (.wrote p R.PORT_CMD 0))) ∧
  (∀ (el : Nat) (f : RxFrame) (run : Nat) (envs : List ReqEnv) (b : List Byte) (t v : State) (s u : State),
    u = s.begin el → (u.macRx .eth1 f).1 = some b → t = (u.macRx .eth1 f).2 → subtypeOf b = 0x5A30 →
      t.port.reqs.length < 8 → v = { t with port := { t.port with reqs := t.port.reqs ++ [EthReq.mk f.src b] } } →
      v.works 34 = true → v.ethClock .eth1 = true →
      exec (.regAccessRequest el f run envs) s = .next (forN (fun i w => w.regNext (envs.getD i ReqEnv.none)) (min
        run 8) v)) ∧
  (∀ (el : Nat) (t v : State) (s u : State),
    u = s.begin el → t = u.ethFlush .eth1 → t.rbit (R.ETH_NOTIFY 1) 31 = true →
      t.sysIrqPend ≠ (t.eth .eth1).notified → (t.eth .eth1).notifyAt = none → t.ethFree .eth1 = true →
      (t.ethSend .eth1 (t.reg (R.ETH_PEER_LO 1)) (t.reg (R.ETH_PEER_HI 1)) 0x5A31 (t.notification ((t.eth
      .eth1).nseq + 1))).1 = true → v = (t.ethSend .eth1 (t.reg (R.ETH_PEER_LO 1)) (t.reg (R.ETH_PEER_HI 1)) 0x5A31
      (t.notification ((t.eth .eth1).nseq + 1))).2 →
      exec (.notifyTx el) s = .next ((v.setEth .eth1
        { v.eth .eth1 with nseq := (t.eth .eth1).nseq + 1, notified := t.sysIrqPend, notifyAt := some t.now }).count
        R.ETH1_NOTIFY_TX 1)) ∧
  (∀ (el : Nat) (e : EthPort) (f : RxFrame) (s u : State),
    u = s.begin el → f.etherType = 0x8808 →
      exec (.pauseFrameRx el e f) s = .next (u.macRx e f).2) ∧
  (∀ (el : Nat) (e : EthPort) (linkUp aneg : Bool) (speed : Fin 3) (s u : State),
    u = s.begin el → s.Runs 34 → u.ethClock e = true → ((u.rbit (R.ETH_CTRL (ethNum e)) 0 = true ∨ linkUp = false))
      →
      exec (.ethLinkChange el e linkUp aneg speed) s = .next (((u.linkSet e linkUp).setBit (R.ETH_STAT (ethNum e))
        30 (linkUp && aneg && e == .eth1 && u.rbit (R.ETH_CTRL (ethNum e)) 1)).setFld (R.ETH_STAT (ethNum e)) 0 2
        (if linkUp then (if e = .eth0 then 2 else if u.rfld (R.ETH_CTRL 1) 4 2 = 0 then 1 else min speed.val 1) else
        0))) ∧
  (∀ (el : Nat) (cmd : Byte) (x : List EccHit) (a : Word) (n : Nat) (s u : State),
    u = s.begin el → s.Runs 37 → cmd = 0xEB →
      exec (.qread ⟨el, cmd, x⟩ a n) s = .next (u.qRead x a false n)) ∧
  (∀ (el : Nat) (cmd : Byte) (x : List EccHit) (a : Word) (n : Nat) (s u : State),
    u = s.begin el → s.Runs 37 → cmd = 0xEC →
      exec (.qreadFixed ⟨el, cmd, x⟩ a n) s = .next (u.qRead x a true n)) ∧
  (∀ (el : Nat) (cmd : Byte) (a : Word) (b : List Byte) (pace : List Nat) (envs : List WriteEnv) (s u : State),
    u = s.begin el → s.Runs 37 → cmd = 0x32 →
      exec (.qwrite ⟨el, cmd⟩ a b pace envs) s = .next (u.qWrite a false b pace envs)) ∧
  (∀ (el : Nat) (cmd : Byte) (a : Word) (b : List Byte) (pace : List Nat) (envs : List WriteEnv) (s u : State),
    u = s.begin el → s.Runs 37 → cmd = 0x33 →
      exec (.qwriteFixed ⟨el, cmd⟩ a b pace envs) s = .next (u.qWrite a true b pace envs)) ∧
  (∀ (el : Nat) (cmd : Byte) (x : List EccHit) (a m v : Word) (check : Byte) (e : WriteEnv) (t : State) (r : Run) (s
    u : State),
    u = s.begin el → s.Runs 37 → cmd = 0x35 → t = u.qDrain → t.qCrc = false →
      r = (Run.start t [e] x).rmw .qspi a.toNat m v →
      exec (.qrmw ⟨el, cmd, x⟩ a m v check e) s = .next (r.s.send (.qspi (t.qWord a.toNat r.st (r.data.headD 0)))))
        ∧
  (∀ (el : Nat) (cmd : Byte) (s u : State),
    u = s.begin el → s.Runs 37 → cmd = 0x05 →
      exec (.getStatus ⟨el, cmd⟩) s = .next (u.qDrain.send (.qspi (bytesOfWord (wordN (u.qDrain.port.qStat % 256 *
        65536 + u.qDrain.port.qDone % 65536)))))) ∧
  (∀ (el : Nat) (s u : State),
    u = s.begin el → s.Runs 37 → u.rbit R.USB_STAT 31 = false →
      exec (.usbAttach el) s = .next ((u.setBit R.USB_STAT 31 true).event R.PORT_IRQ_STAT 6)) ∧
  (∀ (el : Nat) (busReset : Bool) (v : State) (s u : State),
    u = s.begin el → s.Runs 37 → u.rbit R.USB_STAT 31 = true →
      v = ((u.setReg R.USB_STAT 0).setBit R.USB_STAT 31 busReset).closeSession ssUsb →
      exec (.usbDetach el busReset) s = .next { v.trimShow with port := { v.port with usbWait := none } }) ∧
  (∀ (el : Nat) (b : UsbBlk) (v : State) (s u : State),
    u = s.begin el → s.Runs 37 → u.gateOn 11 = true → u.rbit R.USB_STAT 31 = true → b.magic = 0x5A50 →
      b.cmd = 0x01 → usbLenOk 0x01 b.len.toNat = true → u.port.usbWait = none →
      (v = (((((u.setBit R.USB_STAT 30 true).setBit R.USB_STAT 29 false).trimShow).setFld R.USB_STAT 0 8
      0x01).updSec fun q => { q with blkAt := u.now })) →
      exec (.getInfo el b) s = .next ((UsbEnd.mk 0 64 0 (([R.SYS_ID, R.SYS_REV, R.LDR_STAT, R.LDR_VERSION] ++
        (List.range 12).map R.LDR_DIGEST).map fun a => bytesOfWord (v.live a)).flatten v).finish b)) ∧
  (∀ (el : Nat) (b : UsbBlk) (x : List EccHit) (r : Run) (v : State) (s u : State),
    u = s.begin el → s.Runs 37 → u.gateOn 11 = true → u.rbit R.USB_STAT 31 = true → b.magic = 0x5A50 →
      b.cmd = 0x02 → usbLenOk 0x02 b.len.toNat = true → u.port.usbWait = none →
      (v = (((((u.setBit R.USB_STAT 30 true).setBit R.USB_STAT 29 false).trimShow).setFld R.USB_STAT 0 8
      0x02).updSec fun q => { q with blkAt := u.now })) → r = (Run.start v [] x).readN .usb b.param false
      (b.len.toNat / 4) →
      exec (.regRead ⟨el, x⟩ b) s = .next ((UsbEnd.mk r.st b.len.toNat 0 (r.data.map bytesOfWord).flatten
        r.s).finish b)) ∧
  (∀ (el : Nat) (b : UsbBlk) (data : List Byte) (envs : List WriteEnv) (r : Run) (v : State) (s u : State),
    u = s.begin el → s.Runs 37 → u.gateOn 11 = true → u.rbit R.USB_STAT 31 = true → b.magic = 0x5A50 →
      b.cmd = 0x03 → usbLenOk 0x03 b.len.toNat = true → u.port.usbWait = none →
      (v = (((((u.setBit R.USB_STAT 30 true).setBit R.USB_STAT 29 false).trimShow).setFld R.USB_STAT 0 8
      0x03).updSec fun q => { q with blkAt := u.now })) → v.mayWrite .usb = true →
      r = (Run.start v envs []).writeN .usb b.param false (wordsOfBytes (fit b.len.toNat data)) →
      exec (.regWrite el b data envs) s = .next ((UsbEnd.mk r.st b.len.toNat 0 [] r.s).finish b)) ∧
  (∀ (el : Nat) (b : UsbBlk) (data : List Byte) (a size : Nat) (v : State) (s u : State),
    u = s.begin el → s.Runs 37 → u.gateOn 11 = true → u.rbit R.USB_STAT 31 = true → b.magic = 0x5A50 →
      b.cmd = 0x10 → usbLenOk 0x10 b.len.toNat = true → u.port.usbWait = none →
      (v = (((((u.setBit R.USB_STAT 30 true).setBit R.USB_STAT 29 false).trimShow).setFld R.USB_STAT 0 8
      0x10).updSec fun q => { q with blkAt := u.now })) → v.usbServed b = true →
      v.usbMay (fld b.param 28 4) = true → fld b.param 28 4 = 0 → fld b.param 0 28 % 64 = 0 →
      v.stageAt 0 = some (a, size) → fld b.param 0 28 + b.len.toNat ≤ size →
      exec (.stageWrite el b data) s = .next ((UsbEnd.mk 0 b.len.toNat 0 [] (v.stageBytes (a + fld b.param 0 28)
        (fit b.len.toNat data))).finish b)) ∧
  (∀ (el : Nat) (b : UsbBlk) (c : List EccHit) (k : Nat) (v : State) (s u : State),
    u = s.begin el → s.Runs 37 → u.gateOn 11 = true → u.rbit R.USB_STAT 31 = true → b.magic = 0x5A50 →
      b.cmd = 0x11 → usbLenOk 0x11 b.len.toNat = true → u.port.usbWait = none →
      (v = (((((u.setBit R.USB_STAT 30 true).setBit R.USB_STAT 29 false).trimShow).setFld R.USB_STAT 0 8
      0x11).updSec fun q => { q with blkAt := u.now })) → v.usbServed b = true →
      v.usbMay (fld b.param 28 4) = true → fld b.param 28 4 = 0 → v.updBusy = false → v.stageSlot 0 = some k →
      exec (.stageCommit el b c) s = .next ((UsbEnd.mk 0 0 0 [] ((v.usbHold b false).commitStart 0 k false
        c)).finish b)) ∧
  (∀ (el : Nat) (b : UsbBlk) (x : List EccHit) (n : Nat) (w : State) (v : State) (s u : State),
    u = s.begin el → s.Runs 37 → u.gateOn 11 = true → u.rbit R.USB_STAT 31 = true → b.magic = 0x5A50 →
      b.cmd = 0x20 → usbLenOk 0x20 b.len.toNat = true → u.port.usbWait = none →
      (v = (((((u.setBit R.USB_STAT 30 true).setBit R.USB_STAT 29 false).trimShow).setFld R.USB_STAT 0 8
      0x20).updSec fun q => { q with blkAt := u.now })) → v.usbServed b = true → v.sec.usbOpen = true →
      n = b.len.toNat / 256 → b.param.toNat + n ≤ 65536 → w = v.devRead x (recSlot b.param.toNat) (256 * n) →
      exec (.recorderRead ⟨el, x⟩ b) s = .next ((UsbEnd.mk 0 b.len.toNat 0 ((List.range n).map fun i => w.recordOut
        (b.param.toNat + i)).flatten w).finish b)) ∧
  (∀ (el : Nat) (b : UsbBlk) (nonce out : List Byte) (v : State) (s u : State),
    u = s.begin el → s.Runs 37 → u.gateOn 11 = true → u.rbit R.USB_STAT 31 = true → b.magic = 0x5A50 →
      b.cmd = 0x30 → usbLenOk 0x30 b.len.toNat = true → u.port.usbWait = none →
      (v = (((((u.setBit R.USB_STAT 30 true).setBit R.USB_STAT 29 false).trimShow).setFld R.USB_STAT 0 8
      0x30).updSec fun q => { q with blkAt := u.now })) → v.usbServed b = true → v.sec.idLost = false →
      exec (.usbAttest el b nonce out) s = .next ((UsbEnd.mk 0 32 0 [] (v.updSec fun q =>
        { q with report := v.attReport (fit 32 nonce) out })).finish b)) ∧
  (∀ (el : Nat) (b : UsbBlk) (v : State) (s u : State),
    u = s.begin el → s.Runs 37 → u.gateOn 11 = true → u.rbit R.USB_STAT 31 = true → b.magic = 0x5A50 →
      b.cmd = 0x31 → usbLenOk 0x31 b.len.toNat = true → u.port.usbWait = none →
      (v = (((((u.setBit R.USB_STAT 30 true).setBit R.USB_STAT 29 false).trimShow).setFld R.USB_STAT 0 8
      0x31).updSec fun q => { q with blkAt := u.now })) → v.usbServed b = true →
      exec (.getReport el b) s = .next ((UsbEnd.mk 0 (v.sec.report.take b.len.toNat).length 0 (v.sec.report.take
        b.len.toNat) v).finish b)) ∧
  (∀ (el : Nat) (mg : BitVec 16) (cmd rsv : Byte) (tag len par : Word) (x : Moved) (b : UsbBlk) (v : State) (s u :
    State),
    u = s.begin el → s.Runs 37 → b = ⟨mg, cmd, rsv, tag, len, par⟩ → u.gateOn 11 = true →
      u.rbit R.USB_STAT 31 = true → mg = 0x5A50 → cmd = 0x32 → usbLenOk 0x32 len.toNat = true →
      u.port.usbWait = none → (v = ((((u.setBit R.USB_STAT 30 true).setBit R.USB_STAT 29 false).trimShow).setFld
      R.USB_STAT 0 8 0x32).updSec fun q => { q with blkAt := u.now }) → v.usbServed b = true →
      exec (.sessionOut el mg cmd rsv tag len par x) s = .next ((UsbEnd.mk 0 len.toNat 0 [] (v.sessMsg ssUsb 0 (fit
        len.toNat x.data) x.rnd)).finish b)) ∧
  (∀ (el : Nat) (b : UsbBlk) (v : State) (s u : State),
    u = s.begin el → s.Runs 37 → u.gateOn 11 = true → u.rbit R.USB_STAT 31 = true → b.magic = 0x5A50 →
      b.cmd = 0x33 → usbLenOk 0x33 b.len.toNat = true → u.port.usbWait = none →
      (v = (((((u.setBit R.USB_STAT 30 true).setBit R.USB_STAT 29 false).trimShow).setFld R.USB_STAT 0 8
      0x33).updSec fun q => { q with blkAt := u.now })) → v.usbServed b = true →
      exec (.sessionIn el b) s = .next ((UsbEnd.mk 0 (v.sec.usbOut.take b.len.toNat).length 0 (v.sec.usbOut.take
        b.len.toNat) v).finish b))

/-- Under the conditions that the rules give, each row of the fault manager, of its pins, of Cinch, of the
  safe-state controller and of the loss of ground ends in the state its rule names. (14_safety_and_faults.md,
  R547–R570, 14_safety_and_faults.md, R571–R587, R703, 06_lane_drive.md, R277, R279, 13_host_ports.md, R519, R521)
  -/
def Obligations.FaultAndSafeStateRowsComplete : Prop :=
  (∀ (el : Nat) (v a : State) (s u : State),
    u = s.begin el → u.sys.gndLost = false → (v = (forN (fun i w => w.cutTile i) 20 u).traceStop (fun _ => true)
      u.dtI) → a = { v with sys := { u.sys with gndLost := true } } →
      exec (.groundLoss el) s = .next (((forN (fun i (w : State) => w.axStop i) 8 a).swAllOff).fault srcGndLoss 0
        0)) ∧
  (∀ (el : Nat) (a b : State) (s u : State),
    u = s.begin el → u.sys.gndLost = true → a = { u with sys := { u.sys with gndLost := false } } →
      (b = forN (fun i (w : State) => (w.when (w.up i) fun v => v.event (R.TILE_IRQ_STAT i) tiGndLoss).resumeHold i)
      20 a) →
      exec (.groundReturn el) s = .next ((b.swEvent 8).swAllRestore)) ∧
  (∀ (el : Nat) (src : Fin 128) (inst : BitVec 16) (detail : Word) (s u : State),
    u = s.begin el →
      exec (.faultOccurrence el src inst detail) s = .next (u.fault src inst.toNat detail)) ∧
  (∀ (el : Nat) (src : Fin 128) (s u : State),
    u = s.begin el → s.Runs 37 → u.dt % (u.rfld (R.FM_SRC_CFG src) 16 16 * 1000000) = 0 →
      exec (.bucketLeak el src) s = .next (u.leak src)) ∧
  (∀ (el : Nat) (v : State) (s u : State),
    u = s.begin el → s.Runs 37 → u.rbit R.FM_REPORT 31 = true → u.fm.lastFrame = none → u.ethFree .eth1 = true →
      u.fm.ethQ.isEmpty = false → (u.ethSend .eth1 (u.reg (R.ETH_PEER_LO 1)) (u.reg (R.ETH_PEER_HI 1)) 0x5A32
      (reportPayload u (u.fm.fseq + 1) u.fm.ethQ)).1 = true →
      v = (u.ethSend .eth1 (u.reg (R.ETH_PEER_LO 1)) (u.reg (R.ETH_PEER_HI 1)) 0x5A32 (reportPayload u (u.fm.fseq +
      1) u.fm.ethQ)).2 →
      exec (.reportFrameTx el) s = .next
        { v with fm := { v.fm with ethQ := [], fseq := v.fm.fseq + 1, lastFrame := some v.now } }) ∧
  (∀ (el : Nat) (p : Port) (src : Fin 128) (s u : State),
    u = s.begin el → s.Takes p (R.FM_SRC_ACK src) →
      exec (.fmSrcAck el p src) s = .next ((srcAcked src 1 (u.storeAt p (R.FM_SRC_ACK src) 1)).send (.wrote p
        (R.FM_SRC_ACK src) 0))) ∧
  (∀ (el : Nat) (p : Port) (src : Fin 128) (s u : State),
    u = s.begin el → s.Gives p (R.FM_SRC_STAT src) →
      exec (.fmSrcStatRead el p src) s = .next (((fun t : State => t.readSrcStat src) u).2.send (.read p
        (R.FM_SRC_STAT src) ((fun t : State => t.readSrcStat src) u).1 0))) ∧
  (∀ (el : Nat) (p : Port) (fl sl : Bool) (s u : State),
    u = s.begin el → s.Takes p R.FM_CMD →
      exec (.pinTest el p fl sl) s = .next ((((u.storeAt p R.FM_CMD 2)).pinTestStart fl sl).send (.wrote p R.FM_CMD
        0))) ∧
  (∀ (el : Nat) (b : Bool × Bool) (e : Nat) (s u : State),
    u = s.begin el → u.fm.pinTest = some e → e ≤ u.now →
      exec (.pinTestEnd ⟨el, b⟩) s = .next (({ u with fm := { u.fm with pinTest := none } }).pinsRead b)) ∧
  (∀ (el : Nat) (p : Port) (s u : State),
    u = s.begin el → s.Takes p R.FM_CMD →
      exec (.fmCntClear el p) s = .next (((u.storeAt p R.FM_CMD 1).clearRegs (fmCounters.filter fun a => u.up
        (islandOf a))).send (.wrote p R.FM_CMD 0))) ∧
  (∀ (el : Nat) (cmd arg chk : Byte) (len t38 : Nat) (s u : State),
    u = s.begin el → u.up 38 = true → len = 4 → chk = crc8 [cmd, arg] → cmd = 0x0F →
      exec (.cinchQuery el cmd arg chk len t38) s = .next (u.send (.cinch [0xFF, BitVec.ofNat 8 u.cinchQ,
        u.cinchStatus, crc8 [BitVec.ofNat 8 u.cinchQ, u.cinchStatus]]))) ∧
  (∀ (el : Nat) (cmd arg chk : Byte) (len t38 : Nat) (s u : State),
    u = s.begin el → u.up 38 = true → len = 4 → chk = crc8 [cmd, arg] → 0x80 ≤ cmd.toNat → cmd.toNat ≤ 0x83 →
      u.rbit R.CINCH_CFG 30 = false →
      exec (.cinchAnswer el cmd arg chk len t38) s = .next ((u.send (.cinch [0xFF, BitVec.ofNat 8 u.cinchQ,
        u.cinchStatus, crc8 [BitVec.ofNat 8 u.cinchQ, u.cinchStatus]])).cinchTake (cmd.toNat - 0x80) arg t38)) ∧
  (∀ (el : Nat) (p : Port) (v : Word) (t38 : Nat) (w : State) (s u : State),
    u = s.begin el → s.Takes p R.CINCH_ANSWER → w = u.storeAt p R.CINCH_ANSWER v → w.rbit R.CINCH_CFG 30 = true →
      exec (.cinchAnswerWrite el p v t38) s = .next ((w.cinchTake (fld v 8 2) (v.extractLsb' 0 8) t38).send (.wrote
        p R.CINCH_ANSWER 0))) ∧
  (∀ (el : Nat) (v : State) (s u : State),
    u = s.begin el → u.up 38 = true → u.cinchState ≠ 0 → u.cinchOver = true →
      (v = if u.cinch.done && u.cinch.bad.isNone then u.cinchGood else u.cinchMissed) →
      exec (.cinchWindowEnd el) s = .next ((v.updCinch fun c =>
        { c with bad := none, done := false, first := false, start := u.now }).setFld R.CINCH_STAT 0 2 0)) ∧
  (∀ (el : Nat) (p : Port) (v : Word) (s u : State),
    u = s.begin el → s.Takes p R.SAFE_CMD → v.getLsbD 1 = false →
      exec (.safeApply el p v) s = .next (((u.storeAt p R.SAFE_CMD (v ||| 1)).applyAll scHost).send (.wrote p
        R.SAFE_CMD 0))) ∧
  (∀ (el : Nat) (p : Port) (v : Word) (w : State) (s u : State),
    u = s.begin el → s.Takes p R.SAFE_CMD → v.getLsbD 0 = false → w = u.storeAt p R.SAFE_CMD (v ||| 2) →
      w.expired = false →
      exec (.safeRelease el p v) s = .next ((((w.setBit R.SAFE_STAT scHost false).setBit R.SAFE_STAT scCinch
        false).releaseLines).send (.wrote p R.SAFE_CMD 0))) ∧
  (∀ (el : Nat) (a b : State) (s u : State),
    u = s.begin el → u.up 38 = true → a = u.applyChans allChans →
      b = { a with safe := { a.safe with toggleLost := true }, fm := { a.fm with pinsLatched := true } } →
      exec (.island38Loss el) s = .next (((b.setUp 38 false).event R.SYS_ISLAND_LOST1 6).fault srcIslandClock 38 0))

/-- Under the conditions that the rules give, each security command does what it says and ends with RESULT OK,
  UPD_COMMIT is BUSY until its verification has ended, a command written while another is BUSY ends with BUSY,
  TAKE_OWNER, ROTATE_OWNER, DBG_RESPONSE and TAMPER_LOWER with a PARAM other than 0 end with FORMAT and nothing
  else, and each row of the update trials and of the store window ends in the state its rule names.
  (15_security_and_update.md, R590–R595, R600–R604, 15_security_and_update.md, R612–R615, 15_security_and_update.md,
  R618–R625, 13_host_ports.md, R519–R521) -/
def Obligations.SecurityCommandRowsComplete : Prop :=
  (∀ (el : Nat) (p : Port) (burns : List Bool) (h : List Byte) (v : State) (s u : State),
    u = s.begin el → s.Takes p R.SEC_CMD → v = u.storeAt p R.SEC_CMD (wordN (0 * 256 + 1)) →
      v.rbit R.SEC_CMD_STAT 31 = false → v.owned = false → v.secBuf 0 1 = [4] → burns.headD true = true →
      h = v.keyHash → v.sec.owners.headD h = h →
      exec (.takeOwner el p 0 burns) s = .next (((((((v.storeKey 0).updSec fun q =>
        { q with owners := h :: q.owners.tail }).setOwner 0 h).setBit R.SEC_STAT stBad false)).secEnd 1 scOk).send
        (.wrote p R.SEC_CMD 0))) ∧
  (∀ (el : Nat) (p : Port) (hashOk revOk : Bool) (h : List Byte) (n : Nat) (w : State) (v : State) (s u : State),
    u = s.begin el → s.Takes p R.SEC_CMD → v = u.storeAt p R.SEC_CMD (wordN (0 * 256 + 2)) →
      v.rbit R.SEC_CMD_STAT 31 = false → n = v.sec.owners.length → v.owned = true → n < 4 → v.secBuf 0 1 = [4] →
      v.bufSig (v.ownerKeys.take 1) (v.serial ++ v.secBuf 0 97) 0x68 0x98 = true → hashOk = true → revOk = true →
      h = v.keyHash → (w = ((v.storeKey n).updSec fun q =>
      { q with owners := q.owners ++ [h], prevOk := true }).setOwner n h) →
      exec (.rotateOwner el p 0 hashOk revOk) s = .next ((((w.setBit R.SEC_STAT stPrev true).updSec fun q =>
        { q with revoked := q.revoked ||| BitVec.twoPow 4 (n - 1) }).secEnd 2 scOk).send (.wrote p R.SEC_CMD 0))) ∧
  (∀ (el : Nat) (p : Port) (par : Byte) (burns : List Bool) (v : State) (s u : State),
    u = s.begin el → s.Takes p R.SEC_CMD → v = u.storeAt p R.SEC_CMD (wordN (par.toNat * 256 + 1)) →
      v.rbit R.SEC_CMD_STAT 31 = false → par ≠ 0 →
      exec (.takeOwner el p par burns) s = .next ((v.secEnd 1 scFormat).send (.wrote p R.SEC_CMD 0))) ∧
  (∀ (el : Nat) (p : Port) (par : Byte) (hashOk revOk : Bool) (v : State) (s u : State),
    u = s.begin el → s.Takes p R.SEC_CMD → v = u.storeAt p R.SEC_CMD (wordN (par.toNat * 256 + 2)) →
      v.rbit R.SEC_CMD_STAT 31 = false → par ≠ 0 →
      exec (.rotateOwner el p par hashOk revOk) s = .next ((v.secEnd 2 scFormat).send (.wrote p R.SEC_CMD 0))) ∧
  (∀ (el : Nat) (p : Port) (par : Byte) (v : State) (s u : State),
    u = s.begin el → s.Takes p R.SEC_CMD → v = u.storeAt p R.SEC_CMD (wordN (par.toNat * 256 + 7)) →
      v.rbit R.SEC_CMD_STAT 31 = false → par ≠ 0 →
      exec (.dbgResponse el p par) s = .next ((v.secEnd 7 scFormat).send (.wrote p R.SEC_CMD 0))) ∧
  (∀ (el : Nat) (p : Port) (par : Byte) (v : State) (s u : State),
    u = s.begin el → s.Takes p R.SEC_CMD → v = u.storeAt p R.SEC_CMD (wordN (par.toNat * 256 + 8)) →
      v.rbit R.SEC_CMD_STAT 31 = false → par ≠ 0 →
      exec (.tamperLower el p par) s = .next ((v.secEnd 8 scFormat).send (.wrote p R.SEC_CMD 0))) ∧
  (∀ (el : Nat) (p : Port) (k : BitVec 8) (hi : BitVec 16) (v : State) (j use : Nat) (kek b : List Byte) (s u :
    State),
    u = s.begin el → s.Takes p R.SEC_CMD → v = u.storeAt p R.SEC_CMD (wordN (hi.toNat * 65536 + k.toNat * 256 + 3))
      → v.rbit R.SEC_CMD_STAT 31 = false → use = leNat (v.secBuf 0 1) → k.toNat < 8 → (use = 1 ∨ use = 2) →
      sessOf p = some j → (kek = Tab.get (fun _ => []) v.sec.keks j) → kek ≠ [] →
      kwUnwrap kek (v.secBuf 8 40) = some b →
      exec (.keyLoad el p k hi) s = .next (((v.setKey k.toNat (some ⟨use, b⟩)).secEnd 3 scOk).send (.wrote p
        R.SEC_CMD 0))) ∧
  (∀ (el : Nat) (p : Port) (k : BitVec 8) (v : State) (s u : State),
    u = s.begin el → s.Takes p R.SEC_CMD → v = u.storeAt p R.SEC_CMD (wordN (k.toNat * 256 + 4)) →
      v.rbit R.SEC_CMD_STAT 31 = true →
      exec (.keyErase el p k) s = .next (((v.setReg R.SEC_CMD_STAT 0x80000401).event R.SEC_IRQ_STAT siRefused).send
        (.wrote p R.SEC_CMD 0))) ∧
  (∀ (el : Nat) (p : Port) (k : BitVec 8) (v : State) (s u : State),
    u = s.begin el → s.Takes p R.SEC_CMD → v = u.storeAt p R.SEC_CMD (wordN (k.toNat * 256 + 4)) →
      v.rbit R.SEC_CMD_STAT 31 = false → k.toNat < 8 →
      exec (.keyErase el p k) s = .next (((v.setKey k.toNat none).secEnd 4 scOk).send (.wrote p R.SEC_CMD 0))) ∧
  (∀ (el : Nat) (p : Port) (rnd : List Byte) (v : State) (s u : State),
    u = s.begin el → s.Takes p R.SEC_CMD → v = u.storeAt p R.SEC_CMD (wordN (0 * 256 + 5)) →
      v.rbit R.SEC_CMD_STAT 31 = false → v.sec.idLost = false → v.mssReady = true →
      exec (.attest el p rnd) s = .next (((v.setSecBuf (v.attReport (v.secBuf 0 32) rnd)).secEnd 5 scOk).send
        (.wrote p R.SEC_CMD 0))) ∧
  (∀ (el : Nat) (p : Port) (ws : List Word) (w : State) (v : State) (s u : State),
    u = s.begin el → s.Takes p R.SEC_CMD → v = u.storeAt p R.SEC_CMD (wordN (0 * 256 + 6)) →
      v.rbit R.SEC_CMD_STAT 31 = false → ws = (State.drawWords 51 8 v).1 → w = (State.drawWords 51 8 v).2 →
      exec (.dbgChallenge el p) s = .next ((((w.setSecBuf ((ws.map bytesOfWord).flatten)).updSec fun q =>
        { q with challenge := some ((ws.map bytesOfWord).flatten, v.now) }).secEnd 6 scOk).send (.wrote p R.SEC_CMD
        0))) ∧
  (∀ (el : Nat) (p : Port) (b : List Byte) (t : Nat) (w : State) (v : State) (s u : State),
    u = s.begin el → s.Takes p R.SEC_CMD → v = u.storeAt p R.SEC_CMD (wordN (0 * 256 + 7)) →
      v.rbit R.SEC_CMD_STAT 31 = false → v.sec.challenge = some (b, t) → v.sec.debugOff = false →
      v.now < t + 60000000000 → v.secBuf 0 8 = [1, 0, 0, 0, 0, 0, 0, 0] → v.secBuf 8 32 = b →
      v.secBuf 0x28 8 = v.serial → v.bufSig (v.ownerKeys.take 1) (v.secBuf 0 0x30) 0x30 0x60 = true →
      (w = v.updSec fun q => { q with challenge := none }) →
      exec (.dbgResponse el p 0) s = .next ((((w.setFld R.SEC_DBG_STAT 0 2 (max 1 (v.rfld R.SEC_DBG_STAT 0
        2))).event R.SEC_IRQ_STAT siDebug).secEnd 7 scOk).send (.wrote p R.SEC_CMD 0))) ∧
  (∀ (el : Nat) (b : List Byte) (t : Nat) (s u : State),
    u = s.begin el → s.Runs 37 → u.sec.challenge = some (b, t) → t + 60000000000 ≤ u.now →
      exec (.dbgChallengeExpiry el) s = .next (u.updSec fun q => { q with challenge := none })) ∧
  (∀ (el : Nat) (p : Port) (v : State) (s u : State),
    u = s.begin el → s.Takes p R.SEC_CMD → v = u.storeAt p R.SEC_CMD (wordN (0 * 256 + 8)) →
      v.rbit R.SEC_CMD_STAT 31 = false → v.owned = true → v.bufSig v.ownerKeys (v.serial ++ v.secBuf 0 4) 8 0x38 =
      true →
      exec (.tamperLower el p 0) s = .next (((v.setReg R.SEC_TAMPER_CFG (tamperStored (v.reg (R.SEC_BUF 0)))).secEnd
        8 scOk).send (.wrote p R.SEC_CMD 0))) ∧
  (∀ (el : Nat) (p : Port) (target : BitVec 8) (c : List EccHit) (k : Nat) (v : State) (s u : State),
    u = s.begin el → s.Takes p R.SEC_CMD → v = u.storeAt p R.SEC_CMD (wordN (target.toNat * 256 + 16)) →
      v.rbit R.SEC_CMD_STAT 31 = false → (target = 0 ∨ target = 2) → v.updBusy = false → v.mssReady = true →
      v.stageSlot target.toNat = some k →
      exec (.updCommit el p target c) s = .next (((v.commitStart target.toNat k true c).setReg R.SEC_CMD_STAT
        0x80001000).send (.wrote p R.SEC_CMD 0))) ∧
  (∀ (el : Nat) (c : List EccHit) (target k : Nat) (b : Bool) (s u : State),
    u = s.begin el → s.Runs 37 → u.sec.commit = some (target, k, b) → u.mssServes target = true →
      exec (.verifyComplete el c) s = .next ((u.devRead c (slotBase k) (u.slotLen k)).commitEnd target k b)) ∧
  (∀ (el : Nat) (p : Port) (target : BitVec 8) (k : Nat) (v : State) (s u : State),
    u = s.begin el → s.Takes p R.SEC_CMD → v = u.storeAt p R.SEC_CMD (wordN (target.toNat * 256 + 17)) →
      v.rbit R.SEC_CMD_STAT 31 = false → (target = 0 ∨ target = 2) → v.slotIn target.toNat 2 = some k →
      exec (.updAbort el p target) s = .next (((v.setSlot k 0).secEnd 17 scOk).send (.wrote p R.SEC_CMD 0))) ∧
  (∀ (el : Nat) (p : Port) (c : List EccHit) (k : Nat) (v w : State) (s u : State),
    u = s.begin el → s.Takes p R.SEC_CMD → v = u.storeAt p R.SEC_CMD (wordN (2 * 256 + 18)) →
      v.rbit R.SEC_CMD_STAT 31 = false → v.updBusy = false → v.ldrState ≠ ldVerifying → v.slotIn 2 2 = some k →
      v.rfld R.MSS_STAT 0 2 ≠ 2 → w = (((v.setSlot (otherSlot k) 5).setSlot k 3).secEnd 18 scOk).devRead c (slotBase
      k) (v.slotLen k) → w.fwFail (slotBase k) = none →
      exec (.fwActivate el p c) s = .next ((((w.runFw k).updSec fun q =>
        { q with fwTrial := some v.now, fwWait := some v.now }).mssRestart mcActivate []).send (.wrote p R.SEC_CMD
        0))) ∧
  (∀ (el : Nat) (p : Port) (target : BitVec 8) (burns : List Bool) (k rb n top : Nat) (w x y z : State) (v : State)
    (s u : State),
    u = s.begin el → s.Takes p R.SEC_CMD → v = u.storeAt p R.SEC_CMD (wordN (target.toNat * 256 + 19)) →
      v.rbit R.SEC_CMD_STAT 31 = false → (target = 0 ∨ target = 2) → v.updBusy = false →
      v.slotIn target.toNat 3 = some k → rb = v.slotRb k → n = rb / 1024 - v.rfld (rbReg target.toNat) 0 6 →
      burned burns n = n → top = v.rfld (rbReg target.toNat) 0 6 + n →
      w = (v.setSlot k 4).setReg (rbReg target.toNat) (wordN (rb * 65536 + top)) →
      (x = if 2 ≤ v.slot (otherSlot k) then w.setSlot (otherSlot k) (if rb ≤ w.slotRb (otherSlot k) ∧ top ≤ w.slotRb
      (otherSlot k) / 1024 then 5 else 6) else w) → (y = x.updSec fun q => if target = 2 then
      { q with fwTrial := none } else { q with imgTrial := none }) →
      (z = if target = 0 ∧ v.owned = true ∧ v.storeBytes (slotBase k + 0x18) 8 = keyId (v.ownerKey v.ownerSlot) then
      (y.updSec fun q => { q with prevOk := false }).setBit R.SEC_STAT stPrev false else y) →
      exec (.updConfirm el p target burns) s = .next (((z).secEnd 19 scOk).send (.wrote p R.SEC_CMD 0))) ∧
  (∀ (el : Nat) (p : Port) (v : State) (s u : State),
    u = s.begin el → s.Takes p R.SEC_CMD → v = u.storeAt p R.SEC_CMD (wordN (0 * 256 + 31)) →
      v.rbit R.SEC_CMD_STAT 31 = false →
      exec (.secCntClear el p) s = .next (((v.clearRegs secCounters).secEnd 31 scOk).send (.wrote p R.SEC_CMD 0))) ∧
  (∀ (el : Nat) (fw : Bool) (b : Nat) (s u : State),
    u = s.begin el → s.Runs 37 → ((if fw then u.sec.fwTrial else u.sec.imgTrial) = some b) →
      b + u.rfld R.SEC_UPD_TRIAL 0 16 * 1000000000 ≤ u.now →
      exec (.trialTimeout el fw) s = .next (u.revert (if fw then 2 else 0))) ∧
  (∀ (el : Nat) (b : Nat) (s u : State),
    u = s.begin el → s.Runs 37 → u.sec.fwWait = some b → b + 5000000000 ≤ u.now →
      exec (.fwReadyTimeout el) s = .next (u.revert 2)) ∧
  (∀ (el : Nat) (p : Port) (o : BitVec 27) (v : Word) (a : Nat) (s u : State),
    u = s.begin el → s.PortRuns p → a = 0x10000000 + o.toNat → s.accessErr p a true = 0 → s.sealed = false →
      exec (.storeWindowWrite el p o v) s = .next ((u.hostWrite p a v fun _ t => (errAddress, t)).2.send (.wrote p a
        0)))

/-- Under the conditions that the rules give, each row of the sessions, of the associations, of the tamper sensors
  and of the debug halt ends in the state its rule names. (15_security_and_update.md, R605–R611,
  15_security_and_update.md, R614, R616, 13_host_ports.md, R522) -/
def Obligations.SecuritySessionRowsComplete : Prop :=
  (∀ (el : Nat) (e : EthPort) (f : RxFrame) (rnd m r z : List Byte) (v : State) (s u : State),
    u = s.begin el → (u.macRx e f).1 = some m → v = (u.macRx e f).2 → subtypeOf m = 0x5A40 → v.works 37 = true →
      v.secReady = true → m.length = 144 → leAt m 2 1 = 1 → leAt m 3 1 = 1 → v.sec.idLost = false →
      v.sessReply (ethNum e) m rnd = some (r, z) →
      exec (.sessionHello el e f rnd) s = .next ((v.setHand (ethNum e) (some ⟨leAt m 4 4, v.now, f.src, m, r, z,
        none⟩)).sessSend (ethNum e) f.src r)) ∧
  (∀ (el : Nat) (e : EthPort) (fcsOk : Bool) (len : Nat) (dst src : BitVec 48) (f : FrameBody) (m c : List Byte) (h
    : Hand) (g : RxFrame) (v : State) (s u : State),
    u = s.begin el → g = ⟨fcsOk, len, dst, src, f.vlan, f.etherType, f.body⟩ → (u.macRx e g).1 = some m →
      v = (u.macRx e g).2 → subtypeOf m = 0x5A40 → leAt m 3 1 = 3 → v.hand (ethNum e) = some h → v.works 37 = true →
      v.secReady = true → m.length = 360 → h.sid = leAt m 4 4 → leAt m 2 1 = 1 → c = (m.drop 8).take 256 →
      leAt c 0 4 = 0x43455047 → v.owned = true → v.ownerKeys.any (certOk c) = true → h.peerOk m = true →
      leAt c 4 1 = ethNum e + 1 → leAt c 5 1 / 2 ^ ethNum e % 2 = 1 → v.rbit R.DT_STAT 5 = false →
      exec (.sessionFinish el e fcsOk len dst src f) s = .next (v.sessDone (ethNum e) { h with src := src } true
        false)) ∧
  (∀ (el : Nat) (k : Fin 3) (h : Hand) (s u : State),
    u = s.begin el → s.Runs 37 → u.hand k = some h → h.fin = none → h.at_ + 1000000000 ≤ u.now →
      exec (.sessionTimeout el k) s = .next (u.sessAbort k h.src h.sid abTimeout)) ∧
  (∀ (el : Nat) (e : EthPort) (a : Sa) (d : Nat) (s u : State),
    u = s.begin el → s.Runs 34 → (u.eth e).rxOld = some (a, d) → d ≤ u.now →
      exec (.oldSaDelete el e) s = .next (u.setEth e { u.eth e with rxOld := none })) ∧
  (∀ (el : Nat) (s u : State),
    u = s.begin el → s.Runs 37 → u.sec.usbOpen = true → u.sec.blkAt + 900000000000 ≤ u.now →
      exec (.serviceSessionTimeout el) s = .next (u.closeSession ssUsb)) ∧
  (∀ (el : Nat) (k : Fin 5) (s u : State),
    u = s.begin el → u.clk.inReset = false →
      exec (.tamperDetect el k) s = .next (((u.event R.SEC_TAMPER_EVT k).tamperReport k).tamperResponse k)) ∧
  (∀ (el : Nat) (s u : State),
    u = s.begin el → s.Runs 36 → u.rfld R.SEC_DBG_STAT 0 2 ≠ 0 → u.mgt.halted = false →
      exec (.mssDebugHalt el) s = .next ((((u.updMgt fun g => { g with halted := true }).setFld R.MSS_STAT 0 2
        1).noFix).ldrMssLost)) ∧
  (∀ (el : Nat) (s u : State),
    u = s.begin el → s.Runs 36 → u.mgt.halted = true →
      exec (.debugHaltEnd el) s = .next ((u.updMgt fun g => { g with halted := false }).mssRestart mcDebug []))

/-- Under the conditions that the rules give, each row of the management subsystem, of the scrubbing of SRAM and
  store, of the powered hours and of the flight recorder ends in the state its rule names.
  (16_management_and_recorder.md, R626–R640, 16_management_and_recorder.md, R641–R655, 13_host_ports.md, R519, R521)
  -/
def Obligations.ManagementAndRecorderRowsComplete : Prop :=
  (∀ (el : Nat) (x : List EccHit) (s u : State),
    u = s.begin el → s.Runs 36 →
      exec (.mssLockstep ⟨el, x⟩) s = .next ((u.fault srcMssLockstep 0 0).mssRestart mcLockstep x)) ∧
  (∀ (el : Nat) (p : Port) (v : State) (s u : State),
    u = s.begin el → s.Takes p R.MSS_CMD → v = u.storeAt p R.MSS_CMD 2 → v.Runs 36 →
      exec (.mssRestart el p) s = .next ((v.mssRestart mcHost []).send (.wrote p R.MSS_CMD 0))) ∧
  (∀ (el : Nat) (x : List EccHit) (s u : State),
    u = s.begin el → s.Runs 36 →
      exec (.mssWatchdog ⟨el, x⟩) s = .next (u.mssRestart mcWatchdog x)) ∧
  (∀ (el : Nat) (v : State) (s u : State),
    u = s.begin el → s.Runs 36 → u.rfld R.MSS_STAT 0 2 = 1 → u.mgt.halted = false →
      v = { u.setFld R.MSS_STAT 0 2 0 with sec := { u.sec with fwWait := none } } → v.Runs 37 →
      exec (.mssReady el) s = .next (if v.holdup && !v.mgt.marker then v.recCatchUp.sessResume.powerDownRest else
        v.recCatchUp.sessResume)) ∧
  (∀ (el : Nat) (p : Port) (s u : State),
    u = s.begin el → s.Takes p R.MSS_CMD →
      exec (.mssCntClear el p) s = .next (((u.storeAt p R.MSS_CMD 1).clearRegs mssCounters).send (.wrote p R.MSS_CMD
        0))) ∧
  (∀ (el : Nat) (temps : List (BitVec 16)) (s u : State),
    u = s.begin el → s.Runs 37 → s.Runs 36 → u.mssReady = true → u.dt % 10000000 = 0 →
      exec (.tempPoll el temps) s = .next (forN (fun p y => (y.when (y.up (tempIsland p)) fun w => w.tempRead p
        (temps.getD p 0)).recAdd 4 (p / 12) p ((y.when (y.up (tempIsland p)) fun w => w.tempRead p (temps.getD p
        0)).rsfld (R.MGT_TEMP0 p) 0 16)) 28 u)) ∧
  (∀ (el : Nat) (n : Nat) (b : Bool) (err : Ecc) (q : Nat) (v : State) (s u : State),
    u = s.begin el → s.Runs 37 → q = u.mgt.sramPos → (v = if b then (u.bgWait n).setSramBad q false else u.bgWait n)
      → q + 1 < sramSizes.sum →
      exec (.sramScrubRead ⟨el, n⟩ (.scrub b err)) s = .next ((v.sramRead q err).2.updMgt fun g =>
        { g with sramPos := q + 1 })) ∧
  (∀ (el : Nat) (n : Nat) (region : Fin 10) (word : Nat) (b : Bool) (err : Ecc) (item : SramItem) (q : Nat) (r :
    Bool × State) (s u : State),
    u = s.begin el → s.Runs (sramIsland region) → word < sramSizes.getD region 0 → q = sramIndex region word →
      (r = (if b then u.setSramBad q false else u).sramRead q err) →
      exec (.sramScrubRead ⟨el, n⟩ (.owner region word b err item)) s = .next (if r.1 then r.2.discard region item
        else r.2)) ∧
  (∀ (el : Nat) (m : Nat) (err : Ecc) (n : Nat) (v w : State) (s u : State),
    u = s.begin el → s.Runs 37 → v = u.bgWait m → n = v.rfld R.STORE_SCRUB_POS 0 24 → n + 1 < 2 ^ 24 →
      (w = if err = .good then v.setPoison n false else if err = .corrected then ((v.setPoison n false).count
      R.STORE_CE_CNT 1).event R.STORE_IRQ_STAT sqStoreCe else (v.setPoison n true).storeUe n) →
      exec (.storeScrubRead ⟨el, m⟩ err) s = .next (w.setFld R.STORE_SCRUB_POS 0 24 (n + 1))) ∧
  (∀ (el : Nat) (store : Bool) (s u : State),
    u = s.begin el → s.Runs 37 → store = false → u.mgt.sramLate = false → u.mgt.sramAt + 1000000000 < u.now →
      exec (.scrubLate el store) s = .next (((u.updMgt fun g => { g with sramLate := true }).count R.SCRUB_LATE_CNT
        1).event R.STORE_IRQ_STAT sqScrubLate)) ∧
  (∀ (el : Nat) (s u : State),
    u = s.begin el → s.Runs 37 → u.mgt.hourAt + 3600000000000 ≤ u.now →
      exec (.poweredHour el) s = .next ((u.updMgt fun g => { g with hourAt := g.hourAt + 3600000000000 }).count
        R.PWR_HOURS 1)) ∧
  (∀ (el : Nat) (x : List EccHit) (k : Fin 10) (inst : Fin 160) (s u : State),
    u = s.begin el → s.Runs 37 → inst < recInsts k →
      exec (.intervalClose ⟨el, x⟩ k inst) s = .next (forN (fun j v => forN (fun i w => if j < k.val ∨ i ≤ inst.val
        then w.recTick x j i else w) (recInsts j) v) (k.val + 1) u)) ∧
  (∀ (el : Nat) (x : List EccHit) (s u : State),
    u = s.begin el → s.Runs 37 → (Tab.get (fun _ => false) u.rcd.due 0 = false) →
      u.recTimer 0 (u.recOpened 0 0) ≤ u.dt →
      exec (.intervalClose ⟨el, x⟩ 0 0) s = .next (u.recDue x 0 0 0)) ∧
  (∀ (el : Nat) (p : Port) (s u : State),
    u = s.begin el → s.Takes p R.REC_CMD →
      exec (.recCloseAll el p) s = .next (((u.storeAt p R.REC_CMD 2).recCloseAll 3).send (.wrote p R.REC_CMD 0))) ∧
  (∀ (el : Nat) (p : Port) (s u : State),
    u = s.begin el → s.Takes p R.REC_CMD →
      exec (.recCntClear el p) s = .next (((u.storeAt p R.REC_CMD 1).clearRegs recCounters).send (.wrote p R.REC_CMD
        0))) ∧
  (∀ (el : Nat) (p : Port) (n : Fin 160) (decim : Fin 8) (s u : State),
    u = s.begin el → s.Takes p R.REC_TRACE_CFG →
      exec (.traceArm el p n decim) s = .next (((u.storeAt p R.REC_TRACE_CFG (wordN (2 ^ 31 + decim * 256 +
        n))).traceWritten).send (.wrote p R.REC_TRACE_CFG 0))) ∧
  (∀ (el : Nat) (p : Port) (x : List EccHit) (s u : State),
    u = s.begin el → s.Gives p (R.REC_WIN 0) →
      exec (.recWin0Read ⟨el, x⟩ p) s = .next ((winRead x 0 u).2.send (.read p (R.REC_WIN 0) (winRead x 0 u).1 0)))
        ∧
  (∀ (el : Nat) (p : Port) (x : List EccHit) (s u : State),
    u = s.begin el → s.Gives p (R.REC_WIN 63) →
      exec (.recWin63Read ⟨el, x⟩ p) s = .next ((winRead x 63 u).2.send (.read p (R.REC_WIN 63) (winRead x 63 u).1
        0))) ∧
  (∀ (el : Nat) (p : Port) (v : Word) (s u : State),
    u = s.begin el → s.Takes p R.REC_CURSOR →
      exec (.recCursorWrite el p v) s = .next (((u.storeAt p R.REC_CURSOR v).cursorWritten).send (.wrote p
        R.REC_CURSOR 0))) ∧
  (∀ (el : Nat) (mv : List (BitVec 16)) (s u : State),
    u = s.begin el → s.Runs 37 → u.dt % 1000000 = 0 →
      exec (.recorderSample el mv) s = .next ((forN (fun i v => (v.setFld (R.PWR_RAIL i) 0 16 (mv.getD i
        0).toNat).recAdd 3 (i / 8) (i % 8) (mv.getD i 0).toNat) 14 u).recAdd 7 0 0 (u.intake.fifo.length : Int)))

/-- With a command at the front of the queue, a step is that command on the state with the rest of the queue.
  (95_what_each_step_holds.md) -/
def Obligations.StepRunsTheFrontCommand : Prop :=
  ∀ (s : State) (c : Instr) (r : List Instr), s.pending = c :: r → step s = exec c { s with pending := r }

/-- With no command waiting a step changes nothing. The spec has no such step: this is the model's choice, log 2.
  (95_what_each_step_holds.md) -/
def Obligations.EmptyQueueIdles : Prop :=
  ∀ s : State, s.pending = [] → step s = .next s

/-- Every command answers a next state from every state. (00_scope.md) -/
def Obligations.EveryCommandCompletes : Prop :=
  ∀ (c : Instr) (s : State), ∃ t, exec c s = .next t

/-- From every state, a command that answers a next state leaves the queue as it found it. The queue is the model's
  own (log 2). (00_scope.md) -/
def Obligations.CommandsKeepTheQueue : Prop :=
  ∀ (c : Instr) (s t : State), exec c s = .next t → t.pending = s.pending

/-- From every state whose registers and store are in canonical form (entries in rising order, and none equal to
  what an unlisted address reads as), a step that answers a next state leads to such a state. (00_scope.md,
  16_management_and_recorder.md) -/
def Obligations.StepKeepsTheCanonicalForm : Prop :=
  ∀ s t : State, s.Canonical → step s = .next t → t.Canonical

/-- Registers and store of the state after reset are in canonical form, and its queue is empty.
  (17_clocks_power_reset.md) -/
def Obligations.ResetIsCanonical : Prop :=
  State.reset.Canonical ∧ State.reset.pending = []

/-- At reset device time is 0 and in FREE (R456, where the backup time is not valid), the reference runs from the
  IRO (R656), no image is in force and the device is not sealed, every register reads its reset value, no lane
  fires, and no fail-safe line, capture or session is in force. (11_gnss_and_device_time.md, R456,
  17_clocks_power_reset.md, R656, R677, 02_trellis_images.md, R77, R78) -/
def Obligations.ResetLeavesWhatTheRulesSay : Prop :=
  State.reset.dt = 0 ∧ State.reset.rfld R.DT_STAT 0 2 = 0 ∧ State.reset.rbit R.CLK_STAT csRefOnIro = true ∧
  State.reset.imageOk = false ∧ State.reset.sealed = false ∧ (∀ a, State.reset.reg a = resetWord a) ∧
  (∀ n, (State.reset.lane n).firing = none) ∧ (∀ p a, State.reset.held p a = none ∧ State.reset.cap p a = none) ∧
  State.reset.sec.usbOpen = false

/-- A write and a read of an address outside every range of Table 9 are refused with the address error on the port
  that carried them: the read returns 0, and nothing but the failure registers of that port changes.
  (01_architecture.md, R53) -/
def Obligations.AccessOutsideTheMap : Prop :=
  ∀ (el : Nat) (p : Port) (a : Nat) (v : Word) (e : WriteEnv) (x : List EccHit) (s : State), s.PortRuns p →
    inMap a = false →
    (∃ t, exec (.registerWrite el p a v e) s = .next t ∧ s.Refused t el p a errAddress (.wrote p a errAddress)) ∧
    (∃ t, exec (.multiwordCaptureRead ⟨el, x⟩ p a) s = .next t ∧ s.Refused t el p a errAddress (.read p a 0
      errAddress))

/-- A write and a read of an address inside a block that holds no register are refused with the address error: the
  read returns 0, and nothing but the failure registers of the port changes. The block is in an island that is up
  and clocked and whose clock runs, no transfer of the access has failed, and the access passes the checks that come
  first. (00_scope.md, R12) -/
def Obligations.AccessWhereNoRegisterIs : Prop :=
  ∀ (el : Nat) (p : Port) (a : Nat) (v : Word) (e : WriteEnv) (x : List EccHit) (s : State), s.PortRuns p →
    a < 0x10000000 → (regHit? a).isNone = true →
    s.Answers p a → s.up (islandOf a) = true → s.clocked a = true → s.accFails p a = false →
      s.stopped (islandOf a) = false →
    (s.mayWrite p = true → s.inFinalSet a = false →
      ∃ t, exec (.registerWrite el p a v e) s = .next t ∧ s.Refused t el p a errAddress (.wrote p a errAddress)) ∧
    (∃ t, exec (.multiwordCaptureRead ⟨el, x⟩ p a) s = .next t ∧ s.Refused t el p a errAddress (.read p a 0
      errAddress))

/-- A write and a read of a register of an isolated island are refused with ISLAND_DOWN: the read returns 0, and
  nothing but the failure registers of the port changes. (01_architecture.md, R41) -/
def Obligations.AccessToAnIsolatedBlock : Prop :=
  ∀ (el : Nat) (p : Port) (a : Nat) (v : Word) (e : WriteEnv) (x : List EccHit) (s : State), s.PortRuns p →
    a % 4 = 0 → inMap a = true → a < 0x10000000 →
    s.Answers p a → s.up (islandOf a) = false →
    (∃ t, exec (.registerWrite el p a v e) s = .next t ∧ s.Refused t el p a errIslandDown (.wrote p a
      errIslandDown)) ∧
    (∃ t, exec (.multiwordCaptureRead ⟨el, x⟩ p a) s = .next t ∧ s.Refused t el p a errIslandDown (.read p a 0
      errIslandDown))

/-- A write and a read of an address that is no multiple of 4 are refused with the address error, and nothing but
  the failure registers of the port changes (R11; a narrower access does not exist in this model). (00_scope.md,
  R11) -/
def Obligations.MisalignedAccess : Prop :=
  ∀ (el : Nat) (p : Port) (a : Nat) (v : Word) (e : WriteEnv) (x : List EccHit) (s : State), s.PortRuns p →
    a % 4 ≠ 0 →
    (∃ t, exec (.registerWrite el p a v e) s = .next t ∧ s.Refused t el p a errAddress (.wrote p a errAddress)) ∧
    (∃ t, exec (.multiwordCaptureRead ⟨el, x⟩ p a) s = .next t ∧ s.Refused t el p a errAddress (.read p a 0
      errAddress))

/-- While no full image is in force, a write and a read of any block that is not among the six of R77 are refused
  with NO_IMAGE. That the store window answers with the store control is the model's choice (log 8).
  (02_trellis_images.md, R77) -/
def Obligations.AccessWithoutAnImage : Prop :=
  ∀ (el : Nat) (p : Port) (a : Nat) (v : Word) (e : WriteEnv) (x : List EccHit) (s : State), s.PortRuns p →
    a % 4 = 0 → inMap a = true → a < 0x10000000 →
    s.imageOk = false → answersUnconfigured a = false →
    (∃ t, exec (.registerWrite el p a v e) s = .next t ∧ s.Refused t el p a errNoImage (.wrote p a errNoImage)) ∧
    (∃ t, exec (.multiwordCaptureRead ⟨el, x⟩ p a) s = .next t ∧ s.Refused t el p a errNoImage (.read p a 0
      errNoImage))

/-- A write of a register from a port that may not write (R515, R518) is refused with NOT_OWNER, and nothing but the
  failure registers of the port changes. (13_host_ports.md, R515, R518) -/
def Obligations.WriteFromANonOwner : Prop :=
  ∀ (el : Nat) (p : Port) (a : Nat) (v : Word) (e : WriteEnv) (s : State), s.PortRuns p → a % 4 = 0 →
    inMap a = true → a < 0x10000000 →
    s.Answers p a → s.up (islandOf a) = true → s.clocked a = true → s.accFails p a = false →
      s.stopped (islandOf a) = false →
    (p = .eth1 ∧ s.imageOk = true ∧ s.rbit R.PORT_CFG 0 = true) ∨
      (p = .qspi ∧ s.imageOk = true ∧ s.up 34 = true ∧ s.rbit R.PORT_CFG 0 = false) ∨
      (p = .usb ∧ (s.rbit R.PORT_CFG 1 = false ∨ s.sec.usbOpen = false)) →
    ∃ t, exec (.registerWrite el p a v e) s = .next t ∧ s.Refused t el p a errNotOwner (.wrote p a errNotOwner)

/-- A word that reaches a register changes no other register, neither the store nor anything else; a bit that no RW,
  RWS or stored WO field holds keeps its value, but that a 1 written to a W1C bit clears it, unless hardware set
  that bit in the same clock cycle (R16; which sets those are, log 137). So RO and reserved bits ignore what is
  written. (00_scope.md, R13, R14, R16) -/
def Obligations.StoredBitsFollowTheirAccessType : Prop :=
  ∀ (s : State) (r : RegRow) (a : Nat) (v : Word), s.RegsBut (s.storeWord r a v) [a] ∧ s.storeWord r a v =
    { s with regs := (s.storeWord r a v).regs } ∧
    ∀ i, (r.stores a).getLsbD i = false →
      ((s.storeWord r a v).reg a).getLsbD i = ((s.reg a).getLsbD i && !(v.getLsbD i && r.w1c.getLsbD i &&
        !(s.freshBits a).getLsbD i))

/-- In a sealed device the word that a host write lets through holds every RWS bit at its present value, whatever is
  written, and every register with an RWS field gives the write the reason "sealed RWS", the first of R85. Without
  sealing nothing is held back. (00_scope.md, R15, 02_trellis_images.md, R82, R85) -/
def Obligations.SealedFieldsKeepTheirValues : Prop :=
  ∀ (s : State) (r : RegRow) (a : Nat) (v : Word),
    (s.sealed = true → (∀ i, r.rws.getLsbD i = true → r.wo.getLsbD i = false →
      (s.screen r a v).v.getLsbD i = (s.reg a).getLsbD i) ∧
      (r.rws ≠ 0 → firstReason (s.screen r a v).reasons = 0 ∧ (s.screen r a v).reasons ≠ 0)) ∧
    (s.sealed = false → (s.screen r a v).reasons = 0)

/-- For a writable two-word value, writing the lower word through a port changes no register. Writing the higher
  word through the same port then gives both registers their words, as storing them does, the lower one as far as
  sealing and the permission table leave its fields open then (R13, R15), and the port holds nothing. A lower word
  held from another port is not taken. (00_scope.md, R18, 13_host_ports.md, R520) -/
def Obligations.HeldWordsTakeEffectTogether : Prop :=
  ∀ (s : State) (p q : Port) (lo : Nat) (h0 h1 : RegHit) (v0 v1 : Word), regHit? lo = some h0 →
    regHit? (lo + 4) = some h1 →
    spanAt? spans lo = some (lo, 2) → spanAt? spans (lo + 4) = some (lo, 2) → h0.row.stores lo ≠ 0 →
      h1.row.stores (lo + 4) ≠ 0 →
    (s.storeAt p lo v0).regs = s.regs ∧
    ((s.storeAt p lo v0).storeAt p (lo + 4) v1).regs = ((s.storeWord h0.row lo (s.screen h0.row lo v0).v).storeWord
      h1.row (lo + 4) v1).regs ∧
    ((s.storeAt p lo v0).storeAt p (lo + 4) v1).held p lo = none ∧
    (q ≠ p → s.held q lo = none → ((s.storeAt p lo v0).storeAt q (lo + 4) v1).regs = (s.storeWord h1.row (lo + 4)
      v1).regs)

/-- Reading the lowest word of a multi-word value through a port returns its present value and changes nothing but
  that port's captures. In every later state with those captures, each higher word reads through that port as it
  stood at the capture; through a port without a capture it reads as it stands. (00_scope.md, R17, 13_host_ports.md,
  R520) -/
def Obligations.CapturedWordsStayTogether : Prop :=
  ∀ (s w : State) (p q : Port) (lo n i : Nat), spanAt? spans lo = some (lo, n) → 0 < i → i < n →
    lo + 4 * i < 2 ^ 32 →
    spanAt? spans (lo + 4 * i) = some (lo, n) → w.port.caps = (plainRead p lo s).2.port.caps →
    (plainRead p lo s).1 = s.live lo ∧ (plainRead p lo s).2 =
      { s with port := { s.port with caps := (plainRead p lo s).2.port.caps } } ∧
    plainRead p (lo + 4 * i) w = (s.live (lo + 4 * i), w) ∧
    (s.cap q (lo + 4 * i) = none → plainRead q (lo + 4 * i) s = (s.live (lo + 4 * i), s))

/-- The command that clears the counters of a block is answered with success, every counter of its list then reads
  0, and every other register and every byte of the store is as before. Of the two pulse registers of device time
  the count alone is cleared. (00_scope.md, R21, 06_lane_drive.md, 05_stitch_scheduling.md,
  04_ground_sections_and_coverage.md, 08_motion_axes.md, 09_position_feedback.md, 11_gnss_and_device_time.md,
  12_can_fd.md, 01_architecture.md, 17_clocks_power_reset.md, 02_trellis_images.md, 16_management_and_recorder.md)
  -/
def Obligations.ClearsReachTheirCounters : Prop :=
  (∀ (el : Nat) (p : Port) (t : Fin 20) (s : State), s.Takes p (R.TILE_CMD t) →
    ∃ u, exec (.tileCntClear el p t) s = .next u ∧ u.out = [.wrote p (R.TILE_CMD t) 0] ∧
      (∀ a ∈ (tileCounters t), u.reg a = 0) ∧ s.RegsBut u (tileCounters t) ∧ s.SameStore u) ∧
  (∀ (el : Nat) (p : Port) (s : State), s.Takes p R.INTAKE_CNT_CLEAR →
    ∃ u, exec (.intakeCntClear el p) s = .next u ∧ u.out = [.wrote p R.INTAKE_CNT_CLEAR 0] ∧
      (∀ a ∈ intakeCounters, u.reg a = 0) ∧ s.RegsBut u (intakeCounters) ∧ s.SameStore u) ∧
  (∀ (el : Nat) (p : Port) (s : State), s.Takes p R.STITCH_CMD →
    ∃ u, exec (.stitchCntClear el p) s = .next u ∧ u.out = [.wrote p R.STITCH_CMD 0] ∧
      (∀ a ∈ stitchCounters, u.reg a = 0) ∧ s.RegsBut u (stitchCounters) ∧ s.SameStore u) ∧
  (∀ (el : Nat) (p : Port) (s : State), s.Takes p R.GND_CMD →
    ∃ u, exec (.gndCntClear el p) s = .next u ∧ u.out = [.wrote p R.GND_CMD 0] ∧
      (∀ a ∈ gndCounters, u.reg a = 0) ∧ s.RegsBut u (gndCounters) ∧ s.SameStore u) ∧
  (∀ (el : Nat) (p : Port) (t : Fin 2) (s : State), s.Takes p (R.MOT_CMD t) →
    ∃ u, exec (.motCntClear el p t) s = .next u ∧ u.out = [.wrote p (R.MOT_CMD t) 0] ∧
      (∀ a ∈ (motCounters t), u.reg a = 0) ∧ s.RegsBut u (motCounters t) ∧ s.SameStore u) ∧
  (∀ (el : Nat) (p : Port) (s : State), s.Takes p R.FB_CMD →
    ∃ u, exec (.fbCntClear el p) s = .next u ∧ u.out = [.wrote p R.FB_CMD 0] ∧
      (∀ a ∈ fbCounters, u.reg a = 0) ∧ s.RegsBut u (fbCounters) ∧ s.SameStore u) ∧
  (∀ (el : Nat) (p : Port) (s : State), s.Takes p R.GNSS_CMD →
    ∃ u, exec (.gnssCntClear el p) s = .next u ∧ u.out = [.wrote p R.GNSS_CMD 0] ∧
      (∀ a ∈ gnssCounters, u.reg a = 0) ∧ s.RegsBut u (gnssCounters) ∧ s.SameStore u) ∧
  (∀ (el : Nat) (p : Port) (c : Fin 4) (s : State), s.Takes p (R.CAN_CMD c) →
    ∃ u, exec (.canCntClear el p c) s = .next u ∧ u.out = [.wrote p (R.CAN_CMD c) 0] ∧
      (∀ a ∈ (canCounters c), u.reg a = 0) ∧ s.RegsBut u (canCounters c) ∧ s.SameStore u) ∧
  (∀ (el : Nat) (p : Port) (s : State), s.Takes p R.SYS_CNT_CLEAR →
    ∃ u, exec (.sysCntClear el p) s = .next u ∧ u.out = [.wrote p R.SYS_CNT_CLEAR 0] ∧
      (∀ a ∈ [R.SYS_HS_TIMEOUT, R.SYS_HS_PARITY, R.SYS_DT_STEP], u.reg a = 0) ∧ s.RegsBut u ([R.SYS_HS_TIMEOUT,
        R.SYS_HS_PARITY, R.SYS_DT_STEP]) ∧ s.SameStore u) ∧
  (∀ (el : Nat) (p : Port) (s : State), s.Takes p R.CLK_CMD →
    ∃ u, exec (.clkCntClear el p) s = .next u ∧ u.out = [.wrote p R.CLK_CMD 0] ∧
      (∀ a ∈ clkCounters, u.reg a = 0) ∧ s.RegsBut u (clkCounters) ∧ s.SameStore u) ∧
  (∀ (el : Nat) (p : Port) (s : State), s.Takes p R.LDR_CTRL →
    ∃ u, exec (.ldrClearCnt el p) s = .next u ∧ u.out = [.wrote p R.LDR_CTRL 0] ∧
      (∀ a ∈ [R.LDR_RESEARCH, R.LDR_DEFER, R.LDR_REFUSE_CNT, R.LDR_HANDOVER_REFUSED], u.reg a = 0) ∧ s.RegsBut u
        ([R.LDR_RESEARCH, R.LDR_DEFER, R.LDR_REFUSE_CNT, R.LDR_HANDOVER_REFUSED]) ∧ s.SameStore u) ∧
  (∀ (el : Nat) (p : Port) (s : State), s.Takes p R.MSS_CMD →
    ∃ u, exec (.mssCntClear el p) s = .next u ∧ u.out = [.wrote p R.MSS_CMD 0] ∧
      (∀ a ∈ mssCounters, u.reg a = 0) ∧ s.RegsBut u (mssCounters) ∧ s.SameStore u) ∧
  (∀ (el : Nat) (p : Port) (s : State), s.Takes p R.REC_CMD →
    ∃ u, exec (.recCntClear el p) s = .next u ∧ u.out = [.wrote p R.REC_CMD 0] ∧
      (∀ a ∈ recCounters, u.reg a = 0) ∧ s.RegsBut u (recCounters) ∧ s.SameStore u) ∧
  (∀ (el : Nat) (p : Port) (s : State), s.Takes p R.DT_CMD →
    ∃ u, exec (.dtCntClear el p) s = .next u ∧ u.out = [.wrote p R.DT_CMD 0] ∧
      u.reg R.DT_STEP_CNT = 0 ∧ u.reg R.DT_SRC_LOSS_CNT = 0 ∧ (∀ i : Fin 2, u.rfld (R.DT_TP_SEQ i) 0 31 = 0 ∧ u.rbit
        (R.DT_TP_SEQ i) 31 = s.rbit (R.DT_TP_SEQ i) 31) ∧
      s.RegsBut u [R.DT_STEP_CNT, R.DT_SRC_LOSS_CNT, R.DT_TP_SEQ 0, R.DT_TP_SEQ 1] ∧ s.SameStore u)

/-- A write of SYS_ISLAND_RESTART0 or SYS_ISLAND_RESTART1 with the bit of an island that is up is answered with the
  address error, and that island is neither asked to restart nor isolated. (01_architecture.md, R58) -/
def Obligations.RestartOfAWorkingIsland : Prop :=
  ∀ (el : Nat) (p : Port) (v : Word) (hi : Bool) (i : Fin 39) (s : State), (hi = true ↔ 32 ≤ i.val) →
    v.getLsbD (i.val % 32) = true →
    s.up i = true → s.Takes p (if hi then R.SYS_ISLAND_RESTART1 else R.SYS_ISLAND_RESTART0) →
    ∃ t, exec (.islandRestart el p hi v) s = .next t ∧
      t.out = [.wrote p (if hi then R.SYS_ISLAND_RESTART1 else R.SYS_ISLAND_RESTART0) errAddress] ∧
      t.restartOf i = s.restartOf i ∧ t.up i = true ∧ s.SameStore t

/-- At a sync token an island that works and differs from the announced instant by no more than 100 ns moves its
  local copy toward that instant by at most 2 ns, never past it, and nothing else changes. (01_architecture.md, R42)
  -/
def Obligations.SmallDriftIsSlewed : Prop :=
  ∀ (el : Nat) (i : Fin 38) (drift : Int) (s u : State) (d : Int), u = (s.begin el).onIsland 32 State.dtDue →
    d = Tab.get (fun _ => 0) u.sys.localDt i + drift →
    u.up i = true → u.ungated i = true → d.natAbs ≤ 100 →
    ∃ x : Int, exec (.dtSyncToken el i drift) s = .next
      { u with sys := { u.sys with localDt := Tab.set (fun _ => 0) u.sys.localDt i x } } ∧
      (d - x).natAbs = min 2 d.natAbs ∧ x.natAbs ≤ d.natAbs ∧ 0 ≤ d * x

/-- For a well-formed frame of an enabled, synchronised stream without the RESYNC flag, d = (SEQ − expected) modulo
  2³² decides: 0 accepts it; 1 to 2³¹ − 1 accepts it, adds d to the lost count and sets SEQ_GAP; 2³¹ or more drops
  it and counts it as stale. (03_targets_and_trajectories.md, R108) -/
def Obligations.SequenceOfAStream : Prop :=
  ∀ (s w : State) (body : List Byte) (k cnt seq d : Nat), leAt body 0 2 = 0x5A17 → k = (body.getD 3 0).toNat →
    k ≤ 3 → (body.getD 2 0).toNat = 1 →
    cnt = (body.getD 8 0).toNat → cnt ≤ 88 → 16 + 16 * cnt ≤ body.length → s.rbit R.INTAKE_CTRL k = true →
      s.rbit (R.INTAKE_S_STAT k) 0 = true →
    (body.getD 9 0).toNat % 2 = 0 → seq = leAt body 4 4 →
    d = (seq + 2 ^ 32 - ((s.reg (R.INTAKE_S_SEQ k)).toNat + 1) % 2 ^ 32) % 2 ^ 32 →
    w = s.setRegI (R.INTAKE_S_TRANSIT k) (wrap48 ((s.dt : Int) - (leAt body 10 6 : Int))) →
    (d = 0 → s.huzer body = w.acceptFrame k seq cnt body) ∧
    (1 ≤ d → d < 2 ^ 31 → s.huzer body = ((w.count (R.INTAKE_S_LOST k) d).event R.INTAKE_IRQ_STAT
      iSeqGap).acceptFrame k seq cnt body) ∧
    (2 ^ 31 ≤ d → s.huzer body = w.count (R.INTAKE_S_STALE k) 1 ∧ (s.huzer body).reg (R.INTAKE_S_SEQ k) = s.reg
      (R.INTAKE_S_SEQ k) ∧
      (s.huzer body).intake = s.intake)

/-- After a frame is accepted INTAKE_Sn_SEQ holds its SEQ, so that SEQ + 1 modulo 2³² is expected next, and this is
  so whether the FIFO takes its records or refuses them whole. (03_targets_and_trajectories.md, R109) -/
def Obligations.AcceptedFrameMovesTheSequence : Prop :=
  ∀ (s : State) (k : Fin 4) (seq cnt : Nat) (body : List Byte), seq < 2 ^ 32 →
    ((s.acceptFrame k seq cnt body).reg (R.INTAKE_S_SEQ k)).toNat = seq ∧
    (fifoSize - s.intake.fifo.length < cnt → (s.acceptFrame k seq cnt body).intake = s.intake) ∧
    (cnt ≤ fifoSize - s.intake.fifo.length → (records body cnt).length = cnt →
      (s.acceptFrame k seq cnt body).intake.fifo.length = s.intake.fifo.length + cnt)

/-- Writing INTAKE_TGT_W3 while the FIFO has a free entry appends one record and INTAKE_TGT_CNT counts it. With no
  free entry the FIFO is unchanged, INTAKE_TGT_REFUSED counts the record and TGT_REFUSED sets.
  (03_targets_and_trajectories.md, R113) -/
def Obligations.TargetOfTheHost : Prop :=
  ∀ (s : State) (w : Word),
    (s.intake.fifo.length < fifoSize → (tgtSubmit w s).intake.fifo.length = s.intake.fifo.length + 1 ∧
      (tgtSubmit w s).reg R.INTAKE_TGT_CNT = wordN (satN 32 ((s.reg R.INTAKE_TGT_CNT).toNat + 1)) ∧
      (tgtSubmit w s).reg R.INTAKE_TGT_REFUSED = s.reg R.INTAKE_TGT_REFUSED) ∧
    (fifoSize ≤ s.intake.fifo.length → (tgtSubmit w s).intake = s.intake ∧
      (tgtSubmit w s).reg R.INTAKE_TGT_REFUSED = wordN (satN 32 ((s.reg R.INTAKE_TGT_REFUSED).toNat + 1)) ∧
      (tgtSubmit w s).rbit R.INTAKE_IRQ_STAT iTgtRefused = true ∧
      s.RegsBut (tgtSubmit w s) [R.INTAKE_TGT_REFUSED, R.INTAKE_IRQ_STAT])

/-- An entry with a close instant that is shorter than MIN_PULSE opens earlier by ⌊extra / 2⌋ units of 10 ns and
  closes later by the rest, sets WIDENED, and is counted once; where its length is a whole number of units it is
  then exactly MIN_PULSE long. Any other entry stays as it is. (05_stitch_scheduling.md, R188) -/
def Obligations.ShortEntryIsWidened : Prop :=
  ∀ (s : State) (n : Nat) (e : Entry) (c : Int), e.close = some c →
    (c - e.opn < s.minPulse n → ∃ x : Int, x = (s.minPulse n - (c - e.opn)) / 10 ∧ 0 ≤ x ∧
      (s.widen n e).2 = { e with opn := e.opn - x / 2 * 10, close := some (c + (x - x / 2) * 10), widened := true }
        ∧
      (e.widened = false → (s.widen n e).1 = s.count (R.STITCH_LANE_WIDENED n) 1) ∧ (e.widened = true →
        (s.widen n e).1 = s) ∧
      ((c - e.opn) % 10 = 0 → (c + (x - x / 2) * 10) - (e.opn - x / 2 * 10) = s.minPulse n)) ∧
    (s.minPulse n ≤ c - e.opn → s.widen n e = (s, e))

/-- When the tile temperature reaches TILE_TEMP_WARN, TEMP_WARN sets. The tile does nothing else: only the shown
  temperature and the event register change. (06_lane_drive.md, R281) -/
def Obligations.TemperatureWarning : Prop :=
  ∀ (el : Nat) (t : Fin 20) (temp : BitVec 16) (s : State), s.Runs t →
    s.rsfld (R.TILE_TEMP_WARN t) 0 16 ≤ temp.toInt →
    ∃ u, exec (.tileTempWarn el t temp) s = .next u ∧ u.rbit (R.TILE_IRQ_STAT t) tiWarn = true ∧
      s.SameButRegs u el [] ∧ s.RegsBut u [R.TILE_TEMP t, R.TILE_IRQ_STAT t]

/-- When the RMS group current exceeds 8,000 mA and the group is not already in such an excursion, GRP_OVERLOAD sets
  and GRP_OVERLOAD_CNT counts one; during the excursion nothing more is counted; at or below 8,000 mA nothing is
  reported and the excursion ends. The tile takes no other action. (06_lane_drive.md, R245) -/
def Obligations.GroupOverloadOncePerExcursion : Prop :=
  ∀ (el : Nat) (t : Fin 20) (rms : BitVec 16) (s : State), s.Runs t →
    ∃ u, exec (.groupOverload el t rms) s = .next u ∧
    u = { s.begin el with regs := u.regs, fresh := u.fresh, sats := u.sats, tiles := u.tiles } ∧
    u.tile t = { s.tile t with overload := decide (8000 < rms.toNat) } ∧ (∀ k, k ≠ t.val → u.tile k = s.tile k) ∧
    s.RegsBut u [R.GRP_IMEAS t, R.TILE_IRQ_STAT t, R.GRP_OVERLOAD_CNT t] ∧
    (8000 < rms.toNat → (s.tile t).overload = false → u.rbit (R.TILE_IRQ_STAT t) tiOverload = true ∧
      u.reg (R.GRP_OVERLOAD_CNT t) = wordN (satN 32 ((s.reg (R.GRP_OVERLOAD_CNT t)).toNat + 1))) ∧
    (rms.toNat ≤ 8000 ∨ (s.tile t).overload = true →
      u.reg (R.TILE_IRQ_STAT t) = s.reg (R.TILE_IRQ_STAT t) ∧ u.reg (R.GRP_OVERLOAD_CNT t) = s.reg
        (R.GRP_OVERLOAD_CNT t))

/-- Writing TILE_CMD.GRP_CLEAR at a group current above 50 mA changes nothing but the shown current: the trip stays
  latched. (06_lane_drive.md, R244) -/
def Obligations.GroupClearNeedsLowCurrent : Prop :=
  ∀ (el : Nat) (p : Port) (t : Fin 20) (i : BitVec 16) (s : State), s.Takes p (R.TILE_CMD t) → 50 < i.toNat →
    ∃ u, exec (.grpClear el p t i) s = .next u ∧ s.SameButRegs u el [.wrote p (R.TILE_CMD t) 0] ∧ s.RegsBut u
      [R.GRP_IMEAS t] ∧
      u.rbit (R.TILE_STAT t) tsTrip = s.rbit (R.TILE_STAT t) tsTrip

/-- When a period start falls while a frame or its timeout is in progress, no frame starts, Q_OVERRUN counts the
  period and OVERRUN sets; nothing else changes. (09_position_feedback.md, R376) -/
def Obligations.SerialOverrun : Prop :=
  ∀ (el : Nat) (k : Fin 4) (s : State), s.Runs 22 → s.rfld (R.Q_CFG k) 0 2 ≠ 0 →
    (s.begin el).fbDt % (s.rfld (R.Q_CFG k) 16 16 * 1000 : Nat) = 0 → (s.ser k).frame.isSome = true →
    ∃ t, exec (.serialFrameStart el k) s = .next t ∧ s.SameButRegs t el [] ∧ s.RegsBut t [R.Q_OVERRUN k, R.Q_EVENT
      k] ∧
      t.ser k = s.ser k ∧ t.reg (R.Q_OVERRUN k) = wordN (satN 32 ((s.reg (R.Q_OVERRUN k)).toNat + 1)) ∧
      t.rbit (R.Q_EVENT k) qeOverrun = true

/-- A write of CMP_LEAD with a lead below 2,000 stores 2,000; one at or above it is stored as written. Nothing but
  that register changes. (09_position_feedback.md, R394) -/
def Obligations.CompareLeadHasAFloor : Prop :=
  ∀ (el : Nat) (p : Port) (c : Fin 8) (v : Word) (e : WriteEnv) (s : State), s.Takes p (R.CMP_LEAD c) →
    ∃ t, exec (.registerWrite el p (R.CMP_LEAD c) v e) s = .next t ∧ s.SameButRegs t el [.wrote p (R.CMP_LEAD c) 0]
      ∧ s.RegsBut t [R.CMP_LEAD c] ∧
      t.rfld (R.CMP_LEAD c) 0 16 = max 2000 (fld v 0 16)

/-- With the bias on, a current that has stayed below 3 mA for 1 s sets OPEN and ANT_OPEN, and one that has been at
  or above 3 mA for 1 s clears OPEN. The module does nothing else: only the antenna status and the event register
  change. (11_gnss_and_device_time.md, R435) -/
def Obligations.AntennaOpen : Prop :=
  ∀ (el : Nat) (i : BitVec 16) (s : State), s.Runs 33 → (s.begin el).biasOn = true →
    (i.toNat < 3 → ∃ t, exec (.antOpen el i) s = .next t ∧ t.rbit R.GNSS_ANT_STAT 30 = true ∧ t.rbit R.GNSS_IRQ_STAT
      giAntOpen = true ∧
      s.SameButRegs t el [] ∧ s.RegsBut t [R.GNSS_ANT_STAT, R.GNSS_IRQ_STAT]) ∧
    (3 ≤ i.toNat → ∃ t, exec (.antOpenRecover el i) s = .next t ∧ t.rbit R.GNSS_ANT_STAT 30 = false ∧
      s.SameButRegs t el [] ∧ s.RegsBut t [R.GNSS_ANT_STAT])

/-- While OT_NOW is 1 a reading of the cluster sensor changes nothing but the shown temperature, so that nothing is
  counted or tripped again; OT_NOW clears when the reading is below T_OT − 10 °C (80 units of 0.125 °C), and stays
  otherwise. (10_load_switches.md, R414, R416) -/
def Obligations.ClusterOvertemperature : Prop :=
  (∀ (el : Nat) (k : Fin 6) (temp : BitVec 16) (s : State), s.Runs (23 + k) → s.rbit (R.SW_CL_STAT k) 31 = true →
      ∃ t, exec (.clusterOt el k temp) s = .next t ∧ s.SameButRegs t el [] ∧ s.RegsBut t [R.SW_CL_TEMP k]) ∧
  (∀ (el : Nat) (k : Fin 6) (temp : BitVec 16) (s : State), s.Runs (23 + k) →
    ∃ t, exec (.clusterOtClear el k temp) s = .next t ∧
      s.SameButRegs t el [] ∧ s.RegsBut t [R.SW_CL_TEMP k, R.SW_CL_STAT k] ∧
      (temp.toInt < (s.rfld (R.SW_CL_CFG k) 0 16 : Int) - 80 → t.rbit (R.SW_CL_STAT k) 31 = false) ∧
      ((s.rfld (R.SW_CL_CFG k) 0 16 : Int) - 80 ≤ temp.toInt → t.reg (R.SW_CL_STAT k) = s.reg (R.SW_CL_STAT k)))

/-- Writing CAN_FIFO_POP with FIFO k and object m, while m is the head of that FIFO and the FIFO is not empty,
  lowers its count by one and clears the object's NEW. Otherwise nothing changes but that CMD_IGNORED sets.
  (12_can_fd.md, R489) -/
def Obligations.FifoPop : Prop :=
  ∀ (el : Nat) (p : Port) (c : Fin 4) (k : Fin 8) (m : Fin 128) (s : State), s.Takes p (R.CAN_FIFO_POP c) →
    ∃ t, exec (.canFifoPop el p c k m) s = .next t ∧ s.SameButRegs t el [.wrote p (R.CAN_FIFO_POP c) 0] ∧
    (k.val ≠ 0 ∧ s.rfld (R.CAN_FIFO_STAT c k) 0 8 ≠ 0 ∧ s.rfld (R.CAN_FIFO_STAT c k) 16 7 = m.val →
      t.rfld (R.CAN_FIFO_STAT c k) 0 8 = s.rfld (R.CAN_FIFO_STAT c k) 0 8 - 1 ∧ t.rbit (R.OBJ_CTRL c m) obNew =
        false ∧
      s.RegsBut t [R.CAN_FIFO_STAT c k, R.OBJ_CTRL c m]) ∧
    (¬(k.val ≠ 0 ∧ s.rfld (R.CAN_FIFO_STAT c k) 0 8 ≠ 0 ∧ s.rfld (R.CAN_FIFO_STAT c k) 16 7 = m.val) →
      t.rbit (R.CAN_EVENT c) cvIgnored = true ∧ s.RegsBut t [R.CAN_EVENT c])

/-- A command block with a wrong MAGIC, an unknown CMD or a LEN outside Table 8, received while no status block is
  due, is answered, in every row, by a status block with MAGIC 0x5A51, its CMD and TAG, the code FORMAT and no bytes
  moved, and no IN data. (13_host_ports.md, R541) -/
def Obligations.MalformedCommandBlock : Prop :=
  ∀ (el : Nat) (b : UsbBlk) (d x : List Byte) (es : List WriteEnv) (c : List EccHit) (s : State), s.Runs 37 →
    s.gateOn 11 = true →
    s.rbit R.USB_STAT 31 = true → s.port.usbWait = none → b.magic ≠ 0x5A50 ∨ usbKnown b.cmd.toNat = false ∨ usbLenOk
      b.cmd.toNat b.len.toNat = false →
    (∃ t, exec (.getInfo el b) s = .next t ∧ t.out = [.usb (leBytes 2 0x5A51 ++ leBytes 1 b.cmd.toNat ++ leBytes 1
      errFormat ++ bytesOfWord b.tag ++ leBytes 4 0 ++ leBytes 4 0) []] ∧ s.SameStore t) ∧
    (∃ t, exec (.regRead ⟨el, c⟩ b) s = .next t ∧ t.out = [.usb (leBytes 2 0x5A51 ++ leBytes 1 b.cmd.toNat ++
      leBytes 1 errFormat ++ bytesOfWord b.tag ++ leBytes 4 0 ++ leBytes 4 0) []] ∧ s.SameStore t) ∧
    (∃ t, exec (.regWrite el b d es) s = .next t ∧ t.out = [.usb (leBytes 2 0x5A51 ++ leBytes 1 b.cmd.toNat ++
      leBytes 1 errFormat ++ bytesOfWord b.tag ++ leBytes 4 0 ++ leBytes 4 0) []] ∧ s.SameStore t) ∧
    (∃ t, exec (.stageWrite el b d) s = .next t ∧ t.out = [.usb (leBytes 2 0x5A51 ++ leBytes 1 b.cmd.toNat ++
      leBytes 1 errFormat ++ bytesOfWord b.tag ++ leBytes 4 0 ++ leBytes 4 0) []] ∧ s.SameStore t) ∧
    (∃ t, exec (.stageCommit el b c) s = .next t ∧ t.out = [.usb (leBytes 2 0x5A51 ++ leBytes 1 b.cmd.toNat ++
      leBytes 1 errFormat ++ bytesOfWord b.tag ++ leBytes 4 0 ++ leBytes 4 0) []] ∧ s.SameStore t) ∧
    (∃ t, exec (.recorderRead ⟨el, c⟩ b) s = .next t ∧ t.out = [.usb (leBytes 2 0x5A51 ++ leBytes 1 b.cmd.toNat ++
      leBytes 1 errFormat ++ bytesOfWord b.tag ++ leBytes 4 0 ++ leBytes 4 0) []] ∧ s.SameStore t) ∧
    (∃ t, exec (.usbAttest el b d x) s = .next t ∧ t.out = [.usb (leBytes 2 0x5A51 ++ leBytes 1 b.cmd.toNat ++
      leBytes 1 errFormat ++ bytesOfWord b.tag ++ leBytes 4 0 ++ leBytes 4 0) []] ∧ s.SameStore t) ∧
    (∃ t, exec (.getReport el b) s = .next t ∧ t.out = [.usb (leBytes 2 0x5A51 ++ leBytes 1 b.cmd.toNat ++ leBytes 1
      errFormat ++ bytesOfWord b.tag ++ leBytes 4 0 ++ leBytes 4 0) []] ∧ s.SameStore t) ∧
    (∃ t, exec (.sessionOut el b.magic b.cmd b.rsv b.tag b.len b.param ⟨d, x⟩) s = .next t ∧ t.out = [.usb (leBytes
      2 0x5A51 ++ leBytes 1 b.cmd.toNat ++ leBytes 1 errFormat ++ bytesOfWord b.tag ++ leBytes 4 0 ++ leBytes 4 0)
      []] ∧ s.SameStore t) ∧
    (∃ t, exec (.sessionIn el b) s = .next t ∧ t.out = [.usb (leBytes 2 0x5A51 ++ leBytes 1 b.cmd.toNat ++ leBytes 1
      errFormat ++ bytesOfWord b.tag ++ leBytes 4 0 ++ leBytes 4 0) []] ∧ s.SameStore t)

/-- Writing VERIFY, ARM, ABORT or ACK to LDR_CTRL in a state in which Table 7 gives it no transition leaves the
  loader's state and LDR_ERR as they are and sets CMD_IGNORED. (02_trellis_images.md, R89) -/
def Obligations.LoaderCommandWithoutATransition : Prop :=
  ∀ (el : Nat) (p : Port) (s : State), s.Takes p R.LDR_CTRL →
    (s.ldrState ≠ 0 → ∃ t, exec (.ldrVerify el p) s = .next t ∧ s.SameButRegs t el [.wrote p R.LDR_CTRL 0] ∧
      t.rbit R.LDR_WARN lwCmdIgnored = true ∧ s.RegsBut t [R.LDR_WARN, R.LDR_IRQ_STAT]) ∧
    (s.ldrState ≠ ldStaged → ∃ t, exec (.ldrArm el p) s = .next t ∧ s.SameButRegs t el [.wrote p R.LDR_CTRL 0] ∧
      t.rbit R.LDR_WARN lwCmdIgnored = true ∧ s.RegsBut t [R.LDR_WARN, R.LDR_IRQ_STAT]) ∧
    (s.ldrState ≠ ldStaged → s.ldrState ≠ ldSearching → ∃ t, exec (.ldrAbort el p) s = .next t ∧
      s.SameButRegs t el [.wrote p R.LDR_CTRL 0] ∧ t.rbit R.LDR_WARN lwCmdIgnored = true ∧ s.RegsBut t [R.LDR_WARN,
        R.LDR_IRQ_STAT]) ∧
    (s.ldrState < ldDone → ∃ t, exec (.ldrAck el p) s = .next t ∧ s.SameButRegs t el [.wrote p R.LDR_CTRL 0] ∧
      t.rbit R.LDR_WARN lwCmdIgnored = true ∧ s.RegsBut t [R.LDR_WARN, R.LDR_IRQ_STAT])

/-- Whatever is measured, CLK_IRO_TRIM changes by at most one unit of 0.1 ppm; with a trim source in use and its
  interval over CLK_IRO_ERR holds the error measured, in 0.1 ppm. (17_clocks_power_reset.md, R660) -/
def Obligations.TrimStepIsSmall : Prop :=
  ∀ (el : Nat) (err : Int) (sof : Bool) (s : State), ∃ t, exec (.iroTrim el err sof) s = .next t ∧
    ((t.reg R.CLK_IRO_TRIM).toInt - (s.reg R.CLK_IRO_TRIM).toInt).natAbs ≤ 1 ∧
    (s.Runs 37 → ((s.begin el).updClk fun c => { c with sof := sof }).trimSrc ≠ 15 →
      s.clk.trimAt + trimInterval ((s.begin el).updClk fun c => { c with sof := sof }).trimSrc ≤ (s.begin el).now →
        -(2 ^ 31) ≤ err → err < 2 ^ 31 →
      (t.reg R.CLK_IRO_ERR).toInt = err)

/-- When an SRAM pass has run for more than 1 s, or a store pass for more than 24 h, and was not late yet,
  SCRUB_LATE_CNT counts one and SCRUB_LATE sets. The pass goes on: its position and its start are kept.
  (16_management_and_recorder.md, R635) -/
def Obligations.LateScrubIsCounted : Prop :=
  ∀ (el : Nat) (store : Bool) (s : State), s.Runs 37 →
    (if store then s.mgt.storeLate else s.mgt.sramLate) = false →
    (if store then s.mgt.storeAt + 86400000000000 else s.mgt.sramAt + 1000000000) < (s.begin el).now →
    ∃ t, exec (.scrubLate el store) s = .next t ∧ t.reg R.SCRUB_LATE_CNT = wordN (satN 32 ((s.reg
      R.SCRUB_LATE_CNT).toNat + 1)) ∧
      t.rbit R.STORE_IRQ_STAT sqScrubLate = true ∧ t.mgt.sramPos = s.mgt.sramPos ∧ t.mgt.sramAt = s.mgt.sramAt ∧
      t.mgt.storeAt = s.mgt.storeAt ∧ s.RegsBut t [R.SCRUB_LATE_CNT, R.STORE_IRQ_STAT] ∧ s.SameStore t

/-- When Cinch starts its question is 0xA5. At the end of a good window the question Q becomes (Q >> 1) XOR 0xB8
  when its bit 0 is 1 and Q >> 1 otherwise; at the end of any other window it stays. (14_safety_and_faults.md, R573)
  -/
def Obligations.CinchQuestion : Prop :=
  (∀ s : State, s.rbit R.CINCH_CFG 31 = true → s.up 38 = true → s.cinchStart.cinchQ = 0xA5) ∧
  (∀ (el : Nat) (s : State), s.up 38 = true → (s.begin el).cinchState ≠ 0 → (s.begin el).cinchOver = true →
    s.cinch.done = true → s.cinch.bad = none →
    ∃ t, exec (.cinchWindowEnd el) s = .next t ∧
      t.cinchQ = if s.cinchQ % 2 = 1 then (s.cinchQ / 2) ^^^ 0xB8 else s.cinchQ / 2) ∧
  (∀ (el : Nat) (s : State), s.up 38 = true → (s.begin el).cinchState ≠ 0 → (s.begin el).cinchOver = true →
    s.cinch.done = false ∨ s.cinch.bad ≠ none →
    ∃ t, exec (.cinchWindowEnd el) s = .next t ∧ t.cinchQ = s.cinchQ)

/-- A write through the store window into the base region of a slot leaves that slot EMPTY and, in a Trellis slot,
  no marked patch-log entry; the four bytes written hold the word, and every other byte of the store keeps its
  value. (15_security_and_update.md, R604) -/
def Obligations.WriteIntoASlot : Prop :=
  ∀ (el : Nat) (p : Port) (o : BitVec 27) (v : Word) (s : State), s.PortRuns p →
    s.accessErr p (0x10000000 + o.toNat) true = 0 → s.sealed = false →
    (∀ k : Fin 2, k * 0x800000 ≤ o.toNat → o.toNat < k * 0x800000 + 0x600000 →
      ∃ t, exec (.storeWindowWrite el p o v) s = .next t ∧ t.slot k = 0 ∧ t.marked k = 0 ∧
        (∀ i : Fin 4, t.storeByte (0x10000000 + o.toNat + i) = (bytesOfWord v).getD i 0) ∧
        (∀ a, a < 0x10000000 + o.toNat ∨ 0x10000000 + o.toNat + 4 ≤ a →
          t.storeByte a = s.storeByte a) ∧ s.RegsBut t [R.SEC_UPD_STAT]) ∧
    (∀ k : Fin 2, 0x1000000 + k * 0x400000 ≤ o.toNat → o.toNat < 0x1000000 + (k + 1) * 0x400000 →
      ∃ t, exec (.storeWindowWrite el p o v) s = .next t ∧ t.slot (2 + k) = 0 ∧
        (∀ i : Fin 4, t.storeByte (0x10000000 + o.toNat + i) = (bytesOfWord v).getD i 0) ∧
        (∀ a, a < 0x10000000 + o.toNat ∨ 0x10000000 + o.toNat + 4 ≤ a →
          t.storeByte a = s.storeByte a) ∧ s.RegsBut t [R.SEC_UPD_STAT])

/-- A device reset sets its source's bit in RST_CAUSE and leaves the others. Every register but the ones that R677
  names takes its reset value, the named ones keep theirs; the store, OTP, the retained aids and the key slots are
  kept, no lane fires and no axis moves, and the device is held in reset. (17_clocks_power_reset.md, R676, R677) -/
def Obligations.DeviceResetKeepsTheStore : Prop :=
  ∀ (el : Nat) (c : Fin 5) (s : State), s.Canonical → ∃ t, exec (.deviceReset el c) s = .next t ∧ t.reg R.RST_CAUSE
    = s.reg R.RST_CAUSE ||| bit c ∧
    (∀ a, keptReg a = false → t.reg a = resetWord a) ∧ (∀ a, keptReg a = true → a ≠ R.RST_CAUSE →
      t.reg a = s.reg a) ∧
    s.SameStore t ∧ t.sec.owners = s.sec.owners ∧ t.sec.revoked = s.sec.revoked ∧ t.sec.grnRevoked =
      s.sec.grnRevoked ∧
    t.sec.debugOff = s.sec.debugOff ∧ t.sec.keys = s.sec.keys ∧ t.gnss.kept = s.gnss.kept ∧ t.clk.inReset = true ∧
    (∀ n, t.lane n = LaneSt.init) ∧ (∀ a, t.axis a = AxisSt.init)

/-- At a DT multiple of the source's WIN milliseconds, the bucket of each instance of the source falls by one and no
  further than 0, and the buckets of every other source keep their levels. The table of buckets is in the canonical
  form in which the model keeps it. (14_safety_and_faults.md, R552) -/
def Obligations.BucketsLeak : Prop :=
  ∀ (el : Nat) (src q : Fin 128) (i : BitVec 16) (s : State), Tab.wf (fun _ => 0) s.fm.bucket = true → s.Runs 37 →
    (s.dt + el) % (s.rfld (R.FM_SRC_CFG src) 16 16 * 1000000) = 0 → ∃ t, exec (.bucketLeak el src) s = .next t ∧
      t.bucket q i.toNat = (if q = src then s.bucket q i.toNat - 1 else s.bucket q i.toNat) ∧
      s.RegsBut t [] ∧ s.SameStore t ∧ t.fm.ethQ = s.fm.ethQ ∧ t.fm.prim = s.fm.prim

/-- A host's write of REC_CURSOR leaves REC_WIN_STAT.RESULT at NONE, and changes no register but these two and no
  byte of the store. (16_management_and_recorder.md, R653) -/
def Obligations.CursorWriteClearsTheResult : Prop :=
  ∀ (el : Nat) (p : Port) (v : Word) (e : WriteEnv) (s : State), s.Takes p R.REC_CURSOR →
    ∃ t, exec (.registerWrite el p R.REC_CURSOR v e) s = .next t ∧ t.out = [.wrote p R.REC_CURSOR 0] ∧
      t.rfld R.REC_WIN_STAT 0 2 = 0 ∧ s.RegsBut t [R.REC_CURSOR, R.REC_WIN_STAT] ∧ s.SameStore t

/-- Writing AX_CMD.RELEASE to a held axis clears HELD and its stop position; to an axis that is not held it changes
  nothing. Position, velocity, every other axis and every other register are as before. (08_motion_axes.md, R357) -/
def Obligations.ReleaseOfAHeldAxis : Prop :=
  ∀ (el : Nat) (p : Port) (a : Fin 8) (s : State), s.Takes p (R.AX_CMD a) →
    ∃ t, exec (.axRelease el p a) s = .next t ∧
    s.OnlyAxis t el a [R.AX_STAT a] [.wrote p (R.AX_CMD a) 0] ∧ t.rbit (R.AX_STAT a) asHeld = false ∧
    (s.rbit (R.AX_STAT a) asHeld = true → t.axis a = { s.axis a with hold := none }) ∧
    (s.rbit (R.AX_STAT a) asHeld = false → t.axis a = s.axis a ∧ t.reg (R.AX_STAT a) = s.reg (R.AX_STAT a))

/-- Reaching the peak threshold, reaching the hold threshold, a chopping cycle, the end of a split and a resistance
  measurement change nothing but their own lane and the registers named here; the last four of them but the
  measurement change no register at all. (06_lane_drive.md, R232, R236, R248, R260–R263) -/
def Obligations.LaneRowsTouchOnlyTheirLane : Prop :=
  ∀ (el : Nat) (n : Fin 160) (i k : Nat) (x : Samples) (s : State),
    (∃ t, exec (.peakReached el n i) s = .next t ∧ s.OnlyLane t el n [R.LANE_PEAK_TIME n]) ∧
    (∃ t, exec (.holdReached el n i) s = .next t ∧ s.OnlyLane t el n []) ∧ (∃ t, exec (.chopCycle el n i) s = .next
      t ∧ s.OnlyLane t el n []) ∧
    (∃ t, exec (.splitReached el n i) s = .next t ∧ s.OnlyLane t el n []) ∧
    (∃ t, exec (.rmeasWindowClose el n k x) s = .next t ∧ s.OnlyLane t el n [R.LANE_COIL_RMEAS n, R.LANE_COIL_TMEAS
      n, R.LANE_DIAG n])
end

