-- ==== Sys2Proof/Laws/State.lean ====
section
/-!
SUPPORT. What each update of State leaves: one lemma for each field of each update, all true by unfolding, so that no later proof
unfolds a record update.
-/
namespace Sys2Proof.Machine

/-! Fields that `setReg` leaves. -/
@[simp] theorem State.setReg_dt (s : State) (a : Nat) (v : Word) : (s.setReg a v).dt = s.dt := rfl
@[simp] theorem State.setReg_dtFrac (s : State) (a : Nat) (v : Word) : (s.setReg a v).dtFrac = s.dtFrac := rfl
@[simp] theorem State.setReg_now (s : State) (a : Nat) (v : Word) : (s.setReg a v).now = s.now := rfl
@[simp] theorem State.setReg_nowRem (s : State) (a : Nat) (v : Word) : (s.setReg a v).nowRem = s.nowRem := rfl
@[simp] theorem State.setReg_store (s : State) (a : Nat) (v : Word) : (s.setReg a v).store = s.store := rfl
@[simp] theorem State.setReg_pending (s : State) (a : Nat) (v : Word) : (s.setReg a v).pending = s.pending := rfl
@[simp] theorem State.setReg_out (s : State) (a : Nat) (v : Word) : (s.setReg a v).out = s.out := rfl
@[simp] theorem State.setReg_free (s : State) (a : Nat) (v : Word) : (s.setReg a v).free = s.free := rfl
@[simp] theorem State.setReg_sys (s : State) (a : Nat) (v : Word) : (s.setReg a v).sys = s.sys := rfl
@[simp] theorem State.setReg_intake (s : State) (a : Nat) (v : Word) : (s.setReg a v).intake = s.intake := rfl
@[simp] theorem State.setReg_gnd (s : State) (a : Nat) (v : Word) : (s.setReg a v).gnd = s.gnd := rfl
@[simp] theorem State.setReg_stitch (s : State) (a : Nat) (v : Word) : (s.setReg a v).stitch = s.stitch := rfl
@[simp] theorem State.setReg_lanes (s : State) (a : Nat) (v : Word) : (s.setReg a v).lanes = s.lanes := rfl
@[simp] theorem State.setReg_tiles (s : State) (a : Nat) (v : Word) : (s.setReg a v).tiles = s.tiles := rfl
@[simp] theorem State.setReg_axes (s : State) (a : Nat) (v : Word) : (s.setReg a v).axes = s.axes := rfl
@[simp] theorem State.setReg_fb (s : State) (a : Nat) (v : Word) : (s.setReg a v).fb = s.fb := rfl
@[simp] theorem State.setReg_sw (s : State) (a : Nat) (v : Word) : (s.setReg a v).sw = s.sw := rfl
@[simp] theorem State.setReg_gnss (s : State) (a : Nat) (v : Word) : (s.setReg a v).gnss = s.gnss := rfl
@[simp] theorem State.setReg_time (s : State) (a : Nat) (v : Word) : (s.setReg a v).time = s.time := rfl
@[simp] theorem State.setReg_cans (s : State) (a : Nat) (v : Word) : (s.setReg a v).cans = s.cans := rfl
@[simp] theorem State.setReg_fm (s : State) (a : Nat) (v : Word) : (s.setReg a v).fm = s.fm := rfl
@[simp] theorem State.setReg_cinch (s : State) (a : Nat) (v : Word) : (s.setReg a v).cinch = s.cinch := rfl
@[simp] theorem State.setReg_safe (s : State) (a : Nat) (v : Word) : (s.setReg a v).safe = s.safe := rfl
@[simp] theorem State.setReg_port (s : State) (a : Nat) (v : Word) : (s.setReg a v).port = s.port := rfl
@[simp] theorem State.setReg_ldr (s : State) (a : Nat) (v : Word) : (s.setReg a v).ldr = s.ldr := rfl
@[simp] theorem State.setReg_rcd (s : State) (a : Nat) (v : Word) : (s.setReg a v).rcd = s.rcd := rfl
@[simp] theorem State.setReg_mgt (s : State) (a : Nat) (v : Word) : (s.setReg a v).mgt = s.mgt := rfl
@[simp] theorem State.setReg_sec (s : State) (a : Nat) (v : Word) : (s.setReg a v).sec = s.sec := rfl
@[simp] theorem State.setReg_clk (s : State) (a : Nat) (v : Word) : (s.setReg a v).clk = s.clk := rfl
@[simp] theorem State.setReg_fresh (s : State) (a : Nat) (v : Word) : (s.setReg a v).fresh = s.fresh := rfl
@[simp] theorem State.setReg_acked (s : State) (a : Nat) (v : Word) : (s.setReg a v).acked = s.acked := rfl
@[simp] theorem State.setReg_sats (s : State) (a : Nat) (v : Word) : (s.setReg a v).sats = s.sats := rfl

/-! Fields that `setFld` leaves. -/
@[simp] theorem State.setFld_dt (s : State) (a lo wid v : Nat) : (s.setFld a lo wid v).dt = s.dt := rfl
@[simp] theorem State.setFld_dtFrac (s : State) (a lo wid v : Nat) : (s.setFld a lo wid v).dtFrac = s.dtFrac := rfl
@[simp] theorem State.setFld_now (s : State) (a lo wid v : Nat) : (s.setFld a lo wid v).now = s.now := rfl
@[simp] theorem State.setFld_nowRem (s : State) (a lo wid v : Nat) : (s.setFld a lo wid v).nowRem = s.nowRem := rfl
@[simp] theorem State.setFld_store (s : State) (a lo wid v : Nat) : (s.setFld a lo wid v).store = s.store := rfl
@[simp] theorem State.setFld_pending (s : State) (a lo wid v : Nat) : (s.setFld a lo wid v).pending = s.pending := rfl
@[simp] theorem State.setFld_out (s : State) (a lo wid v : Nat) : (s.setFld a lo wid v).out = s.out := rfl
@[simp] theorem State.setFld_free (s : State) (a lo wid v : Nat) : (s.setFld a lo wid v).free = s.free := rfl
@[simp] theorem State.setFld_sys (s : State) (a lo wid v : Nat) : (s.setFld a lo wid v).sys = s.sys := rfl
@[simp] theorem State.setFld_intake (s : State) (a lo wid v : Nat) : (s.setFld a lo wid v).intake = s.intake := rfl
@[simp] theorem State.setFld_gnd (s : State) (a lo wid v : Nat) : (s.setFld a lo wid v).gnd = s.gnd := rfl
@[simp] theorem State.setFld_stitch (s : State) (a lo wid v : Nat) : (s.setFld a lo wid v).stitch = s.stitch := rfl
@[simp] theorem State.setFld_lanes (s : State) (a lo wid v : Nat) : (s.setFld a lo wid v).lanes = s.lanes := rfl
@[simp] theorem State.setFld_tiles (s : State) (a lo wid v : Nat) : (s.setFld a lo wid v).tiles = s.tiles := rfl
@[simp] theorem State.setFld_axes (s : State) (a lo wid v : Nat) : (s.setFld a lo wid v).axes = s.axes := rfl
@[simp] theorem State.setFld_fb (s : State) (a lo wid v : Nat) : (s.setFld a lo wid v).fb = s.fb := rfl
@[simp] theorem State.setFld_sw (s : State) (a lo wid v : Nat) : (s.setFld a lo wid v).sw = s.sw := rfl
@[simp] theorem State.setFld_gnss (s : State) (a lo wid v : Nat) : (s.setFld a lo wid v).gnss = s.gnss := rfl
@[simp] theorem State.setFld_time (s : State) (a lo wid v : Nat) : (s.setFld a lo wid v).time = s.time := rfl
@[simp] theorem State.setFld_cans (s : State) (a lo wid v : Nat) : (s.setFld a lo wid v).cans = s.cans := rfl
@[simp] theorem State.setFld_fm (s : State) (a lo wid v : Nat) : (s.setFld a lo wid v).fm = s.fm := rfl
@[simp] theorem State.setFld_cinch (s : State) (a lo wid v : Nat) : (s.setFld a lo wid v).cinch = s.cinch := rfl
@[simp] theorem State.setFld_safe (s : State) (a lo wid v : Nat) : (s.setFld a lo wid v).safe = s.safe := rfl
@[simp] theorem State.setFld_port (s : State) (a lo wid v : Nat) : (s.setFld a lo wid v).port = s.port := rfl
@[simp] theorem State.setFld_ldr (s : State) (a lo wid v : Nat) : (s.setFld a lo wid v).ldr = s.ldr := rfl
@[simp] theorem State.setFld_rcd (s : State) (a lo wid v : Nat) : (s.setFld a lo wid v).rcd = s.rcd := rfl
@[simp] theorem State.setFld_mgt (s : State) (a lo wid v : Nat) : (s.setFld a lo wid v).mgt = s.mgt := rfl
@[simp] theorem State.setFld_sec (s : State) (a lo wid v : Nat) : (s.setFld a lo wid v).sec = s.sec := rfl
@[simp] theorem State.setFld_clk (s : State) (a lo wid v : Nat) : (s.setFld a lo wid v).clk = s.clk := rfl
@[simp] theorem State.setFld_fresh (s : State) (a lo wid v : Nat) : (s.setFld a lo wid v).fresh = s.fresh := rfl
@[simp] theorem State.setFld_acked (s : State) (a lo wid v : Nat) : (s.setFld a lo wid v).acked = s.acked := rfl
@[simp] theorem State.setFld_sats (s : State) (a lo wid v : Nat) : (s.setFld a lo wid v).sats = s.sats := rfl

/-! Fields that `setBit` leaves. -/
@[simp] theorem State.setBit_dt (s : State) (a i : Nat) (b : Bool) : (s.setBit a i b).dt = s.dt := rfl
@[simp] theorem State.setBit_dtFrac (s : State) (a i : Nat) (b : Bool) : (s.setBit a i b).dtFrac = s.dtFrac := rfl
@[simp] theorem State.setBit_now (s : State) (a i : Nat) (b : Bool) : (s.setBit a i b).now = s.now := rfl
@[simp] theorem State.setBit_nowRem (s : State) (a i : Nat) (b : Bool) : (s.setBit a i b).nowRem = s.nowRem := rfl
@[simp] theorem State.setBit_store (s : State) (a i : Nat) (b : Bool) : (s.setBit a i b).store = s.store := rfl
@[simp] theorem State.setBit_pending (s : State) (a i : Nat) (b : Bool) : (s.setBit a i b).pending = s.pending := rfl
@[simp] theorem State.setBit_out (s : State) (a i : Nat) (b : Bool) : (s.setBit a i b).out = s.out := rfl
@[simp] theorem State.setBit_free (s : State) (a i : Nat) (b : Bool) : (s.setBit a i b).free = s.free := rfl
@[simp] theorem State.setBit_sys (s : State) (a i : Nat) (b : Bool) : (s.setBit a i b).sys = s.sys := rfl
@[simp] theorem State.setBit_intake (s : State) (a i : Nat) (b : Bool) : (s.setBit a i b).intake = s.intake := rfl
@[simp] theorem State.setBit_gnd (s : State) (a i : Nat) (b : Bool) : (s.setBit a i b).gnd = s.gnd := rfl
@[simp] theorem State.setBit_stitch (s : State) (a i : Nat) (b : Bool) : (s.setBit a i b).stitch = s.stitch := rfl
@[simp] theorem State.setBit_lanes (s : State) (a i : Nat) (b : Bool) : (s.setBit a i b).lanes = s.lanes := rfl
@[simp] theorem State.setBit_tiles (s : State) (a i : Nat) (b : Bool) : (s.setBit a i b).tiles = s.tiles := rfl
@[simp] theorem State.setBit_axes (s : State) (a i : Nat) (b : Bool) : (s.setBit a i b).axes = s.axes := rfl
@[simp] theorem State.setBit_fb (s : State) (a i : Nat) (b : Bool) : (s.setBit a i b).fb = s.fb := rfl
@[simp] theorem State.setBit_sw (s : State) (a i : Nat) (b : Bool) : (s.setBit a i b).sw = s.sw := rfl
@[simp] theorem State.setBit_gnss (s : State) (a i : Nat) (b : Bool) : (s.setBit a i b).gnss = s.gnss := rfl
@[simp] theorem State.setBit_time (s : State) (a i : Nat) (b : Bool) : (s.setBit a i b).time = s.time := rfl
@[simp] theorem State.setBit_cans (s : State) (a i : Nat) (b : Bool) : (s.setBit a i b).cans = s.cans := rfl
@[simp] theorem State.setBit_fm (s : State) (a i : Nat) (b : Bool) : (s.setBit a i b).fm = s.fm := rfl
@[simp] theorem State.setBit_cinch (s : State) (a i : Nat) (b : Bool) : (s.setBit a i b).cinch = s.cinch := rfl
@[simp] theorem State.setBit_safe (s : State) (a i : Nat) (b : Bool) : (s.setBit a i b).safe = s.safe := rfl
@[simp] theorem State.setBit_port (s : State) (a i : Nat) (b : Bool) : (s.setBit a i b).port = s.port := rfl
@[simp] theorem State.setBit_ldr (s : State) (a i : Nat) (b : Bool) : (s.setBit a i b).ldr = s.ldr := rfl
@[simp] theorem State.setBit_rcd (s : State) (a i : Nat) (b : Bool) : (s.setBit a i b).rcd = s.rcd := rfl
@[simp] theorem State.setBit_mgt (s : State) (a i : Nat) (b : Bool) : (s.setBit a i b).mgt = s.mgt := rfl
@[simp] theorem State.setBit_sec (s : State) (a i : Nat) (b : Bool) : (s.setBit a i b).sec = s.sec := rfl
@[simp] theorem State.setBit_clk (s : State) (a i : Nat) (b : Bool) : (s.setBit a i b).clk = s.clk := rfl
@[simp] theorem State.setBit_fresh (s : State) (a i : Nat) (b : Bool) : (s.setBit a i b).fresh = s.fresh := rfl
@[simp] theorem State.setBit_acked (s : State) (a i : Nat) (b : Bool) : (s.setBit a i b).acked = s.acked := rfl
@[simp] theorem State.setBit_sats (s : State) (a i : Nat) (b : Bool) : (s.setBit a i b).sats = s.sats := rfl

/-! Fields that `event` leaves. -/
@[simp] theorem State.event_dt (s : State) (a i : Nat) : (s.event a i).dt = s.dt := rfl
@[simp] theorem State.event_dtFrac (s : State) (a i : Nat) : (s.event a i).dtFrac = s.dtFrac := rfl
@[simp] theorem State.event_now (s : State) (a i : Nat) : (s.event a i).now = s.now := rfl
@[simp] theorem State.event_nowRem (s : State) (a i : Nat) : (s.event a i).nowRem = s.nowRem := rfl
@[simp] theorem State.event_store (s : State) (a i : Nat) : (s.event a i).store = s.store := rfl
@[simp] theorem State.event_pending (s : State) (a i : Nat) : (s.event a i).pending = s.pending := rfl
@[simp] theorem State.event_out (s : State) (a i : Nat) : (s.event a i).out = s.out := rfl
@[simp] theorem State.event_free (s : State) (a i : Nat) : (s.event a i).free = s.free := rfl
@[simp] theorem State.event_sys (s : State) (a i : Nat) : (s.event a i).sys = s.sys := rfl
@[simp] theorem State.event_intake (s : State) (a i : Nat) : (s.event a i).intake = s.intake := rfl
@[simp] theorem State.event_gnd (s : State) (a i : Nat) : (s.event a i).gnd = s.gnd := rfl
@[simp] theorem State.event_stitch (s : State) (a i : Nat) : (s.event a i).stitch = s.stitch := rfl
@[simp] theorem State.event_lanes (s : State) (a i : Nat) : (s.event a i).lanes = s.lanes := rfl
@[simp] theorem State.event_tiles (s : State) (a i : Nat) : (s.event a i).tiles = s.tiles := rfl
@[simp] theorem State.event_axes (s : State) (a i : Nat) : (s.event a i).axes = s.axes := rfl
@[simp] theorem State.event_fb (s : State) (a i : Nat) : (s.event a i).fb = s.fb := rfl
@[simp] theorem State.event_sw (s : State) (a i : Nat) : (s.event a i).sw = s.sw := rfl
@[simp] theorem State.event_gnss (s : State) (a i : Nat) : (s.event a i).gnss = s.gnss := rfl
@[simp] theorem State.event_time (s : State) (a i : Nat) : (s.event a i).time = s.time := rfl
@[simp] theorem State.event_cans (s : State) (a i : Nat) : (s.event a i).cans = s.cans := rfl
@[simp] theorem State.event_fm (s : State) (a i : Nat) : (s.event a i).fm = s.fm := rfl
@[simp] theorem State.event_cinch (s : State) (a i : Nat) : (s.event a i).cinch = s.cinch := rfl
@[simp] theorem State.event_safe (s : State) (a i : Nat) : (s.event a i).safe = s.safe := rfl
@[simp] theorem State.event_port (s : State) (a i : Nat) : (s.event a i).port = s.port := rfl
@[simp] theorem State.event_ldr (s : State) (a i : Nat) : (s.event a i).ldr = s.ldr := rfl
@[simp] theorem State.event_rcd (s : State) (a i : Nat) : (s.event a i).rcd = s.rcd := rfl
@[simp] theorem State.event_mgt (s : State) (a i : Nat) : (s.event a i).mgt = s.mgt := rfl
@[simp] theorem State.event_sec (s : State) (a i : Nat) : (s.event a i).sec = s.sec := rfl
@[simp] theorem State.event_clk (s : State) (a i : Nat) : (s.event a i).clk = s.clk := rfl
@[simp] theorem State.event_acked (s : State) (a i : Nat) : (s.event a i).acked = s.acked := rfl
@[simp] theorem State.event_sats (s : State) (a i : Nat) : (s.event a i).sats = s.sats := rfl

/-! Fields that `count` leaves. -/
@[simp] theorem State.count_dt (s : State) (a n : Nat) : (s.count a n).dt = s.dt := rfl
@[simp] theorem State.count_dtFrac (s : State) (a n : Nat) : (s.count a n).dtFrac = s.dtFrac := rfl
@[simp] theorem State.count_now (s : State) (a n : Nat) : (s.count a n).now = s.now := rfl
@[simp] theorem State.count_nowRem (s : State) (a n : Nat) : (s.count a n).nowRem = s.nowRem := rfl
@[simp] theorem State.count_store (s : State) (a n : Nat) : (s.count a n).store = s.store := rfl
@[simp] theorem State.count_pending (s : State) (a n : Nat) : (s.count a n).pending = s.pending := rfl
@[simp] theorem State.count_out (s : State) (a n : Nat) : (s.count a n).out = s.out := rfl
@[simp] theorem State.count_free (s : State) (a n : Nat) : (s.count a n).free = s.free := rfl
@[simp] theorem State.count_sys (s : State) (a n : Nat) : (s.count a n).sys = s.sys := rfl
@[simp] theorem State.count_intake (s : State) (a n : Nat) : (s.count a n).intake = s.intake := rfl
@[simp] theorem State.count_gnd (s : State) (a n : Nat) : (s.count a n).gnd = s.gnd := rfl
@[simp] theorem State.count_stitch (s : State) (a n : Nat) : (s.count a n).stitch = s.stitch := rfl
@[simp] theorem State.count_lanes (s : State) (a n : Nat) : (s.count a n).lanes = s.lanes := rfl
@[simp] theorem State.count_tiles (s : State) (a n : Nat) : (s.count a n).tiles = s.tiles := rfl
@[simp] theorem State.count_axes (s : State) (a n : Nat) : (s.count a n).axes = s.axes := rfl
@[simp] theorem State.count_fb (s : State) (a n : Nat) : (s.count a n).fb = s.fb := rfl
@[simp] theorem State.count_sw (s : State) (a n : Nat) : (s.count a n).sw = s.sw := rfl
@[simp] theorem State.count_gnss (s : State) (a n : Nat) : (s.count a n).gnss = s.gnss := rfl
@[simp] theorem State.count_time (s : State) (a n : Nat) : (s.count a n).time = s.time := rfl
@[simp] theorem State.count_cans (s : State) (a n : Nat) : (s.count a n).cans = s.cans := rfl
@[simp] theorem State.count_fm (s : State) (a n : Nat) : (s.count a n).fm = s.fm := rfl
@[simp] theorem State.count_cinch (s : State) (a n : Nat) : (s.count a n).cinch = s.cinch := rfl
@[simp] theorem State.count_safe (s : State) (a n : Nat) : (s.count a n).safe = s.safe := rfl
@[simp] theorem State.count_port (s : State) (a n : Nat) : (s.count a n).port = s.port := rfl
@[simp] theorem State.count_ldr (s : State) (a n : Nat) : (s.count a n).ldr = s.ldr := rfl
@[simp] theorem State.count_rcd (s : State) (a n : Nat) : (s.count a n).rcd = s.rcd := rfl
@[simp] theorem State.count_mgt (s : State) (a n : Nat) : (s.count a n).mgt = s.mgt := rfl
@[simp] theorem State.count_sec (s : State) (a n : Nat) : (s.count a n).sec = s.sec := rfl
@[simp] theorem State.count_clk (s : State) (a n : Nat) : (s.count a n).clk = s.clk := rfl
@[simp] theorem State.count_fresh (s : State) (a n : Nat) : (s.count a n).fresh = s.fresh := rfl
@[simp] theorem State.count_acked (s : State) (a n : Nat) : (s.count a n).acked = s.acked := rfl
@[simp] theorem State.count_sats (s : State) (a n : Nat) : (s.count a n).sats = s.sats := rfl

/-! Fields that `begin` leaves. -/
@[simp] theorem State.begin_regs (s : State) (el : Nat) : (s.begin el).regs = s.regs := rfl
@[simp] theorem State.begin_dtFrac (s : State) (el : Nat) : (s.begin el).dtFrac = s.dtFrac := rfl
@[simp] theorem State.begin_store (s : State) (el : Nat) : (s.begin el).store = s.store := rfl
@[simp] theorem State.begin_pending (s : State) (el : Nat) : (s.begin el).pending = s.pending := rfl
@[simp] theorem State.begin_free (s : State) (el : Nat) : (s.begin el).free = s.free := rfl
@[simp] theorem State.begin_sys (s : State) (el : Nat) : (s.begin el).sys = s.sys := rfl
@[simp] theorem State.begin_intake (s : State) (el : Nat) : (s.begin el).intake = s.intake := rfl
@[simp] theorem State.begin_gnd (s : State) (el : Nat) : (s.begin el).gnd = s.gnd := rfl
@[simp] theorem State.begin_stitch (s : State) (el : Nat) : (s.begin el).stitch = s.stitch := rfl
@[simp] theorem State.begin_lanes (s : State) (el : Nat) : (s.begin el).lanes = s.lanes := rfl
@[simp] theorem State.begin_tiles (s : State) (el : Nat) : (s.begin el).tiles = s.tiles := rfl
@[simp] theorem State.begin_axes (s : State) (el : Nat) : (s.begin el).axes = s.axes := rfl
@[simp] theorem State.begin_fb (s : State) (el : Nat) : (s.begin el).fb = s.fb := rfl
@[simp] theorem State.begin_sw (s : State) (el : Nat) : (s.begin el).sw = s.sw := rfl
@[simp] theorem State.begin_gnss (s : State) (el : Nat) : (s.begin el).gnss = s.gnss := rfl
@[simp] theorem State.begin_time (s : State) (el : Nat) : (s.begin el).time = s.time := rfl
@[simp] theorem State.begin_cans (s : State) (el : Nat) : (s.begin el).cans = s.cans := rfl
@[simp] theorem State.begin_fm (s : State) (el : Nat) : (s.begin el).fm = s.fm := rfl
@[simp] theorem State.begin_cinch (s : State) (el : Nat) : (s.begin el).cinch = s.cinch := rfl
@[simp] theorem State.begin_safe (s : State) (el : Nat) : (s.begin el).safe = s.safe := rfl
@[simp] theorem State.begin_port (s : State) (el : Nat) : (s.begin el).port = s.port := rfl
@[simp] theorem State.begin_ldr (s : State) (el : Nat) : (s.begin el).ldr = s.ldr := rfl
@[simp] theorem State.begin_rcd (s : State) (el : Nat) : (s.begin el).rcd = s.rcd := rfl
@[simp] theorem State.begin_mgt (s : State) (el : Nat) : (s.begin el).mgt = s.mgt := rfl
@[simp] theorem State.begin_sec (s : State) (el : Nat) : (s.begin el).sec = s.sec := rfl
@[simp] theorem State.begin_clk (s : State) (el : Nat) : (s.begin el).clk = s.clk := rfl
@[simp] theorem State.begin_sats (s : State) (el : Nat) : (s.begin el).sats = s.sats := rfl

/-! Fields that `send` leaves. -/
@[simp] theorem State.send_regs (s : State) (o : Out) : (s.send o).regs = s.regs := rfl
@[simp] theorem State.send_dt (s : State) (o : Out) : (s.send o).dt = s.dt := rfl
@[simp] theorem State.send_dtFrac (s : State) (o : Out) : (s.send o).dtFrac = s.dtFrac := rfl
@[simp] theorem State.send_now (s : State) (o : Out) : (s.send o).now = s.now := rfl
@[simp] theorem State.send_nowRem (s : State) (o : Out) : (s.send o).nowRem = s.nowRem := rfl
@[simp] theorem State.send_store (s : State) (o : Out) : (s.send o).store = s.store := rfl
@[simp] theorem State.send_pending (s : State) (o : Out) : (s.send o).pending = s.pending := rfl
@[simp] theorem State.send_free (s : State) (o : Out) : (s.send o).free = s.free := rfl
@[simp] theorem State.send_sys (s : State) (o : Out) : (s.send o).sys = s.sys := rfl
@[simp] theorem State.send_intake (s : State) (o : Out) : (s.send o).intake = s.intake := rfl
@[simp] theorem State.send_gnd (s : State) (o : Out) : (s.send o).gnd = s.gnd := rfl
@[simp] theorem State.send_stitch (s : State) (o : Out) : (s.send o).stitch = s.stitch := rfl
@[simp] theorem State.send_lanes (s : State) (o : Out) : (s.send o).lanes = s.lanes := rfl
@[simp] theorem State.send_tiles (s : State) (o : Out) : (s.send o).tiles = s.tiles := rfl
@[simp] theorem State.send_axes (s : State) (o : Out) : (s.send o).axes = s.axes := rfl
@[simp] theorem State.send_fb (s : State) (o : Out) : (s.send o).fb = s.fb := rfl
@[simp] theorem State.send_sw (s : State) (o : Out) : (s.send o).sw = s.sw := rfl
@[simp] theorem State.send_gnss (s : State) (o : Out) : (s.send o).gnss = s.gnss := rfl
@[simp] theorem State.send_time (s : State) (o : Out) : (s.send o).time = s.time := rfl
@[simp] theorem State.send_cans (s : State) (o : Out) : (s.send o).cans = s.cans := rfl
@[simp] theorem State.send_fm (s : State) (o : Out) : (s.send o).fm = s.fm := rfl
@[simp] theorem State.send_cinch (s : State) (o : Out) : (s.send o).cinch = s.cinch := rfl
@[simp] theorem State.send_safe (s : State) (o : Out) : (s.send o).safe = s.safe := rfl
@[simp] theorem State.send_port (s : State) (o : Out) : (s.send o).port = s.port := rfl
@[simp] theorem State.send_ldr (s : State) (o : Out) : (s.send o).ldr = s.ldr := rfl
@[simp] theorem State.send_rcd (s : State) (o : Out) : (s.send o).rcd = s.rcd := rfl
@[simp] theorem State.send_mgt (s : State) (o : Out) : (s.send o).mgt = s.mgt := rfl
@[simp] theorem State.send_sec (s : State) (o : Out) : (s.send o).sec = s.sec := rfl
@[simp] theorem State.send_clk (s : State) (o : Out) : (s.send o).clk = s.clk := rfl
@[simp] theorem State.send_fresh (s : State) (o : Out) : (s.send o).fresh = s.fresh := rfl
@[simp] theorem State.send_acked (s : State) (o : Out) : (s.send o).acked = s.acked := rfl
@[simp] theorem State.send_sats (s : State) (o : Out) : (s.send o).sats = s.sats := rfl

/-! Fields that `setStoreByte` leaves. -/
@[simp] theorem State.setStoreByte_regs (s : State) (a : Nat) (b : Byte) : (s.setStoreByte a b).regs = s.regs := rfl
@[simp] theorem State.setStoreByte_dt (s : State) (a : Nat) (b : Byte) : (s.setStoreByte a b).dt = s.dt := rfl
@[simp] theorem State.setStoreByte_dtFrac (s : State) (a : Nat) (b : Byte) : (s.setStoreByte a b).dtFrac = s.dtFrac := rfl
@[simp] theorem State.setStoreByte_now (s : State) (a : Nat) (b : Byte) : (s.setStoreByte a b).now = s.now := rfl
@[simp] theorem State.setStoreByte_nowRem (s : State) (a : Nat) (b : Byte) : (s.setStoreByte a b).nowRem = s.nowRem := rfl
@[simp] theorem State.setStoreByte_pending (s : State) (a : Nat) (b : Byte) : (s.setStoreByte a b).pending = s.pending := rfl
@[simp] theorem State.setStoreByte_out (s : State) (a : Nat) (b : Byte) : (s.setStoreByte a b).out = s.out := rfl
@[simp] theorem State.setStoreByte_free (s : State) (a : Nat) (b : Byte) : (s.setStoreByte a b).free = s.free := rfl
@[simp] theorem State.setStoreByte_sys (s : State) (a : Nat) (b : Byte) : (s.setStoreByte a b).sys = s.sys := rfl
@[simp] theorem State.setStoreByte_intake (s : State) (a : Nat) (b : Byte) : (s.setStoreByte a b).intake = s.intake := rfl
@[simp] theorem State.setStoreByte_gnd (s : State) (a : Nat) (b : Byte) : (s.setStoreByte a b).gnd = s.gnd := rfl
@[simp] theorem State.setStoreByte_stitch (s : State) (a : Nat) (b : Byte) : (s.setStoreByte a b).stitch = s.stitch := rfl
@[simp] theorem State.setStoreByte_lanes (s : State) (a : Nat) (b : Byte) : (s.setStoreByte a b).lanes = s.lanes := rfl
@[simp] theorem State.setStoreByte_tiles (s : State) (a : Nat) (b : Byte) : (s.setStoreByte a b).tiles = s.tiles := rfl
@[simp] theorem State.setStoreByte_axes (s : State) (a : Nat) (b : Byte) : (s.setStoreByte a b).axes = s.axes := rfl
@[simp] theorem State.setStoreByte_fb (s : State) (a : Nat) (b : Byte) : (s.setStoreByte a b).fb = s.fb := rfl
@[simp] theorem State.setStoreByte_sw (s : State) (a : Nat) (b : Byte) : (s.setStoreByte a b).sw = s.sw := rfl
@[simp] theorem State.setStoreByte_gnss (s : State) (a : Nat) (b : Byte) : (s.setStoreByte a b).gnss = s.gnss := rfl
@[simp] theorem State.setStoreByte_time (s : State) (a : Nat) (b : Byte) : (s.setStoreByte a b).time = s.time := rfl
@[simp] theorem State.setStoreByte_cans (s : State) (a : Nat) (b : Byte) : (s.setStoreByte a b).cans = s.cans := rfl
@[simp] theorem State.setStoreByte_fm (s : State) (a : Nat) (b : Byte) : (s.setStoreByte a b).fm = s.fm := rfl
@[simp] theorem State.setStoreByte_cinch (s : State) (a : Nat) (b : Byte) : (s.setStoreByte a b).cinch = s.cinch := rfl
@[simp] theorem State.setStoreByte_safe (s : State) (a : Nat) (b : Byte) : (s.setStoreByte a b).safe = s.safe := rfl
@[simp] theorem State.setStoreByte_port (s : State) (a : Nat) (b : Byte) : (s.setStoreByte a b).port = s.port := rfl
@[simp] theorem State.setStoreByte_ldr (s : State) (a : Nat) (b : Byte) : (s.setStoreByte a b).ldr = s.ldr := rfl
@[simp] theorem State.setStoreByte_rcd (s : State) (a : Nat) (b : Byte) : (s.setStoreByte a b).rcd = s.rcd := rfl
@[simp] theorem State.setStoreByte_sec (s : State) (a : Nat) (b : Byte) : (s.setStoreByte a b).sec = s.sec := rfl
@[simp] theorem State.setStoreByte_clk (s : State) (a : Nat) (b : Byte) : (s.setStoreByte a b).clk = s.clk := rfl
@[simp] theorem State.setStoreByte_fresh (s : State) (a : Nat) (b : Byte) : (s.setStoreByte a b).fresh = s.fresh := rfl
@[simp] theorem State.setStoreByte_acked (s : State) (a : Nat) (b : Byte) : (s.setStoreByte a b).acked = s.acked := rfl
@[simp] theorem State.setStoreByte_sats (s : State) (a : Nat) (b : Byte) : (s.setStoreByte a b).sats = s.sats := rfl

/-! Fields that an update changes. -/
@[simp] theorem State.begin_dt (s : State) (el : Nat) : (s.begin el).dt = s.dt + el := rfl
@[simp] theorem State.begin_now (s : State) (el : Nat) : (s.begin el).now = s.now + (el * 10000000000 + s.nowRem) / s.dtRate := rfl
@[simp] theorem State.begin_out (s : State) (el : Nat) : (s.begin el).out = [] := rfl
@[simp] theorem State.send_out (s : State) (o : Out) : (s.send o).out = s.out ++ [o] := rfl

/-! Readings that the start of a command and an answer leave. -/
@[simp] theorem State.begin_reg (s : State) (el : Nat) (a : Nat) : (s.begin el).reg a = s.reg a := rfl
@[simp] theorem State.begin_rfld (s : State) (el : Nat) (a lo wid : Nat) : (s.begin el).rfld a lo wid = s.rfld a lo wid := rfl
@[simp] theorem State.begin_rsfld (s : State) (el : Nat) (a lo wid : Nat) : (s.begin el).rsfld a lo wid = s.rsfld a lo wid := rfl
@[simp] theorem State.begin_rbit (s : State) (el : Nat) (a i : Nat) : (s.begin el).rbit a i = s.rbit a i := rfl
@[simp] theorem State.begin_reg48 (s : State) (el : Nat) (a : Nat) : (s.begin el).reg48 a = s.reg48 a := rfl
@[simp] theorem State.begin_reg64 (s : State) (el : Nat) (a : Nat) : (s.begin el).reg64 a = s.reg64 a := rfl
@[simp] theorem State.begin_up (s : State) (el : Nat) (i : Nat) : (s.begin el).up i = s.up i := rfl
@[simp] theorem State.begin_ungated (s : State) (el : Nat) (i : Nat) : (s.begin el).ungated i = s.ungated i := rfl
@[simp] theorem State.begin_gateOn (s : State) (el : Nat) (i : Nat) : (s.begin el).gateOn i = s.gateOn i := rfl
@[simp] theorem State.begin_imageOk (s : State) (el : Nat) : (s.begin el).imageOk = s.imageOk := rfl
@[simp] theorem State.begin_sealed (s : State) (el : Nat) : (s.begin el).sealed = s.sealed := rfl
@[simp] theorem State.begin_storeByte (s : State) (el : Nat) (a : Nat) : (s.begin el).storeByte a = s.storeByte a := rfl
@[simp] theorem State.send_reg (s : State) (o : Out) (a : Nat) : (s.send o).reg a = s.reg a := rfl
@[simp] theorem State.send_rfld (s : State) (o : Out) (a lo wid : Nat) : (s.send o).rfld a lo wid = s.rfld a lo wid := rfl
@[simp] theorem State.send_rsfld (s : State) (o : Out) (a lo wid : Nat) : (s.send o).rsfld a lo wid = s.rsfld a lo wid := rfl
@[simp] theorem State.send_rbit (s : State) (o : Out) (a i : Nat) : (s.send o).rbit a i = s.rbit a i := rfl
@[simp] theorem State.send_reg48 (s : State) (o : Out) (a : Nat) : (s.send o).reg48 a = s.reg48 a := rfl
@[simp] theorem State.send_reg64 (s : State) (o : Out) (a : Nat) : (s.send o).reg64 a = s.reg64 a := rfl
@[simp] theorem State.send_up (s : State) (o : Out) (i : Nat) : (s.send o).up i = s.up i := rfl
@[simp] theorem State.send_ungated (s : State) (o : Out) (i : Nat) : (s.send o).ungated i = s.ungated i := rfl
@[simp] theorem State.send_gateOn (s : State) (o : Out) (i : Nat) : (s.send o).gateOn i = s.gateOn i := rfl
@[simp] theorem State.send_imageOk (s : State) (o : Out) : (s.send o).imageOk = s.imageOk := rfl
@[simp] theorem State.send_sealed (s : State) (o : Out) : (s.send o).sealed = s.sealed := rfl
@[simp] theorem State.send_storeByte (s : State) (o : Out) (a : Nat) : (s.send o).storeByte a = s.storeByte a := rfl
@[simp] theorem State.setStoreByte_reg (s : State) (x : Nat) (b : Byte) (a : Nat) : (s.setStoreByte x b).reg a = s.reg a := rfl
@[simp] theorem State.setStoreByte_rfld (s : State) (x : Nat) (b : Byte) (a lo wid : Nat) : (s.setStoreByte x b).rfld a lo wid = s.rfld a lo wid := rfl
@[simp] theorem State.setStoreByte_rsfld (s : State) (x : Nat) (b : Byte) (a lo wid : Nat) : (s.setStoreByte x b).rsfld a lo wid = s.rsfld a lo wid := rfl
@[simp] theorem State.setStoreByte_rbit (s : State) (x : Nat) (b : Byte) (a i : Nat) : (s.setStoreByte x b).rbit a i = s.rbit a i := rfl
@[simp] theorem State.setStoreByte_reg48 (s : State) (x : Nat) (b : Byte) (a : Nat) : (s.setStoreByte x b).reg48 a = s.reg48 a := rfl
@[simp] theorem State.setStoreByte_reg64 (s : State) (x : Nat) (b : Byte) (a : Nat) : (s.setStoreByte x b).reg64 a = s.reg64 a := rfl
@[simp] theorem State.setStoreByte_up (s : State) (x : Nat) (b : Byte) (i : Nat) : (s.setStoreByte x b).up i = s.up i := rfl
@[simp] theorem State.setStoreByte_ungated (s : State) (x : Nat) (b : Byte) (i : Nat) : (s.setStoreByte x b).ungated i = s.ungated i := rfl
@[simp] theorem State.setStoreByte_gateOn (s : State) (x : Nat) (b : Byte) (i : Nat) : (s.setStoreByte x b).gateOn i = s.gateOn i := rfl
@[simp] theorem State.setStoreByte_imageOk (s : State) (x : Nat) (b : Byte) : (s.setStoreByte x b).imageOk = s.imageOk := rfl
@[simp] theorem State.setStoreByte_sealed (s : State) (x : Nat) (b : Byte) : (s.setStoreByte x b).sealed = s.sealed := rfl

end Sys2Proof.Machine
end

