-- ==== Sys2Proof/Laws/Tab.lean ====
section
/-!
SUPPORT. What sparse tables do: a read after a write, and the canonical form that every write keeps.
-/
namespace Sys2Proof.Machine

variable {α : Type}

theorem Tab.get_erase_self (d : Nat → α) (t : Tab α) (k : Nat) : Tab.get d (Tab.erase t k) k = d k := by
  induction t with
  | nil => rfl
  | cons e r ih =>
    obtain ⟨a, v⟩ := e
    by_cases h : a = k <;> simp [Tab.erase, Tab.get, h, ih]

theorem Tab.get_erase_ne (d : Nat → α) (t : Tab α) {k j : Nat} (h : j ≠ k) :
    Tab.get d (Tab.erase t k) j = Tab.get d t j := by
  induction t with
  | nil => rfl
  | cons e r ih =>
    obtain ⟨a, v⟩ := e
    by_cases hk : a = k
    · have hj : ¬ k = j := fun x => h x.symm
      simp [Tab.erase, Tab.get, hk, ih, hj]
    · simp only [Tab.erase, hk, if_false, Tab.get, ih]

theorem Tab.get_ins_self (d : Nat → α) (t : Tab α) (k : Nat) (v : α) (h : ∀ e ∈ t, e.1 ≠ k) :
    Tab.get d (Tab.ins t k v) k = v := by
  induction t with
  | nil => simp [Tab.ins, Tab.get]
  | cons e r ih =>
    obtain ⟨a, w⟩ := e
    have ha : a ≠ k := h (a, w) (List.mem_cons_self ..)
    by_cases hk : k < a
    · simp [Tab.ins, Tab.get, hk]
    · simp [Tab.ins, Tab.get, hk, ha, ih fun e he => h e (List.mem_cons_of_mem _ he)]

theorem Tab.get_ins_ne (d : Nat → α) (t : Tab α) {k j : Nat} (v : α) (h : j ≠ k) :
    Tab.get d (Tab.ins t k v) j = Tab.get d t j := by
  have hk' : ¬ k = j := fun x => h x.symm
  induction t with
  | nil => simp [Tab.ins, Tab.get, hk']
  | cons e r ih =>
    obtain ⟨a, w⟩ := e
    by_cases hk : k < a
    · simp only [Tab.ins, hk, if_true, Tab.get, hk', if_false]
    · simp only [Tab.ins, hk, if_false, Tab.get, ih]

theorem Tab.erase_ne (t : Tab α) (k : Nat) : ∀ e ∈ Tab.erase t k, e.1 ≠ k := by
  induction t with
  | nil => simp [Tab.erase]
  | cons e r ih =>
    obtain ⟨a, v⟩ := e
    by_cases h : a = k
    · simpa [Tab.erase, h] using ih
    · simp only [Tab.erase, h, if_false]
      intro e he
      cases List.mem_cons.1 he with
      | inl he => subst he; exact h
      | inr he => exact ih e he

variable [DecidableEq α]

/-- A read of the number written gives the value written. -/
@[simp] theorem Tab.get_set_self (d : Nat → α) (t : Tab α) (k : Nat) (v : α) : Tab.get d (Tab.set d t k v) k = v := by
  unfold Tab.set
  split
  · rename_i h; rw [Tab.get_erase_self]; exact h.symm
  · exact Tab.get_ins_self d _ k v (Tab.erase_ne t k)

/-- A read of any other number gives what it gave before. -/
theorem Tab.get_set_ne (d : Nat → α) (t : Tab α) {k j : Nat} (v : α) (h : j ≠ k) :
    Tab.get d (Tab.set d t k v) j = Tab.get d t j := by
  unfold Tab.set
  split
  · exact Tab.get_erase_ne d t h
  · rw [Tab.get_ins_ne d _ v h, Tab.get_erase_ne d t h]

theorem Tab.get_set (d : Nat → α) (t : Tab α) (k j : Nat) (v : α) :
    Tab.get d (Tab.set d t k v) j = if j = k then v else Tab.get d t j := by
  by_cases h : j = k
  · subst h; simp
  · simp [h, Tab.get_set_ne d t v h]

/-! The canonical form. -/

omit [DecidableEq α] in
theorem Tab.rising_weaken (t : Tab α) {j k : Nat} (h : j ≤ k) (hr : Tab.rising t (some k) = true) :
    Tab.rising t (some j) = true := by
  cases t with
  | nil => rfl
  | cons e r =>
    simp only [Tab.rising, Bool.and_eq_true, decide_eq_true_eq] at hr ⊢
    exact ⟨by omega, hr.2⟩

omit [DecidableEq α] in
theorem Tab.rising_none (t : Tab α) {k : Nat} (hr : Tab.rising t (some k) = true) : Tab.rising t none = true := by
  cases t with
  | nil => rfl
  | cons e r =>
    simp only [Tab.rising, Bool.and_eq_true] at hr ⊢
    exact hr.2

omit [DecidableEq α] in
theorem Tab.rising_erase (t : Tab α) (k : Nat) (o : Option Nat) (h : Tab.rising t o = true) :
    Tab.rising (Tab.erase t k) o = true := by
  induction t generalizing o with
  | nil => cases o <;> rfl
  | cons e r ih =>
    obtain ⟨a, v⟩ := e
    by_cases hk : a = k
    · simp only [Tab.erase, hk, if_true]
      cases o with
      | none => simp only [Tab.rising] at h; exact Tab.rising_none _ (ih (some a) h)
      | some j =>
        simp only [Tab.rising, Bool.and_eq_true, decide_eq_true_eq] at h
        exact ih (some j) (Tab.rising_weaken r (by omega) h.2)
    · cases o with
      | none => simp only [Tab.rising] at h; simp only [Tab.erase, hk, if_false, Tab.rising]; exact ih (some a) h
      | some j =>
        simp only [Tab.rising, Bool.and_eq_true, decide_eq_true_eq] at h
        simp only [Tab.erase, hk, if_false, Tab.rising, Bool.and_eq_true, decide_eq_true_eq]
        exact ⟨h.1, ih (some a) h.2⟩

omit [DecidableEq α] in
theorem Tab.rising_ins (t : Tab α) (k : Nat) (v : α) (o : Option Nat) (h : Tab.rising t o = true)
    (hn : ∀ e ∈ t, e.1 ≠ k) (ho : ∀ j, o = some j → j < k) : Tab.rising (Tab.ins t k v) o = true := by
  induction t generalizing o with
  | nil => cases o with
    | none => rfl
    | some j => simp [Tab.ins, Tab.rising, ho j rfl]
  | cons e r ih =>
    obtain ⟨a, w⟩ := e
    have ha : a ≠ k := hn (a, w) (List.mem_cons_self ..)
    have hr : ∀ e ∈ r, e.1 ≠ k := fun e he => hn e (List.mem_cons_of_mem _ he)
    by_cases hk : k < a
    · cases o with
      | none => simp only [Tab.rising] at h; simp [Tab.ins, Tab.rising, hk, h]
      | some j =>
        simp only [Tab.rising, Bool.and_eq_true, decide_eq_true_eq] at h
        simp [Tab.ins, Tab.rising, hk, h.2, ho j rfl]
    · have hlt : a < k := by omega
      cases o with
      | none =>
        simp only [Tab.rising] at h
        simp only [Tab.ins, hk, if_false, Tab.rising]
        exact ih (some a) h hr fun j hj => by cases hj; exact hlt
      | some j =>
        simp only [Tab.rising, Bool.and_eq_true, decide_eq_true_eq] at h
        simp only [Tab.ins, hk, if_false, Tab.rising, Bool.and_eq_true, decide_eq_true_eq]
        exact ⟨h.1, ih (some a) h.2 hr fun j hj => by cases hj; exact hlt⟩

theorem Tab.noDefault_erase (d : Nat → α) (t : Tab α) (k : Nat) (h : Tab.noDefault d t = true) :
    Tab.noDefault d (Tab.erase t k) = true := by
  induction t with
  | nil => rfl
  | cons e r ih =>
    obtain ⟨a, v⟩ := e
    simp only [Tab.noDefault, Bool.and_eq_true] at h
    by_cases hk : a = k
    · simpa [Tab.erase, hk] using ih h.2
    · simp only [Tab.erase, hk, if_false, Tab.noDefault, Bool.and_eq_true]
      exact ⟨h.1, ih h.2⟩

theorem Tab.noDefault_ins (d : Nat → α) (t : Tab α) (k : Nat) (v : α) (hv : v ≠ d k) (h : Tab.noDefault d t = true) :
    Tab.noDefault d (Tab.ins t k v) = true := by
  induction t with
  | nil => simp [Tab.ins, Tab.noDefault, hv]
  | cons e r ih =>
    obtain ⟨a, w⟩ := e
    simp only [Tab.noDefault, Bool.and_eq_true] at h
    by_cases hk : k < a
    · simp [Tab.ins, Tab.noDefault, hk, hv, h.1, h.2]
    · simp only [Tab.ins, hk, if_false, Tab.noDefault, Bool.and_eq_true]
      exact ⟨h.1, ih h.2⟩

/-- Every write keeps the canonical form. -/
theorem Tab.wf_set (d : Nat → α) (t : Tab α) (k : Nat) (v : α) (h : Tab.wf d t = true) :
    Tab.wf d (Tab.set d t k v) = true := by
  simp only [Tab.wf, Bool.and_eq_true] at h ⊢
  unfold Tab.set
  split
  · exact ⟨Tab.rising_erase t k none h.1, Tab.noDefault_erase d t k h.2⟩
  · rename_i hv
    exact ⟨Tab.rising_ins _ k v none (Tab.rising_erase t k none h.1) (Tab.erase_ne t k) (by intro j hj; cases hj),
      Tab.noDefault_ins d _ k v hv (Tab.noDefault_erase d t k h.2)⟩

omit [DecidableEq α] in
theorem Tab.rising_filter (t : Tab α) (f : Nat × α → Bool) (o : Option Nat) (h : Tab.rising t o = true) :
    Tab.rising (t.filter f) o = true := by
  induction t generalizing o with
  | nil => cases o <;> rfl
  | cons e r ih =>
    obtain ⟨a, v⟩ := e
    by_cases hf : f (a, v) = true
    · simp only [List.filter_cons_of_pos hf]
      cases o with
      | none => simp only [Tab.rising] at h ⊢; exact ih (some a) h
      | some j =>
        simp only [Tab.rising, Bool.and_eq_true, decide_eq_true_eq] at h ⊢
        exact ⟨h.1, ih (some a) h.2⟩
    · simp only [List.filter_cons_of_neg hf]
      cases o with
      | none => simp only [Tab.rising] at h; exact Tab.rising_none _ (ih (some a) h)
      | some j =>
        simp only [Tab.rising, Bool.and_eq_true, decide_eq_true_eq] at h
        exact ih (some j) (Tab.rising_weaken r (by omega) h.2)

/-- A table with entries left out keeps the canonical form. -/
theorem Tab.wf_filter (d : Nat → α) (t : Tab α) (f : Nat × α → Bool) (h : Tab.wf d t = true) :
    Tab.wf d (t.filter f) = true := by
  simp only [Tab.wf, Bool.and_eq_true] at h ⊢
  refine ⟨Tab.rising_filter t f none h.1, ?_⟩
  replace h := h.2
  induction t with
  | nil => rfl
  | cons e r ih =>
    simp only [Tab.noDefault, Bool.and_eq_true] at h
    by_cases hf : f e = true
    · simp only [List.filter_cons_of_pos hf, Tab.noDefault, Bool.and_eq_true]
      exact ⟨h.1, ih h.2⟩
    · simpa [List.filter_cons_of_neg hf] using ih h.2

end Sys2Proof.Machine
end

