-- ==== Sys2Proof/Laws/Regs.lean ====
section
/-!
SUPPORT. What the named operations over registers, fields, bits and store bytes do, once: reading after writing at the same
place and elsewhere, and the canonical form that every write keeps.
-/
namespace Sys2Proof.Machine

/-! Words. -/

theorem getLsbD_bit (i j : Nat) (h : i < 32) : (bit i).getLsbD j = decide (i = j) := by
  simp [bit, BitVec.getLsbD_twoPow, h]

/-- Bit `j` of a word whose bit `i` has been given the value `b`. -/
theorem getLsbD_setBit (w : Word) (i j : Nat) (b : Bool) (h : i < 32) :
    (setBit w i b).getLsbD j = if i = j then b else w.getLsbD j := by
  unfold setBit
  by_cases hij : i = j
  · subst hij
    have hb : (bit i).getLsbD i = true := by rw [getLsbD_bit i i h]; simp
    cases b <;> simp only [Bool.false_eq_true, if_false, if_true, BitVec.getLsbD_and, BitVec.getLsbD_or, BitVec.getLsbD_not, hb] <;>
      simp
  · cases b with
    | true => simp [getLsbD_bit _ _ h, hij]
    | false =>
      simp only [Bool.false_eq_true, if_false, BitVec.getLsbD_and, BitVec.getLsbD_not, getLsbD_bit _ _ h, hij, decide_false,
        Bool.not_false, Bool.and_true]
      by_cases hj : j < 32
      · simp [hj]
      · simp [hj, BitVec.getLsbD_of_ge w j (by omega)]

/-- Bit `j` of a word with an event's bit. -/
theorem getLsbD_or_bit (w : Word) (i j : Nat) (h : i < 32) : (w ||| bit i).getLsbD j = (w.getLsbD j || decide (i = j)) := by
  simp [getLsbD_bit _ _ h]

/-- Bit `j` of the mask of a field. -/
theorem getLsbD_fldMask (lo wid j : Nat) (h : lo + wid ≤ 32) :
    (fldMask lo wid).getLsbD j = (decide (lo ≤ j) && decide (j < lo + wid)) := by
  simp only [fldMask, BitVec.getLsbD_shiftLeft, BitVec.getLsbD_setWidth, BitVec.getLsbD_allOnes]
  by_cases h1 : lo ≤ j <;> by_cases h2 : j < lo + wid <;> simp [h1, h2] <;> omega

/-- A field reads what was written into it, modulo its width. -/
theorem fld_setFld (w : Word) (lo wid v : Nat) (h : lo + wid ≤ 32) : fld (setFld w lo wid v) lo wid = v % 2 ^ wid := by
  have : (setFld w lo wid v).extractLsb' lo wid = BitVec.ofNat wid v := by
    apply BitVec.eq_of_getLsbD_eq
    intro i hi
    simp only [setFld, BitVec.getLsbD_extractLsb', BitVec.getLsbD_or, BitVec.getLsbD_and, BitVec.getLsbD_not,
      getLsbD_fldMask _ _ _ h, BitVec.getLsbD_shiftLeft, BitVec.getLsbD_setWidth, BitVec.getLsbD_ofNat]
    have e1 : lo + i < 32 := by omega
    have e2 : i < 32 := by omega
    simp [hi, e1, e2]
  simp [fld, this]

/-- A field that another field's write does not touch reads as before. -/
theorem fld_setFld_ne (w : Word) (lo wid v l k : Nat) (h : lo + wid ≤ 32) (hd : l + k ≤ lo ∨ lo + wid ≤ l) :
    fld (setFld w lo wid v) l k = fld w l k := by
  have : (setFld w lo wid v).extractLsb' l k = w.extractLsb' l k := by
    apply BitVec.eq_of_getLsbD_eq
    intro i hi
    simp only [setFld, BitVec.getLsbD_extractLsb', BitVec.getLsbD_or, BitVec.getLsbD_and, BitVec.getLsbD_not,
      getLsbD_fldMask _ _ _ h, BitVec.getLsbD_shiftLeft, BitVec.getLsbD_setWidth, BitVec.getLsbD_ofNat]
    have hv : lo + wid ≤ l + i ∨ l + i < lo := by omega
    by_cases hl : l + i < 32
    · rcases hv with h1 | h1
      · have : ¬ l + i - lo < wid := by omega
        have h2 : ¬ (l + i < lo + wid) := by omega
        simp [hl, this, h2]
      · have h2 : ¬ lo ≤ l + i := by omega
        simp [hl, h1, h2]
    · simp [hl, BitVec.getLsbD_of_ge w (l + i) (by omega)]
  simp [fld, this]

/-! Registers. -/

@[simp] theorem State.reg_setReg_self (s : State) (a : Nat) (v : Word) : (s.setReg a v).reg a = v := by
  simp [State.reg, State.setReg]

theorem State.reg_setReg_ne (s : State) {a b : Nat} (v : Word) (h : b ≠ a) : (s.setReg a v).reg b = s.reg b := by
  simp [State.reg, State.setReg, Tab.get_set, h]

theorem State.reg_setReg (s : State) (a b : Nat) (v : Word) : (s.setReg a v).reg b = if b = a then v else s.reg b := by
  simp [State.reg, State.setReg, Tab.get_set]

theorem State.reg_setFld (s : State) (a lo wid v b : Nat) :
    (s.setFld a lo wid v).reg b = if b = a then Machine.setFld (s.reg a) lo wid v else s.reg b := State.reg_setReg ..

theorem State.reg_setBit (s : State) (a i b : Nat) (x : Bool) :
    (s.setBit a i x).reg b = if b = a then Machine.setBit (s.reg a) i x else s.reg b := State.reg_setReg ..

theorem State.reg_event (s : State) (a i b : Nat) :
    (s.event a i).reg b = if b = a then s.reg a ||| bit i else s.reg b := State.reg_setReg ..

theorem State.reg_count (s : State) (a n b : Nat) :
    (s.count a n).reg b = if b = a then wordN (satN 32 ((s.reg a).toNat + n)) else s.reg b := State.reg_setReg ..

/-- A counter that counts `n` reads n more, and no more than 0xFFFF_FFFF (R21). -/
theorem State.count_toNat (s : State) (a n : Nat) :
    ((s.count a n).reg a).toNat = min 0xFFFFFFFF ((s.reg a).toNat + n) := by
  simp only [State.reg_count, if_true, wordN, satN]
  split <;> simp <;> omega

@[simp] theorem State.rbit_setBit (s : State) (a i : Nat) (b : Bool) (h : i < 32) : (s.setBit a i b).rbit a i = b := by
  simp [State.rbit, State.reg_setBit, getLsbD_setBit _ _ _ _ h]

theorem State.rbit_event (s : State) (a i : Nat) (h : i < 32) : (s.event a i).rbit a i = true := by
  simp [State.rbit, State.reg_event, getLsbD_bit _ _ h]

theorem State.rfld_setFld (s : State) (a lo wid v : Nat) (h : lo + wid ≤ 32) :
    (s.setFld a lo wid v).rfld a lo wid = v % 2 ^ wid := by
  simp [State.rfld, State.reg_setFld, fld_setFld _ _ _ _ h]

/-- The registers of a list are cleared, and no other register. -/
theorem State.reg_clearRegs (l : List Nat) : ∀ (s : State) (a : Nat), (s.clearRegs l).reg a = if a ∈ l then 0 else s.reg a := by
  induction l with
  | nil => intro s a; simp [State.clearRegs]
  | cons b r ih =>
    intro s a
    simp only [State.clearRegs, ih, State.reg_setReg, List.mem_cons]
    by_cases h1 : a ∈ r <;> by_cases h2 : a = b <;> simp [h1, h2]

/-- Clearing registers changes nothing but registers. -/
theorem State.clearRegs_regs (l : List Nat) : ∀ s : State, s.clearRegs l = { s with regs := (s.clearRegs l).regs } := by
  induction l with
  | nil => intro s; rfl
  | cons b r ih => intro s; exact ih (s.setReg b 0)

/-- The registers of a list return to their reset values, and no other register changes. -/
theorem State.reg_resetRegs (l : List Nat) :
    ∀ (s : State) (a : Nat), (s.resetRegs l).reg a = if a ∈ l then resetWord a else s.reg a := by
  induction l with
  | nil => intro s a; simp [State.resetRegs]
  | cons b r ih =>
    intro s a
    simp only [State.resetRegs, ih, State.reg_setReg, List.mem_cons]
    by_cases h1 : a ∈ r <;> by_cases h2 : a = b <;> simp [h1, h2]

/-! The store. -/

theorem State.storeByte_setStoreByte (s : State) (a b : Nat) (v : Byte) :
    (s.setStoreByte a v).storeByte b = if b = a then v else s.storeByte b := by
  simp [State.storeByte, State.setStoreByte, Tab.get_set]

/-- A run of bytes reads as written, and every other byte as before. -/
theorem State.storeByte_setStoreBytes (l : List Byte) : ∀ (s : State) (a b : Nat),
    (s.setStoreBytes a l).storeByte b = if a ≤ b ∧ b < a + l.length then l.getD (b - a) 0 else s.storeByte b := by
  induction l with
  | nil => intro s a b; simp [State.setStoreBytes]
  | cons v r ih =>
    intro s a b
    simp only [State.setStoreBytes, ih, State.storeByte_setStoreByte, List.length_cons]
    by_cases h : b = a
    · subst h; simp
    · by_cases h2 : a + 1 ≤ b ∧ b < a + 1 + r.length
      · have h3 : a ≤ b ∧ b < a + (r.length + 1) := by omega
        have h4 : b - a = (b - (a + 1)) + 1 := by omega
        simp only [h2, h3, and_self, if_true, h4, List.getD_cons_succ]
      · have h3 : ¬ (a ≤ b ∧ b < a + (r.length + 1)) := by omega
        rw [if_neg h2, if_neg h3, if_neg h]

/-! The canonical form. -/

theorem State.Canonical.setReg {s : State} (h : s.Canonical) (a : Nat) (v : Word) : (s.setReg a v).Canonical :=
  ⟨Tab.wf_set _ _ _ _ h.1, h.2⟩
theorem State.Canonical.setFld {s : State} (h : s.Canonical) (a lo wid v : Nat) : (s.setFld a lo wid v).Canonical :=
  h.setReg _ _
theorem State.Canonical.setBit {s : State} (h : s.Canonical) (a i : Nat) (b : Bool) : (s.setBit a i b).Canonical :=
  h.setReg _ _
theorem State.Canonical.event {s : State} (h : s.Canonical) (a i : Nat) : (s.event a i).Canonical := h.setReg _ _
theorem State.Canonical.count {s : State} (h : s.Canonical) (a n : Nat) : (s.count a n).Canonical := h.setReg _ _
theorem State.Canonical.clearRegs (l : List Nat) : ∀ {s : State}, s.Canonical → (s.clearRegs l).Canonical := by
  induction l with
  | nil => intro s h; exact h
  | cons a r ih => intro s h; exact ih (h.setReg a 0)
theorem State.Canonical.resetRegs (l : List Nat) : ∀ {s : State}, s.Canonical → (s.resetRegs l).Canonical := by
  induction l with
  | nil => intro s h; exact h
  | cons a r ih => intro s h; exact ih (h.setReg a _)
theorem State.Canonical.setStoreByte {s : State} (h : s.Canonical) (a : Nat) (b : Byte) : (s.setStoreByte a b).Canonical :=
  ⟨h.1, Tab.wf_set _ _ _ _ h.2⟩
theorem State.Canonical.setStoreBytes (l : List Byte) :
    ∀ {s : State} (a : Nat), s.Canonical → (s.setStoreBytes a l).Canonical := by
  induction l with
  | nil => intro s a h; exact h
  | cons b r ih => intro s a h; exact ih _ (h.setStoreByte a b)
theorem State.Canonical.begin {s : State} (h : s.Canonical) (el : Nat) : (s.begin el).Canonical := h
theorem State.Canonical.send {s : State} (h : s.Canonical) (o : Out) : (s.send o).Canonical := h

/-- Iteration over a list keeps the canonical form where each turn does. -/
theorem State.Canonical.forL {α : Type} {f : α → State → State} (hf : ∀ x s, s.Canonical → (f x s).Canonical) (l : List α) :
    ∀ {s : State}, s.Canonical → (Machine.forL f l s).Canonical := by
  induction l with
  | nil => intro s h; exact h
  | cons a r ih => intro s h; exact ih (hf a _ h)

end Sys2Proof.Machine
end

