-- ==== Sys2Proof/Laws/Access.lean ====
section
/-!
SUPPORT. What the shared operations of an access and of an island do, once: a row acts while its island runs and does nothing
otherwise, and a register access is answered with a code and either takes its effect or leaves what a failure leaves.
-/
namespace Sys2Proof.Machine

theorem State.onIsland_runs {s : State} {i : Nat} (h : s.Runs i) (f : State → State) : s.onIsland i f = f s := by
  simp [State.onIsland, h.1, h.2]

theorem State.works_runs {s : State} {i : Nat} (h : s.Runs i) : s.works i = true := by
  simp [State.works, h.1, h.2]

theorem State.onIsland_stopped {s : State} {i : Nat} (h : ¬ s.Runs i) (f : State → State) : s.onIsland i f = s := by
  by_cases hu : s.up i = true <;> by_cases hg : s.ungated i = true <;> simp_all [State.onIsland, State.Runs]

/-- A port that works hands an access to the arbiter of island 37. -/
theorem State.atPort_runs {s : State} {p : Port} (h : s.PortRuns p) (deaf : Out) (f : State → State) : s.atPort p deaf f = f s := by
  by_cases hp : p = .eth1
  · simp [State.atPort, h.1.1, h.1.2, (h.2 hp).1, (h.2 hp).2]
  · simp [State.atPort, h.1.1, h.1.2, hp]

/-- A port whose island does not work leaves the device as it is. -/
theorem State.atPort_deaf {s : State} {p : Port} (h : ¬ s.Runs 37) (hp : p ≠ .eth1) (deaf : Out) (f : State → State) :
    s.atPort p deaf f = s := by
  by_cases hu : s.up 37 = true <;> by_cases hg : s.ungated 37 = true <;> simp_all [State.atPort, State.Runs]

@[simp] theorem State.when_true (s : State) (f : State → State) : s.when true f = f s := rfl
@[simp] theorem State.when_false (s : State) (f : State → State) : s.when false f = s := rfl

/-- A write that every check lets pass reaches the register's own rules with the word as it was sent, is answered with OK, and
leaves nothing else. -/
theorem State.hostWrite_takes {s : State} {p : Port} {a : Nat} {v : Word} (act : WriteAct) (h : s.Takes p a) {r : RegHit}
    (hr : regHit? a = some r) (hx : ∀ b, blockAt? regBlocks a = some b → extHi b.base r.row.off v = v) (ha : (act v s).1 = 0) : s.hostWrite p a v act = (0, (act v s).2) := by
  obtain ⟨_, h2, h3⟩ := h
  have hs : s.screen r.row a v = ⟨v, 0⟩ := by
    unfold State.screen
    rw [h3]
    simp only [Bool.false_eq_true, if_false]
    cases hb : blockAt? regBlocks a with
    | none => rfl
    | some b => simp [hx b hb]
  simp [State.hostWrite, h2, hr, hs, ha]

theorem State.writeCmd_takes {s : State} {p : Port} {a : Nat} {v : Word} (act : Word → State → State) (h : s.Takes p a)
    {r : RegHit} (hr : regHit? a = some r) (hx : ∀ b, blockAt? regBlocks a = some b → extHi b.base r.row.off v = v) :
    s.writeCmd p a v act = (act v (s.storeAt p a v)).send (.wrote p a 0) := by
  have := State.hostWrite_takes (fun w t => (0, act w (t.storeAt p a w))) h hr hx rfl
  simp [State.writeCmd, State.atPort_runs h.1, this]

/-- The register at `a` is of the map, and is not the upper word of a 48-bit signed value (R19). A closed question of numerals, for
a register whose instance is fixed or ranges over a `Fin`. -/
def plainReg (a : Nat) : Bool :=
  match regHit? a, blockAt? regBlocks a with
  | some r, some b => !signedHigh b.base r.row.off
  | some _, none => true
  | none, _ => false

theorem State.writeCmd_plain {s : State} {p : Port} {a : Nat} (v : Word) (act : Word → State → State) (h : s.Takes p a)
    (hp : plainReg a = true) : s.writeCmd p a v act = (act v (s.storeAt p a v)).send (.wrote p a 0) := by
  unfold plainReg at hp
  cases hr : regHit? a with
  | none => simp [hr] at hp
  | some r =>
    refine State.writeCmd_takes act h hr ?_
    intro b hb
    simp only [hr, hb, Bool.not_eq_true'] at hp
    simp [extHi, hp]

/-- A write that a check refuses is answered with the check's code and leaves what a failed access leaves. -/
theorem State.writeCmd_refused {s : State} {p : Port} {a : Nat} (v : Word) (act : Word → State → State) (hu : s.PortRuns p)
    (he : s.accessErr p a true ≠ 0) :
    s.writeCmd p a v act = (s.accessFail p a (s.accessErr p a true)).send (.wrote p a (s.accessErr p a true)) := by
  simp [State.writeCmd, State.atPort_runs hu, State.hostWrite, he]

theorem State.readCmd_gives {s : State} {p : Port} {a : Nat} (act : ReadAct) (h : s.Gives p a) :
    s.readCmd p a act = (act s).2.send (.read p a (act s).1 0) := by
  simp [State.readCmd, State.atPort_runs h.1, State.hostRead, h.2]

theorem State.readCmd_refused {s : State} {p : Port} {a : Nat} (act : ReadAct) (hu : s.PortRuns p)
    (he : s.accessErr p a false ≠ 0) :
    s.readCmd p a act = (s.accessFail p a (s.accessErr p a false)).send (.read p a 0 (s.accessErr p a false)) := by
  simp [State.readCmd, State.atPort_runs hu, State.hostRead, he]

/-! The checks of an access read no more than registers, boot state and reset, which the start of a command leaves. -/

@[simp] theorem State.accessErr_begin (s : State) (el : Nat) (p : Port) (a : Nat) (w : Bool) :
    (s.begin el).accessErr p a w = s.accessErr p a w := rfl
theorem State.takes_begin {s : State} {p : Port} {a : Nat} (h : s.Takes p a) (el : Nat) : (s.begin el).Takes p a := h
theorem State.gives_begin {s : State} {p : Port} {a : Nat} (h : s.Gives p a) (el : Nat) : (s.begin el).Gives p a := h
theorem State.runs_begin {s : State} {i : Nat} (h : s.Runs i) (el : Nat) : (s.begin el).Runs i := h

end Sys2Proof.Machine
end

