-- ==== Sys2Proof/Tests/Slice0.lean ====
section
/-!
SUPPORT. The model's own tests: for each check of WellFormed a command that it refuses, a state and operands that meet the
hypotheses of each statement, and a few steps whose results the spec gives.
-/
namespace Sys2Proof.Tests

set_option Elab.async false

open Sys2Proof.Machine

/-- A device in operation: a full image in force, boot loading ended, logical lane 0 on physical lane 0, and the QSPI port
the owner of configuration writes. -/
def cfg : State :=
  let s := (State.reset.setReg R.PORT_CFG 1).setReg (R.LDR_MAP 0) 0xFFFFFF00
  (s.setBit R.LDR_STAT 30 true).updLdr fun d => { d with bootEnded := true }

/-- Profile words with plain values. -/
def prof0 : Profile :=
  ⟨0x00640FA0, 0x000000C8, 0x000003E8, 0x00000000, 0x000003E8, 0x00640032, 0x00001388, 0, 0, 0x0000000A, 0x00640000, 0, 0⟩

/-- A firing that opened at 0 and closes at 20 µs. -/
def f0 : Firing :=
  { opn := 0, close := some 20000, closed := none, endAt := none, contended := false, pwm := false, holdOnly := false,
    shared := false, cut := false, diag2 := false, dead := false, tmo := false, trunc := false, peakAt := none, leftAt := none,
    holdAt := none, sought := true, kneeDone := false, knee := none, seatDone := false, seat := none, armed := true, checked := false, used := false, tw := 0, band := 0, lat := 0, prof := prof0 }

/-- Lane 0 fires in a phase. -/
def firing0 (ph : Nat) (f : Firing) : State :=
  (cfg.updLane 0 fun l => { l with firing := some f }).setFld (R.LANE_STAT 0) 0 3 ph

/-- A pulse that waits for lane 0. -/
def p0 : TilePulse := ⟨1000, some 20000, false, false, false, 0⟩
def pulse0 : State := cfg.updLane 0 fun l => { l with pulses := [p0] }

/-- Lane currents with one dip, in 0.5 mA. -/
def knees : List Int := [0, 100, 200, 300, 400, 400, 350, 300, 350, 400, 450, 500]

/-- A firing that has been open for long without a knee. -/
def fStuck : Firing := { f0 with kneeDone := true }
def stuck0 : State := ((firing0 phHold fStuck).setReg (R.LRN_CFG 0) 0x11).updLane 0 fun l => { l with act := 30000000 }

/-- A release whose seat lies 9.5 µs after its start, and its samples. -/
def fSeat : Firing := { f0 with kneeDone := true, closed := some 0, prof := { prof0 with closeWin := 0x00640000 } }
def seat0 : State := firing0 phRelease fSeat
def seats : Samples :=
  { gAt := 0, g := List.replicate 8 10000,
    iv := List.replicate 4 (0, 65000) ++ List.replicate 14 (0, 10000) ++ [(0, 10500), (0, 11000), (0, 10500)] ++
      List.replicate 5 (0, 10000) }

/-- A measurement window that has closed after 0.6 ms of hold, and its samples. -/
def win0 : RWin := ⟨200000, some 200000, 800000, true⟩
def rwin0 : State := ((firing0 phHold f0).setReg (R.LANE_COIL_R20 0) 2000).updLane 0 fun l => { l with wins := [win0] }
def rmeas0 : Samples := ⟨[(2000, 8000), (2000, 8000)], 200000, [10000, 10000]⟩

/-- A firing that has ended with a knee, for a lane that learns. -/
def fDone : Firing := { f0 with kneeDone := true, knee := some 1000, seatDone := true, closed := some 20000, endAt := some 30000 }
def done0 : State := (cfg.setReg (R.LRN_CFG 0) 3).updLane 0 fun l => { l with done := [fDone] }

/-- A tile that calibrates. -/
def burn0 : State := cfg.setReg (R.LRN_TILE_CFG 0) 2

/-- A target for lane 0, a calendar entry, and states in which they wait. -/
def tgt0 : Target := ⟨false, .immediate, 1, 0, 0, [0], 256000000, 512000000, false, 0, 0, 0, 0⟩
def ent0 : Entry := ⟨false, 100000, some 200000, [], false, false, false, false, (0, 0), true⟩
def inbox0 (h : HandOff) : State := { cfg with stitch := { cfg.stitch with inbox := [h] } }
def cal0 : State := cfg.setCal 0 [ent0]
def fused0 : State := cfg.setGnd { GndSt.init with fused := true, have_ := true }
def eval0 : State := cfg.setBit R.GND_CTRL 0 true

/-- A link on both Ethernet ports with an association, and frames under it. -/
def sa0 : Sa := ⟨0, 0, List.replicate 32 0, [], 1⟩
def link0 : State :=
  let up (e : EthPort) (s : State) : State :=
    (((s.setBit (R.ETH_CTRL (ethNum e)) 0 true).setBit (R.ETH_STAT (ethNum e)) 31 true).setEth e
      { EthSt.init with rx := some sa0, tx := some sa0 })
  up .eth0 (up .eth1 cfg)
def frame0 (body : List Byte) : RxFrame := ⟨true, 400, 0, 0, false, 0x88B5, body⟩
def secF (m : List Byte) : RxFrame := ⟨true, 1000, 0, 0, false, 0x88E5, (sa0.seal true 0 0 1 ([0x88, 0xB5] ++ m)).drop 2⟩
def huzBody : List Byte := [0x17, 0x5A, 1, 0] ++ List.replicate 12 0
def huzF : RxFrame := secF huzBody
def huz0 : State := link0.setBit R.INTAKE_CTRL 0 true
def dataB0 : DataB := ⟨0, 0, 0, 0⟩
def belt0 : State := cfg.setBit (R.INTAKE_S_STAT 0) 1 true

/-- An axis in a mode, a serial port with a frame in progress, an armed probe, and a switch channel that is on. -/
def axis0 (m : Nat) : State :=
  (((cfg.setFld (R.AX_CTRL 0) 0 2 m).setFld (R.AX_STAT 0) 0 2 m).setBit (R.AX_CTRL 0) 2 true).setFld (R.AX_CTRL 0) 8 3 4
def serial0 : State := (cfg.setReg (R.Q_FMT 0) 0x14000010).setSer 0 { SerSt.init with frame := some 5 }
def probe0 : State := (cfg.setBit (R.PRB_STAT 0) psArmed true).setBit (R.PRB_CFG 0) 8 true
def swon0 : State := cfg.setChBit 0 hsOutOn true

/-- A GNSS receiver that runs, tracks and publishes, and a CAN controller on the bus. -/
def bias0 : State := cfg.setReg R.GNSS_ANT_CFG 1
def ready0 : State := cfg.setFld R.MSS_STAT 0 2 0
def gnss0 : State := ready0.setReg R.GNSS_CTRL 0x4F
def gch0 : GnssChan := ⟨0, 5, 40, 0x3F, 0, none, 0, none, false, 0, none, false, (0, 0)⟩
def track0 : State := gnss0.setGchan 0 (some gch0)
def sol0 : NavSol := ⟨1000000000, 0, 0, 0, 0, 0, 0, 10, [], false, 100, 0, none, 0, 0, 0, 0, 0⟩
def canOn : State := cfg.setReg (R.CAN_CTRL 0) 0
def canTx : State := (canOn.setBit (R.OBJ_CTRL 0 1) obDir true).setBit (R.OBJ_CTRL 0 1) obTxReq true
def can0 : CanFrame := ⟨false, false, false, false, false, 5, 0, [], 900000⟩

/-- A transfer word with right parity, a request frame, a notification that is due, and USB with and without a session. -/
def lw0 : LinkWord := ⟨0, 0, 3⟩
def mvOk : BitVec 16 := 750
def reqBody : List Byte := [0x30, 0x5A] ++ List.replicate 14 0
def reqF : RxFrame := secF reqBody
def notify0 : State :=
  let s := (link0.setBit (R.ETH_NOTIFY 1) 31 true).setReg R.SYS_IRQ_EN 0x20000
  s.updSys fun q => { q with timeoutNew := true }
def usb0 : State := ready0.setBit R.USB_STAT 31 true
def usbOwn0 : State := (usb0.setReg R.PORT_CFG 2).updSec fun q => { q with usbOpen := true }

/-- The public key of the private key 3, which owns the devices below, and that of 2. -/
def ownerPub : List Byte := beBytes 97
  0x4077a41d4606ffa1464793c7e5fdc7d98cb9d3910202dcd06bea4f240d3566da6b408bbae5026580d02d7e5c70500c831c995f7ca0b0c42837d0bbe9602a9fc998520b41c85115aa5f7684c0edc111eacc24abd6be4b5d298b65f28600a2f1df1

def peerPub : List Byte := beBytes 97
  0x408d999057ba3d2d969260045c55b97f089025959a6f434d651d207d19fb96e9e4fe0e86ebe0e64f85b96a9c75295df618e80f1fa5b1b3cedb7bfe8dffd6dba74b275d875bc6cc43e904e505f256ab4255ffd43e94d39e22d61501e700a940e80

/-- The smallest full image, whose one section holds no item, and the smallest firmware, signed by `ownerPub`. -/
def imgBytes : List Byte := beBytes 384
  0x54524c530100010080010000010008900000000000000000724b9957582f0a7500000000000000000000000000000000000000000000000000000000000000000000000000000000000000000000000000000000000000000000000000000000000000000000000000000000000000000000000000000000000000000000000001000000c00000000400000004000000249800dabe43311ed39b6cb9957510dd35de20fe1a6c0c1aa1b36b2f436b18dd6e7efb99d2e0c49c1516d1d7e5de82baff0000000000000000000000000000000000000000000000000000000000000000000000000000000000000000000000000000000000000000000000000000005349474e0100000011de24a2c251c777573cac5ea025e467f208e51dbff98fc54f6661cbe56583b037882f4a1ca297e60abcdbc3836d84bc6f79ca3fe4065a74e3168ddddab5bc7855d0b73d1b81e31ffe353a148157352636887a480ce55351197dfb4c6f778019000000000000000000000000000000000000000000000000

def fwBytes : List Byte := beBytes 384
  0x4746574d0100000080010000000000000000000000010000000000000000000038b060a751ac96384cd9327eb1b1e36a21fdb71114be07434c0cc7bf63f6e1da274edebfe76f65fbd51ad2f14898b95b04077a41d4606ffa1464793c7e5fdc7d98cb9d3910202dcd06bea4f240d3566da6b408bbae5026580d02d7e5c70500c831c995f7ca0b0c42837d0bbe9602a9fc998520b41c85115aa5f7684c0edc111eacc24abd6be4b5d298b65f28600a2f1df1000000000000000000000000000000000000000000000000000000000000000000000000000000000000000000000000000000000000000000000000000000000000000000000000000000000000005349474e0100000011de24a2c251c777573cac5ea025e467f208e51dbff98fc54f6661cbe56583b037882f4a1ca297e60abcdbc3836d84bc91691dacf59cd44d13c6bd797a96ac087fb1833cc2772bdaef6d3b8ca90257f01b1cd19f37ceb744e5048225338a290c000000000000000000000000000000000000000000000000

/-- A HELLO, and a FINISH after an empty REPLY to it, whose certificate `ownerPub` has signed for `peerPub` on ETH1. -/
def helloBody : List Byte := beBytes 144
  0x405a0101070000000000000000000000000000000000000000000000000000000000000000000000000000000408d999057ba3d2d969260045c55b97f089025959a6f434d651d207d19fb96e9e4fe0e86ebe0e64f85b96a9c75295df618e80f1fa5b1b3cedb7bfe8dffd6dba74b275d875bc6cc43e904e505f256ab4255ffd43e94d39e22d61501e700a940e80000000

def finBody : List Byte := beBytes 360
  0x405a0103070000004750454302020000000000000000000000000000000000000408d999057ba3d2d969260045c55b97f089025959a6f434d651d207d19fb96e9e4fe0e86ebe0e64f85b96a9c75295df618e80f1fa5b1b3cedb7bfe8dffd6dba74b275d875bc6cc43e904e505f256ab4255ffd43e94d39e22d61501e700a940e8000000000000000724b9957582f0a7511de24a2c251c777573cac5ea025e467f208e51dbff98fc54f6661cbe56583b037882f4a1ca297e60abcdbc3836d84bc14076bc846dd288aad86443e982f8fa318709c9646e1d829f82023d4f56cc7272000a67e048c886c63b9ae292769fc35000000000000000000000000000000000000000000000000283c1d7365ce4788f29f8ebf234edffead6fe997fbea5ffa2d58cc9dfa7b1c508b05526f55b9ebb2040f05b48fb6d0e17b139723e1ae2ebf7b627222e8d6fb8fa7c48fcf0fcc9a16a51a5f522e0a071f3d9700d2a17adb34b297b9bf89be3718

/-- What ROTATE_OWNER, DBG_RESPONSE and TAMPER_LOWER take in the command buffer, signed by `ownerPub`, and a wrapped key for KEY_LOAD. -/
def rotBuf : List Byte := beBytes 200
  0x408d999057ba3d2d969260045c55b97f089025959a6f434d651d207d19fb96e9e4fe0e86ebe0e64f85b96a9c75295df618e80f1fa5b1b3cedb7bfe8dffd6dba74b275d875bc6cc43e904e505f256ab4255ffd43e94d39e22d61501e700a940e800000000000000011de24a2c251c777573cac5ea025e467f208e51dbff98fc54f6661cbe56583b037882f4a1ca297e60abcdbc3836d84bcc8808dac28b7b57ca3333e788401417f4162e76537cad005add9fbdae8eb2ce9ba3b8aae90ef38b73c77df0030142dd8

def dbgBuf : List Byte := beBytes 144
  0x1000000000000000000000000000000000000000000000000000000000000000000000000000000000000000000000011de24a2c251c777573cac5ea025e467f208e51dbff98fc54f6661cbe56583b037882f4a1ca297e60abcdbc3836d84bc3fb9b11f0262ce58545fd6a3af88097ed9210935c2180b3e776eca9f1aa210eeb230b08ba4f35a24aed2986dfeca4045

def tamBuf : List Byte := beBytes 104
  0x10000000000000011de24a2c251c777573cac5ea025e467f208e51dbff98fc54f6661cbe56583b037882f4a1ca297e60abcdbc3836d84bc1d1bc25a7d18bf34faf48dc0fdb710d1946724b22e14649237b038ed11ccff05bbd932eeb0d8c671828ccee21a12cb79

def keyBuf : List Byte := beBytes 48
  0x100000000000000246d75815315bd8b40ac141ba1cbca56785ae73cbbafa7fd20f4c91a99312c946edff8132c8259b4

/-- The bytes of a list at an address, as the store lists them. -/
def storeAt0 (a : Nat) (l : List Byte) : List Host.Cell :=
  ((List.range l.length).zip l).filterMap fun x => if x.2 = 0 then none else some (a + x.1, x.2)

/-- `s` with `ownerPub` as its owner's key. -/
def owning (s : State) : State :=
  (s.setBit R.SEC_STAT 3 true).updSec fun q => { q with owners := [sha384 ownerPub], recs := [(0, ownerPub)] }

/-- A device before boot loading with the smallest full image in slot A. -/
def boot0 : State :=
  { owning ((State.reset.setFld R.MSS_STAT 0 2 0).setSlot 0 4) with store := storeAt0 0x10000000 imgBytes }

/-- A source with a leaking bucket, a report that waits for its frame, a device with an owner, an open challenge, firmware that is
pending, and session messages. -/
def leak0 : State := { cfg with fm := { cfg.fm with bucket := [(65536, 5)] } }
def report0 : State :=
  (link0.setBit R.FM_REPORT 31 true).fault 1 0 7
def owned0 : State := owning cfg
def chal0 : List Byte := List.replicate 32 0
def dbg0 : State := owned0.updSec fun q => { q with challenge := some (chal0, 0), debugOff := false }
def fw0 : State :=
  { (cfg.setSlot 2 2).updSec fun q => { q with grnHash := [sha384 ownerPub] } with store := storeAt0 0x11000000 fwBytes }
def helloF : RxFrame := frame0 helloBody
def sess0 : State := link0.setFld R.MSS_STAT 0 2 0
def reply0 : List Byte × List Byte := (sess0.sessReply 1 helloBody []).getD ([], [])
def finF : FrameBody := ⟨false, 0x88B5, finBody⟩
def hand0 : Hand := ⟨7, 0, 0, helloBody, [], [], none⟩
def fin0 : State := (owning sess0).updSec fun q => { q with hands := [(1, some hand0)] }

/-- A capture of lane 0's trace that runs. -/
def trace0 : TraceRun := ⟨0, 0, 500, [], [], none, 0⟩

/-- For each check of WellFormed, a command that it refuses. -/
def vpk500 : List (BitVec 16) := List.replicate 500 0
theorem test_ill_address : WellFormed (.registerWrite 0 .usb (2 ^ 32) 0 WriteEnv.none) = false := by decide
theorem test_ill_read : WellFormed (.multiwordCaptureRead ⟨0, []⟩ .usb (2 ^ 32)) = false := by decide
theorem test_ill_transfer : WellFormed (.linkTransfer 0 0 1 lw0 lw0 (some (.usb, 2 ^ 32))) = false ∧
    WellFormed (.handshakeTimeout 0 0 1 (some (.usb, 2 ^ 32))) = false := by decide
def shortF : RxFrame := { frame0 [0, 0] with len := 19 }
theorem test_ill_frame : WellFormed (.huzerFrame 0 shortF) = false ∧ WellFormed (.regAccessRequest 0 shortF 0 []) = false ∧
    WellFormed (.pauseFrameRx 0 .eth0 shortF) = false ∧ WellFormed (.sessionHello 0 .eth0 shortF []) = false ∧
    WellFormed (.sessionFinish 0 .eth0 true 19 0 0 ⟨false, 0x88B5, [0, 0]⟩) = false := by decide
def hitBad : List EccHit := [⟨2 ^ 24, true⟩]
theorem test_ill_hits : WellFormed (.verifyComplete 0 hitBad) = false ∧ WellFormed (.resetRelease 0 hitBad [] false 0 true) = false ∧
    WellFormed (.bootImageLoad 0 [] [] hitBad) = false ∧ WellFormed (.updCommit 0 .usb 0 hitBad) = false ∧
    WellFormed (.fwActivate 0 .usb hitBad) = false ∧ WellFormed (.stageCommit 0 ⟨0, 0, 0, 0, 0, 0⟩ hitBad) = false := by decide +kernel
theorem test_ill_reads : WellFormed (.multiwordCaptureRead ⟨0, hitBad⟩ .usb 0) = false ∧ WellFormed (.qread ⟨0, 0xEB, hitBad⟩ 0 1) = false ∧
    WellFormed (.qreadFixed ⟨0, 0xEC, hitBad⟩ 0 1) = false ∧ WellFormed (.qrmw ⟨0, 0x35, hitBad⟩ 0 0 0 0 WriteEnv.none) = false ∧
    WellFormed (.regRead ⟨0, hitBad⟩ ⟨0, 0, 0, 0, 0, 0⟩) = false ∧ WellFormed (.recorderRead ⟨0, hitBad⟩ ⟨0, 0, 0, 0, 0, 0⟩) = false ∧
    WellFormed (.intervalClose ⟨0, hitBad⟩ 0 0) = false ∧ WellFormed (.recWin0Read ⟨0, hitBad⟩ .usb) = false ∧
    WellFormed (.recWin63Read ⟨0, hitBad⟩ .usb) = false ∧ WellFormed (.mssLockstep ⟨0, hitBad⟩) = false ∧
    WellFormed (.mssWatchdog ⟨0, hitBad⟩) = false := by decide +kernel
theorem test_ill_reset_count : WellFormed (.resetRelease 0 [] [] false (2 ^ 64) true) = false := by decide
theorem test_ill_lists : WellFormed (.evalPass 0 [1, 1]) = false ∧ WellFormed (.tempPoll 0 []) = false ∧
    WellFormed (.recorderSample 0 []) = false := by decide
theorem test_ill_thermal : WellFormed (.thermalTick ⟨0, true⟩ 0 0 0 [] (List.replicate 8 [])) = false ∧
    WellFormed (.thermalTick ⟨0, true⟩ 0 0 0 vpk500 []) = false := by decide +kernel
def meas0 : SatMeas := ⟨0, 0, 0, 0, 0, 0, 0, 0, 0⟩
theorem test_ill_epoch : WellFormed (.measEpoch 0 [meas0, meas0]) = false := by decide
theorem test_ill_can : WellFormed (.canFrameRx 0 0 { can0 with dlc := 1 }) = false ∧
    WellFormed (.canFrameRx 0 0 { can0 with rtr := true, fdf := true, id := 0 }) = false ∧
    WellFormed (.canFrameRx 0 0 { can0 with ide := false, id := 1 }) = false := by decide
theorem test_ill_data : WellFormed (.regWrite 0 ⟨0, 0, 0, 0, 1, 0⟩ [] []) = false ∧ WellFormed (.stageWrite 0 ⟨0, 0, 0, 0, 1, 0⟩ []) = false ∧
    WellFormed (.usbAttest 0 ⟨0, 0, 0, 0, 1, 0⟩ [] []) = false ∧
    WellFormed (.sessionOut 0 0 0 0 0 1 0 ⟨[], []⟩) = false := by decide

/-- 00, Worked example: 2.35 ms, 110 °C, −40 °C and −12.5 mm in their formats. -/
theorem test_formats : 2350000 / 10 = 0x395F8 ∧ wordI (-320) = 0xFFFFFEC0 ∧ loW (-12500) = 0xFFFFCF2C ∧ hiW48 (-12500) = 0xFFFFFFFF := by decide

/-- 14, the supervisor that answers early: the answers to 0x5E with SEED 0x3C, and the questions that follow it. -/
theorem test_cinch_answers : (List.range 4).map (fun i => cinchAnswer 0x5E i 0x3C) = [0xE2, 0x19, 0x50, 0x87] := by decide
theorem test_cinch_questions : cinchStep 0x5E = 0x2F ∧ cinchStep 0x2F = 0xAF ∧ cinchStep 0xAF = 0xEF := by decide

/-- 14, the good window: CINCH_STAT reads 0x802F_0000 at its end. -/
def cinch0 : State := { cfg.setReg R.CINCH_STAT 0x805E0000 with cinch := ⟨none, true, false, false, 0⟩ }
theorem test_cinch_window : (match exec (.cinchWindowEnd 10000000000) cinch0 with
    | .next t => t.reg R.CINCH_STAT
    | _ => 0) = 0x802F0000 := by decide

/-- 14, Table 8: the words at 20 ms, before and after the acknowledgement. -/
def open18 (i : Nat) (s : State) : State := s.fault 0x18 i 0
def caps18 : State := open18 63 (open18 58 (open18 61 (open18 58 (open18 58 ((cfg.setReg (R.FM_SRC_CFG 0x18) 0x03E80309))))))
theorem test_captures : caps18.srcStat 0x18 = 0xC0000001 ∧ (caps18.srcWords 0x18).getD 1 0 = 0x003AA002 := by decide +kernel
theorem test_captures_ack : (match exec (.fmSrcAck 0 .qspi 0x18) caps18 with
    | .next t => (t.srcStat 0x18, (t.srcWords 0x18).getD 1 0, t.bucket 0x18 58)
    | _ => (0, 0, 0)) = (0x80000000, 0x003D4000, 3) := by decide +kernel

/-- 01, the open circuit traced to IRQ_N. -/
def irq0 : State := (((cfg.setReg R.SYS_IRQ_EN 0x801).setReg R.FM_IRQ_EN 1).event (R.LANE_DIAG 58) ldIdleOpen).fault 0x18 58 0
theorem test_irq : irq0.sysTileIrq = 0x80 ∧ irq0.sysIrqStat = 0x801 ∧ irq0.sysIrqPend = 0x801 := by decide +kernel

/-- 03, the curtain target: its edges, 55,573.3 µs and 57,008.4 µs, in whole units of 100 ns. -/
theorem test_fall : (fallTime 3000000 8600000 180000).map (· / 25600) = some 555733 ∧
    (fallTime 3000000 8600000 185000).map (· / 25600) = some 570083 := by decide

/-- 05, the IMMEDIATE command of 30 µs: 12.990 ms to 13.040 ms, WIDENED. -/
theorem test_widened : ((cfg.setReg (R.STITCH_LANE_MIN 12) 0x75301388).widen 12 { ent0 with opn := 13000000, close := some 13030000 }).2 =
    { ent0 with opn := 12990000, close := some 13040000, widened := true } := by decide

/-- 09, the mark set behind: CMP_LATE and CMP_SKIPPED read 1, and V is 1,004,000. -/
def mark0 : State := (((cfg.setReg (R.ENC_CFG 3) 0x01F41202).setReg48 (R.ENC_POS_LO 3) 1000350).setReg (R.CMP_CFG 2) 0x00C8030B).setReg
    (R.CMP_SPACING 2) 4000
theorem test_mark : (match exec (.cmpValWrite 0 .qspi 2 0) ((mark0.storeAt .qspi (R.CMP_VAL_LO 2) 1000000)) with
    | .next t => (t.reg (R.CMP_VAL_LO 2), t.reg (R.CMP_VAL_HI 2), t.reg (R.CMP_LATE 2), t.reg (R.CMP_SKIPPED 2))
    | _ => (0, 0, 0, 0)) = (0xF51E0, 0, 1, 1) := by decide +kernel

/-- 10, the lamp: its limits are stored as written. -/
theorem test_lamp : (match exec (.registerWrite 0 .qspi (R.SW_CH_ILIM 4) 0x2EE00FA0 WriteEnv.none) cfg with
    | .next t => t.reg (R.SW_CH_ILIM 4)
    | _ => 0) = 0x2EE00FA0 := by decide +kernel

/-- A state and operands that meet the hypotheses of GroupAndTileRowsComplete. -/
theorem wit_GroupAndTileRowsComplete :
    ((pulse0).Runs (0 : Fin 20)) ∧
    ((1000 : Int) ∈ ((pulse0).begin 0).waiting (0 : Fin 20)) ∧
    ((1000 : Int) - 2000 ≤ ((pulse0).begin 0).localDt (0 : Fin 20)) ∧
    (((pulse0).begin 0).tileBlocked (0 : Fin 20) = false) ∧
    ((cfg.ghOn 0).Runs (0 : Fin 20)) ∧
    (((cfg.ghOn 0).begin 100000).groupBusy (0 : Fin 20) = false) ∧
    ((((cfg.ghOn 0).begin 100000).tile (0 : Fin 20)).ghLast + 20000 ≤ ((cfg.ghOn 0).begin 100000).localDt (0 : Fin
      20)) ∧
    (∀ o ∈ ((cfg.ghOn 0).begin 100000).waiting (0 : Fin 20), (((cfg.ghOn 0).begin 100000).tile (0 : Fin 20)).ghLast
      + 20000 + 50000 < o) ∧
    ((cfg.ghOn 0).Runs (0 : Fin 20)) ∧
    ((((cfg).begin 0).setFld (R.GRP_IMEAS (0 : Fin 20)) 0 16 (0 : BitVec 16).toNat).Takes (.qspi : Port) (R.TILE_CMD
      (0 : Fin 20))) ∧
    ((cfg).Runs (0 : Fin 20)) ∧
    (8000 < (9000 : BitVec 16).toNat) ∧
    (((((cfg).begin 0).setFld (R.GRP_IMEAS (0 : Fin 20)) 16 16 (9000 : BitVec 16).toNat).tile (0 : Fin 20)).overload
      = false) ∧
    ((cfg).Runs (0 : Fin 20)) ∧
    (((cfg).begin 200000).rbit (R.TILE_STAT (0 : Fin 20)) tsGhOn = false) ∧
    ((((cfg).begin 200000).tile (0 : Fin 20)).stuck = false) ∧
    ((((cfg).begin 200000).tile (0 : Fin 20)).ghOff + 100000 ≤ ((cfg).begin 200000).localDt (0 : Fin 20)) ∧
    ((cfg).Runs (0 : Fin 20)) ∧
    (1360 ≤ (1360 : BitVec 16).toInt) ∧
    ((((cfg).begin 0).setFld (R.TILE_TEMP (0 : Fin 20)) 0 16 (1360 : BitVec 16).toNat).rbit (R.TILE_STAT (0 : Fin
      20)) tsOt = false) ∧
    ((((cfg).begin 0).setFld (R.TILE_TEMP (0 : Fin 20)) 0 16 (100 : BitVec 16).toNat).Takes (.qspi : Port)
      (R.TILE_CMD (0 : Fin 20))) ∧
    ((cfg).Runs (0 : Fin 20)) ∧
    ((((cfg).begin 0).setFld (R.TILE_TEMP (0 : Fin 20)) 0 16 (0x7FFF : BitVec 16).toNat).rsfld (R.TILE_TEMP_WARN (0
      : Fin 20)) 0 16 ≤ (0x7FFF : BitVec 16).toInt) ∧
    (((firing0 phPeak f0).begin 0).sys.inhibit = false) ∧
    (((cfg.setReg (R.TILE_IDLE_DIAG 0) 1000).setReg (R.LANE_CFG 0) 4).Runs (0 : Fin 20)) ∧
    (((((cfg.setReg (R.TILE_IDLE_DIAG 0) 1000).setReg (R.LANE_CFG 0) 4).begin 10000000000).tile (0 : Fin 20)).idle =
      none) ∧
    (((((cfg.setReg (R.TILE_IDLE_DIAG 0) 1000).setReg (R.LANE_CFG 0) 4).begin 10000000000).tile (0 : Fin 20)).idleAt
      + ((((cfg.setReg (R.TILE_IDLE_DIAG 0) 1000).setReg (R.LANE_CFG 0) 4).begin 10000000000).rfld (R.TILE_IDLE_DIAG
      (0 : Fin 20)) 0 16 : Int) * 1000000 ≤ (((cfg.setReg (R.TILE_IDLE_DIAG 0) 1000).setReg (R.LANE_CFG 0) 4).begin
      10000000000).localDt (0 : Fin 20)) ∧
    ((((cfg.setReg (R.TILE_IDLE_DIAG 0) 1000).setReg (R.LANE_CFG 0) 4).begin 10000000000).idleMay (0 : Fin 20) =
      true) ∧
    ((cfg.setTile 0 { TileSt.init with idle := some (0, [0]) }).Runs (0 : Fin 20)) ∧
    ((((cfg.setTile 0 { TileSt.init with idle := some (0, [0]) }).begin 50000).tile (0 : Fin 20)).idle = some ((0 :
      Int), ([0] : List Nat))) ∧
    ((0 : Int) + 40000 ≤ ((cfg.setTile 0 { TileSt.init with idle := some (0, [0]) }).begin 50000).localDt (0 : Fin
      20)) := by
  refine ⟨?_, ?_, ?_, ?_, ?_, ?_, ?_, ?_, ?_, ?_, ?_, ?_, ?_, ?_, ?_, ?_, ?_, ?_, ?_, ?_, ?_, ?_, ?_, ?_, ?_, ?_,
    ?_, ?_, ?_, ?_, ?_⟩ <;> decide +kernel

/-- A state and operands that meet the hypotheses of FiringRowsComplete. -/
theorem wit_FiringRowsComplete :
    ((pulse0).Runs ((0 : Fin 160) / 8)) ∧
    ((((pulse0).begin 2000).lane (0 : Fin 160)).pulses = (p0 : TilePulse) :: (([] : List TilePulse) : List
      TilePulse)) ∧
    ((p0 : TilePulse).opn ≤ ((pulse0).begin 2000).localDt ((0 : Fin 160) / 8)) ∧
    (((((pulse0).begin 2000).updLane (0 : Fin 160) fun l =>
      { l with pulses := (([] : List TilePulse) : List TilePulse) }).setBit (R.LANE_STAT (0 : Fin 160)) lsPending
      (!(([] : List TilePulse) : List TilePulse).isEmpty)).safeOn (chLane (0 : Fin 160)) = none) ∧
    (((((pulse0).begin 2000).updLane (0 : Fin 160) fun l =>
      { l with pulses := (([] : List TilePulse) : List TilePulse) }).setBit (R.LANE_STAT (0 : Fin 160)) lsPending
      (!(([] : List TilePulse) : List TilePulse).isEmpty)).tileBlocked ((0 : Fin 160) / 8) = false) ∧
    (((((pulse0).begin 2000).updLane (0 : Fin 160) fun l =>
      { l with pulses := (([] : List TilePulse) : List TilePulse) }).setBit (R.LANE_STAT (0 : Fin 160)) lsPending
      (!(([] : List TilePulse) : List TilePulse).isEmpty)).rbit (R.LANE_STAT (0 : Fin 160)) lsOcLatched = false) ∧
    (((((pulse0).begin 2000).updLane (0 : Fin 160) fun l =>
      { l with pulses := (([] : List TilePulse) : List TilePulse) }).setBit (R.LANE_STAT (0 : Fin 160)) lsPending
      (!(([] : List TilePulse) : List TilePulse).isEmpty)).thAct (0 : Fin 160) ≠ 2) ∧
    (((((pulse0).begin 2000).updLane (0 : Fin 160) fun l =>
      { l with pulses := (([] : List TilePulse) : List TilePulse) }).setBit (R.LANE_STAT (0 : Fin 160)) lsPending
      (!(([] : List TilePulse) : List TilePulse).isEmpty)).laneBusy (0 : Fin 160) = false) ∧
    ((firing0 phPeak f0).Runs ((0 : Fin 160) / 8)) ∧
    ((((firing0 phPeak f0).begin 1000).lane (0 : Fin 160)).firing = some (f0 : Firing)) ∧
    (((firing0 phPeak f0).begin 1000).phase (0 : Fin 160) = phPeak) ∧
    ((f0 : Firing).peakAt = none) ∧
    ((f0 : Firing).dead = false) ∧
    ((f0 : Firing).opn + 500 ≤ ((firing0 phPeak f0).begin 1000).localDt ((0 : Fin 160) / 8)) ∧
    ((((firing0 phPeak f0).begin 1000).lane (0 : Fin 160)).thr ≤ (5000 : Nat)) ∧
    (((firing0 phPeak f0).begin 1000).localDt ((0 : Fin 160) / 8) ≤ (f0 : Firing).opn + (fld (f0 : Firing).prof.tmax
      0 24 : Int) * 10) ∧
    ((firing0 phPeak { f0 with peakAt := some 0 }).Runs ((0 : Fin 160) / 8)) ∧
    ((((firing0 phPeak { f0 with peakAt := some 0 }).begin 10000000).lane (0 : Fin 160)).firing = some
      ({ f0 with peakAt := some 0 } : Firing)) ∧
    (({ f0 with peakAt := some 0 } : Firing).peakAt = some ((0 : Int) : Int)) ∧
    (((firing0 phPeak { f0 with peakAt := some 0 }).begin 10000000).phase (0 : Fin 160) = phPeak) ∧
    ((min (((0 : Int) : Int) + (fld ({ f0 with peakAt := some 0 } : Firing).prof.peak 16 16 : Int) * 10)
      (({ f0 with peakAt := some 0 } : Firing).opn + (fld ({ f0 with peakAt := some 0 } : Firing).prof.tmax 0 24 :
      Int) * 10)) ≤ ((firing0 phPeak { f0 with peakAt := some 0 }).begin 10000000).localDt ((0 : Fin 160) / 8)) ∧
    ((firing0 phPeak f0).Runs ((0 : Fin 160) / 8)) ∧
    ((((firing0 phPeak f0).begin 10000000).lane (0 : Fin 160)).firing = some (f0 : Firing)) ∧
    (((firing0 phPeak f0).begin 10000000).phase (0 : Fin 160) = phPeak) ∧
    ((f0 : Firing).peakAt = none) ∧
    ((f0 : Firing).opn + (fld (f0 : Firing).prof.tmax 0 24 : Int) * 10 ≤ ((firing0 phPeak f0).begin
      10000000).localDt ((0 : Fin 160) / 8)) ∧
    ((firing0 phHold f0).Runs ((0 : Fin 160) / 8)) ∧
    ((((firing0 phHold f0).begin 0).lane (0 : Fin 160)).firing = some (f0 : Firing)) ∧
    (((firing0 phHold f0).begin 0).phase (0 : Fin 160) = phHold) ∧
    ((f0 : Firing).dead = false) ∧
    ((((firing0 phHold f0).begin 0).lane (0 : Fin 160)).sw ≠ .on) ∧
    ((100 : Nat) ≤ (((firing0 phHold f0).begin 0).shifted (0 : Fin 160) (((firing0 phHold f0).begin 0).holdThr (0 :
      Fin 160) (fld (f0 : Firing).prof.hold 0 16)))) ∧
    (((firing0 phHold f0).updLane 0 fun l => { l with sw := .on }).Runs ((0 : Fin 160) / 8)) ∧
    (((((firing0 phHold f0).updLane 0 fun l => { l with sw := .on }).begin 5000).lane (0 : Fin 160)).firing = some
      (f0 : Firing)) ∧
    ((((firing0 phHold f0).updLane 0 fun l => { l with sw := .on }).begin 5000).phase (0 : Fin 160) = phHold) ∧
    (((((firing0 phHold f0).updLane 0 fun l => { l with sw := .on }).begin 5000).chopNow (0 : Fin 160)).phase (0 :
      Fin 160) = phHold) ∧
    ((((((firing0 phHold f0).updLane 0 fun l => { l with sw := .on }).begin 5000).chopNow (0 : Fin 160)).lane (0 :
      Fin 160)).sw = .on) ∧
    ((((((firing0 phHold f0).updLane 0 fun l => { l with sw := .on }).begin 5000).chopNow (0 : Fin 160)).lane (0 :
      Fin 160)).offAt = none) ∧
    ((((((firing0 phHold f0).updLane 0 fun l => { l with sw := .on }).begin 5000).chopNow (0 : Fin 160)).lane (0 :
      Fin 160)).onAt + 1000 ≤ ((((firing0 phHold f0).updLane 0 fun l => { l with sw := .on }).begin 5000).chopNow (0
      : Fin 160)).localDt ((0 : Fin 160) / 8)) ∧
    ((((((firing0 phHold f0).updLane 0 fun l => { l with sw := .on }).begin 5000).chopNow (0 : Fin 160)).lane (0 :
      Fin 160)).thr ≤ (1000 : Nat)) ∧
    ((firing0 phHold f0).Runs ((0 : Fin 160) / 8)) ∧
    ((((firing0 phHold f0).begin 20000).lane (0 : Fin 160)).firing = some (f0 : Firing)) ∧
    ((f0 : Firing).close = some (20000 : Int)) ∧
    ((f0 : Firing).closed = none) ∧
    ((20000 : Int) ≤ ((firing0 phHold f0).begin 20000).localDt ((0 : Fin 160) / 8)) ∧
    (((firing0 phRelease f0).updLane 0 fun l => { l with sw := .slow }).Runs ((0 : Fin 160) / 8)) ∧
    (((((firing0 phRelease f0).updLane 0 fun l => { l with sw := .slow }).begin 0).lane (0 : Fin 160)).firing = some
      (f0 : Firing)) ∧
    ((((firing0 phRelease f0).updLane 0 fun l => { l with sw := .slow }).begin 0).phase (0 : Fin 160) = phRelease) ∧
    (((((firing0 phRelease f0).updLane 0 fun l => { l with sw := .slow }).begin 0).lane (0 : Fin 160)).sw = .slow) ∧
    ((0 : Nat) ≤ fld (f0 : Firing).prof.decay 16 16) ∧
    ((firing0 phRelease { f0 with endAt := some 100 }).Runs ((0 : Fin 160) / 8)) ∧
    ((((firing0 phRelease { f0 with endAt := some 100 }).begin 200).lane (0 : Fin 160)).firing = some
      ({ f0 with endAt := some 100 } : Firing)) ∧
    (({ f0 with endAt := some 100 } : Firing).endAt = some (100 : Int)) ∧
    ((100 : Int) ≤ ((firing0 phRelease { f0 with endAt := some 100 }).begin 200).localDt ((0 : Fin 160) / 8)) ∧
    ((10 : Nat) ≤ 20) ∧
    ((cfg).Runs ((0 : Fin 160) / 8)) ∧
    (3000 < (4000 : Nat)) ∧
    (((((cfg).begin 0).setFldN (R.LANE_CLAMP_EMAX (0 : Fin 160)) 0 16 (max (((cfg).begin 0).rfld (R.LANE_CLAMP_EMAX
      (0 : Fin 160)) 0 16) (4000 : Nat))).recAdd 2 ((0 : Fin 160) / 8) 11 (4000 : Nat)).diagRuns (0 : Fin 160) =
      true) ∧
    ((cfg).Runs ((0 : Fin 160) / 8)) ∧
    (300 < (400 : Nat)) ∧
    (((cfg).begin 0).diagRuns (0 : Fin 160) = true) ∧
    ((firing0 phPeak f0).Runs ((0 : Fin 160) / 8)) ∧
    (((firing0 phPeak f0).begin 10000000).seek (0 : Fin 160) (fun g => !g.checked && decide (g.opn + (fld
      g.prof.diag 16 16 : Int) * 10 ≤ ((firing0 phPeak f0).begin 10000000).localDt ((0 : Fin 160) / 8))) = some (f0
      : Firing)) ∧
    ((f0 : Firing).armed = true) ∧
    ((0 : Nat) < fld (f0 : Firing).prof.diag 0 16) ∧
    ((firing0 phHold f0).Runs ((0 : Fin 160) / 8)) ∧
    ((((firing0 phHold f0).begin 0).lane (0 : Fin 160)).firing = some (f0 : Firing)) ∧
    (((firing0 phHold f0).begin 0).phase (0 : Fin 160) = phHold) ∧
    ((f0 : Firing).armed = true) ∧
    (((cfg.ghOn 0).setReg (R.GRP_CFG 0) 0).Runs ((0 : Fin 160) / 8)) ∧
    ((((cfg.ghOn 0).setReg (R.GRP_CFG 0) 0).begin 0).diagRuns (0 : Fin 160) = true) ∧
    ((((cfg.ghOn 0).setReg (R.GRP_CFG 0) 0).begin 0).rbit (R.TILE_STAT ((0 : Fin 160) / 8)) tsGhOn = true) ∧
    (((((cfg.ghOn 0).setReg (R.GRP_CFG 0) 0).begin 0).laneSw (0 : Fin 160) != .on) = true) ∧
    ((firing0 phPeak f0).Runs ((0 : Fin 160) / 8)) ∧
    (((firing0 phPeak f0).begin 0).diagRuns (0 : Fin 160) = true) ∧
    (((firing0 phPeak f0).begin 0).ocThr (0 : Fin 160) < (100000 : Nat)) ∧
    ((rwin0).Runs ((0 : Fin 160) / 8)) ∧
    ((((rwin0).begin 0).chopNow (0 : Fin 160)).closedWin (0 : Fin 160) = some ((win0 : RWin), (([] : List RWin) :
      List RWin))) ∧
    ((win0 : RWin).first = some (200000 : Int)) ∧
    ((fld (((((rwin0).begin 0).chopNow (0 : Fin 160)).updLane (0 : Fin 160) fun l =>
      { l with wins := (([] : List RWin) : List RWin) }).laneReg (0 : Fin 160) (R.LANE_COIL_R20 (0 : Fin 160))) 0
      24) ≠ 0) ∧
    ((win0 : RWin).opens + 500000 ≤ (win0 : RWin).last) ∧
    (((fld (((((rwin0).begin 0).chopNow (0 : Fin 160)).updLane (0 : Fin 160) fun l =>
      { l with wins := (([] : List RWin) : List RWin) }).laneReg (0 : Fin 160) (R.LANE_COIL_R20 (0 : Fin 160))) 0
      24) : Int) ≤ 2 * (((((rwin0).begin 0).chopNow (0 : Fin 160)).updLane (0 : Fin 160) fun l =>
      { l with wins := (([] : List RWin) : List RWin) }).resistance ((sampleRows (400 : Nat) (rmeas0 :
      Samples)).filter fun y => decide ((200000 : Int) ≤ y.at_) && decide (y.at_ < (win0 : RWin).last))).1) ∧
    ((((((rwin0).begin 0).chopNow (0 : Fin 160)).updLane (0 : Fin 160) fun l =>
      { l with wins := (([] : List RWin) : List RWin) }).resistance ((sampleRows (400 : Nat) (rmeas0 :
      Samples)).filter fun y => decide ((200000 : Int) ≤ y.at_) && decide (y.at_ < (win0 : RWin).last))).1 ≤ 2 *
      ((fld (((((rwin0).begin 0).chopNow (0 : Fin 160)).updLane (0 : Fin 160) fun l =>
      { l with wins := (([] : List RWin) : List RWin) }).laneReg (0 : Fin 160) (R.LANE_COIL_R20 (0 : Fin 160))) 0
      24) : Int)) := by
  refine ⟨?_, ?_, ?_, ?_, ?_, ?_, ?_, ?_, ?_, ?_, ?_, ?_, ?_, ?_, ?_, ?_, ?_, ?_, ?_, ?_, ?_, ?_, ?_, ?_, ?_, ?_,
    ?_, ?_, ?_, ?_, ?_, ?_, ?_, ?_, ?_, ?_, ?_, ?_, ?_, ?_, ?_, ?_, ?_, ?_, ?_, ?_, ?_, ?_, ?_, ?_, ?_, ?_, ?_, ?_,
    ?_, ?_, ?_, ?_, ?_, ?_, ?_, ?_, ?_, ?_, ?_, ?_, ?_, ?_, ?_, ?_, ?_, ?_, ?_, ?_, ?_, ?_, ?_, ?_, ?_, ?_, ?_, ?_,
    ?_⟩ <;> decide +kernel

/-- A state and operands that meet the hypotheses of LearnerRowsComplete. -/
theorem wit_LearnerRowsComplete :
    ((cfg).Runs (0 : Fin 20)) ∧
    ((firing0 phPeak f0).Runs ((0 : Fin 160) / 8)) ∧
    (((firing0 phPeak f0).begin 0).seek (0 : Fin 160) (fun g => !g.kneeDone) = some (f0 : Firing)) ∧
    (findDip (2 * (fld (f0 : Firing).prof.detect 0 16 : Int)) 0 ((medians ((((knees : List Int).zipIdx.map fun q =>
      (500 * (((0 : Nat) + q.2 : Nat) : Int), q.1)).filter fun q => (f0 : Firing).searched q.1).map (·.2))).headD 0)
      none (medians ((((knees : List Int).zipIdx.map fun q => (500 * (((0 : Nat) + q.2 : Nat) : Int), q.1)).filter
      fun q => (f0 : Firing).searched q.1).map (·.2))) = some (5 : Nat)) ∧
    ((stuck0).Runs ((0 : Fin 160) / 8)) ∧
    ((((stuck0).begin 0).lane (0 : Fin 160)).firing = some (fStuck : Firing)) ∧
    ((fStuck : Firing).kneeDone = true) ∧
    ((fStuck : Firing).knee = none) ∧
    (((stuck0).begin 0).stuckElig (0 : Fin 160) (fStuck : Firing) = true) ∧
    (20000000 ≤ ((stuck0).begin 0).actTime (0 : Fin 160)) ∧
    ((seat0).Runs ((0 : Fin 160) / 8)) ∧
    (((seat0).begin 10000000).seek (0 : Fin 160) (fun g => g.kneeDone && !g.seatDone && g.closed.isSome) = some
      (fSeat : Firing)) ∧
    ((fSeat : Firing).closed = some (0 : Int)) ∧
    ((0 : Int) + (fld (fSeat : Firing).prof.closeWin 16 16 : Int) * 1000 ≤ ((seat0).begin 10000000).localDt ((0 :
      Fin 160) / 8)) ∧
    (((seat0).begin 10000000).findSeat (0 : Fin 160) (fSeat : Firing) (0 : Int) ((sampleRows (0 : Nat) (seats :
      Samples)).filter fun y => !((seat0).begin 10000000).occupied (0 : Fin 160) y.at_) = (some ((9500 : Int) :
      Int), ((seat0.begin 10000000) : State))) ∧
    ((done0).Runs ((0 : Fin 160) / 8)) ∧
    ((((done0).begin 0).lane (0 : Fin 160)).done.find? (fun g => !g.used) = some (fDone : Firing)) ∧
    ((fDone : Firing).kneeDone = true) ∧
    ((fDone : Firing).seatDone = true) ∧
    ((fDone : Firing).knee = some (1000 : Int)) ∧
    ((fDone : Firing).seat = none) ∧
    (((done0).begin 0).lrnCfg (0 : Fin 160) 0 = true) ∧
    (((done0).begin 0).lrnCfg (0 : Fin 160) 1 = true) ∧
    (((done0).begin 0).useRow (0 : Fin 160) (fDone : Firing) = 8) ∧
    ((burn0).Runs (0 : Fin 20)) ∧
    (((burn0).begin 0).rbit (R.LRN_TILE_CFG (0 : Fin 20)) 1 = true) ∧
    (((burn0).begin 0).rbit (R.BURNISH_STAT (0 : Fin 20)) 31 = false) ∧
    ((((burn0).begin 0).tile (0 : Fin 20)).idle = none) ∧
    (argMax (fun j => (((burn0).begin 0).burnAge j : Int)) ((tileLanes (0 : Fin 20)).filter fun j => ((burn0).begin
      0).burnMay j) = some (0 : Nat)) ∧
    ((cfg.setTile 0 { TileSt.init with burn := some 0 }).Runs (0 : Fin 20)) ∧
    ((((cfg.setTile 0 { TileSt.init with burn := some 0 }).begin 496000).tile (0 : Fin 20)).burn = some (0 : Int)) ∧
    ((0 : Int) + 496000 ≤ ((cfg.setTile 0 { TileSt.init with burn := some 0 }).begin 496000).localDt (0 : Fin 20)) ∧
    (burnOk (0 : BitVec 16).toInt (0 : BitVec 16).toInt (0 : BitVec 16).toInt (0 : BitVec 16).toInt (0 : BitVec
      16).toInt = true) ∧
    ((cfg).Runs ((0 : Fin 160) / 8)) ∧
    ((((cfg).begin 0).lane (0 : Fin 160)).stale = false) ∧
    (((cfg).begin 0).rfld (R.BURNISH_MAXAGE ((0 : Fin 160) / 8)) 0 16 ≤ ((cfg).begin 0).burnAge (0 : Fin 160)) ∧
    ((cfg.setFld R.MSS_STAT 0 2 0).works 36 = true) ∧
    (((cfg.setFld R.MSS_STAT 0 2 0).begin 600000000000).rfld R.MSS_STAT 0 2 = 0) ∧
    (((cfg.setFld R.MSS_STAT 0 2 0).begin 600000000000).rcd.copyAt + 600000000000 ≤ ((cfg.setFld R.MSS_STAT 0 2
      0).begin 600000000000).now) := by
  refine ⟨?_, ?_, ?_, ?_, ?_, ?_, ?_, ?_, ?_, ?_, ?_, ?_, ?_, ?_, ?_, ?_, ?_, ?_, ?_, ?_, ?_, ?_, ?_, ?_, ?_, ?_,
    ?_, ?_, ?_, ?_, ?_, ?_, ?_, ?_, ?_, ?_, ?_, ?_, ?_⟩ <;> decide +kernel

/-- A state and operands that meet the hypotheses of LaneCommandsComplete. -/
theorem wit_LaneCommandsComplete :
    ((cfg).Takes (.qspi : Port) (R.TILE_CMD (0 : Fin 20))) ∧
    ((cfg).Takes (.qspi : Port) (R.LRN_CMD (0 : Fin 160))) ∧
    ((cfg).Takes (.qspi : Port) (R.LRN_CMD (0 : Fin 160))) ∧
    ((cfg).Takes (.qspi : Port) (R.LRN_CMD (0 : Fin 160))) ∧
    ((cfg).Takes (.qspi : Port) (R.LRN_CMD (0 : Fin 160))) ∧
    ((cfg).Takes (.qspi : Port) (R.INTAKE_S_CFG (0 : Fin 4))) ∧
    ((cfg).Takes (.qspi : Port) (R.INTAKE_TGT_W 3)) ∧
    ((cfg).Takes (.qspi : Port) R.INTAKE_CNT_CLEAR) ∧
    ((cfg).Takes (.qspi : Port) R.STITCH_CMD) ∧
    ((cfg).Takes (.qspi : Port) R.STITCH_CMD) ∧
    ((cfg).Gives (.qspi : Port) R.STITCH_CAL_OPEN_LO) ∧
    ((cfg).Takes (.qspi : Port) R.GND_VS_YAW) ∧
    ((cfg).Takes (.qspi : Port) R.GND_CMD) ∧
    ((cfg).Takes (.qspi : Port) R.GND_CMD) ∧
    ((cfg).Takes (.qspi : Port) R.GND_CMD) ∧
    ((cfg).Takes (.qspi : Port) R.GND_CMD) ∧
    ((cfg).PortRuns (.qspi : Port)) ∧
    ((cfg).accessErr (.qspi : Port) (rasterBase + 4 * (0 : Fin 16777216)) true = 0) := by
  refine ⟨?_, ?_, ?_, ?_, ?_, ?_, ?_, ?_, ?_, ?_, ?_, ?_, ?_, ?_, ?_, ?_, ?_, ?_⟩ <;> decide +kernel

/-- A state and operands that meet the hypotheses of PlanRowsComplete. -/
theorem wit_PlanRowsComplete :
    ((((huz0).begin 0).macRx .eth0 (huzF : RxFrame)).1 = some (huzBody : List Byte)) ∧
    (subtypeOf (huzBody : List Byte) = 0x5A17) ∧
    (((((huz0).begin 0).macRx .eth0 (huzF : RxFrame)).2).Runs 29) ∧
    (((cfg.setBit R.INTAKE_STAT 24 true).begin 1000000000).rbit R.INTAKE_STAT 24 = true) ∧
    (((cfg.setBit R.INTAKE_STAT 24 true).begin 1000000000).intake.pauseAt + ((cfg.setBit R.INTAKE_STAT 24
      true).begin 1000000000).rfld (R.ETH_PAUSE 0) 16 16 * 1000 ≤ ((cfg.setBit R.INTAKE_STAT 24 true).begin
      1000000000).now) ∧
    (((cfg.setFld R.INTAKE_CTRL 4 2 1).setFifo [⟨List.replicate 16 0, 0, 0, true⟩]).Runs 29) ∧
    ((((cfg.setFld R.INTAKE_CTRL 4 2 1).setFifo [⟨List.replicate 16 0, 0, 0, true⟩]).begin 0).rfld R.INTAKE_CTRL 4 2
      ≠ 0) ∧
    ((((cfg.setFld R.INTAKE_CTRL 4 2 1).setFifo [⟨List.replicate 16 0, 0, 0, true⟩]).begin 0).intake.fifo =
      (⟨List.replicate 16 0, 0, 0, true⟩ : FifoEntry) :: ([] : List FifoEntry)) ∧
    (((cfg.setBit (R.INTAKE_S_CFG 0) 1 true).setBit (R.ENC_STAT 0) 30 true).Runs 29) ∧
    ((((cfg.setBit (R.INTAKE_S_CFG 0) 1 true).setBit (R.ENC_STAT 0) 30 true).begin 0).rbit (R.INTAKE_S_CFG (0 : Fin
      4)) 1 = true) ∧
    ((((cfg.setBit (R.INTAKE_S_CFG 0) 1 true).setBit (R.ENC_STAT 0) 30 true).begin 0).dt % 65536 = 0) ∧
    ((((cfg.setBit (R.INTAKE_S_CFG 0) 1 true).setBit (R.ENC_STAT 0) 30 true).begin 0).works 22 = true) ∧
    ((((cfg.setBit (R.INTAKE_S_CFG 0) 1 true).setBit (R.ENC_STAT 0) 30 true).begin 0).rbit (R.ENC_STAT
      ((((cfg.setBit (R.INTAKE_S_CFG 0) 1 true).setBit (R.ENC_STAT 0) 30 true).begin 0).rfld (R.INTAKE_S_CFG (0 :
      Fin 4)) 24 3)) 30 = true) ∧
    ((inbox0 (.target tgt0)).Runs 30) ∧
    (((inbox0 (.target tgt0)).begin 0).stitch.inbox.head? = some (.target (tgt0 : Target))) ∧
    ((tgt0 : Target).cancel = false) ∧
    ((inbox0 (.target { tgt0 with cancel := true })).Runs 30) ∧
    (((inbox0 (.target { tgt0 with cancel := true })).begin 0).stitch.inbox.head? = some (.target
      ({ tgt0 with cancel := true } : Target))) ∧
    (({ tgt0 with cancel := true } : Target).cancel = true) ∧
    ((inbox0 (.sectAct true 1 [0] 0 true)).Runs 30) ∧
    (((inbox0 (.sectAct true 1 [0] 0 true)).begin 0).stitch.inbox.head? = some (.sectAct true (1 : Nat) ([0] : List
      Nat) (0 : Int) (true : Bool))) ∧
    ((inbox0 (.sectAct false 1 [0] 0 true)).Runs 30) ∧
    (((inbox0 (.sectAct false 1 [0] 0 true)).begin 0).stitch.inbox.head? = some (.sectAct false (1 : Nat) ([0] :
      List Nat) (0 : Int) (true : Bool))) ∧
    ((inbox0 (.duty 0 100)).Runs 30) ∧
    (((inbox0 (.duty 0 100)).begin 0).stitch.inbox.head? = some (.duty (0 : Nat) (100 : Nat))) ∧
    ((inbox0 (.respot 0 1 none)).Runs 30) ∧
    (((inbox0 (.respot 0 1 none)).begin 0).stitch.inbox.head? = some (.respot (0 : Nat) (1 : Nat) (none : Option
      (Int × Int)))) ∧
    ((cal0).Runs 30) ∧
    (({ ((cal0).begin 0) with stitch := { ((cal0).begin 0).stitch with changed := ((cal0).begin 0).stitch.changed.filter fun q => q != (0 : Fin 160) } }).logicalOf
      (0 : Fin 160) = some (0 : Nat)) ∧
    ((cal0).Runs 30) ∧
    (((((cal0).begin 100000).upset ([] : List (Nat × Nat))).sift (0 : Fin 160)).physOf (0 : Fin 160) = some (0 :
      Nat)) ∧
    (((((cal0).begin 100000).upset ([] : List (Nat × Nat))).sift (0 : Fin 160)).stitch.changed.contains (0 : Nat) =
      false) ∧
    ((((((cal0).begin 100000).upset ([] : List (Nat × Nat))).sift (0 : Fin 160)).cal (0 : Fin 160)).head? = some
      (ent0 : Entry)) ∧
    ((ent0 : Entry).held = false) ∧
    ((ent0 : Entry).opn - 10000 ≤ ((((cal0).begin 100000).upset ([] : List (Nat × Nat))).sift (0 : Fin 160)).dtI) ∧
    (((((cal0).begin 100000).upset ([] : List (Nat × Nat))).sift (0 : Fin 160)).commitTurn (0 : Fin 160) (ent0 :
      Entry) = true) ∧
    ((belt0).Runs 30) ∧
    (((belt0).begin 0).beltValid (0 : Fin 4) = true) ∧
    ((fused0).Runs 31) ∧
    (((fused0).begin 2000000).gnd.fused = true) ∧
    ((((fused0).begin 2000000).gnd.have_ = false ∨ ((fused0).begin 2000000).reckoned.t + 1000000 ≤ ((fused0).begin
      2000000).dt)) ∧
    ((cfg.setGnd { GndSt.init with fixes := [⟨true, 0, 0, 0, 0, 0⟩] }).Runs 31) ∧
    (((cfg.setGnd { GndSt.init with fixes := [⟨true, 0, 0, 0, 0, 0⟩] }).begin 0).gnd.fixes = (⟨true, 0, 0, 0, 0, 0⟩
      : Fix) :: ([] : List Fix)) ∧
    ((fused0).Runs 31) ∧
    (((fused0).begin 2000000000).gnd.fused = true) ∧
    (((fused0).begin 2000000000).gnd.lastFix + 1000000000 ≤ ((fused0).begin 2000000000).now) ∧
    ((fused0).Runs 31) ∧
    (((fused0).begin 100000000000000).gnd.fused = true) ∧
    (((fused0).begin 100000000000000).gnd.lastFix + (((fused0).begin 100000000000000).reg R.GND_DR_MAX).toNat *
      1000000 ≤ ((fused0).begin 100000000000000).now) ∧
    ((cfg.setGnd { GndSt.init with have_ := true }).Runs 31) ∧
    (((cfg.setGnd { GndSt.init with have_ := true }).begin 1000000).gnd.have_ = true) ∧
    (((cfg.setGnd { GndSt.init with have_ := true }).begin 1000000).dt % 1000000 = 0) ∧
    ((eval0).Runs 31) ∧
    (((eval0).begin 1000000000).rbit R.GND_CTRL 0 = true) ∧
    (((eval0).begin 1000000000).periodStart = true) ∧
    (((eval0).begin 1000000000).gnd.passEnd ≤ (((eval0).begin 1000000000).now : Int)) ∧
    ((eval0.setGnd { GndSt.init with passEnd := 10000000000 }).Runs 31) ∧
    (((eval0.setGnd { GndSt.init with passEnd := 10000000000 }).begin 1000000000).rbit R.GND_CTRL 0 = true) ∧
    (((eval0.setGnd { GndSt.init with passEnd := 10000000000 }).begin 1000000000).periodStart = true) ∧
    ((((eval0.setGnd { GndSt.init with passEnd := 10000000000 }).begin 1000000000).now : Int) < ((eval0.setGnd
      { GndSt.init with passEnd := 10000000000 }).begin 1000000000).gnd.passEnd) ∧
    ((cfg.setGnd { GndSt.init with queue := [⟨List.replicate 16 0, 0, 0⟩] }).Runs 31) ∧
    (((cfg.setGnd { GndSt.init with queue := [⟨List.replicate 16 0, 0, 0⟩] }).begin 0).gnd.queue = (⟨List.replicate
      16 0, 0, 0⟩ : GndEvent) :: ([] : List GndEvent)) ∧
    (∀ a, ((cfg.setGnd { GndSt.init with queue := [⟨List.replicate 16 0, 0, 0⟩] }).begin 0).gnd.takenAt = some a →
      a + 1000 ≤ ((cfg.setGnd { GndSt.init with queue := [⟨List.replicate 16 0, 0, 0⟩] }).begin 0).now) ∧
    ((cfg.setMarks 0 (some (0, [0]))).Runs 31) ∧
    ((cfg.setBit R.GND_STAT 4 true).Runs 31) ∧
    (((cfg.setBit R.GND_STAT 4 true).begin 0).paging = true) ∧
    (((cfg.setBit R.GND_STAT 4 true).begin 0).evict.paging = true) ∧
    (((cfg.setBit R.GND_STAT 4 true).begin 0).evict.gnd.ready = false) ∧
    (((cfg.setBit R.GND_STAT 4 true).begin 0).evict.leaving = []) := by
  refine ⟨?_, ?_, ?_, ?_, ?_, ?_, ?_, ?_, ?_, ?_, ?_, ?_, ?_, ?_, ?_, ?_, ?_, ?_, ?_, ?_, ?_, ?_, ?_, ?_, ?_, ?_,
    ?_, ?_, ?_, ?_, ?_, ?_, ?_, ?_, ?_, ?_, ?_, ?_, ?_, ?_, ?_, ?_, ?_, ?_, ?_, ?_, ?_, ?_, ?_, ?_, ?_, ?_, ?_, ?_,
    ?_, ?_, ?_, ?_, ?_, ?_, ?_, ?_, ?_, ?_, ?_, ?_, ?_, ?_, ?_⟩ <;> decide +kernel

/-- A state and operands that meet the hypotheses of MotionRowsComplete. -/
theorem wit_MotionRowsComplete :
    ((cfg).Runs (axisIsland (0 : Fin 8))) ∧
    (((cfg).begin 0).localDt (axisIsland (0 : Fin 8)) % 10000 = 0) ∧
    ((((cfg).begin 0).axis (0 : Fin 8)).upAt = none) ∧
    ((cfg.updAxis 0 fun q => { q with still := some 0 }).Runs (axisIsland (0 : Fin 8))) ∧
    ((((cfg.updAxis 0 fun q => { q with still := some 0 }).begin 100000000000).axis (0 : Fin 8)).still = some (0 :
      Nat)) ∧
    ((0 : Nat) + ((cfg.updAxis 0 fun q => { q with still := some 0 }).begin 100000000000).rfld (R.AX_HOLD_DELAY (0 :
      Fin 8)) 0 16 * 1000000 ≤ ((cfg.updAxis 0 fun q => { q with still := some 0 }).begin 100000000000).now) ∧
    (((cfg.updAxis 0 fun q => { q with still := some 0 }).begin 100000000000).rbit (R.AX_STAT (0 : Fin 8))
      asHoldCurrent = false) ∧
    ((axis0 2).Runs (axisIsland (0 : Fin 8))) ∧
    (((axis0 2).begin 0).axMode (0 : Fin 8) = 2) ∧
    ((((axis0 2).begin 0).axis (0 : Fin 8)).edgeAt = none) ∧
    ((((axis0 2).begin 0).updAxis (0 : Fin 8) fun q => { q with edgeAt := some ((axis0 2).begin 0).now }).rbit
      (R.AX_STAT (0 : Fin 8)) asHeld = false) ∧
    ((((axis0 2).begin 0).updAxis (0 : Fin 8) fun q => { q with edgeAt := some ((axis0 2).begin 0).now }).axIdle (0
      : Fin 8) = false) ∧
    ((cfg.updAxis 0 fun q => { q with left := 1, stepN := 1 }).Runs (axisIsland (0 : Fin 8))) ∧
    ((((cfg.updAxis 0 fun q => { q with left := 1, stepN := 1 }).begin 0).axis (0 : Fin 8)).left ≠ 0) ∧
    ((((cfg.updAxis 0 fun q => { q with left := 1, stepN := 1 }).begin 0).axis (0 : Fin 8)).stepT + ((((cfg.updAxis
      0 fun q => { q with left := 1, stepN := 1 }).begin 0).axis (0 : Fin 8)).stepN - (((cfg.updAxis 0 fun q =>
      { q with left := 1, stepN := 1 }).begin 0).axis (0 : Fin 8)).left.natAbs) * ((((cfg.updAxis 0 fun q =>
      { q with left := 1, stepN := 1 }).begin 0).axis (0 : Fin 8)).per.getD 0 * 10) / (((cfg.updAxis 0 fun q =>
      { q with left := 1, stepN := 1 }).begin 0).axis (0 : Fin 8)).stepN ≤ ((cfg.updAxis 0 fun q =>
      { q with left := 1, stepN := 1 }).begin 0).now) ∧
    ((((axis0 1).setBit (R.AX_CTRL 0) 16 true).updAxis 0 fun q => { q with chopB := ⟨true, 0, 0⟩ }).Runs (axisIsland
      (0 : Fin 8))) ∧
    (((((axis0 1).setBit (R.AX_CTRL 0) 16 true).updAxis 0 fun q => { q with chopB := ⟨true, 0, 0⟩ }).begin
      1000).bridgesOn (0 : Fin 8) = true) ∧
    (((if (true : Bool) then (((((axis0 1).setBit (R.AX_CTRL 0) 16 true).updAxis 0 fun q =>
      { q with chopB := ⟨true, 0, 0⟩ }).begin 1000).axis (0 : Fin 8)).chopB else (((((axis0 1).setBit (R.AX_CTRL 0)
      16 true).updAxis 0 fun q => { q with chopB := ⟨true, 0, 0⟩ }).begin 1000).axis (0 : Fin 8)).chopA)).drive =
      true) ∧
    (((if (true : Bool) then (((((axis0 1).setBit (R.AX_CTRL 0) 16 true).updAxis 0 fun q =>
      { q with chopB := ⟨true, 0, 0⟩ }).begin 1000).axis (0 : Fin 8)).chopB else (((((axis0 1).setBit (R.AX_CTRL 0)
      16 true).updAxis 0 fun q => { q with chopB := ⟨true, 0, 0⟩ }).begin 1000).axis (0 : Fin 8)).chopA)).since +
      500 ≤ ((((axis0 1).setBit (R.AX_CTRL 0) 16 true).updAxis 0 fun q => { q with chopB := ⟨true, 0, 0⟩ }).begin
      1000).now) ∧
    ((((((axis0 1).setBit (R.AX_CTRL 0) 16 true).updAxis 0 fun q => { q with chopB := ⟨true, 0, 0⟩ }).begin
      1000).phaseTarget (0 : Fin 8) (true : Bool)).natAbs ≤ (2000 : BitVec 16).toInt.natAbs) ∧
    ((((((axis0 1).setBit (R.AX_CTRL 0) 16 true).updAxis 0 fun q => { q with chopB := ⟨true, 0, 0⟩ }).begin
      1000).phaseTarget (0 : Fin 8) (true : Bool) = 0 ∨ (2000 : BitVec 16).toInt.sign = (((((axis0 1).setBit
      (R.AX_CTRL 0) 16 true).updAxis 0 fun q => { q with chopB := ⟨true, 0, 0⟩ }).begin 1000).phaseTarget (0 : Fin
      8) (true : Bool)).sign)) ∧
    ((((axis0 1).setReg (R.AX_CURRENT 0) 0x03E803E8).setBit (R.AX_CTRL 0) 16 true).Runs (axisIsland (0 : Fin 8))) ∧
    (((((axis0 1).setReg (R.AX_CURRENT 0) 0x03E803E8).setBit (R.AX_CTRL 0) 16 true).begin 1000000).bridgesOn (0 :
      Fin 8) = true) ∧
    (((if (true : Bool) then (((((axis0 1).setReg (R.AX_CURRENT 0) 0x03E803E8).setBit (R.AX_CTRL 0) 16 true).begin
      1000000).axis (0 : Fin 8)).chopB else (((((axis0 1).setReg (R.AX_CURRENT 0) 0x03E803E8).setBit (R.AX_CTRL 0)
      16 true).begin 1000000).axis (0 : Fin 8)).chopA)).drive = false) ∧
    (((if (true : Bool) then (((((axis0 1).setReg (R.AX_CURRENT 0) 0x03E803E8).setBit (R.AX_CTRL 0) 16 true).begin
      1000000).axis (0 : Fin 8)).chopB else (((((axis0 1).setReg (R.AX_CURRENT 0) 0x03E803E8).setBit (R.AX_CTRL 0)
      16 true).begin 1000000).axis (0 : Fin 8)).chopA)).since + ((((axis0 1).setReg (R.AX_CURRENT 0)
      0x03E803E8).setBit (R.AX_CTRL 0) 16 true).begin 1000000).rfld (R.AX_CHOP (0 : Fin 8)) 16 16 * 10 ≤ ((((axis0
      1).setReg (R.AX_CURRENT 0) 0x03E803E8).setBit (R.AX_CTRL 0) 16 true).begin 1000000).now) ∧
    ((0 : BitVec 16).toInt.natAbs < (((((axis0 1).setReg (R.AX_CURRENT 0) 0x03E803E8).setBit (R.AX_CTRL 0) 16
      true).begin 1000000).phaseTarget (0 : Fin 8) (true : Bool)).natAbs) ∧
    ((cfg).Runs (axisIsland (0 : Fin 8))) ∧
    (((cfg).begin 0).bridgesOn (0 : Fin 8) = false) ∧
    ((cfg).Runs (axisIsland (0 : Fin 8))) ∧
    (((axis0 1).setReg (R.AX_CURRENT 0) 0x03E803E8).Runs (axisIsland (0 : Fin 8))) ∧
    (200 ≤ ((((axis0 1).setReg (R.AX_CURRENT 0) 0x03E803E8).begin 0).phaseTarget (0 : Fin 8) (true : Bool)).natAbs)
      ∧
    ((cfg).Runs (axisIsland (0 : Fin 8))) ∧
    ((6000 : BitVec 16).toNat < 7000) ∧
    ((((cfg).begin 0).setReg (R.MOT_VM ((0 : Fin 8) / 4)) ((6000 : BitVec 16).setWidth 32)).rbit (R.AX_STAT (0 : Fin
      8)) asVmUv = false) ∧
    ((cfg).Runs (axisIsland (0 : Fin 8))) ∧
    (7500 < (8000 : BitVec 16).toNat) ∧
    ((cfg).Runs (20 + (0 : Fin 2).val)) ∧
    (1360 ≤ (1400 : BitVec 16).toInt) ∧
    ((((cfg).begin 0).setReg (R.MOT_TEMP (0 : Fin 2)) ((1400 : BitVec 16).setWidth 32)).rbit (R.MOT_STAT (0 : Fin
      2)) 0 = false) ∧
    ((((cfg).begin 0).setReg (R.MOT_TEMP (0 : Fin 2)) ((100 : BitVec 16).setWidth 32)).Takes (.qspi : Port)
      (R.MOT_CMD (0 : Fin 2))) ∧
    ((cfg).Takes (.qspi : Port) (R.MOT_CMD (0 : Fin 2))) ∧
    ((cfg).Takes (.qspi : Port) (R.AX_CMD (0 : Fin 8))) ∧
    ((cfg).Takes (.qspi : Port) (R.AX_CMD (0 : Fin 8))) ∧
    ((cfg).Takes (.qspi : Port) (R.AX_CMD (0 : Fin 8))) ∧
    ((cfg).Takes (.qspi : Port) (R.AX_CMD (0 : Fin 8))) ∧
    ((cfg).Takes (.qspi : Port) (R.AX_CMD (0 : Fin 8))) := by
  refine ⟨?_, ?_, ?_, ?_, ?_, ?_, ?_, ?_, ?_, ?_, ?_, ?_, ?_, ?_, ?_, ?_, ?_, ?_, ?_, ?_, ?_, ?_, ?_, ?_, ?_, ?_,
    ?_, ?_, ?_, ?_, ?_, ?_, ?_, ?_, ?_, ?_, ?_, ?_, ?_, ?_, ?_, ?_, ?_, ?_, ?_, ?_⟩ <;> decide +kernel

/-- A state and operands that meet the hypotheses of FeedbackRowsComplete. -/
theorem wit_FeedbackRowsComplete :
    ((cfg.setBit (R.ENC_CFG 0) 12 true).Runs 22) ∧
    (((cfg.setBit (R.ENC_CFG 0) 12 true).begin 0).rfld (R.ENC_CFG (0 : Fin 8)) 0 6 < (64 : Nat)) ∧
    (((cfg.setBit (R.ENC_CFG 0) 12 true).begin 0).rbit (R.ENC_CFG (0 : Fin 8)) 12 = true) ∧
    (((((cfg.setBit (R.ENC_CFG 0) 12 true).begin 0).enc (0 : Fin 8)).la != (true : Bool)) = true) ∧
    (((((cfg.setBit (R.ENC_CFG 0) 12 true).begin 0).enc (0 : Fin 8)).lb != (false : Bool)) = false) ∧
    ((cfg.setEnc 0 { EncSt.init with rateAt := some 0 }).Runs 22) ∧
    ((((cfg.setEnc 0 { EncSt.init with rateAt := some 0 }).begin 1000000).enc (0 : Fin 8)).rateAt = some (0 : Nat))
      ∧
    ((0 : Nat) + 1000000 ≤ ((cfg.setEnc 0 { EncSt.init with rateAt := some 0 }).begin 1000000).now) ∧
    ((cfg).Runs 22) ∧
    ((((cfg).begin 0).enc (0 : Fin 8)).lz = false) ∧
    (((cfg).begin 0).rfld (R.ENC_CFG (0 : Fin 8)) 0 6 < (64 : Nat)) ∧
    ((cfg).Runs 22) ∧
    (((cfg).begin 0).rbit (R.ENC_CFG (0 : Fin 8)) 8 = false) ∧
    (((cfg).begin 0).rbit (R.ENC_STAT (0 : Fin 8)) esBreak = false) ∧
    ((cfg.setBit (R.ENC_STAT 0) esBreak true).Runs 22) ∧
    (((cfg.setFld (R.ENC_CFG 0) 15 17 1000).setEnc 0 { EncSt.init with win := some (0, 1000, 0) }).Runs 22) ∧
    ((1000 : Nat) = (((cfg.setFld (R.ENC_CFG 0) 15 17 1000).setEnc 0
      { EncSt.init with win := some (0, 1000, 0) }).begin 1000000).rfld (R.ENC_CFG (0 : Fin 8)) 15 17) ∧
    ((((cfg.setFld (R.ENC_CFG 0) 15 17 1000).setEnc 0 { EncSt.init with win := some (0, 1000, 0) }).begin
      1000000).fbDt % ((1000 : Nat) * 1000 : Nat) = 0) ∧
    (((((cfg.setFld (R.ENC_CFG 0) 15 17 1000).setEnc 0 { EncSt.init with win := some (0, 1000, 0) }).begin
      1000000).enc (0 : Fin 8)).win = some ((0 : Int), (1000 : Nat), (0 : Int))) ∧
    ((0 : Int) + ((1000 : Nat) * 1000 : Nat) = (((cfg.setFld (R.ENC_CFG 0) 15 17 1000).setEnc 0
      { EncSt.init with win := some (0, 1000, 0) }).begin 1000000).fbDt) ∧
    ((cfg).Takes (.qspi : Port) (R.ENC_CMD (0 : Fin 8))) ∧
    ((cfg).Takes (.qspi : Port) (R.ENC_CMD (0 : Fin 8))) ∧
    (((cfg.setFld (R.Q_CFG 0) 0 2 1).setFld (R.Q_CFG 0) 16 16 1000).Runs 22) ∧
    ((((cfg.setFld (R.Q_CFG 0) 0 2 1).setFld (R.Q_CFG 0) 16 16 1000).begin 1000000).rfld (R.Q_CFG (0 : Fin 4)) 0 2 ≠
      0) ∧
    ((((cfg.setFld (R.Q_CFG 0) 0 2 1).setFld (R.Q_CFG 0) 16 16 1000).begin 1000000).fbDt % ((((cfg.setFld (R.Q_CFG
      0) 0 2 1).setFld (R.Q_CFG 0) 16 16 1000).begin 1000000).rfld (R.Q_CFG (0 : Fin 4)) 16 16 * 1000 : Nat) = 0) ∧
    (((((cfg.setFld (R.Q_CFG 0) 0 2 1).setFld (R.Q_CFG 0) 16 16 1000).begin 1000000).ser (0 : Fin 4)).frame = none)
      ∧
    ((serial0).Runs 22) ∧
    ((((serial0).begin 20000).ser (0 : Fin 4)).frame = some (5 : Nat)) ∧
    (((serial0).begin 20000).serHead (0 : Fin 4) (List.replicate 40 true : List Bool) = some ((0 : Nat),
      (List.replicate 40 true : List Bool))) ∧
    (((serial0).begin 20000).serBits (0 : Fin 4) ≤ (List.replicate 40 true : List Bool).length) ∧
    (((5 : Nat) : Int) + ((serial0).begin 20000).maTime (0 : Fin 4) (List.replicate 40 true : List Bool).length ≤
      ((serial0).begin 20000).fbDt) ∧
    (((serial0).begin 20000).maTime (0 : Fin 4) (0 : Nat) ≤ ((serial0).begin 20000).serLimit (0 : Fin 4)) ∧
    (((serial0).begin 20000).fbDt ≤ ((5 : Nat) + ((serial0).begin 20000).maTime (0 : Fin 4) (List.replicate 40 true
      : List Bool).length + ((serial0).begin 20000).serLimit (0 : Fin 4) : Nat)) ∧
    ((serial0).Runs 22) ∧
    ((((serial0).begin 1000000).ser (0 : Fin 4)).frame = some (5 : Nat)) ∧
    (((serial0).begin 1000000).serDue (0 : Fin 4) (5 : Nat) ([] : List Bool) = some (20005 : Nat)) ∧
    (((20005 : Nat) : Int) ≤ ((serial0).begin 1000000).fbDt) ∧
    ((probe0).Runs 22) ∧
    (((probe0).begin 0).rbit (R.PRB_STAT (0 : Fin 8)) psLevel = false) ∧
    (((probe0).begin 0).rfld (R.PRB_CFG (0 : Fin 8)) 0 6 < (64 : Nat)) ∧
    (((((probe0).begin 0).setBit (R.PRB_STAT (0 : Fin 8)) psLevel true).setProbe (0 : Fin 8)
      { ((probe0).begin 0).probe (0 : Fin 8) with since := ((probe0).begin 0).now }).prbActive (0 : Fin 8) true =
      true) ∧
    (((((probe0).begin 0).setBit (R.PRB_STAT (0 : Fin 8)) psLevel true).setProbe (0 : Fin 8)
      { ((probe0).begin 0).probe (0 : Fin 8) with since := ((probe0).begin 0).now }).prbArmed (0 : Fin 8) = true) ∧
    (((((probe0).begin 0).setBit (R.PRB_STAT (0 : Fin 8)) psLevel true).setProbe (0 : Fin 8)
      { ((probe0).begin 0).probe (0 : Fin 8) with since := ((probe0).begin 0).now }).rfld (R.PRB_CFG (0 : Fin 8)) 10
      2 = 0) ∧
    (((probe0.setFld (R.PRB_CFG 0) 16 16 100).setBit (R.PRB_STAT 0) psLevel true).Runs 22) ∧
    ((((probe0.setFld (R.PRB_CFG 0) 16 16 100).setBit (R.PRB_STAT 0) psLevel true).begin 1000000).rfld (R.PRB_CFG (0
      : Fin 8)) 16 16 ≠ 0) ∧
    ((((probe0.setFld (R.PRB_CFG 0) 16 16 100).setBit (R.PRB_STAT 0) psLevel true).begin 1000000).prbActive (0 : Fin
      8) ((((probe0.setFld (R.PRB_CFG 0) 16 16 100).setBit (R.PRB_STAT 0) psLevel true).begin 1000000).rbit
      (R.PRB_STAT (0 : Fin 8)) psLevel) = true) ∧
    ((((probe0.setFld (R.PRB_CFG 0) 16 16 100).setBit (R.PRB_STAT 0) psLevel true).begin 1000000).rbit (R.PRB_STAT
      (0 : Fin 8)) psStuck = false) ∧
    (((((probe0.setFld (R.PRB_CFG 0) 16 16 100).setBit (R.PRB_STAT 0) psLevel true).begin 1000000).probe (0 : Fin
      8)).since + (((probe0.setFld (R.PRB_CFG 0) 16 16 100).setBit (R.PRB_STAT 0) psLevel true).begin 1000000).rfld
      (R.PRB_CFG (0 : Fin 8)) 16 16 * 1000 ≤ (((probe0.setFld (R.PRB_CFG 0) 16 16 100).setBit (R.PRB_STAT 0) psLevel
      true).begin 1000000).now) ∧
    ((cfg).Takes (.qspi : Port) (R.PRB_CMD (0 : Fin 8))) ∧
    ((cfg).Takes (.qspi : Port) (R.PRB_CMD (0 : Fin 8))) ∧
    ((cfg).Gives (.qspi : Port) (R.PRB_CAP_INFO (0 : Fin 8))) ∧
    ((cfg).Takes (.qspi : Port) (R.CMP_VAL_HI (0 : Fin 8))) ∧
    ((cfg).Takes (.qspi : Port) (R.CMP_CFG (0 : Fin 8))) ∧
    ((cfg.setPulse 0 (some 5)).Runs 22) ∧
    (((cfg.setPulse 0 (some 5)).begin 10).pulseEnd (0 : Fin 8) = some (5 : Nat)) ∧
    ((5 : Nat) ≤ ((cfg.setPulse 0 (some 5)).begin 10).now) ∧
    ((((cfg.setPulse 0 (some 5)).begin 10).setPulse (0 : Fin 8) none).rbit (R.CMP_STAT (0 : Fin 8)) csFailsafe =
      false) ∧
    ((cfg).Takes (.qspi : Port) R.FB_CMD) := by
  refine ⟨?_, ?_, ?_, ?_, ?_, ?_, ?_, ?_, ?_, ?_, ?_, ?_, ?_, ?_, ?_, ?_, ?_, ?_, ?_, ?_, ?_, ?_, ?_, ?_, ?_, ?_,
    ?_, ?_, ?_, ?_, ?_, ?_, ?_, ?_, ?_, ?_, ?_, ?_, ?_, ?_, ?_, ?_, ?_, ?_, ?_, ?_, ?_, ?_, ?_, ?_, ?_, ?_, ?_, ?_,
    ?_, ?_, ?_, ?_⟩ <;> decide +kernel

/-- A state and operands that meet the hypotheses of SwitchRowsComplete. -/
theorem wit_SwitchRowsComplete :
    ((cfg).Takes (.qspi : Port) (R.SW_CH_CTRL (0 : Fin 24))) ∧
    ((cfg).Takes (.qspi : Port) (R.SW_CH_CTRL (0 : Fin 24))) ∧
    ((cfg.updSwch 0 fun c => { c with inrush := some 5 }).Runs (swIsland (0 : Fin 24))) ∧
    ((((cfg.updSwch 0 fun c => { c with inrush := some 5 }).begin 10).swch (0 : Fin 24)).inrush = some (5 : Nat)) ∧
    ((5 : Nat) ≤ ((cfg.updSwch 0 fun c => { c with inrush := some 5 }).begin 10).now) ∧
    ((swon0).Runs (swIsland (0 : Fin 24))) ∧
    ((((swon0).begin 0).swMeasure (0 : Fin 24) (50000 : Nat) (100 : BitVec 16)).chBit (0 : Fin 24) hsOutOn = true) ∧
    ((((swon0).begin 0).swMeasure (0 : Fin 24) (50000 : Nat) (100 : BitVec 16)).swLimitMa (0 : Fin 24) < (50000 :
      Nat)) ∧
    ((((swon0).begin 0).swMeasure (0 : Fin 24) (50000 : Nat) (100 : BitVec 16)).chBit (0 : Fin 24) hsLimit = false)
      ∧
    ((((swon0).begin 0).swMeasure (0 : Fin 24) (50000 : Nat) (100 : BitVec 16)).chBit (0 : Fin 24) hsInrush = false)
      ∧
    ((swon0.updSwch 0 fun c => { c with lim := some 0 }).Runs (swIsland (0 : Fin 24))) ∧
    ((((swon0.updSwch 0 fun c => { c with lim := some 0 }).begin 1000000000).swch (0 : Fin 24)).lim = some (0 :
      Nat)) ∧
    ((0 : Nat) + ((swon0.updSwch 0 fun c => { c with lim := some 0 }).begin 1000000000).rfld (R.SW_CH_TIME (0 : Fin
      24)) 16 16 * 10000 ≤ ((swon0.updSwch 0 fun c => { c with lim := some 0 }).begin 1000000000).now) ∧
    (1320 ≤ (1400 : BitVec 16).toInt) ∧
    ((swon0).Runs (swIsland (0 : Fin 24))) ∧
    ((cfg.updSwch 0 fun c => { c with pause := some 5 }).Runs (swIsland (0 : Fin 24))) ∧
    ((((cfg.updSwch 0 fun c => { c with pause := some 5 }).begin 10).swch (0 : Fin 24)).pause = some (5 : Nat)) ∧
    ((5 : Nat) ≤ ((cfg.updSwch 0 fun c => { c with pause := some 5 }).begin 10).now) ∧
    ((cfg).Runs (swIsland (0 : Fin 24))) ∧
    ((cfg).Runs (swIsland (0 : Fin 24))) ∧
    ((swon0.setFld (R.SW_CH_STAT 0) 0 4 2).Runs (swIsland (0 : Fin 24))) ∧
    (((swon0.setFld (R.SW_CH_STAT 0) 0 4 2).begin 100000000000).chBit (0 : Fin 24) hsOutOn = true) ∧
    ((((swon0.setFld (R.SW_CH_STAT 0) 0 4 2).begin 100000000000).swch (0 : Fin 24)).onAt + ((swon0.setFld
      (R.SW_CH_STAT 0) 0 4 2).begin 100000000000).rfld (R.SW_CH_RETRY (0 : Fin 24)) 16 16 * 1000000 ≤ ((swon0.setFld
      (R.SW_CH_STAT 0) 0 4 2).begin 100000000000).now) ∧
    ((cfg).Takes (.qspi : Port) (R.SW_CH_CMD (0 : Fin 24))) ∧
    ((cfg).Runs (swIsland (0 : Fin 24))) ∧
    ((((cfg).begin 0).swTemp (0 : Fin 24) (100 : BitVec 16)).Takes (.qspi : Port) (R.SW_CH_CMD (0 : Fin 24))) ∧
    ((cfg).Runs (23 + (0 : Fin 6))) ∧
    (((((cfg).begin 0).setFld (R.SW_CL_TEMP (0 : Fin 6)) 0 16 (0x7FFF : BitVec 16).toNat).rfld (R.SW_CL_CFG (0 : Fin
      6)) 0 16 : Int) ≤ (0x7FFF : BitVec 16).toInt) ∧
    ((((cfg).begin 0).setFld (R.SW_CL_TEMP (0 : Fin 6)) 0 16 (0x7FFF : BitVec 16).toNat).rbit (R.SW_CL_STAT (0 : Fin
      6)) 31 = false) ∧
    ((cfg.setBit (R.SW_CL_STAT 0) 31 true).Runs (23 + (0 : Fin 6))) ∧
    ((0 : BitVec 16).toInt < ((((cfg.setBit (R.SW_CL_STAT 0) 31 true).begin 0).setFld (R.SW_CL_TEMP (0 : Fin 6)) 0
      16 (0 : BitVec 16).toNat).rfld (R.SW_CL_CFG (0 : Fin 6)) 0 16 : Int) - 80) ∧
    ((swon0.setReg (R.SW_CH_OPEN 0) 0x000A0064).Runs (swIsland (0 : Fin 24))) ∧
    (fld (0 : Word) 0 16 < fld ((((swon0.setReg (R.SW_CH_OPEN 0) 0x000A0064).begin 100000000000).swCurrent (0 : Fin
      24) (0 : Word)).reg (R.SW_CH_OPEN (0 : Fin 24))) 0 16) ∧
    ((((swon0.setReg (R.SW_CH_OPEN 0) 0x000A0064).begin 100000000000).swCurrent (0 : Fin 24) (0 : Word)).chBit (0 :
      Fin 24) hsOutOn = true) ∧
    ((((swon0.setReg (R.SW_CH_OPEN 0) 0x000A0064).begin 100000000000).swCurrent (0 : Fin 24) (0 : Word)).chBit (0 :
      Fin 24) hsInrush = false) ∧
    ((((swon0.setReg (R.SW_CH_OPEN 0) 0x000A0064).begin 100000000000).swCurrent (0 : Fin 24) (0 : Word)).chBit (0 :
      Fin 24) hsOpenOn = false) ∧
    (((((swon0.setReg (R.SW_CH_OPEN 0) 0x000A0064).begin 100000000000).swCurrent (0 : Fin 24) (0 : Word)).swch (0 :
      Fin 24)).winEnd + fld ((((swon0.setReg (R.SW_CH_OPEN 0) 0x000A0064).begin 100000000000).swCurrent (0 : Fin 24)
      (0 : Word)).reg (R.SW_CH_OPEN (0 : Fin 24))) 16 16 * 1000000 ≤ (((swon0.setReg (R.SW_CH_OPEN 0)
      0x000A0064).begin 100000000000).swCurrent (0 : Fin 24) (0 : Word)).now) ∧
    ((cfg.setBit (R.SW_CH_CFG 0) 1 true).Runs (swIsland (0 : Fin 24))) ∧
    (2000 ≤ (3000 : BitVec 16).toInt) ∧
    ((3000 : BitVec 16).toInt ≤ 4000) ∧
    ((((cfg.setBit (R.SW_CH_CFG 0) 1 true).begin 10000000).swVout (0 : Fin 24) (3000 : BitVec 16)).chBit (0 : Fin
      24) hsOutOn = false) ∧
    ((((cfg.setBit (R.SW_CH_CFG 0) 1 true).begin 10000000).swVout (0 : Fin 24) (3000 : BitVec 16)).rbit (R.SW_CH_CFG
      (0 : Fin 24)) 1 = true) ∧
    ((((cfg.setBit (R.SW_CH_CFG 0) 1 true).begin 10000000).swVout (0 : Fin 24) (3000 : BitVec 16)).chBit (0 : Fin
      24) hsOpenOff = false) ∧
    (((((cfg.setBit (R.SW_CH_CFG 0) 1 true).begin 10000000).swVout (0 : Fin 24) (3000 : BitVec 16)).swch (0 : Fin
      24)).offAt + 10000000 ≤ (((cfg.setBit (R.SW_CH_CFG 0) 1 true).begin 10000000).swVout (0 : Fin 24) (3000 :
      BitVec 16)).now) ∧
    ((cfg).Runs (swIsland (0 : Fin 24))) ∧
    ((((cfg).begin 10000000).swCurrent (0 : Fin 24) (200 : Word)).chBit (0 : Fin 24) hsOutOn = false) ∧
    ((((cfg).begin 10000000).swCurrent (0 : Fin 24) (200 : Word)).swSupplyHeld (0 : Fin 24) = false) ∧
    (((((cfg).begin 10000000).swCurrent (0 : Fin 24) (200 : Word)).swch (0 : Fin 24)).stuck = false) ∧
    (((((cfg).begin 10000000).swCurrent (0 : Fin 24) (200 : Word)).swch (0 : Fin 24)).offAt + 1000000 ≤
      (((cfg).begin 10000000).swCurrent (0 : Fin 24) (200 : Word)).now) ∧
    (100 < fld (200 : Word) 0 16) ∧
    ((cfg).Runs (swIsland (0 : Fin 24))) ∧
    (((((cfg).begin 10000000).swVout (0 : Fin 24) (5000 : BitVec 16)).swCurrent (0 : Fin 24) (0 : Word)).chBit (0 :
      Fin 24) hsOutOn = false) ∧
    ((((((cfg).begin 10000000).swVout (0 : Fin 24) (5000 : BitVec 16)).swCurrent (0 : Fin 24) (0 : Word)).swch (0 :
      Fin 24)).short = false) ∧
    ((((((cfg).begin 10000000).swVout (0 : Fin 24) (5000 : BitVec 16)).swCurrent (0 : Fin 24) (0 : Word)).swch (0 :
      Fin 24)).offAt + 1000000 ≤ ((((cfg).begin 10000000).swVout (0 : Fin 24) (5000 : BitVec 16)).swCurrent (0 : Fin
      24) (0 : Word)).now) ∧
    (4000 < (5000 : BitVec 16).toInt) ∧
    (fld (0 : Word) 0 16 < 100) ∧
    ((4000 : Int) < 4500) ∧
    ((((cfg).begin 0).swVbat (4000 : Int)).sw.uv = false) ∧
    (5000 < (6000 : Int)) ∧
    (-32000 ≤ (-2000 : Int)) ∧
    ((-2000 : Int) ≤ -1000) ∧
    (6000 < (7000 : Int)) ∧
    ((({ cfg with sw := { cfg.sw with rev := true } }).begin 0).sw.rev = true) ∧
    (36000 < (37000 : Int)) ∧
    ((cfg).Takes (.qspi : Port) R.SW_CMD) := by
  refine ⟨?_, ?_, ?_, ?_, ?_, ?_, ?_, ?_, ?_, ?_, ?_, ?_, ?_, ?_, ?_, ?_, ?_, ?_, ?_, ?_, ?_, ?_, ?_, ?_, ?_, ?_,
    ?_, ?_, ?_, ?_, ?_, ?_, ?_, ?_, ?_, ?_, ?_, ?_, ?_, ?_, ?_, ?_, ?_, ?_, ?_, ?_, ?_, ?_, ?_, ?_, ?_, ?_, ?_, ?_,
    ?_, ?_, ?_, ?_, ?_, ?_, ?_, ?_, ?_, ?_, ?_⟩ <;> decide +kernel

/-- A state and operands that meet the hypotheses of GnssAndTimeRowsComplete. -/
theorem wit_GnssAndTimeRowsComplete :
    ((bias0).Runs 33) ∧
    (((bias0).begin 0).biasOn = true) ∧
    (80 < (90 : BitVec 16).toNat) ∧
    ((bias0).Runs 33) ∧
    (((bias0).begin 0).biasOn = true) ∧
    ((2 : BitVec 16).toNat < 3) ∧
    ((bias0).Runs 33) ∧
    (((bias0).begin 0).biasOn = true) ∧
    (3 ≤ (20 : BitVec 16).toNat) ∧
    ((cfg).Takes (.qspi : Port) R.GNSS_CMD) ∧
    ((cfg).Takes (.qspi : Port) R.GNSS_CMD) ∧
    ((cfg).Takes (.qspi : Port) R.GNSS_CMD) ∧
    ((cfg).Takes (.qspi : Port) R.GNSS_CMD) ∧
    ((cfg).Takes (.qspi : Port) R.GNSS_CMD) ∧
    ((cfg).Takes (.qspi : Port) R.GNSS_CMD) ∧
    ((cfg).Takes (.qspi : Port) R.GNSS_CMD) ∧
    (((ready0).begin 600000000000).mssReady = true) ∧
    (((ready0).begin 600000000000).gnss.keptAt + 600000000000 ≤ ((ready0).begin 600000000000).now) ∧
    ((gnss0).Runs 33) ∧
    (((gnss0).begin 0).gnssSearch = true) ∧
    ((((gnss0).begin 0).gchans.any fun x => sameSat x.2.sig x.2.sv (0 : Fin 3) (5 : BitVec 8).toNat) = false) ∧
    (satOk (0 : Fin 3) (5 : BitVec 8).toNat = true) ∧
    (((gnss0).begin 0).sigOn (0 : Fin 3) = true) ∧
    (((gnss0).begin 0).mayFind (0 : Fin 3) (5 : BitVec 8).toNat (40 : Int) = true) ∧
    (((gnss0).begin 0).inSearch (0 : Fin 3) (0 : Nat) (0 : Nat) = true) ∧
    ((0 : Fin 3).val ≠ 2) ∧
    (((gnss0).begin 0).freeChan = some (0 : Nat)) ∧
    ((track0).Runs 33) ∧
    (((track0).begin 0).gchan (0 : Fin 64) = some (gch0 : GnssChan)) ∧
    ((gnss0).Runs 33) ∧
    (((gnss0).begin 1000000000).gnssRun = true) ∧
    (((gnss0).begin 1000000000).dt % (1000000000 / gnssHz (((gnss0).begin 1000000000).rfld R.GNSS_CTRL 8 3)) = 0) ∧
    ((track0).Runs 33) ∧
    (((track0).begin 0).gchan (0 : Fin 64) = some (gch0 : GnssChan)) ∧
    (((track0).begin 0).gnssRun = true) ∧
    ((0 : Fin 5).val = unitOf (gch0 : GnssChan).sig) ∧
    ((gch0 : GnssChan).lastUnit = none) ∧
    ((gch0 : GnssChan).lost = false) ∧
    ((gch0 : GnssChan).lossAt ≤ ((0 : Nat) : Int)) ∧
    (((track0).begin 0).gnss.fifo.length < 256) ∧
    ((true : Bool) = true) ∧
    ((gnss0).Runs 33) ∧
    (((gnss0).begin 1000000000).gnssRun = true) ∧
    (((gnss0).begin 1000000000).rbit R.GNSS_CTRL 6 = true) ∧
    (((gnss0).begin 1000000000).mssReady = true) ∧
    ((sol0 : NavSol).epoch ≤ ((gnss0).begin 1000000000).dt) ∧
    (solEpoch (gnssHz (((gnss0).begin 1000000000).rfld R.GNSS_CTRL 8 3)) (sol0 : NavSol).epoch = true) ∧
    ((cfg.setBit R.DT_STAT 8 true).Runs 32) ∧
    ((cfg).Runs 32) ∧
    ((true : Bool) = !((cfg).begin 0).rbit R.DT_PPS_CFG 16) ∧
    ((((cfg).begin 0).dtDue).time.ppsAt = none) ∧
    ((cfg.setBit R.DT_STAT 8 true).Runs 32) ∧
    ((((cfg.setBit R.DT_STAT 8 true).begin 100000000000).dtDue).dtQual (0 : Fin 3) = true) ∧
    (Tab.get (fun _ => 0) (((cfg.setBit R.DT_STAT 8 true).begin 100000000000).dtDue).time.lastGood (0 : Fin 3) +
      dtTimeout (0 : Fin 3) ≤ (((cfg.setBit R.DT_STAT 8 true).begin 100000000000).dtDue).now) ∧
    ((0 : Fin 3).val ≠ dtCan) ∧
    ((((((((cfg.setBit R.DT_STAT 8 true).begin 100000000000).dtDue).setBit R.DT_STAT (8 + (0 : Fin 3)) false).count
      R.DT_SRC_LOSS_CNT 1).dtBad (0 : Fin 3)).trimShow).dtState ≠ dtLocked) ∧
    ((cfg.setFld R.DT_STAT 0 2 dtHoldover).Runs 32) ∧
    (((cfg.setFld R.DT_STAT 0 2 dtHoldover).begin 1000000000).dtState = dtHoldover) ∧
    (((cfg.setFld R.DT_STAT 0 2 dtHoldover).begin 1000000000).time.hoAt + ((((cfg.setFld R.DT_STAT 0 2
      dtHoldover).begin 1000000000).reg R.DT_HO_TIME).toNat + 1) * 1000000000 ≤ ((cfg.setFld R.DT_STAT 0 2
      dtHoldover).begin 1000000000).now) ∧
    (((cfg.setReg (R.DT_TP_CFG 0) 0xF1)).Runs 32) ∧
    (((((cfg.setReg (R.DT_TP_CFG 0) 0xF1)).begin 0).dtDue).rbit (R.DT_TP_CFG (0 : Fin 2)) 0 = true) ∧
    (((((cfg.setReg (R.DT_TP_CFG 0) 0xF1)).begin 0).dtDue).rbit (R.DT_TP_CFG (0 : Fin 2)) (4 + ((((cfg.setReg
      (R.DT_TP_CFG 0) 0xF1)).begin 0).dtDue).dtState) = true) ∧
    (((((((cfg.setReg (R.DT_TP_CFG 0) 0xF1)).begin 0).dtDue).dt : Int) - (((((cfg.setReg (R.DT_TP_CFG 0)
      0xF1)).begin 0).dtDue).reg (R.DT_TP_OFS (0 : Fin 2))).toInt) % ((((((cfg.setReg (R.DT_TP_CFG 0) 0xF1)).begin
      0).dtDue).reg (R.DT_TP_PERIOD (0 : Fin 2))).toNat : Int) = 0) ∧
    (((((cfg.setReg (R.DT_TP_CFG 0) 0xF1)).begin 0).dtDue).time.stepAt = none) ∧
    ((cfg).Takes (.qspi : Port) R.DT_CMD) ∧
    ((cfg).Takes (.qspi : Port) R.DT_CMD) ∧
    (((cfg.setBit R.PWR_BK_CFG 0 true).begin 1000000000).clk.inReset = false) ∧
    (((cfg.setBit R.PWR_BK_CFG 0 true).begin 1000000000).rbit R.PWR_BK_CFG 0 = true) ∧
    (((cfg.setBit R.PWR_BK_CFG 0 true).begin 1000000000).dt % 1000000000 = 0) := by
  refine ⟨?_, ?_, ?_, ?_, ?_, ?_, ?_, ?_, ?_, ?_, ?_, ?_, ?_, ?_, ?_, ?_, ?_, ?_, ?_, ?_, ?_, ?_, ?_, ?_, ?_, ?_,
    ?_, ?_, ?_, ?_, ?_, ?_, ?_, ?_, ?_, ?_, ?_, ?_, ?_, ?_, ?_, ?_, ?_, ?_, ?_, ?_, ?_, ?_, ?_, ?_, ?_, ?_, ?_, ?_,
    ?_, ?_, ?_, ?_, ?_, ?_, ?_, ?_, ?_, ?_, ?_, ?_, ?_, ?_, ?_⟩ <;> decide +kernel

/-- A state and operands that meet the hypotheses of CanRowsComplete. -/
theorem wit_CanRowsComplete :
    ((cfg).Takes (.qspi : Port) (R.CAN_CTRL (0 : Fin 4))) ∧
    ((cfg).Takes (.qspi : Port) (R.CAN_CTRL (0 : Fin 4))) ∧
    ((cfg).Takes (.qspi : Port) (R.OBJ_CTRL (0 : Fin 4) (0 : Fin 128))) ∧
    ((cfg).Takes (.qspi : Port) (R.OBJ_CTRL (0 : Fin 4) (0 : Fin 128))) ∧
    ((canOn).Runs 35) ∧
    (((canOn).begin 1000000).gateOn (5 + (0 : Fin 4)) = true) ∧
    (((canOn).begin 1000000).canLive (0 : Fin 4) (can0 : CanFrame).sof = true) ∧
    ((((canOn).begin 1000000).canMode (0 : Fin 4) == 2) = false) ∧
    ((can0 : CanFrame).fdf = false) ∧
    ((canTx).Runs 35) ∧
    (((canTx).begin 1000000).gateOn (5 + (0 : Fin 4)) = true) ∧
    (((canTx).begin 1000000).canLive (0 : Fin 4) (900000 : Nat) = true) ∧
    ((((canTx).begin 1000000).noKeyEvent (0 : Fin 4)).canLive (0 : Fin 4) (900000 : Nat) = true) ∧
    ((((canTx).begin 1000000).noKeyEvent (0 : Fin 4)).canSends (0 : Fin 4) = true) ∧
    ((((canTx).begin 1000000).noKeyEvent (0 : Fin 4)).txSelect (0 : Fin 4) (900000 : Nat) = some (.obj (1 : Nat))) ∧
    ((cfg).Takes (.qspi : Port) (R.CAN_CMD (0 : Fin 4))) ∧
    ((cfg).Takes (.qspi : Port) (R.CAN_CMD (0 : Fin 4))) ∧
    ((cfg).Takes (.qspi : Port) (R.CAN_CMD (0 : Fin 4))) ∧
    ((canOn).Runs 35) ∧
    (((canOn).begin 1000000).gateOn (5 + (0 : Fin 4)) = true) ∧
    ((1 : Fin 7) ≠ 0) ∧
    (((canOn).begin 1000000).canLive (0 : Fin 4) (⟨900000, false, none⟩ : CanErr).sof = true) ∧
    ((⟨900000, false, none⟩ : CanErr).sending = false) ∧
    (((canOn).begin 1000000).canMode (0 : Fin 4) ≠ 2) ∧
    (isoSteps (1 : Fin 7) (((canOn).begin 1000000).canState (0 : Fin 4) == 1) false (0 : Nat) (1 : Nat) = true) ∧
    ((canOn.setBit (R.CAN_STAT 0) 28 true).Runs 35) ∧
    (((canOn.setBit (R.CAN_STAT 0) 28 true).begin 1000000000000).gateOn (5 + (0 : Fin 4)) = true) ∧
    (128 ≤ (128 : Nat)) ∧
    (((canOn.setBit (R.CAN_STAT 0) 28 true).begin 1000000000000).rbit (R.CAN_STAT (0 : Fin 4)) 28 = true) ∧
    ((((canOn.setBit (R.CAN_STAT 0) 28 true).begin 1000000000000).can (0 : Fin 4)).recAt + (128 : Nat) *
      ((canOn.setBit (R.CAN_STAT 0) 28 true).begin 1000000000000).integrate (0 : Fin 4) ≤ ((canOn.setBit (R.CAN_STAT
      0) 28 true).begin 1000000000000).now) ∧
    ((canOn.setBit (R.CAN_STAT 0) 28 true).Runs 35) ∧
    (((canOn.setBit (R.CAN_STAT 0) 28 true).begin 1000000000000).gateOn (5 + (0 : Fin 4)) = true) ∧
    ((5 : Nat) < 128) ∧
    (((canOn.setBit (R.CAN_STAT 0) 28 true).begin 1000000000000).rbit (R.CAN_STAT (0 : Fin 4)) 28 = true) ∧
    ((((canOn.setBit (R.CAN_STAT 0) 28 true).begin 1000000000000).can (0 : Fin 4)).recAt + (5 : Nat) *
      ((canOn.setBit (R.CAN_STAT 0) 28 true).begin 1000000000000).integrate (0 : Fin 4) ≤ ((canOn.setBit (R.CAN_STAT
      0) 28 true).begin 1000000000000).now) ∧
    ((canOn.setReg (R.CAN_CFG 0) 1).Runs 35) ∧
    (((canOn.setReg (R.CAN_CFG 0) 1).begin 1000000).gateOn (5 + (0 : Fin 4)) = true) ∧
    (((canOn.setReg (R.CAN_CFG 0) 1).begin 1000000).canLive (0 : Fin 4) ((canOn.setReg (R.CAN_CFG 0) 1).begin
      1000000).dt = true) ∧
    (((canOn.setReg (R.CAN_CFG 0) 1).begin 1000000).rbit (R.CAN_CFG (0 : Fin 4)) 0 = true) ∧
    (((canOn.setReg (R.CAN_CFG 0) 1).begin 1000000).rbit (R.CAN_CFG (0 : Fin 4)) 1 = false) ∧
    ((cfg).Takes (.qspi : Port) (R.CAN_FIFO_POP (0 : Fin 4))) ∧
    ((cfg).Gives (.qspi : Port) (R.OBJ_CTRL (0 : Fin 4) (0 : Fin 128))) ∧
    ((cfg).Takes (.qspi : Port) (R.CAN_FV (0 : Fin 4) (0 : Fin 128))) ∧
    (((canOn.setBit (R.CAN_TM_CFG 0) 31 true).setFld R.DT_STAT 0 2 dtLocked).Runs 35) ∧
    ((((canOn.setBit (R.CAN_TM_CFG 0) 31 true).setFld R.DT_STAT 0 2 dtLocked).begin 1000000000).gateOn (5 + (0 : Fin
      4)) = true) ∧
    ((((canOn.setBit (R.CAN_TM_CFG 0) 31 true).setFld R.DT_STAT 0 2 dtLocked).begin 1000000000).rbit (R.CAN_TM_CFG
      (0 : Fin 4)) 31 = true) ∧
    ((((canOn.setBit (R.CAN_TM_CFG 0) 31 true).setFld R.DT_STAT 0 2 dtLocked).begin 1000000000).dtState = dtLocked)
      ∧
    (((canOn.setBit (R.CAN_TM_CFG 0) 31 true).setFld R.DT_STAT 0 2 dtLocked).works 32 = true) ∧
    ((((canOn.setBit (R.CAN_TM_CFG 0) 31 true).setFld R.DT_STAT 0 2 dtLocked).begin 1000000000).dt %
      ((((canOn.setBit (R.CAN_TM_CFG 0) 31 true).setFld R.DT_STAT 0 2 dtLocked).begin 1000000000).rfld
      (R.CAN_TM_PERIOD (0 : Fin 4)) 0 16 * 1000000) = 0) ∧
    ((canOn.updCan 0 fun q => { q with lastE := some 5 }).Runs 35) ∧
    (((canOn.updCan 0 fun q => { q with lastE := some 5 }).begin 0).gateOn (5 + (0 : Fin 4)) = true) ∧
    ((canOn.updCan 0 fun q => { q with lastE := some 5 }).works 32 = true) ∧
    (((canOn.updCan 0 fun q => { q with lastE := some 5 }).begin 0).rfld R.DT_CAN_SRC 0 2 = (0 : Fin 4)) ∧
    ((((canOn.updCan 0 fun q => { q with lastE := some 5 }).begin 0).can (0 : Fin 4)).handAt ≠ some (((canOn.updCan
      0 fun q => { q with lastE := some 5 }).begin 0).dt / 1000000000)) ∧
    ((((canOn.updCan 0 fun q => { q with lastE := some 5 }).begin 0).can (0 : Fin 4)).lastE = some (5 : Int)) := by
  refine ⟨?_, ?_, ?_, ?_, ?_, ?_, ?_, ?_, ?_, ?_, ?_, ?_, ?_, ?_, ?_, ?_, ?_, ?_, ?_, ?_, ?_, ?_, ?_, ?_, ?_, ?_,
    ?_, ?_, ?_, ?_, ?_, ?_, ?_, ?_, ?_, ?_, ?_, ?_, ?_, ?_, ?_, ?_, ?_, ?_, ?_, ?_, ?_, ?_, ?_, ?_, ?_, ?_, ?_, ?_,
    ?_⟩ <;> decide +kernel

/-- A state and operands that meet the hypotheses of IslandAndClockRowsComplete. -/
theorem wit_IslandAndClockRowsComplete :
    ((cfg).Runs (0 : Fin 39)) ∧
    (((cfg).begin 0).refusesLink (1 : Fin 39) = false) ∧
    (((cfg).begin 0).stopped (1 : Fin 39) = false) ∧
    (LinkWord.ok (lw0 : LinkWord) = true) ∧
    ((cfg).Runs (0 : Fin 39)) ∧
    (((cfg).begin 0).clk.inReset = false) ∧
    (edges2 (5 : Fin 39) ≠ 0) ∧
    (((cfg).begin 0).gateOpen (5 : Fin 39) = true) ∧
    (((cfg).begin 0).up (5 : Fin 39) = true) ∧
    ((0 : Nat) = 0) ∧
    ((cfg.setUp 5 false).Takes (.qspi : Port) (if (false : Bool) then R.SYS_ISLAND_RESTART1 else
      R.SYS_ISLAND_RESTART0)) ∧
    ((restartWrite (false : Bool) (32 : Word) ((cfg.setUp 5 false).begin 0)).1 = 0) ∧
    (((((cfg.setUp 5 false).setRestart 5 .held).updSys fun q => { q with goodWin := [(5, 100)] }).begin 0).restartOf
      (5 : Fin 39) = .held) ∧
    (((((cfg.setUp 5 false).setRestart 5 .held).updSys fun q => { q with goodWin := [(5, 100)] }).begin 0).up (5 :
      Fin 39) = false) ∧
    (100 ≤ Tab.get (fun _ => 0) ((((cfg.setUp 5 false).setRestart 5 .held).updSys fun q =>
      { q with goodWin := [(5, 100)] }).begin 0).sys.goodWin (5 : Fin 39)) ∧
    ((((cfg.setUp 22 false).setRestart 22 .running).begin 0).restartOf (22 : Fin 39) = .running) ∧
    ((22 : Fin 39).val = 22) ∧
    ((((cfg).begin 0).onIsland 32 State.dtDue).up (5 : Fin 38) = true) ∧
    ((((cfg).begin 0).onIsland 32 State.dtDue).ungated (5 : Fin 38) = true) ∧
    ((Tab.get (fun _ => 0) (((cfg).begin 0).onIsland 32 State.dtDue).sys.localDt (5 : Fin 38) + (7 : Int)).natAbs ≤
      100) ∧
    ((cfg).Takes (.qspi : Port) R.SYS_CNT_CLEAR) ∧
    ((((cfg.setBit R.CLK_STAT csTcxo true).setBit R.CLK_STAT csPll false).begin 0).clk.inReset = false) ∧
    ((((cfg.setBit R.CLK_STAT csTcxo true).setBit R.CLK_STAT csPll false).begin 0).rbit R.CLK_STAT csTcxo = true) ∧
    ((((cfg.setBit R.CLK_STAT csTcxo true).setBit R.CLK_STAT csPll false).begin 0).rbit R.CLK_STAT csPll = false) ∧
    (((cfg.setBit R.CLK_STAT (srcBit 2) true).begin 0).clk.inReset = false) ∧
    (((cfg.setBit R.CLK_STAT (srcBit 2) true).begin 0).rbit R.CLK_STAT (srcBit (2 : Fin 5)) = true) ∧
    ((2 : Fin 5).val = 2) ∧
    (((cfg.setBit R.CLK_STAT (srcBit 2) false).begin 0).clk.inReset = false) ∧
    (((cfg.setBit R.CLK_STAT (srcBit 2) false).begin 0).rbit R.CLK_STAT (srcBit (2 : Fin 5)) = false) ∧
    ((2 : Fin 5).val = 2) ∧
    ((cfg.setBit R.CLK_STAT csTcxo true).Runs 37) ∧
    ((((((cfg.setBit R.CLK_STAT csTcxo true).begin 100000000000).updClk fun c =>
      { c with sof := (true : Bool) }).setBit R.USB_STAT 29 (!(true : Bool) && ((cfg.setBit R.CLK_STAT csTcxo
      true).begin 100000000000).rbit R.USB_STAT 30)).trimShow).trimSrc ≠ 15) ∧
    ((((((cfg.setBit R.CLK_STAT csTcxo true).begin 100000000000).updClk fun c =>
      { c with sof := (true : Bool) }).setBit R.USB_STAT 29 (!(true : Bool) && ((cfg.setBit R.CLK_STAT csTcxo
      true).begin 100000000000).rbit R.USB_STAT 30)).trimShow).clk.trimAt + trimInterval (((((cfg.setBit R.CLK_STAT
      csTcxo true).begin 100000000000).updClk fun c => { c with sof := (true : Bool) }).setBit R.USB_STAT 29 (!(true
      : Bool) && ((cfg.setBit R.CLK_STAT csTcxo true).begin 100000000000).rbit R.USB_STAT 30)).trimShow).trimSrc ≤
      (((((cfg.setBit R.CLK_STAT csTcxo true).begin 100000000000).updClk fun c =>
      { c with sof := (true : Bool) }).setBit R.USB_STAT 29 (!(true : Bool) && ((cfg.setBit R.CLK_STAT csTcxo
      true).begin 100000000000).rbit R.USB_STAT 30)).trimShow).now) ∧
    ((cfg).Takes (.qspi : Port) R.CLK_CMD) ∧
    ((cfg).Takes (.qspi : Port) R.CLK_CMD) ∧
    ((cfg).Takes (.qspi : Port) R.CLK_GATE_CMD) ∧
    ((cfg.updClk fun c => { c with gate := some (25, 0) }).Runs 37) ∧
    (((cfg.updClk fun c => { c with gate := some (25, 0) }).begin 0).clk.gate = some ((25 : Nat), (0 : Nat))) ∧
    (((cfg.updClk fun c => { c with gate := some (25, 0) }).begin 0).now ≤ (0 : Nat) + gateLimit (25 : Nat)) ∧
    ((cfg.updClk fun c => { c with gate := some (25, 0) }).Runs 37) ∧
    (((cfg.updClk fun c => { c with gate := some (25, 0) }).begin 100000000).clk.gate = some ((25 : Nat), (0 :
      Nat))) ∧
    ((0 : Nat) + gateLimit (25 : Nat) < ((cfg.updClk fun c => { c with gate := some (25, 0) }).begin 100000000).now)
      ∧
    ((cfg).Runs 37) ∧
    (¬ railIn (0 : Fin 14) (true : Bool) (0 : BitVec 16).toNat) ∧
    (((cfg).begin 0).rbit (R.PWR_RAIL (0 : Fin 14)) 31 = false) ∧
    ((cfg.setReg (R.PWR_RAIL 0) 0x80000000).Runs 37) ∧
    (railIn (0 : Fin 14) (true : Bool) (mvOk : BitVec 16).toNat) ∧
    (((cfg.setReg (R.PWR_RAIL 0) 0x80000000).begin 0).rbit (R.PWR_RAIL (0 : Fin 14)) 31 = true) ∧
    (((cfg.setBit R.PWR_PD_CFG 31 true).setFld R.PWR_STAT 0 2 1).Runs 37) ∧
    ((((cfg.setBit R.PWR_PD_CFG 31 true).setFld R.PWR_STAT 0 2 1).begin 0).pdWarns (true : Bool) (0 : BitVec
      16).toNat = true) ∧
    ((((cfg.setBit R.PWR_PD_CFG 31 true).setFld R.PWR_STAT 0 2 1).begin 0).holdup = false) ∧
    ((cfg.setFld R.PWR_STAT 0 2 3).Runs 37) ∧
    (((cfg.setFld R.PWR_STAT 0 2 3).begin 0).holdup = true) ∧
    (((cfg.setFld R.PWR_STAT 0 2 3).begin 0).pdGood (false : Bool) (48000 : BitVec 16).toNat = true) ∧
    (1000 ≤ (1000 : Nat)) ∧
    (((cfg.setFld R.SEC_DBG_STAT 0 2 1).begin 0).rfld R.SEC_DBG_STAT 0 2 ≠ 0) ∧
    ((cfg).Takes (.qspi : Port) R.RST_KEY) ∧
    ((cfg.updClk fun c => { c with key := some (0, .qspi) }).Takes (.qspi : Port) R.RST_CMD) ∧
    ((((cfg.updClk fun c => { c with key := some (0, .qspi) }).begin 0).storeAt (.qspi : Port) R.RST_CMD 1).clk.key
      = some ((0 : Nat), (.qspi : Port))) ∧
    ((((cfg.updClk fun c => { c with key := some (0, .qspi) }).begin 0).storeAt (.qspi : Port) R.RST_CMD 1).now ≤ (0
      : Nat) + 1000000) ∧
    (((cfg.resetBy 2).begin 0).clk.inReset = true) := by
  refine ⟨?_, ?_, ?_, ?_, ?_, ?_, ?_, ?_, ?_, ?_, ?_, ?_, ?_, ?_, ?_, ?_, ?_, ?_, ?_, ?_, ?_, ?_, ?_, ?_, ?_, ?_,
    ?_, ?_, ?_, ?_, ?_, ?_, ?_, ?_, ?_, ?_, ?_, ?_, ?_, ?_, ?_, ?_, ?_, ?_, ?_, ?_, ?_, ?_, ?_, ?_, ?_, ?_, ?_, ?_,
    ?_, ?_, ?_, ?_, ?_, ?_, ?_⟩ <;> decide +kernel

/-- A state and operands that meet the hypotheses of LoaderRowsComplete. -/
theorem wit_LoaderRowsComplete :
    (((boot0).begin 0).clk.inReset = false) ∧
    (((boot0).begin 0).mssReady = true) ∧
    (((boot0).begin 0).ldr.bootEnded = false) ∧
    (((boot0).begin 0).bootSlot = some (0 : Nat)) ∧
    (([] : List EccHit) = ([] : List EccHit) ++ ([] : List EccHit) ++ ([] : List EccHit)) ∧
    ((((boot0).begin 0).bootTry ([] : List EccHit) (if ((boot0).begin 0).slot (otherSlot (0 : Nat)) = 4 ∨
      ((boot0).begin 0).slot (otherSlot (0 : Nat)) = 5 then [(0 : Nat), otherSlot (0 : Nat)] else [(0 : Nat)])).1 =
      some ((0 : Nat), ([⟨1, 0, []⟩] : List Sect))) ∧
    ((cfg.setFld R.LDR_SEAL_CFG 0 2 1).Runs 37) ∧
    (((cfg.setFld R.LDR_SEAL_CFG 0 2 1).begin 100000000000000).ldr.bootEnded = true) ∧
    (((cfg.setFld R.LDR_SEAL_CFG 0 2 1).begin 100000000000000).sealed = false) ∧
    (((cfg.setFld R.LDR_SEAL_CFG 0 2 1).begin 100000000000000).rfld R.LDR_SEAL_CFG 0 2 = 1) ∧
    (((cfg.setFld R.LDR_SEAL_CFG 0 2 1).begin 100000000000000).ldr.endAt + ((cfg.setFld R.LDR_SEAL_CFG 0 2 1).begin
      100000000000000).rfld R.LDR_SEAL_CFG 16 16 * 1000000000 ≤ ((cfg.setFld R.LDR_SEAL_CFG 0 2 1).begin
      100000000000000).now) ∧
    ((cfg).Takes (.qspi : Port) R.LDR_CTRL) ∧
    ((cfg).Takes (.qspi : Port) R.LDR_CTRL) ∧
    ((cfg).Takes (.qspi : Port) R.LDR_CTRL) ∧
    ((cfg).Takes (.qspi : Port) R.LDR_CTRL) ∧
    ((cfg).Takes (.qspi : Port) R.LDR_CTRL) ∧
    ((cfg).Takes (.qspi : Port) R.LDR_CTRL) ∧
    ((cfg).Takes (.qspi : Port) R.LDR_REFUSE_ACK) ∧
    ((ready0.setLdr ldVerifying).Runs 37) ∧
    (((ready0.setLdr ldVerifying).begin 0).sec.commit = none) ∧
    (((ready0.setLdr ldVerifying).begin 0).ldrState = ldVerifying) ∧
    (((ready0.setLdr ldVerifying).begin 0).mssReady = true) ∧
    ((cfg.setLdr ldLoading).Runs 37) ∧
    (((cfg.setLdr ldLoading).begin 0).ldrState = ldLoading) ∧
    (((cfg.setLdr ldSearching).setTh (some 5000)).Runs 37) ∧
    ((((cfg.setLdr ldSearching).setTh (some 5000)).begin 0).ldr.th = some (5000 : Int)) ∧
    ((((cfg.setLdr ldSearching).setTh (some 5000)).begin 0).ldrState = ldSearching) ∧
    ((5000 : Int) - 10000 ≤ ((((cfg.setLdr ldSearching).setTh (some 5000)).begin 0).dt : Int)) ∧
    ((5000 : Int) ≤ (((cfg.setLdr ldSearching).setTh (some 5000)).begin 0).thLimit) ∧
    (((cfg.setLdr ldFinal).setTh (some 0)).Runs 37) ∧
    ((((cfg.setLdr ldFinal).setTh (some 0)).begin 0).ldr.th = some (0 : Int)) ∧
    ((((cfg.setLdr ldFinal).setTh (some 0)).begin 0).ldrState = ldFinal) ∧
    ((((cfg.setLdr ldFinal).setTh (some 0)).begin 0).ldr.swapped = false) ∧
    ((0 : Int) ≤ ((((cfg.setLdr ldFinal).setTh (some 0)).begin 0).dt : Int)) ∧
    (((cfg.setLdr ldFinal).updLdr fun d => { d with swapped := true }).Runs 37) ∧
    ((((cfg.setLdr ldFinal).updLdr fun d => { d with swapped := true }).begin 0).ldrState = ldFinal) ∧
    ((((cfg.setLdr ldFinal).updLdr fun d => { d with swapped := true }).begin 0).ldr.swapped = true) ∧
    ((cfg.setLdr ldSearching).Runs 37) ∧
    ((((cfg.setLdr ldSearching).begin 100000000000).ldrState = ldLoading ∨ ((cfg.setLdr ldSearching).begin
      100000000000).ldrState = ldSearching)) ∧
    (((cfg.setLdr ldSearching).begin 100000000000).thLimit - 10000 ≤ (((cfg.setLdr ldSearching).begin
      100000000000).dt : Int)) := by
  refine ⟨?_, ?_, ?_, ?_, ?_, ?_, ?_, ?_, ?_, ?_, ?_, ?_, ?_, ?_, ?_, ?_, ?_, ?_, ?_, ?_, ?_, ?_, ?_, ?_, ?_, ?_,
    ?_, ?_, ?_, ?_, ?_, ?_, ?_, ?_, ?_, ?_, ?_, ?_, ?_, ?_⟩ <;> decide +kernel

/-- A state and operands that meet the hypotheses of PortRowsComplete. -/
theorem wit_PortRowsComplete :
    ((cfg).PortRuns (.qspi : Port)) ∧
    ((cfg).Gives (.qspi : Port) (0x710004 : Nat)) ∧
    ((cfg).Takes (.qspi : Port) R.PORT_CMD) ∧
    ((((link0).begin 0).macRx .eth1 (reqF : RxFrame)).1 = some (reqBody : List Byte)) ∧
    (subtypeOf (reqBody : List Byte) = 0x5A30) ∧
    (((((link0).begin 0).macRx .eth1 (reqF : RxFrame)).2).port.reqs.length < 8) ∧
    (({ ((((link0).begin 0).macRx .eth1 (reqF : RxFrame)).2) with port := { ((((link0).begin 0).macRx .eth1 (reqF : RxFrame)).2).port with reqs := ((((link0).begin 0).macRx .eth1 (reqF : RxFrame)).2).port.reqs ++ [EthReq.mk (reqF : RxFrame).src (reqBody : List Byte)] } }).works
      34 = true) ∧
    (({ ((((link0).begin 0).macRx .eth1 (reqF : RxFrame)).2) with port := { ((((link0).begin 0).macRx .eth1 (reqF : RxFrame)).2).port with reqs := ((((link0).begin 0).macRx .eth1 (reqF : RxFrame)).2).port.reqs ++ [EthReq.mk (reqF : RxFrame).src (reqBody : List Byte)] } }).ethClock
      .eth1 = true) ∧
    ((((notify0).begin 0).ethFlush .eth1).rbit (R.ETH_NOTIFY 1) 31 = true) ∧
    ((((notify0).begin 0).ethFlush .eth1).sysIrqPend ≠ ((((notify0).begin 0).ethFlush .eth1).eth .eth1).notified) ∧
    (((((notify0).begin 0).ethFlush .eth1).eth .eth1).notifyAt = none) ∧
    ((((notify0).begin 0).ethFlush .eth1).ethFree .eth1 = true) ∧
    (((((notify0).begin 0).ethFlush .eth1).ethSend .eth1 ((((notify0).begin 0).ethFlush .eth1).reg (R.ETH_PEER_LO
      1)) ((((notify0).begin 0).ethFlush .eth1).reg (R.ETH_PEER_HI 1)) 0x5A31 ((((notify0).begin 0).ethFlush
      .eth1).notification (((((notify0).begin 0).ethFlush .eth1).eth .eth1).nseq + 1))).1 = true) ∧
    (({ frame0 [] with etherType := 0x8808 } : RxFrame).etherType = 0x8808) ∧
    ((link0).Runs 34) ∧
    (((link0).begin 0).ethClock (.eth1 : EthPort) = true) ∧
    ((((link0).begin 0).rbit (R.ETH_CTRL (ethNum (.eth1 : EthPort))) 0 = true ∨ (false : Bool) = false)) ∧
    ((cfg).Runs 37) ∧
    ((cfg).Runs 37) ∧
    ((cfg).Runs 37) ∧
    ((cfg).Runs 37) ∧
    ((cfg.setReg R.PORT_CFG 1).Runs 37) ∧
    ((((cfg.setReg R.PORT_CFG 1).begin 0).qDrain).qCrc = false) ∧
    ((cfg).Runs 37) ∧
    ((cfg).Runs 37) ∧
    (((cfg).begin 0).rbit R.USB_STAT 31 = false) ∧
    ((usb0).Runs 37) ∧
    (((usb0).begin 0).rbit R.USB_STAT 31 = true) ∧
    ((usb0).Runs 37) ∧
    (((usb0).begin 0).gateOn 11 = true) ∧
    (((usb0).begin 0).rbit R.USB_STAT 31 = true) ∧
    ((⟨0x5A50, 0x01, 0, 0, 64, 0⟩ : UsbBlk).magic = 0x5A50) ∧
    ((⟨0x5A50, 0x01, 0, 0, 64, 0⟩ : UsbBlk).cmd = 0x01) ∧
    (usbLenOk 0x01 (⟨0x5A50, 0x01, 0, 0, 64, 0⟩ : UsbBlk).len.toNat = true) ∧
    (((usb0).begin 0).port.usbWait = none) ∧
    ((usb0).Runs 37) ∧
    (((usb0).begin 0).gateOn 11 = true) ∧
    (((usb0).begin 0).rbit R.USB_STAT 31 = true) ∧
    ((⟨0x5A50, 0x02, 0, 0, 4, 7405572⟩ : UsbBlk).magic = 0x5A50) ∧
    ((⟨0x5A50, 0x02, 0, 0, 4, 7405572⟩ : UsbBlk).cmd = 0x02) ∧
    (usbLenOk 0x02 (⟨0x5A50, 0x02, 0, 0, 4, 7405572⟩ : UsbBlk).len.toNat = true) ∧
    (((usb0).begin 0).port.usbWait = none) ∧
    ((usbOwn0).Runs 37) ∧
    (((usbOwn0).begin 0).gateOn 11 = true) ∧
    (((usbOwn0).begin 0).rbit R.USB_STAT 31 = true) ∧
    ((⟨0x5A50, 0x03, 0, 0, 4, 327680⟩ : UsbBlk).magic = 0x5A50) ∧
    ((⟨0x5A50, 0x03, 0, 0, 4, 327680⟩ : UsbBlk).cmd = 0x03) ∧
    (usbLenOk 0x03 (⟨0x5A50, 0x03, 0, 0, 4, 327680⟩ : UsbBlk).len.toNat = true) ∧
    (((usbOwn0).begin 0).port.usbWait = none) ∧
    (((((((((usbOwn0).begin 0).setBit R.USB_STAT 30 true).setBit R.USB_STAT 29 false).trimShow).setFld R.USB_STAT 0
      8 0x03).updSec fun q => { q with blkAt := ((usbOwn0).begin 0).now })).mayWrite .usb = true) ∧
    ((usbOwn0).Runs 37) ∧
    (((usbOwn0).begin 0).gateOn 11 = true) ∧
    (((usbOwn0).begin 0).rbit R.USB_STAT 31 = true) ∧
    ((⟨0x5A50, 0x10, 0, 0, 64, 0⟩ : UsbBlk).magic = 0x5A50) ∧
    ((⟨0x5A50, 0x10, 0, 0, 64, 0⟩ : UsbBlk).cmd = 0x10) ∧
    (usbLenOk 0x10 (⟨0x5A50, 0x10, 0, 0, 64, 0⟩ : UsbBlk).len.toNat = true) ∧
    (((usbOwn0).begin 0).port.usbWait = none) ∧
    (((((((((usbOwn0).begin 0).setBit R.USB_STAT 30 true).setBit R.USB_STAT 29 false).trimShow).setFld R.USB_STAT 0
      8 0x10).updSec fun q => { q with blkAt := ((usbOwn0).begin 0).now })).usbServed (⟨0x5A50, 0x10, 0, 0, 64, 0⟩ :
      UsbBlk) = true) ∧
    (((((((((usbOwn0).begin 0).setBit R.USB_STAT 30 true).setBit R.USB_STAT 29 false).trimShow).setFld R.USB_STAT 0
      8 0x10).updSec fun q => { q with blkAt := ((usbOwn0).begin 0).now })).usbMay (fld (⟨0x5A50, 0x10, 0, 0, 64, 0⟩
      : UsbBlk).param 28 4) = true) ∧
    (fld (⟨0x5A50, 0x10, 0, 0, 64, 0⟩ : UsbBlk).param 28 4 = 0) ∧
    (fld (⟨0x5A50, 0x10, 0, 0, 64, 0⟩ : UsbBlk).param 0 28 % 64 = 0) ∧
    (((((((((usbOwn0).begin 0).setBit R.USB_STAT 30 true).setBit R.USB_STAT 29 false).trimShow).setFld R.USB_STAT 0
      8 0x10).updSec fun q => { q with blkAt := ((usbOwn0).begin 0).now })).stageAt 0 = some ((0x10000000 : Nat),
      (0x600000 : Nat))) ∧
    (fld (⟨0x5A50, 0x10, 0, 0, 64, 0⟩ : UsbBlk).param 0 28 + (⟨0x5A50, 0x10, 0, 0, 64, 0⟩ : UsbBlk).len.toNat ≤
      (0x600000 : Nat)) ∧
    ((usbOwn0).Runs 37) ∧
    (((usbOwn0).begin 0).gateOn 11 = true) ∧
    (((usbOwn0).begin 0).rbit R.USB_STAT 31 = true) ∧
    ((⟨0x5A50, 0x11, 0, 0, 0, 0⟩ : UsbBlk).magic = 0x5A50) ∧
    ((⟨0x5A50, 0x11, 0, 0, 0, 0⟩ : UsbBlk).cmd = 0x11) ∧
    (usbLenOk 0x11 (⟨0x5A50, 0x11, 0, 0, 0, 0⟩ : UsbBlk).len.toNat = true) ∧
    (((usbOwn0).begin 0).port.usbWait = none) ∧
    (((((((((usbOwn0).begin 0).setBit R.USB_STAT 30 true).setBit R.USB_STAT 29 false).trimShow).setFld R.USB_STAT 0
      8 0x11).updSec fun q => { q with blkAt := ((usbOwn0).begin 0).now })).usbServed (⟨0x5A50, 0x11, 0, 0, 0, 0⟩ :
      UsbBlk) = true) ∧
    (((((((((usbOwn0).begin 0).setBit R.USB_STAT 30 true).setBit R.USB_STAT 29 false).trimShow).setFld R.USB_STAT 0
      8 0x11).updSec fun q => { q with blkAt := ((usbOwn0).begin 0).now })).usbMay (fld (⟨0x5A50, 0x11, 0, 0, 0, 0⟩
      : UsbBlk).param 28 4) = true) ∧
    (fld (⟨0x5A50, 0x11, 0, 0, 0, 0⟩ : UsbBlk).param 28 4 = 0) ∧
    (((((((((usbOwn0).begin 0).setBit R.USB_STAT 30 true).setBit R.USB_STAT 29 false).trimShow).setFld R.USB_STAT 0
      8 0x11).updSec fun q => { q with blkAt := ((usbOwn0).begin 0).now })).updBusy = false) ∧
    (((((((((usbOwn0).begin 0).setBit R.USB_STAT 30 true).setBit R.USB_STAT 29 false).trimShow).setFld R.USB_STAT 0
      8 0x11).updSec fun q => { q with blkAt := ((usbOwn0).begin 0).now })).stageSlot 0 = some (0 : Nat)) ∧
    ((usbOwn0).Runs 37) ∧
    (((usbOwn0).begin 0).gateOn 11 = true) ∧
    (((usbOwn0).begin 0).rbit R.USB_STAT 31 = true) ∧
    ((⟨0x5A50, 0x20, 0, 0, 256, 0⟩ : UsbBlk).magic = 0x5A50) ∧
    ((⟨0x5A50, 0x20, 0, 0, 256, 0⟩ : UsbBlk).cmd = 0x20) ∧
    (usbLenOk 0x20 (⟨0x5A50, 0x20, 0, 0, 256, 0⟩ : UsbBlk).len.toNat = true) ∧
    (((usbOwn0).begin 0).port.usbWait = none) ∧
    (((((((((usbOwn0).begin 0).setBit R.USB_STAT 30 true).setBit R.USB_STAT 29 false).trimShow).setFld R.USB_STAT 0
      8 0x20).updSec fun q => { q with blkAt := ((usbOwn0).begin 0).now })).usbServed (⟨0x5A50, 0x20, 0, 0, 256, 0⟩
      : UsbBlk) = true) ∧
    (((((((((usbOwn0).begin 0).setBit R.USB_STAT 30 true).setBit R.USB_STAT 29 false).trimShow).setFld R.USB_STAT 0
      8 0x20).updSec fun q => { q with blkAt := ((usbOwn0).begin 0).now })).sec.usbOpen = true) ∧
    ((1 : Nat) = (⟨0x5A50, 0x20, 0, 0, 256, 0⟩ : UsbBlk).len.toNat / 256) ∧
    ((⟨0x5A50, 0x20, 0, 0, 256, 0⟩ : UsbBlk).param.toNat + (1 : Nat) ≤ 65536) ∧
    ((usbOwn0).Runs 37) ∧
    (((usbOwn0).begin 0).gateOn 11 = true) ∧
    (((usbOwn0).begin 0).rbit R.USB_STAT 31 = true) ∧
    ((⟨0x5A50, 0x30, 0, 0, 32, 0⟩ : UsbBlk).magic = 0x5A50) ∧
    ((⟨0x5A50, 0x30, 0, 0, 32, 0⟩ : UsbBlk).cmd = 0x30) ∧
    (usbLenOk 0x30 (⟨0x5A50, 0x30, 0, 0, 32, 0⟩ : UsbBlk).len.toNat = true) ∧
    (((usbOwn0).begin 0).port.usbWait = none) ∧
    (((((((((usbOwn0).begin 0).setBit R.USB_STAT 30 true).setBit R.USB_STAT 29 false).trimShow).setFld R.USB_STAT 0
      8 0x30).updSec fun q => { q with blkAt := ((usbOwn0).begin 0).now })).usbServed (⟨0x5A50, 0x30, 0, 0, 32, 0⟩ :
      UsbBlk) = true) ∧
    (((((((((usbOwn0).begin 0).setBit R.USB_STAT 30 true).setBit R.USB_STAT 29 false).trimShow).setFld R.USB_STAT 0
      8 0x30).updSec fun q => { q with blkAt := ((usbOwn0).begin 0).now })).sec.idLost = false) ∧
    ((usbOwn0).Runs 37) ∧
    (((usbOwn0).begin 0).gateOn 11 = true) ∧
    (((usbOwn0).begin 0).rbit R.USB_STAT 31 = true) ∧
    ((⟨0x5A50, 0x31, 0, 0, 64, 0⟩ : UsbBlk).magic = 0x5A50) ∧
    ((⟨0x5A50, 0x31, 0, 0, 64, 0⟩ : UsbBlk).cmd = 0x31) ∧
    (usbLenOk 0x31 (⟨0x5A50, 0x31, 0, 0, 64, 0⟩ : UsbBlk).len.toNat = true) ∧
    (((usbOwn0).begin 0).port.usbWait = none) ∧
    (((((((((usbOwn0).begin 0).setBit R.USB_STAT 30 true).setBit R.USB_STAT 29 false).trimShow).setFld R.USB_STAT 0
      8 0x31).updSec fun q => { q with blkAt := ((usbOwn0).begin 0).now })).usbServed (⟨0x5A50, 0x31, 0, 0, 64, 0⟩ :
      UsbBlk) = true) ∧
    ((usbOwn0).Runs 37) ∧
    ((⟨0x5A50, 0x32, 0, 0, 64, 0⟩ : UsbBlk) = ⟨(0x5A50 : BitVec 16), (0x32 : Byte), (0 : Byte), (0 : Word), (64 :
      Word), (0 : Word)⟩) ∧
    (((usbOwn0).begin 0).gateOn 11 = true) ∧
    (((usbOwn0).begin 0).rbit R.USB_STAT 31 = true) ∧
    ((0x5A50 : BitVec 16) = 0x5A50) ∧
    ((0x32 : Byte) = 0x32) ∧
    (usbLenOk 0x32 (64 : Word).toNat = true) ∧
    (((usbOwn0).begin 0).port.usbWait = none) ∧
    ((((((((usbOwn0).begin 0).setBit R.USB_STAT 30 true).setBit R.USB_STAT 29 false).trimShow).setFld R.USB_STAT 0 8
      0x32).updSec fun q => { q with blkAt := ((usbOwn0).begin 0).now }).usbServed (⟨0x5A50, 0x32, 0, 0, 64, 0⟩ :
      UsbBlk) = true) ∧
    ((usbOwn0).Runs 37) ∧
    (((usbOwn0).begin 0).gateOn 11 = true) ∧
    (((usbOwn0).begin 0).rbit R.USB_STAT 31 = true) ∧
    ((⟨0x5A50, 0x33, 0, 0, 64, 0⟩ : UsbBlk).magic = 0x5A50) ∧
    ((⟨0x5A50, 0x33, 0, 0, 64, 0⟩ : UsbBlk).cmd = 0x33) ∧
    (usbLenOk 0x33 (⟨0x5A50, 0x33, 0, 0, 64, 0⟩ : UsbBlk).len.toNat = true) ∧
    (((usbOwn0).begin 0).port.usbWait = none) ∧
    (((((((((usbOwn0).begin 0).setBit R.USB_STAT 30 true).setBit R.USB_STAT 29 false).trimShow).setFld R.USB_STAT 0
      8 0x33).updSec fun q => { q with blkAt := ((usbOwn0).begin 0).now })).usbServed (⟨0x5A50, 0x33, 0, 0, 64, 0⟩ :
      UsbBlk) = true) := by
  refine ⟨?_, ?_, ?_, ?_, ?_, ?_, ?_, ?_, ?_, ?_, ?_, ?_, ?_, ?_, ?_, ?_, ?_, ?_, ?_, ?_, ?_, ?_, ?_, ?_, ?_, ?_,
    ?_, ?_, ?_, ?_, ?_, ?_, ?_, ?_, ?_, ?_, ?_, ?_, ?_, ?_, ?_, ?_, ?_, ?_, ?_, ?_, ?_, ?_, ?_, ?_, ?_, ?_, ?_, ?_,
    ?_, ?_, ?_, ?_, ?_, ?_, ?_, ?_, ?_, ?_, ?_, ?_, ?_, ?_, ?_, ?_, ?_, ?_, ?_, ?_, ?_, ?_, ?_, ?_, ?_, ?_, ?_, ?_,
    ?_, ?_, ?_, ?_, ?_, ?_, ?_, ?_, ?_, ?_, ?_, ?_, ?_, ?_, ?_, ?_, ?_, ?_, ?_, ?_, ?_, ?_, ?_, ?_, ?_, ?_, ?_, ?_,
    ?_, ?_, ?_, ?_, ?_, ?_, ?_, ?_, ?_, ?_⟩ <;> decide +kernel

/-- A state and operands that meet the hypotheses of FaultAndSafeStateRowsComplete. -/
theorem wit_FaultAndSafeStateRowsComplete :
    (((cfg).begin 0).sys.gndLost = false) ∧
    (((cfg.updSys fun q => { q with gndLost := true }).begin 0).sys.gndLost = true) ∧
    ((leak0).Runs 37) ∧
    (((leak0).begin 0).dt % (((leak0).begin 0).rfld (R.FM_SRC_CFG (1 : Fin 128)) 16 16 * 1000000) = 0) ∧
    ((report0).Runs 37) ∧
    (((report0).begin 0).rbit R.FM_REPORT 31 = true) ∧
    (((report0).begin 0).fm.lastFrame = none) ∧
    (((report0).begin 0).ethFree .eth1 = true) ∧
    (((report0).begin 0).fm.ethQ.isEmpty = false) ∧
    ((((report0).begin 0).ethSend .eth1 (((report0).begin 0).reg (R.ETH_PEER_LO 1)) (((report0).begin 0).reg
      (R.ETH_PEER_HI 1)) 0x5A32 (reportPayload ((report0).begin 0) (((report0).begin 0).fm.fseq + 1)
      ((report0).begin 0).fm.ethQ)).1 = true) ∧
    ((cfg).Takes (.qspi : Port) (R.FM_SRC_ACK (1 : Fin 128))) ∧
    ((cfg).Gives (.qspi : Port) (R.FM_SRC_STAT (1 : Fin 128))) ∧
    ((cfg).Takes (.qspi : Port) R.FM_CMD) ∧
    ((({ cfg with fm := { cfg.fm with pinTest := some 5 } }).begin 5).fm.pinTest = some (5 : Nat)) ∧
    ((5 : Nat) ≤ (({ cfg with fm := { cfg.fm with pinTest := some 5 } }).begin 5).now) ∧
    ((cfg).Takes (.qspi : Port) R.FM_CMD) ∧
    (((cfg).begin 0).up 38 = true) ∧
    ((0x0F : Byte) = 0x0F) ∧
    (((cfg).begin 0).up 38 = true) ∧
    (0x80 ≤ (0x80 : Byte).toNat) ∧
    ((0x80 : Byte).toNat ≤ 0x83) ∧
    (((cfg).begin 0).rbit R.CINCH_CFG 30 = false) ∧
    ((cfg.setBit R.CINCH_CFG 30 true).Takes (.qspi : Port) R.CINCH_ANSWER) ∧
    ((((cfg.setBit R.CINCH_CFG 30 true).begin 0).storeAt (.qspi : Port) R.CINCH_ANSWER (0 : Word)).rbit R.CINCH_CFG
      30 = true) ∧
    (((cfg.setReg R.CINCH_STAT 0x40A50000).begin 1000000000).up 38 = true) ∧
    (((cfg.setReg R.CINCH_STAT 0x40A50000).begin 1000000000).cinchState ≠ 0) ∧
    (((cfg.setReg R.CINCH_STAT 0x40A50000).begin 1000000000).cinchOver = true) ∧
    ((cfg).Takes (.qspi : Port) R.SAFE_CMD) ∧
    ((0 : Word).getLsbD 1 = false) ∧
    ((cfg).Takes (.qspi : Port) R.SAFE_CMD) ∧
    ((0 : Word).getLsbD 0 = false) ∧
    ((((cfg).begin 0).storeAt (.qspi : Port) R.SAFE_CMD ((0 : Word) ||| 2)).expired = false) ∧
    (((cfg).begin 0).up 38 = true) := by
  refine ⟨?_, ?_, ?_, ?_, ?_, ?_, ?_, ?_, ?_, ?_, ?_, ?_, ?_, ?_, ?_, ?_, ?_, ?_, ?_, ?_, ?_, ?_, ?_, ?_, ?_, ?_,
    ?_, ?_, ?_, ?_, ?_, ?_, ?_⟩ <;> decide +kernel

set_option maxRecDepth 8000 in
/-- A state and operands that meet the hypotheses of SecurityCommandRowsComplete, part 1. -/
theorem wit_SecurityCommandRowsComplete_1 :
    ((cfg.setReg (R.SEC_BUF 0) 4).Takes (.qspi : Port) R.SEC_CMD) ∧
    ((((cfg.setReg (R.SEC_BUF 0) 4).begin 0).storeAt (.qspi : Port) R.SEC_CMD (wordN (0 * 256 + 1))).rbit
      R.SEC_CMD_STAT 31 = false) ∧
    ((((cfg.setReg (R.SEC_BUF 0) 4).begin 0).storeAt (.qspi : Port) R.SEC_CMD (wordN (0 * 256 + 1))).owned = false)
      ∧
    ((((cfg.setReg (R.SEC_BUF 0) 4).begin 0).storeAt (.qspi : Port) R.SEC_CMD (wordN (0 * 256 + 1))).secBuf 0 1 =
      [4]) ∧
    (([true] : List Bool).headD true = true) ∧
    ((((cfg.setReg (R.SEC_BUF 0) 4).begin 0).storeAt (.qspi : Port) R.SEC_CMD (wordN (0 * 256 +
      1))).sec.owners.headD ((((cfg.setReg (R.SEC_BUF 0) 4).begin 0).storeAt (.qspi : Port) R.SEC_CMD (wordN (0 *
      256 + 1))).keyHash) = ((((cfg.setReg (R.SEC_BUF 0) 4).begin 0).storeAt (.qspi : Port) R.SEC_CMD (wordN (0 *
      256 + 1))).keyHash)) ∧
    ((owned0.setSecBuf rotBuf).Takes (.qspi : Port) R.SEC_CMD) ∧
    ((((owned0.setSecBuf rotBuf).begin 0).storeAt (.qspi : Port) R.SEC_CMD (wordN (0 * 256 + 2))).rbit
      R.SEC_CMD_STAT 31 = false) ∧
    ((((owned0.setSecBuf rotBuf).begin 0).storeAt (.qspi : Port) R.SEC_CMD (wordN (0 * 256 + 2))).owned = true) ∧
    (((((owned0.setSecBuf rotBuf).begin 0).storeAt (.qspi : Port) R.SEC_CMD (wordN (0 * 256 +
      2))).sec.owners.length) < 4) ∧
    ((((owned0.setSecBuf rotBuf).begin 0).storeAt (.qspi : Port) R.SEC_CMD (wordN (0 * 256 + 2))).secBuf 0 1 = [4])
      ∧
    ((((owned0.setSecBuf rotBuf).begin 0).storeAt (.qspi : Port) R.SEC_CMD (wordN (0 * 256 + 2))).bufSig
      ((((owned0.setSecBuf rotBuf).begin 0).storeAt (.qspi : Port) R.SEC_CMD (wordN (0 * 256 + 2))).ownerKeys.take
      1) ((((owned0.setSecBuf rotBuf).begin 0).storeAt (.qspi : Port) R.SEC_CMD (wordN (0 * 256 + 2))).serial ++
      (((owned0.setSecBuf rotBuf).begin 0).storeAt (.qspi : Port) R.SEC_CMD (wordN (0 * 256 + 2))).secBuf 0 97) 0x68
      0x98 = true) ∧
    ((true : Bool) = true) ∧
    ((true : Bool) = true) := by
  refine ⟨?_, ?_, ?_, ?_, ?_, ?_, ?_, ?_, ?_, ?_, ?_, ?_, ?_, ?_⟩ <;> decide +kernel

set_option maxRecDepth 8000 in
/-- A state and operands that meet the hypotheses of SecurityCommandRowsComplete, part 2. -/
theorem wit_SecurityCommandRowsComplete_2 :
    ((cfg).Takes (.qspi : Port) R.SEC_CMD) ∧
    ((((cfg).begin 0).storeAt (.qspi : Port) R.SEC_CMD (wordN ((1 : Byte).toNat * 256 + 1))).rbit R.SEC_CMD_STAT 31
      = false) ∧
    ((1 : Byte) ≠ 0) ∧
    ((cfg).Takes (.qspi : Port) R.SEC_CMD) ∧
    ((((cfg).begin 0).storeAt (.qspi : Port) R.SEC_CMD (wordN ((1 : Byte).toNat * 256 + 2))).rbit R.SEC_CMD_STAT 31
      = false) ∧
    ((1 : Byte) ≠ 0) ∧
    ((cfg).Takes (.qspi : Port) R.SEC_CMD) ∧
    ((((cfg).begin 0).storeAt (.qspi : Port) R.SEC_CMD (wordN ((1 : Byte).toNat * 256 + 7))).rbit R.SEC_CMD_STAT 31
      = false) ∧
    ((1 : Byte) ≠ 0) ∧
    ((cfg).Takes (.qspi : Port) R.SEC_CMD) ∧
    ((((cfg).begin 0).storeAt (.qspi : Port) R.SEC_CMD (wordN ((1 : Byte).toNat * 256 + 8))).rbit R.SEC_CMD_STAT 31
      = false) ∧
    ((1 : Byte) ≠ 0) ∧
    ((((cfg.setReg R.PORT_CFG 0).setSecBuf keyBuf).updSec fun q =>
      { q with keks := [(1, List.replicate 32 0)] }).Takes (.eth1 : Port) R.SEC_CMD) ∧
    ((((((cfg.setReg R.PORT_CFG 0).setSecBuf keyBuf).updSec fun q =>
      { q with keks := [(1, List.replicate 32 0)] }).begin 0).storeAt (.eth1 : Port) R.SEC_CMD (wordN ((0 : BitVec
      16).toNat * 65536 + (0 : BitVec 8).toNat * 256 + 3))).rbit R.SEC_CMD_STAT 31 = false) ∧
    ((0 : BitVec 8).toNat < 8) ∧
    ((leNat ((((((cfg.setReg R.PORT_CFG 0).setSecBuf keyBuf).updSec fun q =>
      { q with keks := [(1, List.replicate 32 0)] }).begin 0).storeAt (.eth1 : Port) R.SEC_CMD (wordN ((0 : BitVec
      16).toNat * 65536 + (0 : BitVec 8).toNat * 256 + 3))).secBuf 0 1)) = 1 ∨ (leNat ((((((cfg.setReg R.PORT_CFG
      0).setSecBuf keyBuf).updSec fun q => { q with keks := [(1, List.replicate 32 0)] }).begin 0).storeAt (.eth1 :
      Port) R.SEC_CMD (wordN ((0 : BitVec 16).toNat * 65536 + (0 : BitVec 8).toNat * 256 + 3))).secBuf 0 1)) = 2) ∧
    (sessOf (.eth1 : Port) = some (ssEth1 : Nat)) ∧
    ((Tab.get (fun _ => []) (((((cfg.setReg R.PORT_CFG 0).setSecBuf keyBuf).updSec fun q =>
      { q with keks := [(1, List.replicate 32 0)] }).begin 0).storeAt (.eth1 : Port) R.SEC_CMD (wordN ((0 : BitVec
      16).toNat * 65536 + (0 : BitVec 8).toNat * 256 + 3))).sec.keks (ssEth1 : Nat)) ≠ []) ∧
    (kwUnwrap (Tab.get (fun _ => []) (((((cfg.setReg R.PORT_CFG 0).setSecBuf keyBuf).updSec fun q =>
      { q with keks := [(1, List.replicate 32 0)] }).begin 0).storeAt (.eth1 : Port) R.SEC_CMD (wordN ((0 : BitVec
      16).toNat * 65536 + (0 : BitVec 8).toNat * 256 + 3))).sec.keks (ssEth1 : Nat)) ((((((cfg.setReg R.PORT_CFG
      0).setSecBuf keyBuf).updSec fun q => { q with keks := [(1, List.replicate 32 0)] }).begin 0).storeAt (.eth1 :
      Port) R.SEC_CMD (wordN ((0 : BitVec 16).toNat * 65536 + (0 : BitVec 8).toNat * 256 + 3))).secBuf 8 40) = some
      ((List.range 32).map (BitVec.ofNat 8) : List Byte)) := by
  refine ⟨?_, ?_, ?_, ?_, ?_, ?_, ?_, ?_, ?_, ?_, ?_, ?_, ?_, ?_, ?_, ?_, ?_, ?_, ?_⟩ <;> decide +kernel

set_option maxRecDepth 8000 in
/-- A state and operands that meet the hypotheses of SecurityCommandRowsComplete, part 3. -/
theorem wit_SecurityCommandRowsComplete_3 :
    ((cfg.setReg R.SEC_CMD_STAT 0x80001000).Takes (.qspi : Port) R.SEC_CMD) ∧
    ((((cfg.setReg R.SEC_CMD_STAT 0x80001000).begin 0).storeAt (.qspi : Port) R.SEC_CMD (wordN ((0 : BitVec 8).toNat
      * 256 + 4))).rbit R.SEC_CMD_STAT 31 = true) ∧
    ((cfg).Takes (.qspi : Port) R.SEC_CMD) ∧
    ((((cfg).begin 0).storeAt (.qspi : Port) R.SEC_CMD (wordN ((0 : BitVec 8).toNat * 256 + 4))).rbit R.SEC_CMD_STAT
      31 = false) ∧
    ((0 : BitVec 8).toNat < 8) ∧
    ((ready0).Takes (.qspi : Port) R.SEC_CMD) ∧
    ((((ready0).begin 0).storeAt (.qspi : Port) R.SEC_CMD (wordN (0 * 256 + 5))).rbit R.SEC_CMD_STAT 31 = false) ∧
    ((((ready0).begin 0).storeAt (.qspi : Port) R.SEC_CMD (wordN (0 * 256 + 5))).sec.idLost = false) ∧
    ((((ready0).begin 0).storeAt (.qspi : Port) R.SEC_CMD (wordN (0 * 256 + 5))).mssReady = true) ∧
    ((cfg).Takes (.qspi : Port) R.SEC_CMD) ∧
    ((((cfg).begin 0).storeAt (.qspi : Port) R.SEC_CMD (wordN (0 * 256 + 6))).rbit R.SEC_CMD_STAT 31 = false) ∧
    ((dbg0.setSecBuf dbgBuf).Takes (.qspi : Port) R.SEC_CMD) ∧
    ((((dbg0.setSecBuf dbgBuf).begin 0).storeAt (.qspi : Port) R.SEC_CMD (wordN (0 * 256 + 7))).rbit R.SEC_CMD_STAT
      31 = false) ∧
    ((((dbg0.setSecBuf dbgBuf).begin 0).storeAt (.qspi : Port) R.SEC_CMD (wordN (0 * 256 + 7))).sec.challenge = some
      ((chal0 : List Byte), (0 : Nat))) ∧
    ((((dbg0.setSecBuf dbgBuf).begin 0).storeAt (.qspi : Port) R.SEC_CMD (wordN (0 * 256 + 7))).sec.debugOff =
      false) ∧
    ((((dbg0.setSecBuf dbgBuf).begin 0).storeAt (.qspi : Port) R.SEC_CMD (wordN (0 * 256 + 7))).now < (0 : Nat) +
      60000000000) ∧
    ((((dbg0.setSecBuf dbgBuf).begin 0).storeAt (.qspi : Port) R.SEC_CMD (wordN (0 * 256 + 7))).secBuf 0 8 = [1, 0,
      0, 0, 0, 0, 0, 0]) ∧
    ((((dbg0.setSecBuf dbgBuf).begin 0).storeAt (.qspi : Port) R.SEC_CMD (wordN (0 * 256 + 7))).secBuf 8 32 = (chal0
      : List Byte)) ∧
    ((((dbg0.setSecBuf dbgBuf).begin 0).storeAt (.qspi : Port) R.SEC_CMD (wordN (0 * 256 + 7))).secBuf 0x28 8 =
      (((dbg0.setSecBuf dbgBuf).begin 0).storeAt (.qspi : Port) R.SEC_CMD (wordN (0 * 256 + 7))).serial) ∧
    ((((dbg0.setSecBuf dbgBuf).begin 0).storeAt (.qspi : Port) R.SEC_CMD (wordN (0 * 256 + 7))).bufSig
      ((((dbg0.setSecBuf dbgBuf).begin 0).storeAt (.qspi : Port) R.SEC_CMD (wordN (0 * 256 + 7))).ownerKeys.take 1)
      ((((dbg0.setSecBuf dbgBuf).begin 0).storeAt (.qspi : Port) R.SEC_CMD (wordN (0 * 256 + 7))).secBuf 0 0x30)
      0x30 0x60 = true) := by
  refine ⟨?_, ?_, ?_, ?_, ?_, ?_, ?_, ?_, ?_, ?_, ?_, ?_, ?_, ?_, ?_, ?_, ?_, ?_, ?_, ?_⟩ <;> decide +kernel

set_option maxRecDepth 8000 in
/-- A state and operands that meet the hypotheses of SecurityCommandRowsComplete, part 4. -/
theorem wit_SecurityCommandRowsComplete_4 :
    ((dbg0).Runs 37) ∧
    (((dbg0).begin 60000000000).sec.challenge = some ((chal0 : List Byte), (0 : Nat))) ∧
    ((0 : Nat) + 60000000000 ≤ ((dbg0).begin 60000000000).now) ∧
    ((owned0.setSecBuf tamBuf).Takes (.qspi : Port) R.SEC_CMD) ∧
    ((((owned0.setSecBuf tamBuf).begin 0).storeAt (.qspi : Port) R.SEC_CMD (wordN (0 * 256 + 8))).rbit
      R.SEC_CMD_STAT 31 = false) ∧
    ((((owned0.setSecBuf tamBuf).begin 0).storeAt (.qspi : Port) R.SEC_CMD (wordN (0 * 256 + 8))).owned = true) ∧
    ((((owned0.setSecBuf tamBuf).begin 0).storeAt (.qspi : Port) R.SEC_CMD (wordN (0 * 256 + 8))).bufSig
      (((owned0.setSecBuf tamBuf).begin 0).storeAt (.qspi : Port) R.SEC_CMD (wordN (0 * 256 + 8))).ownerKeys
      ((((owned0.setSecBuf tamBuf).begin 0).storeAt (.qspi : Port) R.SEC_CMD (wordN (0 * 256 + 8))).serial ++
      (((owned0.setSecBuf tamBuf).begin 0).storeAt (.qspi : Port) R.SEC_CMD (wordN (0 * 256 + 8))).secBuf 0 4) 8
      0x38 = true) ∧
    ((ready0).Takes (.qspi : Port) R.SEC_CMD) ∧
    ((((ready0).begin 0).storeAt (.qspi : Port) R.SEC_CMD (wordN ((0 : BitVec 8).toNat * 256 + 16))).rbit
      R.SEC_CMD_STAT 31 = false) ∧
    ((0 : BitVec 8) = 0 ∨ (0 : BitVec 8) = 2) ∧
    ((((ready0).begin 0).storeAt (.qspi : Port) R.SEC_CMD (wordN ((0 : BitVec 8).toNat * 256 + 16))).updBusy =
      false) ∧
    ((((ready0).begin 0).storeAt (.qspi : Port) R.SEC_CMD (wordN ((0 : BitVec 8).toNat * 256 + 16))).mssReady =
      true) ∧
    ((((ready0).begin 0).storeAt (.qspi : Port) R.SEC_CMD (wordN ((0 : BitVec 8).toNat * 256 + 16))).stageSlot (0 :
      BitVec 8).toNat = some (0 : Nat)) ∧
    ((ready0.updSec fun q => { q with commit := some (0, 0, true) }).Runs 37) ∧
    (((ready0.updSec fun q => { q with commit := some (0, 0, true) }).begin 0).sec.commit = some ((0 : Nat), (0 :
      Nat), (true : Bool))) ∧
    (((ready0.updSec fun q => { q with commit := some (0, 0, true) }).begin 0).mssServes (0 : Nat) = true) := by
  refine ⟨?_, ?_, ?_, ?_, ?_, ?_, ?_, ?_, ?_, ?_, ?_, ?_, ?_, ?_, ?_, ?_⟩ <;> decide +kernel

set_option maxRecDepth 8000 in
/-- A state and operands that meet the hypotheses of SecurityCommandRowsComplete, part 5. -/
theorem wit_SecurityCommandRowsComplete_5 :
    ((cfg.setSlot 0 2).Takes (.qspi : Port) R.SEC_CMD) ∧
    ((((cfg.setSlot 0 2).begin 0).storeAt (.qspi : Port) R.SEC_CMD (wordN ((0 : BitVec 8).toNat * 256 + 17))).rbit
      R.SEC_CMD_STAT 31 = false) ∧
    ((0 : BitVec 8) = 0 ∨ (0 : BitVec 8) = 2) ∧
    ((((cfg.setSlot 0 2).begin 0).storeAt (.qspi : Port) R.SEC_CMD (wordN ((0 : BitVec 8).toNat * 256 + 17))).slotIn
      (0 : BitVec 8).toNat 2 = some (0 : Nat)) ∧
    ((fw0).Takes (.qspi : Port) R.SEC_CMD) ∧
    ((((fw0).begin 0).storeAt (.qspi : Port) R.SEC_CMD (wordN (2 * 256 + 18))).rbit R.SEC_CMD_STAT 31 = false) ∧
    ((((fw0).begin 0).storeAt (.qspi : Port) R.SEC_CMD (wordN (2 * 256 + 18))).updBusy = false) ∧
    ((((fw0).begin 0).storeAt (.qspi : Port) R.SEC_CMD (wordN (2 * 256 + 18))).ldrState ≠ ldVerifying) ∧
    ((((fw0).begin 0).storeAt (.qspi : Port) R.SEC_CMD (wordN (2 * 256 + 18))).slotIn 2 2 = some (2 : Nat)) ∧
    ((((fw0).begin 0).storeAt (.qspi : Port) R.SEC_CMD (wordN (2 * 256 + 18))).rfld R.MSS_STAT 0 2 ≠ 2) ∧
    ((((((((fw0).begin 0).storeAt (.qspi : Port) R.SEC_CMD (wordN (2 * 256 + 18))).setSlot (otherSlot (2 : Nat))
      5).setSlot (2 : Nat) 3).secEnd 18 scOk).devRead ([] : List EccHit) (slotBase (2 : Nat)) ((((fw0).begin
      0).storeAt (.qspi : Port) R.SEC_CMD (wordN (2 * 256 + 18))).slotLen (2 : Nat))).fwFail (slotBase (2 : Nat)) =
      none) ∧
    ((cfg.setSlot 0 3).Takes (.qspi : Port) R.SEC_CMD) ∧
    ((((cfg.setSlot 0 3).begin 0).storeAt (.qspi : Port) R.SEC_CMD (wordN ((0 : BitVec 8).toNat * 256 + 19))).rbit
      R.SEC_CMD_STAT 31 = false) ∧
    ((0 : BitVec 8) = 0 ∨ (0 : BitVec 8) = 2) ∧
    ((((cfg.setSlot 0 3).begin 0).storeAt (.qspi : Port) R.SEC_CMD (wordN ((0 : BitVec 8).toNat * 256 +
      19))).updBusy = false) ∧
    ((((cfg.setSlot 0 3).begin 0).storeAt (.qspi : Port) R.SEC_CMD (wordN ((0 : BitVec 8).toNat * 256 + 19))).slotIn
      (0 : BitVec 8).toNat 3 = some (0 : Nat)) ∧
    (burned ([] : List Bool) (((((cfg.setSlot 0 3).begin 0).storeAt (.qspi : Port) R.SEC_CMD (wordN ((0 : BitVec
      8).toNat * 256 + 19))).slotRb (0 : Nat)) / 1024 - (((cfg.setSlot 0 3).begin 0).storeAt (.qspi : Port)
      R.SEC_CMD (wordN ((0 : BitVec 8).toNat * 256 + 19))).rfld (rbReg (0 : BitVec 8).toNat) 0 6) = (((((cfg.setSlot
      0 3).begin 0).storeAt (.qspi : Port) R.SEC_CMD (wordN ((0 : BitVec 8).toNat * 256 + 19))).slotRb (0 : Nat)) /
      1024 - (((cfg.setSlot 0 3).begin 0).storeAt (.qspi : Port) R.SEC_CMD (wordN ((0 : BitVec 8).toNat * 256 +
      19))).rfld (rbReg (0 : BitVec 8).toNat) 0 6)) := by
  refine ⟨?_, ?_, ?_, ?_, ?_, ?_, ?_, ?_, ?_, ?_, ?_, ?_, ?_, ?_, ?_, ?_, ?_⟩ <;> decide +kernel

set_option maxRecDepth 8000 in
/-- A state and operands that meet the hypotheses of SecurityCommandRowsComplete, part 6. -/
theorem wit_SecurityCommandRowsComplete_6 :
    ((cfg).Takes (.qspi : Port) R.SEC_CMD) ∧
    ((((cfg).begin 0).storeAt (.qspi : Port) R.SEC_CMD (wordN (0 * 256 + 31))).rbit R.SEC_CMD_STAT 31 = false) ∧
    (((cfg.setSlot 0 3).updSec fun q => { q with imgTrial := some 0 }).Runs 37) ∧
    ((if (false : Bool) then (((cfg.setSlot 0 3).updSec fun q => { q with imgTrial := some 0 }).begin
      100000000000000).sec.fwTrial else (((cfg.setSlot 0 3).updSec fun q => { q with imgTrial := some 0 }).begin
      100000000000000).sec.imgTrial) = some (0 : Nat)) ∧
    ((0 : Nat) + (((cfg.setSlot 0 3).updSec fun q => { q with imgTrial := some 0 }).begin 100000000000000).rfld
      R.SEC_UPD_TRIAL 0 16 * 1000000000 ≤ (((cfg.setSlot 0 3).updSec fun q => { q with imgTrial := some 0 }).begin
      100000000000000).now) ∧
    (((cfg.setSlot 2 3).updSec fun q => { q with fwWait := some 0 }).Runs 37) ∧
    ((((cfg.setSlot 2 3).updSec fun q => { q with fwWait := some 0 }).begin 5000000000).sec.fwWait = some (0 : Nat))
      ∧
    ((0 : Nat) + 5000000000 ≤ (((cfg.setSlot 2 3).updSec fun q => { q with fwWait := some 0 }).begin
      5000000000).now) ∧
    ((cfg).PortRuns (.qspi : Port)) ∧
    ((cfg).accessErr (.qspi : Port) (0x10000000 + (0 : BitVec 27).toNat) true = 0) ∧
    ((cfg).sealed = false) := by
  refine ⟨?_, ?_, ?_, ?_, ?_, ?_, ?_, ?_, ?_, ?_, ?_⟩ <;> decide +kernel

set_option maxRecDepth 8000 in
/-- A state and operands that meet the hypotheses of SecuritySessionRowsComplete, part 1. -/
theorem wit_SecuritySessionRowsComplete_1 :
    ((((sess0).begin 0).macRx (.eth1 : EthPort) (helloF : RxFrame)).1 = some (helloBody : List Byte)) ∧
    (subtypeOf (helloBody : List Byte) = 0x5A40) ∧
    (((((sess0).begin 0).macRx (.eth1 : EthPort) (helloF : RxFrame)).2).works 37 = true) ∧
    (((((sess0).begin 0).macRx (.eth1 : EthPort) (helloF : RxFrame)).2).secReady = true) ∧
    ((helloBody : List Byte).length = 144) ∧
    (leAt (helloBody : List Byte) 2 1 = 1) ∧
    (leAt (helloBody : List Byte) 3 1 = 1) ∧
    (((((sess0).begin 0).macRx (.eth1 : EthPort) (helloF : RxFrame)).2).sec.idLost = false) ∧
    (((((sess0).begin 0).macRx (.eth1 : EthPort) (helloF : RxFrame)).2).sessReply (ethNum (.eth1 : EthPort))
      (helloBody : List Byte) ([] : List Byte) = some ((reply0.1 : List Byte), (reply0.2 : List Byte))) ∧
    ((((fin0).begin 0).macRx (.eth1 : EthPort) (⟨(true : Bool), (400 : Nat), (0 : BitVec 48), (0 : BitVec 48), (finF
      : FrameBody).vlan, (finF : FrameBody).etherType, (finF : FrameBody).body⟩)).1 = some (finBody : List Byte)) ∧
    (subtypeOf (finBody : List Byte) = 0x5A40) ∧
    (leAt (finBody : List Byte) 3 1 = 3) ∧
    (((((fin0).begin 0).macRx (.eth1 : EthPort) (⟨(true : Bool), (400 : Nat), (0 : BitVec 48), (0 : BitVec 48),
      (finF : FrameBody).vlan, (finF : FrameBody).etherType, (finF : FrameBody).body⟩)).2).hand (ethNum (.eth1 :
      EthPort)) = some (hand0 : Hand)) ∧
    (((((fin0).begin 0).macRx (.eth1 : EthPort) (⟨(true : Bool), (400 : Nat), (0 : BitVec 48), (0 : BitVec 48),
      (finF : FrameBody).vlan, (finF : FrameBody).etherType, (finF : FrameBody).body⟩)).2).works 37 = true) ∧
    (((((fin0).begin 0).macRx (.eth1 : EthPort) (⟨(true : Bool), (400 : Nat), (0 : BitVec 48), (0 : BitVec 48),
      (finF : FrameBody).vlan, (finF : FrameBody).etherType, (finF : FrameBody).body⟩)).2).secReady = true) ∧
    ((finBody : List Byte).length = 360) ∧
    ((hand0 : Hand).sid = leAt (finBody : List Byte) 4 4) ∧
    (leAt (finBody : List Byte) 2 1 = 1) ∧
    (leAt (((finBody : List Byte).drop 8).take 256) 0 4 = 0x43455047) ∧
    (((((fin0).begin 0).macRx (.eth1 : EthPort) (⟨(true : Bool), (400 : Nat), (0 : BitVec 48), (0 : BitVec 48),
      (finF : FrameBody).vlan, (finF : FrameBody).etherType, (finF : FrameBody).body⟩)).2).owned = true) ∧
    (((((fin0).begin 0).macRx (.eth1 : EthPort) (⟨(true : Bool), (400 : Nat), (0 : BitVec 48), (0 : BitVec 48),
      (finF : FrameBody).vlan, (finF : FrameBody).etherType, (finF : FrameBody).body⟩)).2).ownerKeys.any (certOk
      (((finBody : List Byte).drop 8).take 256)) = true) ∧
    ((hand0 : Hand).peerOk (finBody : List Byte) = true) ∧
    (leAt (((finBody : List Byte).drop 8).take 256) 4 1 = ethNum (.eth1 : EthPort) + 1) ∧
    (leAt (((finBody : List Byte).drop 8).take 256) 5 1 / 2 ^ ethNum (.eth1 : EthPort) % 2 = 1) ∧
    (((((fin0).begin 0).macRx (.eth1 : EthPort) (⟨(true : Bool), (400 : Nat), (0 : BitVec 48), (0 : BitVec 48),
      (finF : FrameBody).vlan, (finF : FrameBody).etherType, (finF : FrameBody).body⟩)).2).rbit R.DT_STAT 5 = false)
      := by
  refine ⟨?_, ?_, ?_, ?_, ?_, ?_, ?_, ?_, ?_, ?_, ?_, ?_, ?_, ?_, ?_, ?_, ?_, ?_, ?_, ?_, ?_, ?_, ?_, ?_, ?_⟩ <;>
    decide +kernel

set_option maxRecDepth 8000 in
/-- A state and operands that meet the hypotheses of SecuritySessionRowsComplete, part 2. -/
theorem wit_SecuritySessionRowsComplete_2 :
    ((fin0).Runs 37) ∧
    (((fin0).begin 1000000000).hand (1 : Fin 3) = some (hand0 : Hand)) ∧
    ((hand0 : Hand).fin = none) ∧
    ((hand0 : Hand).at_ + 1000000000 ≤ ((fin0).begin 1000000000).now) ∧
    ((link0.setEth .eth1 { EthSt.init with rxOld := some (sa0, 5) }).Runs 34) ∧
    ((((link0.setEth .eth1 { EthSt.init with rxOld := some (sa0, 5) }).begin 5).eth (.eth1 : EthPort)).rxOld = some
      ((sa0 : Sa), (5 : Nat))) ∧
    ((5 : Nat) ≤ ((link0.setEth .eth1 { EthSt.init with rxOld := some (sa0, 5) }).begin 5).now) ∧
    ((usbOwn0).Runs 37) ∧
    (((usbOwn0).begin 900000000000).sec.usbOpen = true) ∧
    (((usbOwn0).begin 900000000000).sec.blkAt + 900000000000 ≤ ((usbOwn0).begin 900000000000).now) ∧
    (((cfg).begin 0).clk.inReset = false) ∧
    ((cfg.setFld R.SEC_DBG_STAT 0 2 1).Runs 36) ∧
    (((cfg.setFld R.SEC_DBG_STAT 0 2 1).begin 0).rfld R.SEC_DBG_STAT 0 2 ≠ 0) ∧
    (((cfg.setFld R.SEC_DBG_STAT 0 2 1).begin 0).mgt.halted = false) := by
  refine ⟨?_, ?_, ?_, ?_, ?_, ?_, ?_, ?_, ?_, ?_, ?_, ?_, ?_, ?_⟩ <;> decide +kernel

set_option maxRecDepth 8000 in
/-- A state and operands that meet the hypotheses of SecuritySessionRowsComplete, part 3. -/
theorem wit_SecuritySessionRowsComplete_3 :
    ((cfg.updMgt fun g => { g with halted := true }).Runs 36) ∧
    (((cfg.updMgt fun g => { g with halted := true }).begin 0).mgt.halted = true) := by
  refine ⟨?_, ?_⟩ <;> decide +kernel

/-- A state and operands that meet the hypotheses of ManagementAndRecorderRowsComplete. -/
theorem wit_ManagementAndRecorderRowsComplete :
    ((cfg).Runs 36) ∧
    ((cfg).Takes (.qspi : Port) R.MSS_CMD) ∧
    ((((cfg).begin 0).storeAt (.qspi : Port) R.MSS_CMD 2).Runs 36) ∧
    ((ready0).Runs 36) ∧
    ((cfg).Runs 36) ∧
    (((cfg).begin 0).rfld R.MSS_STAT 0 2 = 1) ∧
    (((cfg).begin 0).mgt.halted = false) ∧
    (({ ((cfg).begin 0).setFld R.MSS_STAT 0 2 0 with sec := { ((cfg).begin 0).sec with fwWait := none } }).Runs 37)
      ∧
    ((cfg).Takes (.qspi : Port) R.MSS_CMD) ∧
    ((ready0).Runs 37) ∧
    ((ready0).Runs 36) ∧
    (((ready0).begin 0).mssReady = true) ∧
    (((ready0).begin 0).dt % 10000000 = 0) ∧
    ((cfg).Runs 37) ∧
    ((((cfg).begin 0).mgt.sramPos) + 1 < sramSizes.sum) ∧
    ((cal0).Runs (sramIsland (1 : Fin 10))) ∧
    ((0 : Nat) < sramSizes.getD (1 : Fin 10) 0) ∧
    ((cfg).Runs 37) ∧
    (((((cfg).begin 0).bgWait (3 : Nat)).rfld R.STORE_SCRUB_POS 0 24) + 1 < 2 ^ 24) ∧
    ((cfg).Runs 37) ∧
    (((cfg).begin 1000000001).mgt.sramLate = false) ∧
    (((cfg).begin 1000000001).mgt.sramAt + 1000000000 < ((cfg).begin 1000000001).now) ∧
    ((cfg).Runs 37) ∧
    (((cfg).begin 3600000000000).mgt.hourAt + 3600000000000 ≤ ((cfg).begin 3600000000000).now) ∧
    ((ready0).Runs 37) ∧
    ((1 : Fin 160) < recInsts (0 : Fin 10)) ∧
    ((ready0).Runs 37) ∧
    (Tab.get (fun _ => false) ((ready0).begin 100000000000000).rcd.due 0 = false) ∧
    (((ready0).begin 100000000000000).recTimer 0 (((ready0).begin 100000000000000).recOpened 0 0) ≤ ((ready0).begin
      100000000000000).dt) ∧
    ((cfg).Takes (.qspi : Port) R.REC_CMD) ∧
    ((cfg).Takes (.qspi : Port) R.REC_CMD) ∧
    ((cfg).Takes (.qspi : Port) R.REC_TRACE_CFG) ∧
    ((cfg).Gives (.qspi : Port) (R.REC_WIN 0)) ∧
    ((cfg).Gives (.qspi : Port) (R.REC_WIN 63)) ∧
    ((cfg).Takes (.qspi : Port) R.REC_CURSOR) ∧
    ((cfg).Runs 37) ∧
    (((cfg).begin 0).dt % 1000000 = 0) := by
  refine ⟨?_, ?_, ?_, ?_, ?_, ?_, ?_, ?_, ?_, ?_, ?_, ?_, ?_, ?_, ?_, ?_, ?_, ?_, ?_, ?_, ?_, ?_, ?_, ?_, ?_, ?_,
    ?_, ?_, ?_, ?_, ?_, ?_, ?_, ?_, ?_, ?_, ?_⟩ <;> decide +kernel

/-- A state and operands that meet the hypotheses of StepRunsTheFrontCommand. -/
theorem wit_StepRunsTheFrontCommand :
    ({ cfg with pending := [.peakInhibit ⟨0, []⟩] }).pending = .peakInhibit ⟨0, []⟩ :: [] := by decide +kernel

/-- A state and operands that meet the hypotheses of EmptyQueueIdles. -/
theorem wit_EmptyQueueIdles :
    cfg.pending = [] := by decide +kernel

/-- A state and operands that meet the hypotheses of CommandsKeepTheQueue. -/
theorem wit_CommandsKeepTheQueue :
    (match exec (.peakInhibit ⟨0, []⟩) cfg with | .next _ => true | _ => false) = true := by decide +kernel

/-- A state and operands that meet the hypotheses of StepKeepsTheCanonicalForm. -/
theorem wit_StepKeepsTheCanonicalForm :
    Tab.wf resetWord cfg.regs = true ∧ Tab.wf (fun _ => 0) cfg.store = true := by decide +kernel

/-- A state and operands that meet the hypotheses of AccessOutsideTheMap. -/
theorem wit_AccessOutsideTheMap :
    cfg.PortRuns .qspi ∧
    inMap 0x00F00000 = false ∧
    inMap 0xFFFFFFFF = false := by
  refine ⟨?_, ?_, ?_⟩ <;> decide +kernel

/-- A state and operands that meet the hypotheses of AccessWhereNoRegisterIs. -/
theorem wit_AccessWhereNoRegisterIs :
    cfg.PortRuns .qspi ∧
    (regHit? 0x0000FC).isNone = true ∧
    cfg.stopped (islandOf 0x0000FC) = false ∧
    cfg.accFails .qspi 0x0000FC = false ∧
    cfg.Answers .qspi 0x0000FC ∧
    cfg.up (islandOf 0x0000FC) = true ∧
    cfg.clocked 0x0000FC = true ∧
    cfg.mayWrite .qspi = true ∧
    cfg.inFinalSet 0x0000FC = false := by
  refine ⟨?_, ?_, ?_, ?_, ?_, ?_, ?_, ?_, ?_⟩ <;> decide +kernel

/-- A state and operands that meet the hypotheses of AccessToAnIsolatedBlock. -/
theorem wit_AccessToAnIsolatedBlock :
    inMap 0x100000 = true ∧
    (cfg.setUp 0 false).Answers .qspi 0x100000 ∧
    (cfg.setUp 0 false).PortRuns .qspi ∧
    (cfg.setUp 0 false).up (islandOf 0x100000) = false := by
  refine ⟨?_, ?_, ?_, ?_⟩ <;> decide +kernel

/-- A state and operands that meet the hypotheses of MisalignedAccess. -/
theorem wit_MisalignedAccess :
    cfg.PortRuns .qspi ∧
    cfg.PortRuns .eth1 ∧
    0x100002 % 4 ≠ 0 := by
  refine ⟨?_, ?_, ?_⟩ <;> decide +kernel

/-- A state and operands that meet the hypotheses of AccessWithoutAnImage. -/
theorem wit_AccessWithoutAnImage :
    inMap 0x300000 = true ∧
    State.reset.PortRuns .qspi ∧
    State.reset.imageOk = false ∧
    answersUnconfigured 0x300000 = false := by
  refine ⟨?_, ?_, ?_, ?_⟩ <;> decide +kernel

/-- A state and operands that meet the hypotheses of WriteFromANonOwner. -/
theorem wit_WriteFromANonOwner :
    inMap 0x100000 = true ∧
    cfg.PortRuns .eth1 ∧
    cfg.stopped (islandOf 0x100000) = false ∧
    cfg.accFails .eth1 0x100000 = false ∧
    cfg.accFails .qspi 0x100000 = false ∧
    cfg.accFails .usb 0x100000 = false ∧
    cfg.Answers .eth1 0x100000 ∧
    cfg.up (islandOf 0x100000) = true ∧
    cfg.clocked 0x100000 = true ∧
    cfg.rbit R.PORT_CFG 0 = true ∧
    cfg.imageOk = true ∧
    (cfg.setReg R.PORT_CFG 0).rbit R.PORT_CFG 0 = false ∧
    (cfg.setReg R.PORT_CFG 0).up 34 = true ∧
    cfg.sec.usbOpen = false := by
  refine ⟨?_, ?_, ?_, ?_, ?_, ?_, ?_, ?_, ?_, ?_, ?_, ?_, ?_, ?_⟩ <;> decide +kernel

/-- A state and operands that meet the hypotheses of StoredBitsFollowTheirAccessType. -/
theorem wit_StoredBitsFollowTheirAccessType :
    ((⟨"X", 0, 1, 4, 0xF, 0, 0, 0, 0, 0, 0, 0xF⟩ : RegRow).stores 0).getLsbD 31 = false := by decide +kernel

/-- A state and operands that meet the hypotheses of SealedFieldsKeepTheirValues. -/
theorem wit_SealedFieldsKeepTheirValues :
    cfg.seal.sealed = true ∧
    cfg.sealed = false ∧
    (⟨"X", 0, 1, 4, 0, 0xF, 0, 0, 0, 0, 0, 0xF⟩ : RegRow).rws ≠ 0 := by
  refine ⟨?_, ?_, ?_⟩ <;> decide +kernel

/-- A state and operands that meet the hypotheses of HeldWordsTakeEffectTogether. -/
theorem wit_HeldWordsTakeEffectTogether :
    (regHit? 0x400060).isSome = true ∧
    (regHit? 0x400064).isSome = true ∧
    spanAt? spans 0x400060 = some (0x400060, 2) ∧
    spanAt? spans 0x400064 = some (0x400060, 2) ∧
    ((regHit? 0x400060).map fun h => h.row.stores 0x400060 != 0) = some true ∧
    ((regHit? 0x400064).map fun h => h.row.stores 0x400064 != 0) = some true ∧
    cfg.held .usb 0x400060 = none := by
  refine ⟨?_, ?_, ?_, ?_, ?_, ?_, ?_⟩ <;> decide +kernel

/-- A state and operands that meet the hypotheses of CapturedWordsStayTogether. -/
theorem wit_CapturedWordsStayTogether :
    spanAt? spans 0x40014 = some (0x40014, 2) ∧
    spanAt? spans (0x40014 + 4 * 1) = some (0x40014, 2) ∧
    spanAt? spans 0x710000 = some (0x710000, 3) ∧
    spanAt? spans (0x710000 + 4 * 2) = some (0x710000, 3) ∧
    spanAt? spans (0x30060 + 4 * 11) = some (0x30060, 12) ∧
    spanAt? spans (0x50050 + 4 * 11) = some (0x50050, 12) ∧
    cfg.cap .usb 0x40018 = none := by
  refine ⟨?_, ?_, ?_, ?_, ?_, ?_, ?_⟩ <;> decide +kernel

/-- A state and operands that meet the hypotheses of ClearsReachTheirCounters. -/
theorem wit_ClearsReachTheirCounters :
    cfg.Takes .qspi (R.TILE_CMD 0) ∧
    cfg.Takes .qspi R.INTAKE_CNT_CLEAR ∧
    cfg.Takes .qspi R.STITCH_CMD ∧
    cfg.Takes .qspi R.GND_CMD ∧
    cfg.Takes .qspi (R.MOT_CMD 0) ∧
    cfg.Takes .qspi R.FB_CMD ∧
    cfg.Takes .qspi R.GNSS_CMD ∧
    cfg.Takes .qspi (R.CAN_CMD 0) ∧
    cfg.Takes .qspi R.SYS_CNT_CLEAR ∧
    cfg.Takes .qspi R.CLK_CMD ∧
    cfg.Takes .qspi R.LDR_CTRL ∧
    cfg.Takes .qspi R.MSS_CMD ∧
    cfg.Takes .qspi R.REC_CMD ∧
    cfg.Takes .qspi R.DT_CMD := by
  refine ⟨?_, ?_, ?_, ?_, ?_, ?_, ?_, ?_, ?_, ?_, ?_, ?_, ?_, ?_⟩ <;> decide +kernel

/-- A state and operands that meet the hypotheses of RestartOfAWorkingIsland. -/
theorem wit_RestartOfAWorkingIsland :
    cfg.up 3 = true ∧
    cfg.Takes .qspi R.SYS_ISLAND_RESTART0 ∧
    cfg.up 38 = true ∧
    cfg.Takes .qspi R.SYS_ISLAND_RESTART1 ∧
    (8#32).getLsbD (3 % 32) = true ∧
    (64#32).getLsbD (38 % 32) = true := by
  refine ⟨?_, ?_, ?_, ?_, ?_, ?_⟩ <;> decide +kernel

/-- A state and operands that meet the hypotheses of SmallDriftIsSlewed. -/
theorem wit_SmallDriftIsSlewed :
    ((cfg.begin 0).onIsland 32 State.dtDue).up 0 = true ∧
    ((cfg.begin 0).onIsland 32 State.dtDue).ungated 0 = true ∧
    (Tab.get (fun _ => 0) ((cfg.begin 0).onIsland 32 State.dtDue).sys.localDt 0 + 100 : Int).natAbs ≤ 100 := by
  refine ⟨?_, ?_, ?_⟩ <;> decide +kernel

/-- A state and operands that meet the hypotheses of SequenceOfAStream. -/
theorem wit_SequenceOfAStream :
    leAt huzBody 0 2 = 0x5A17 ∧
    (huzBody.getD 2 0).toNat = 1 ∧
    huz0.rbit R.INTAKE_CTRL 0 = true ∧
    (huzBody.getD 9 0).toNat % 2 = 0 ∧
    (huz0.setBit (R.INTAKE_S_STAT 0) 0 true).rbit (R.INTAKE_S_STAT 0) 0 = true ∧
    (leAt huzBody 4 4 + 2 ^ 32 - (((huz0.setReg (R.INTAKE_S_SEQ 0) 0xFFFFFFFF).reg (R.INTAKE_S_SEQ 0)).toNat + 1) %
      2 ^ 32) % 2 ^ 32 = 0 ∧
    (leAt huzBody 4 4 + 2 ^ 32 - (((huz0.setReg (R.INTAKE_S_SEQ 0) 0x80000000).reg (R.INTAKE_S_SEQ 0)).toNat + 1) %
      2 ^ 32) % 2 ^ 32 = 2 ^ 31 - 1 ∧
    (leAt huzBody 4 4 + 2 ^ 32 - (((huz0.setReg (R.INTAKE_S_SEQ 0) 0x7FFFFFFF).reg (R.INTAKE_S_SEQ 0)).toNat + 1) %
      2 ^ 32) % 2 ^ 32 = 2 ^ 31 := by
  refine ⟨?_, ?_, ?_, ?_, ?_, ?_, ?_, ?_⟩ <;> decide +kernel

/-- A state and operands that meet the hypotheses of AcceptedFrameMovesTheSequence. -/
theorem wit_AcceptedFrameMovesTheSequence :
    (records huzBody 0).length = 0 ∧
    (fifoSize - cfg.intake.fifo.length < 65537) = true := by
  refine ⟨?_, ?_⟩ <;> decide +kernel

/-- A state and operands that meet the hypotheses of TargetOfTheHost. -/
theorem wit_TargetOfTheHost :
    cfg.intake.fifo.length < fifoSize := by decide +kernel

/-- A state and operands that meet the hypotheses of ShortEntryIsWidened. -/
theorem wit_ShortEntryIsWidened :
    ent0.close = some 200000 ∧
    (200000 : Int) - ent0.opn < (cfg.setReg (R.STITCH_LANE_MIN 0) 20000).minPulse 0 ∧
    (cfg.setReg (R.STITCH_LANE_MIN 0) 10000).minPulse 0 ≤ (200000 : Int) - ent0.opn := by
  refine ⟨?_, ?_, ?_⟩ <;> decide +kernel

/-- A state and operands that meet the hypotheses of TemperatureWarning. -/
theorem wit_TemperatureWarning :
    cfg.Runs 0 ∧
    cfg.rsfld (R.TILE_TEMP_WARN 0) 0 16 ≤ (0x7FFF#16).toInt := by
  refine ⟨?_, ?_⟩ <;> decide +kernel

/-- A state and operands that meet the hypotheses of GroupOverloadOncePerExcursion. -/
theorem wit_GroupOverloadOncePerExcursion :
    cfg.Runs 0 ∧
    8000 < (8001#16).toNat ∧
    (cfg.tile 0).overload = false ∧
    (8000#16).toNat ≤ 8000 := by
  refine ⟨?_, ?_, ?_, ?_⟩ <;> decide +kernel

/-- A state and operands that meet the hypotheses of GroupClearNeedsLowCurrent. -/
theorem wit_GroupClearNeedsLowCurrent :
    cfg.Takes .qspi (R.TILE_CMD 0) ∧
    50 < (51#16).toNat := by
  refine ⟨?_, ?_⟩ <;> decide +kernel

/-- A state and operands that meet the hypotheses of SerialOverrun. -/
theorem wit_SerialOverrun :
    (serial0.setReg (R.Q_CFG 0) 0x00010001).Runs 22 ∧
    (serial0.setReg (R.Q_CFG 0) 0x00010001).rfld (R.Q_CFG 0) 0 2 ≠ 0 ∧
    ((serial0.setReg (R.Q_CFG 0) 0x00010001).begin 1000).fbDt % ((serial0.setReg (R.Q_CFG 0) 0x00010001).rfld
      (R.Q_CFG 0) 16 16 * 1000 : Nat) = 0 ∧
    ((serial0.setReg (R.Q_CFG 0) 0x00010001).ser 0).frame.isSome = true := by
  refine ⟨?_, ?_, ?_, ?_⟩ <;> decide +kernel

/-- A state and operands that meet the hypotheses of CompareLeadHasAFloor. -/
theorem wit_CompareLeadHasAFloor :
    cfg.Takes .qspi (R.CMP_LEAD 0) ∧
    cfg.Takes .qspi (R.CMP_LEAD 7) := by
  refine ⟨?_, ?_⟩ <;> decide +kernel

/-- A state and operands that meet the hypotheses of AntennaOpen. -/
theorem wit_AntennaOpen :
    bias0.Runs 33 ∧
    (bias0.begin 0).biasOn = true ∧
    (2#16).toNat < 3 ∧
    3 ≤ (3#16).toNat := by
  refine ⟨?_, ?_, ?_, ?_⟩ <;> decide +kernel

/-- A state and operands that meet the hypotheses of ClusterOvertemperature. -/
theorem wit_ClusterOvertemperature :
    cfg.Runs 23 ∧
    (cfg.setBit (R.SW_CL_STAT 0) 31 true).Runs 23 ∧
    (cfg.setBit (R.SW_CL_STAT 0) 31 true).rbit (R.SW_CL_STAT 0) 31 = true ∧
    (0#16).toInt < (cfg.rfld (R.SW_CL_CFG 0) 0 16 : Int) - 80 ∧
    (cfg.rfld (R.SW_CL_CFG 0) 0 16 : Int) - 80 ≤ (0x7FFF#16).toInt := by
  refine ⟨?_, ?_, ?_, ?_, ?_⟩ <;> decide +kernel

/-- A state and operands that meet the hypotheses of FifoPop. -/
theorem wit_FifoPop :
    canOn.Takes .qspi (R.CAN_FIFO_POP 0) ∧
    (canOn.setReg (R.CAN_FIFO_STAT 0 1) 0x00050001).rfld (R.CAN_FIFO_STAT 0 1) 0 8 ≠ 0 ∧
    (canOn.setReg (R.CAN_FIFO_STAT 0 1) 0x00050001).rfld (R.CAN_FIFO_STAT 0 1) 16 7 = 5 := by
  refine ⟨?_, ?_, ?_⟩ <;> decide +kernel

/-- A state and operands that meet the hypotheses of MalformedCommandBlock. -/
theorem wit_MalformedCommandBlock :
    usb0.Runs 37 ∧
    usb0.gateOn 11 = true ∧
    usb0.rbit R.USB_STAT 31 = true ∧
    usb0.port.usbWait = none ∧
    (0#16) ≠ (0x5A50 : BitVec 16) ∧
    usbKnown 0x04 = false ∧
    usbLenOk 0x01 63 = false := by
  refine ⟨?_, ?_, ?_, ?_, ?_, ?_, ?_⟩ <;> decide +kernel

/-- A state and operands that meet the hypotheses of LoaderCommandWithoutATransition. -/
theorem wit_LoaderCommandWithoutATransition :
    cfg.Takes .qspi R.LDR_CTRL ∧
    (cfg.setLdr ldDone).ldrState ≠ 0 ∧
    cfg.ldrState ≠ ldStaged ∧
    cfg.ldrState ≠ ldSearching ∧
    cfg.ldrState < ldDone ∧
    (cfg.setLdr ldDone).Takes .qspi R.LDR_CTRL := by
  refine ⟨?_, ?_, ?_, ?_, ?_, ?_⟩ <;> decide +kernel

/-- A state and operands that meet the hypotheses of TrimStepIsSmall. -/
theorem wit_TrimStepIsSmall :
    (cfg.setBit R.CLK_STAT csTcxo true).Runs 37 ∧
    (((cfg.setBit R.CLK_STAT csTcxo true).begin 0).updClk fun c => { c with sof := true }).trimSrc ≠ 15 ∧
    (-(2 ^ 31) : Int) ≤ -1 := by
  refine ⟨?_, ?_, ?_⟩ <;> decide +kernel

/-- A state and operands that meet the hypotheses of LateScrubIsCounted. -/
theorem wit_LateScrubIsCounted :
    cfg.Runs 37 ∧
    (if true then cfg.mgt.storeLate else cfg.mgt.sramLate) = false ∧
    (if false then cfg.mgt.storeLate else cfg.mgt.sramLate) = false ∧
    (if true then cfg.mgt.storeAt + 86400000000000 else cfg.mgt.sramAt + 1000000000) < (cfg.begin
      86400000000001).now ∧
    (if false then cfg.mgt.storeAt + 86400000000000 else cfg.mgt.sramAt + 1000000000) < (cfg.begin 1000000001).now
      := by
  refine ⟨?_, ?_, ?_, ?_, ?_⟩ <;> decide +kernel

/-- A state and operands that meet the hypotheses of CinchQuestion. -/
theorem wit_CinchQuestion :
    (cfg.setBit R.CINCH_CFG 31 true).rbit R.CINCH_CFG 31 = true ∧
    cfg.up 38 = true ∧
    ((cfg.setReg R.CINCH_STAT 0x40A50000).begin 0).cinchState ≠ 0 ∧
    ((cfg.setReg R.CINCH_STAT 0x40A50000).begin 10000000000).cinchOver = true ∧
    cfg.cinch.done = false ∧
    ((cfg.setReg R.CINCH_STAT 0x40A50000).updCinch fun c => { c with done := true }).cinch.done = true := by
  refine ⟨?_, ?_, ?_, ?_, ?_, ?_⟩ <;> decide +kernel

/-- A state and operands that meet the hypotheses of WriteIntoASlot. -/
theorem wit_WriteIntoASlot :
    cfg.PortRuns .qspi ∧
    cfg.accessErr .qspi (0x10000000 + (0#27).toNat) true = 0 ∧
    cfg.accessErr .qspi (0x10000000 + (0x5FFFFC#27).toNat) true = 0 ∧
    cfg.accessErr .qspi (0x10000000 + (0x1400000#27).toNat) true = 0 ∧
    cfg.sealed = false := by
  refine ⟨?_, ?_, ?_, ?_, ?_⟩ <;> decide +kernel

/-- A state and operands that meet the hypotheses of DeviceResetKeepsTheStore. -/
theorem wit_DeviceResetKeepsTheStore :
    Tab.wf resetWord cfg.regs = true ∧ Tab.wf (fun _ => 0) cfg.store = true ∧
    keptReg R.PORT_CFG = false ∧
    keptReg R.SEC_UPD_STAT = true := by
  refine ⟨?_, ?_, ?_⟩ <;> decide +kernel

/-- A state and operands that meet the hypotheses of BucketsLeak. -/
theorem wit_BucketsLeak :
    Tab.wf (fun _ => 0) leak0.fm.bucket = true ∧
    leak0.Runs 37 ∧
    (leak0.dt + 0) % (leak0.rfld (R.FM_SRC_CFG 1) 16 16 * 1000000) = 0 := by
  refine ⟨?_, ?_, ?_⟩ <;> decide +kernel

/-- A state and operands that meet the hypotheses of CursorWriteClearsTheResult. -/
theorem wit_CursorWriteClearsTheResult :
    cfg.Takes .qspi R.REC_CURSOR := by decide +kernel

/-- A state and operands that meet the hypotheses of ReleaseOfAHeldAxis. -/
theorem wit_ReleaseOfAHeldAxis :
    cfg.Takes .qspi (R.AX_CMD 0) ∧
    (cfg.setBit (R.AX_STAT 0) asHeld true).Takes .qspi (R.AX_CMD 0) ∧
    (cfg.setBit (R.AX_STAT 0) asHeld true).rbit (R.AX_STAT 0) asHeld = true ∧
    cfg.rbit (R.AX_STAT 0) asHeld = false := by
  refine ⟨?_, ?_, ?_, ?_⟩ <;> decide +kernel

end Sys2Proof.Tests
end

section
/-!
PROOFS. Accesses that a check refuses (00 R11, R12; 13 R521): a refusal leaves the failure registers of its port, and which check
answers first.
-/
namespace Sys2Proof.Machine

/-- The failure registers of a port are four registers. -/
theorem failRegs_distinct (p : Port) :
    [R.PORT_IRQ_STAT, R.PORT_ERR_CNT (portNum p), R.PORT_ERR_INFO (portNum p), R.PORT_ERR_ADDR (portNum p)].Nodup := by
  cases p <;> decide

/-- What a failure of an access of port `p` to `a` leaves in the register at `b`. -/
theorem State.reg_portFail (s : State) (p : Port) (a code b : Nat) : (s.portFail p a code).reg b =
    if b = R.PORT_IRQ_STAT then s.reg R.PORT_IRQ_STAT ||| bit 7
    else if b = R.PORT_ERR_CNT (portNum p) then wordN (satN 32 ((s.reg (R.PORT_ERR_CNT (portNum p))).toNat + 1))
    else if b = R.PORT_ERR_INFO (portNum p) then wordN code
    else if b = R.PORT_ERR_ADDR (portNum p) then wordN a
    else s.reg b := by
  have hd := failRegs_distinct p
  simp only [List.nodup_cons, List.mem_cons, List.not_mem_nil, or_false, not_or] at hd
  simp [State.portFail, State.reg_event, State.reg_count, State.reg_setReg, hd]

/-- A failure that is no timeout, no handover write and no refusal of the window guard leaves what `portFail` does, and the
failure of a transfer of this access is no longer outstanding. -/
theorem State.accessFail_plain {s : State} {p : Port} {a code : Nat} (ht : code ≠ errTimeout) (hb : code ≠ errBusy)
    (hw : a < 0x10000000 ∨ a % 4 ≠ 0) : s.accessFail p a code =
      { s.portFail p a code with sys := { s.sys with failingAcc := s.sys.failingAcc.erase (p, a) } } := by
  have hg : (decide (0x10000000 ≤ a) && code == errAddress && inMap a && a % 4 == 0) = false := by
    rcases hw with h | h
    · simp [show ¬ 0x10000000 ≤ a by omega]
    · simp [h]
  have ht' : (code == errTimeout) = false := by simpa using ht
  have hb' : (code == errBusy) = false := by simpa using hb
  simp only [State.accessFail, hg, ht', hb', Bool.false_and, State.when_false]
  rfl

/-- Such a failure, once answered, leaves its port's failure registers changed and nothing else (13 R521). -/
theorem State.refused_accessFail {s : State} {p : Port} {a code : Nat} (el : Nat) (o : Out) (ht : code ≠ errTimeout)
    (hb : code ≠ errBusy) (hw : a < 0x10000000 ∨ a % 4 ≠ 0) :
    s.Refused (((s.begin el).accessFail p a code).send o) el p a code o := by
  have hd := failRegs_distinct p
  simp only [List.nodup_cons, List.mem_cons, List.not_mem_nil, or_false, not_or] at hd
  have hne : R.PORT_ERR_ADDR (portNum p) ≠ R.PORT_IRQ_STAT ∧ R.PORT_ERR_ADDR (portNum p) ≠ R.PORT_ERR_CNT (portNum p) ∧
      R.PORT_ERR_ADDR (portNum p) ≠ R.PORT_ERR_INFO (portNum p) ∧ R.PORT_ERR_INFO (portNum p) ≠ R.PORT_IRQ_STAT ∧
      R.PORT_ERR_INFO (portNum p) ≠ R.PORT_ERR_CNT (portNum p) ∧ R.PORT_ERR_CNT (portNum p) ≠ R.PORT_IRQ_STAT := by
    simp [hd, eq_comm]
  have hreg (b : Nat) : (((s.begin el).accessFail p a code).send o).reg b = ((s.begin el).portFail p a code).reg b := by
    rw [State.accessFail_plain ht hb hw]; rfl
  refine ⟨?_, fun b hb => ?_, ?_, ?_, ?_, ?_⟩
  · rw [State.accessFail_plain ht hb hw]; rfl
  · simp only [List.mem_cons, List.not_mem_nil, or_false, not_or] at hb
    simp [hreg, State.reg_portFail, hb]
  all_goals simp [hreg, State.reg_portFail, hne]

/-- A write of any word that a check refuses (13 R519, R521). -/
theorem execRegisterWrite_refused {s : State} {p : Port} {a : Nat} (el : Nat) (v : Word) (e : WriteEnv) (hu : s.PortRuns p)
    (he : s.accessErr p a true ≠ 0) : exec (.registerWrite el p a v e) s =
      .next (((s.begin el).accessFail p a (s.accessErr p a true)).send (.wrote p a (s.accessErr p a true))) := by
  change execRegisterWrite el p a v e s = _
  have hw : (s.begin el).writeWord p a v e = (s.accessErr p a true, (s.begin el).accessFail p a (s.accessErr p a true)) := by
    simp [State.writeWord, windowWrite, State.hostWrite, he]
  have hu' : (s.begin el).PortRuns p := hu
  simp only [execRegisterWrite, State.atPort_runs hu', hw]

/-- A read of any word that a check refuses (13 R519, R521). -/
theorem execMultiwordCaptureRead_refused {s : State} {p : Port} {a : Nat} (el : Nat) (x : List EccHit) (hu : s.PortRuns p)
    (he : s.accessErr p a false ≠ 0) : exec (.multiwordCaptureRead ⟨el, x⟩ p a) s =
      .next (((s.begin el).accessFail p a (s.accessErr p a false)).send (.read p a 0 (s.accessErr p a false))) := by
  change execMultiwordCaptureRead ⟨el, x⟩ p a s = _
  have hu' : (s.begin el).PortRuns p := hu
  have he' : (s.begin el).accessErr p a false ≠ 0 := he
  simp only [execMultiwordCaptureRead, State.readCmd_refused _ hu' he', State.accessErr_begin]

/-- A write that a check refuses with a code that touches nothing but the failure registers. -/
theorem refused_registerWrite {s : State} {p : Port} {a code : Nat} (el : Nat) (v : Word) (e : WriteEnv) (hu : s.PortRuns p)
    (he : s.accessErr p a true = code) (h0 : code ≠ 0) (ht : code ≠ errTimeout) (hb : code ≠ errBusy)
    (hw : a < 0x10000000 ∨ a % 4 ≠ 0) :
    ∃ t, exec (.registerWrite el p a v e) s = .next t ∧ s.Refused t el p a code (.wrote p a code) := by
  subst he
  exact ⟨_, execRegisterWrite_refused el v e hu h0, State.refused_accessFail el _ ht hb hw⟩

/-- The same for a read. -/
theorem refused_multiwordCaptureRead {s : State} {p : Port} {a code : Nat} (el : Nat) (x : List EccHit) (hu : s.PortRuns p)
    (he : s.accessErr p a false = code) (h0 : code ≠ 0) (ht : code ≠ errTimeout) (hb : code ≠ errBusy)
    (hw : a < 0x10000000 ∨ a % 4 ≠ 0) :
    ∃ t, exec (.multiwordCaptureRead ⟨el, x⟩ p a) s = .next t ∧ s.Refused t el p a code (.read p a 0 code) := by
  subst he
  exact ⟨_, execMultiwordCaptureRead_refused el x hu h0, State.refused_accessFail el _ ht hb hw⟩

/-- Alignment is the first check of an access (00 R11). -/
theorem State.accessErr_misaligned {a : Nat} (h : a % 4 ≠ 0) (s : State) (p : Port) (w : Bool) :
    s.accessErr p a w = errAddress := by
  simp [State.accessErr, h]

/-- The last check of an access finds no register (00 R12): where those before it pass, the access is an address error. -/
theorem State.accessErr_noRegister {s : State} {p : Port} {a : Nat} {w : Bool} (ha : a < 0x10000000)
    (hr : (regHit? a).isNone = true) (hc : s.Answers p a) (hu : s.up (islandOf a) = true) (hk : s.clocked a = true)
    (hf : s.accFails p a = false) (hs : s.stopped (islandOf a) = false)
    (hw : w = true → s.mayWrite p = true ∧ s.inFinalSet a = false) : s.accessErr p a w = errAddress := by
  have hcfg : ((!s.imageOk || (p == .eth1 && s.rbit R.SEC_SESS_STAT 16)) && !answersUnconfigured a) = false := by
    rcases hc with ⟨hi, he⟩ | hc
    · have : (p == .eth1 && s.rbit R.SEC_SESS_STAT 16) = false := by simpa using he
      simp [hi, this]
    · simp [hc]
  have hown : (w && !s.mayWrite p) = false ∧ (w && s.inFinalSet a) = false := by
    cases w with
    | false => simp
    | true => simp [hw rfl]
  have hlow : ¬ 0x10000000 ≤ a := by omega
  simp [State.accessErr, hcfg, hu, hk, hf, hs, hown, hr, hlow]

/-- Settles O28: alignment is the check that comes first, and a misaligned address is no matter of the window guard. -/
theorem misalignedAccess : Obligations.MisalignedAccess := by
  unfold Obligations.MisalignedAccess
  intro el p a v e x s hu ha
  exact ⟨refused_registerWrite el v e hu (State.accessErr_misaligned ha s p true) (by decide) (by decide) (by decide) (.inr ha),
    refused_multiwordCaptureRead el x hu (State.accessErr_misaligned ha s p false) (by decide) (by decide) (by decide) (.inr ha)⟩

/-- Settles O26: the register lookup is the check that comes last. -/
theorem accessWhereNoRegisterIs : Obligations.AccessWhereNoRegisterIs := by
  unfold Obligations.AccessWhereNoRegisterIs
  intro el p a v e x s hu ha hr hc hup hk hf hs
  refine ⟨fun hm hfin => ?_, ?_⟩
  · have he : s.accessErr p a true = errAddress := State.accessErr_noRegister ha hr hc hup hk hf hs fun _ => ⟨hm, hfin⟩
    exact refused_registerWrite el v e hu he (by decide) (by decide) (by decide) (.inl ha)
  · have he : s.accessErr p a false = errAddress := State.accessErr_noRegister ha hr hc hup hk hf hs nofun
    exact refused_multiwordCaptureRead el x hu he (by decide) (by decide) (by decide) (.inl ha)

end Sys2Proof.Machine
end

section
/-!
PROOFS. What a word does to a register (00 R13–R18; 02 R82, R85): stored and sealed bits, words held for a multi-word write, and words
captured for a multi-word read.
-/
namespace Sys2Proof.Machine

/-! Stored words (00 R13–R16) and sealed ones (02 R82, R85). -/

/-- A stored word is a write of its own register (00 R13). -/
theorem State.storeWord_regs (s : State) (r : RegRow) (a : Nat) (v : Word) :
    s.storeWord r a v = { s with regs := (s.storeWord r a v).regs } := rfl

theorem State.reg_storeWord_ne (s : State) (r : RegRow) {a b : Nat} (v : Word) (h : b ≠ a) :
    (s.storeWord r a v).reg b = s.reg b := State.reg_setReg_ne _ _ h

/-- A word that takes the bits of `k` from `w`, and the others from `v`. -/
theorem getLsbD_merge (v w k : Word) (i : Nat) :
    ((v &&& ~~~k) ||| (w &&& k)).getLsbD i = if k.getLsbD i then w.getLsbD i else v.getLsbD i := by
  by_cases hi : i < 32
  · cases hk : k.getLsbD i <;> simp only [BitVec.getLsbD_or, BitVec.getLsbD_and, BitVec.getLsbD_not, hk, hi] <;> simp
  · simp [BitVec.getLsbD_of_ge _ i (Nat.le_of_not_lt hi)]

/-- A bit of the register that no stored field holds: it keeps its value, unless a 1 clears it (00 R13, R16). -/
theorem State.getLsbD_storeWord_unstored (s : State) (r : RegRow) (a : Nat) (v : Word) {i : Nat}
    (h : (r.stores a).getLsbD i = false) : ((s.storeWord r a v).reg a).getLsbD i =
      ((s.reg a).getLsbD i && !(v.getLsbD i && r.w1c.getLsbD i && !(s.freshBits a).getLsbD i)) := by
  by_cases hi : i < 32
  · simp only [State.storeWord, State.reg_setReg_self, BitVec.getLsbD_and (x := _ ||| _), getLsbD_merge, h, BitVec.getLsbD_not,
      BitVec.getLsbD_and, hi, decide_true, Bool.true_and, Bool.false_eq_true, if_false]
  · simp [BitVec.getLsbD_of_ge _ i (Nat.le_of_not_lt hi)]

/-- Settles O31: a stored word is one register write, whose word merges what is stored into what stood there. -/
theorem storedBitsFollowTheirAccessType : Obligations.StoredBitsFollowTheirAccessType := by
  unfold Obligations.StoredBitsFollowTheirAccessType
  intro s r a v
  refine ⟨fun b hb => ?_, s.storeWord_regs r a v, fun i hi => s.getLsbD_storeWord_unstored r a v hi⟩
  exact s.reg_storeWord_ne r v (by simpa using hb)

/-- Without sealing no write has a reason to be refused (02 R78, R82). -/
theorem State.screen_unsealed {s : State} (h : s.sealed = false) (r : RegRow) (a : Nat) (v : Word) :
    (s.screen r a v).reasons = 0 := by
  simp [State.screen, h]

/-- In a sealed device every RWS bit that no WO field covers keeps its value (00 R15). -/
theorem State.getLsbD_screen_rws {s : State} (h : s.sealed = true) (r : RegRow) (a : Nat) (v : Word) {i : Nat}
    (hr : r.rws.getLsbD i = true) (hw : r.wo.getLsbD i = false) :
    (s.screen r a v).v.getLsbD i = (s.reg a).getLsbD i := by
  have hi : i < 32 := BitVec.lt_of_getLsbD hr
  simp only [State.screen, h, if_true, BitVec.getLsbD_or, BitVec.getLsbD_and, BitVec.getLsbD_not, hr, hw, hi]
  simp

/-- In a sealed device the reasons against a write of a register with an RWS field are odd: the bit of "sealed RWS" is set (02 R85). -/
theorem State.screen_reasons_rws {s : State} (h : s.sealed = true) {r : RegRow} (hr : r.rws ≠ 0) (a : Nat) (v : Word) :
    (s.screen r a v).reasons % 2 = 1 := by
  have hb : (r.rws != 0) = true := by simpa using hr
  simp only [State.screen, h, if_true, hb, b2n]
  omega

/-- Settles O32: each RWS bit is among those kept, and the first reason is the lowest bit of the reasons. -/
theorem sealedFieldsKeepTheirValues : Obligations.SealedFieldsKeepTheirValues := by
  unfold Obligations.SealedFieldsKeepTheirValues
  intro s r a v
  refine ⟨fun h => ⟨fun i hr hw => State.getLsbD_screen_rws h r a v hr hw, fun hr => ?_⟩, fun h => State.screen_unsealed h r a v⟩
  have hodd := State.screen_reasons_rws h hr a v
  exact ⟨by simp [firstReason, hodd], by omega⟩

/-! Words held for a multi-word write (00 R18). -/

/-- Ports do not share their places for one address (13 R520). -/
theorem portKey_inj {p q : Port} (a : Nat) (h : portKey p a = portKey q a) : p = q := by
  have hn : portNum p = portNum q := by unfold portKey at h; omega
  cases p <;> cases q <;> simp [portNum] at hn ⊢

@[simp] theorem State.setHeld_regs (s : State) (p : Port) (a : Nat) (w : Option Word) : (s.setHeld p a w).regs = s.regs := rfl

@[simp] theorem State.held_setHeld_self (s : State) (p : Port) (a : Nat) (w : Option Word) : (s.setHeld p a w).held p a = w := by
  simp [State.held, State.setHeld]

theorem State.held_setHeld_port {p q : Port} (h : q ≠ p) (s : State) (a : Nat) (w : Option Word) :
    (s.setHeld p a w).held q a = s.held q a :=
  Tab.get_set_ne _ _ _ fun hk => h (portKey_inj a hk)

/-- Storing a word is no matter of the held words. -/
@[simp] theorem State.held_storeWord (s : State) (r : RegRow) (a : Nat) (v : Word) (p : Port) (b : Nat) :
    (s.storeWord r a v).held p b = s.held p b := rfl
theorem State.storeWord_setHeld (s : State) (p : Port) (b : Nat) (w : Option Word) (r : RegRow) (a : Nat) (v : Word) :
    (s.setHeld p b w).storeWord r a v = (s.storeWord r a v).setHeld p b w := rfl
@[simp] theorem State.screen_setHeld (s : State) (p : Port) (b : Nat) (w : Option Word) (r : RegRow) (a : Nat) (v : Word) :
    (s.setHeld p b w).screen r a v = s.screen r a v := rfl

/-- The lower word of a two-word value is held for its port (00 R18). -/
theorem State.storeAt_lower {s : State} {p : Port} {lo : Nat} {h : RegHit} (v : Word) (hr : regHit? lo = some h)
    (hs : spanAt? spans lo = some (lo, 2)) (hw : h.row.stores lo ≠ 0) : s.storeAt p lo v = s.setHeld p lo (some v) := by
  simp only [State.storeAt, hr, hs, if_neg hw]
  simp

/-- The higher word of a two-word value commits what its port holds, and is stored (00 R18). -/
theorem State.storeAt_higher {s : State} {p : Port} {lo : Nat} {h : RegHit} (v : Word) (hr : regHit? (lo + 4) = some h)
    (hs : spanAt? spans (lo + 4) = some (lo, 2)) (hw : h.row.stores (lo + 4) ≠ 0) :
    s.storeAt p (lo + 4) v = (s.commitHeld p lo 1).storeWord h.row (lo + 4) v := by
  simp only [State.storeAt, hr, hs, if_neg hw]
  simp

/-- One word that a port holds takes effect, and one that it does not hold does not. -/
theorem State.commitHeld_one_some {s : State} {p : Port} {lo : Nat} {w : Word} {h : RegHit} (hh : s.held p lo = some w)
    (hr : regHit? lo = some h) :
    s.commitHeld p lo 1 = (s.storeWord h.row lo (s.screen h.row lo w).v).setHeld p lo none := by
  simp [State.commitHeld, hh, hr]
theorem State.commitHeld_one_none {s : State} {p : Port} {lo : Nat} (hh : s.held p lo = none) : s.commitHeld p lo 1 = s := by
  simp [State.commitHeld, hh]

/-- Settles O33: the lower word is held, and the higher one commits what its own port holds. -/
theorem heldWordsTakeEffectTogether : Obligations.HeldWordsTakeEffectTogether := by
  unfold Obligations.HeldWordsTakeEffectTogether
  intro s p q lo h0 h1 v0 v1 hr0 hr1 hs0 hs1 hw0 hw1
  rw [State.storeAt_lower v0 hr0 hs0 hw0]
  have hheld : (s.setHeld p lo (some v0)).held p lo = some v0 := State.held_setHeld_self ..
  rw [State.storeAt_higher v1 hr1 hs1 hw1, State.commitHeld_one_some hheld hr0]
  refine ⟨rfl, ?_, ?_, fun hq hn => ?_⟩
  · simp [State.storeWord_setHeld]
  · simp
  · have hnone : (s.setHeld p lo (some v0)).held q lo = none := (State.held_setHeld_port hq ..).trans hn
    rw [State.storeAt_higher v1 hr1 hs1 hw1, State.commitHeld_one_none hnone]
    rfl

/-! Words captured for a multi-word read (00 R17). -/

theorem State.cap_setCap (s : State) (p : Port) (a b : Nat) (w : Option Word) :
    (s.setCap p a w).cap p b = if b = a then w else s.cap p b := by
  simp [State.cap, State.setCap, Tab.get_set, portKey]

/-- A capture leaves the words below it as they were captured. -/
theorem State.cap_setCaps_below (p : Port) (l : List Word) :
    ∀ (s : State) (a b : Nat), b < a → (s.setCaps p a l).cap p b = s.cap p b := by
  induction l with
  | nil => intro s a b _; rfl
  | cons w r ih =>
    intro s a b h
    rw [State.setCaps, ih _ _ _ (by omega), State.cap_setCap, if_neg (by omega)]

/-- Words captured at consecutive addresses read as captured. -/
theorem State.cap_setCaps (p : Port) (l : List Word) :
    ∀ (s : State) (a i : Nat) (h : i < l.length), (s.setCaps p a l).cap p (a + 4 * i) = some l[i] := by
  induction l with
  | nil => intro s a i h; simp at h
  | cons w r ih =>
    intro s a i h
    cases i with
    | zero => rw [State.setCaps, State.cap_setCaps_below _ _ _ _ _ (by omega), State.cap_setCap, if_pos (by omega)]; rfl
    | succ j =>
      have hj : a + 4 * (j + 1) = a + 4 + 4 * j := by omega
      rw [State.setCaps, hj, ih _ _ j (by simpa using h)]
      rfl

/-- Capturing changes nothing but captures. -/
theorem State.setCaps_caps (p : Port) (l : List Word) : ∀ (s : State) (a : Nat), s.setCaps p a l =
    { s with port := { s.port with caps := (s.setCaps p a l).port.caps } } := by
  induction l with
  | nil => intro s a; rfl
  | cons w r ih => intro s a; exact ih (s.setCap p a (some w)) (a + 4)

/-- A read of the lowest word of a value captures every word of it (00 R17). -/
theorem plainRead_lowest {lo n : Nat} (h : spanAt? spans lo = some (lo, n)) (p : Port) (s : State) :
    plainRead p lo s = (s.live lo, s.setCaps p lo ((List.range n).map fun i => s.live (lo + 4 * i))) := by
  simp [plainRead, h, spanRead]

/-- A read of a higher word gives the word captured, and the present one where none is (00 R17). -/
theorem plainRead_higher {a lo n : Nat} (h : spanAt? spans a = some (lo, n)) (hne : a ≠ lo) (p : Port) (s : State) :
    plainRead p a s = (s.captured p a, s) := by
  simp [plainRead, h, hne]

/-- Settles O34: what a port has captured depends on its captures alone. -/
theorem capturedWordsStayTogether : Obligations.CapturedWordsStayTogether := by
  unfold Obligations.CapturedWordsStayTogether
  intro s w p q lo n i hlo h0 hn _ hi hw
  have hne : lo + 4 * i ≠ lo := by omega
  rw [plainRead_lowest hlo] at hw ⊢
  rw [plainRead_higher hi hne, plainRead_higher hi hne]
  refine ⟨rfl, State.setCaps_caps p _ s lo, ?_, fun hq => ?_⟩
  · have hcap : w.cap p (lo + 4 * i) = some (s.live (lo + 4 * i)) := by
      have hlen : i < ((List.range n).map fun i => s.live (lo + 4 * i)).length := by simpa using hn
      calc w.cap p (lo + 4 * i) = (s.setCaps p lo ((List.range n).map fun i => s.live (lo + 4 * i))).cap p (lo + 4 * i) := by
            rw [State.cap, hw]; rfl
        _ = some (s.live (lo + 4 * i)) := by rw [State.cap_setCaps p _ s lo i hlen]; simp
    simp [State.captured, hcap]
  · simp [State.captured, hq]

end Sys2Proof.Machine
end

section
/-!
PROOFS. The clears of counters (00 R21): a write of a command register stores nothing, and what the command does is all that happens.
-/
namespace Sys2Proof.Machine

/-- The register at `a` is a command: a write of it stores no bit and clears none (00 R13). A closed question of numerals, as
`plainReg` is. -/
def commandReg (a : Nat) : Bool :=
  plainReg a && match regHit? a, spanAt? spans a with
  | some h, none => h.row.stores a == 0 && h.row.w1c == 0
  | _, _ => false

theorem commandReg_plain {a : Nat} (h : commandReg a = true) : plainReg a = true := by
  simp only [commandReg, Bool.and_eq_true] at h
  exact h.1

/-- The default effect of a write of a command register: every register reads as before, and nothing else changes. -/
theorem State.storeAt_commandReg {a : Nat} (h : commandReg a = true) (s : State) (p : Port) (v : Word) :
    (∀ b, (s.storeAt p a v).reg b = s.reg b) ∧ s.storeAt p a v = { s with regs := (s.storeAt p a v).regs } := by
  simp only [commandReg, Bool.and_eq_true] at h
  obtain ⟨_, h⟩ := h
  cases hr : regHit? a with
  | none => simp [hr] at h
  | some r =>
    cases hs : spanAt? spans a with
    | some q => simp [hr, hs] at h
    | none =>
      simp only [hr, hs, Bool.and_eq_true, beq_iff_eq] at h
      obtain ⟨hm, hw⟩ := h
      have hst : s.storeAt p a v = s.storeWord r.row a v := by simp [State.storeAt, hr, hs]
      rw [hst]
      refine ⟨fun b => ?_, rfl⟩
      by_cases hb : b = a
      · subst hb
        refine BitVec.eq_of_getLsbD_eq fun i _ => ?_
        rw [State.getLsbD_storeWord_unstored s r.row b v (by simp [hm]), hw]
        simp
      · exact State.reg_setReg_ne _ _ hb

/-- A command that clears the counters of a list: it is answered with success, they read 0, and every other register and the store
stay. -/
theorem State.writeCmd_clears {s : State} {p : Port} {a : Nat} {v : Word} {act : Word → State → State} {l : List Nat} (el : Nat)
    (hc : commandReg a = true) (h : s.Takes p a) (hact : ∀ t : State, act v t = t.clearRegs l) :
    ∃ u, (Host.Outcome.next ((s.begin el).writeCmd p a v act) : Host.Outcome State Fault Refusal) = .next u ∧
      u.out = [.wrote p a 0] ∧ (∀ b ∈ l, u.reg b = 0) ∧ s.RegsBut u l ∧ s.SameStore u := by
  obtain ⟨hreg, hrest⟩ := State.storeAt_commandReg hc (s.begin el) p v
  have hwrite := State.writeCmd_plain v act (State.takes_begin h el) (commandReg_plain hc)
  rw [hact] at hwrite
  refine ⟨_, congrArg _ hwrite, ?_, fun b hb => ?_, fun b hb => ?_, fun b => ?_⟩
  · rw [State.send_out, State.clearRegs_regs, hrest]; rfl
  · simp [State.reg_clearRegs, hb]
  · simp [State.reg_clearRegs, hb, hreg]
  · rw [State.send_storeByte, State.clearRegs_regs, hrest]; rfl

/-- The command registers of lane tiles, motion tiles and CAN controllers (06 Table 8, 08 Table 5, 12 Table 3). -/
theorem commandReg_tile (t : Fin 20) : commandReg (R.TILE_CMD t) = true := by revert t; decide +kernel
theorem commandReg_mot (t : Fin 2) : commandReg (R.MOT_CMD t) = true := by revert t; decide +kernel
theorem commandReg_can (c : Fin 4) : commandReg (R.CAN_CMD c) = true := by revert c; decide +kernel

/-- CLEAR_CNT acts independently of the state commands, and alone it brings none (02 R103). -/
theorem ldrCtrl_clearCnt (s : State) : ldrCtrl 32 s =
    s.clearRegs [R.LDR_RESEARCH, R.LDR_DEFER, R.LDR_REFUSE_CNT, R.LDR_HANDOVER_REFUSED] := by
  have hc : ((List.range 4).filter fun i => (32 : Word).getLsbD i) = [] := by decide
  simp only [ldrCtrl, hc]
  simp

/-- CNT_CLEAR of device time reaches two counters and the COUNT fields of both time pulses (11 Table 12). -/
theorem dtCmd_cntClear (s : State) : dtCmd 1 s =
    ((s.clearRegs [R.DT_STEP_CNT, R.DT_SRC_LOSS_CNT]).setFld (R.DT_TP_SEQ 0) 0 31 0).setFld (R.DT_TP_SEQ 1) 0 31 0 := by
  simp [dtCmd]

/-- What CNT_CLEAR of device time leaves in the register at `a`. -/
theorem reg_dtCmd_cntClear (s : State) (a : Nat) : (dtCmd 1 s).reg a =
    if a = R.DT_TP_SEQ 0 ∨ a = R.DT_TP_SEQ 1 then Machine.setFld (s.reg a) 0 31 0
    else if a = R.DT_STEP_CNT ∨ a = R.DT_SRC_LOSS_CNT then 0
    else s.reg a := by
  have hd : R.DT_TP_SEQ 1 ≠ R.DT_TP_SEQ 0 ∧ R.DT_TP_SEQ 1 ∉ [R.DT_STEP_CNT, R.DT_SRC_LOSS_CNT] ∧
      R.DT_TP_SEQ 0 ∉ [R.DT_STEP_CNT, R.DT_SRC_LOSS_CNT] := by decide
  obtain ⟨h10, h1, h0⟩ := hd
  rw [dtCmd_cntClear, State.reg_setFld, State.reg_setFld, State.reg_setFld, State.reg_clearRegs, State.reg_clearRegs,
    State.reg_clearRegs, if_neg h10, if_neg h1, if_neg h0]
  by_cases ha1 : a = R.DT_TP_SEQ 1
  · subst ha1; simp
  · by_cases ha0 : a = R.DT_TP_SEQ 0
    · subst ha0; simp
    · simp [ha0, ha1]

/-- A bit above a field keeps its value where the field is written. -/
theorem getLsbD_setFld_above (w : Word) {lo wid j : Nat} (v : Nat) (h : lo + wid ≤ 32) (hj : lo + wid ≤ j) :
    (setFld w lo wid v).getLsbD j = w.getLsbD j := by
  by_cases h32 : j < 32
  · have h1 : ¬ j < lo + wid := by omega
    have h2 : ¬ j - lo < wid := by omega
    simp only [Machine.setFld, BitVec.getLsbD_or, BitVec.getLsbD_and, BitVec.getLsbD_not, getLsbD_fldMask _ _ _ h,
      BitVec.getLsbD_shiftLeft, BitVec.getLsbD_setWidth, BitVec.getLsbD_ofNat, h1, h2, h32]
    simp
  · simp [BitVec.getLsbD_of_ge _ j (Nat.le_of_not_lt h32)]

/-- DT_CNT_CLEAR: STEP of a time pulse is no counter and stays (11 R470). -/
theorem dtCntClear_clears {s : State} {p : Port} (el : Nat) (h : s.Takes p R.DT_CMD) :
    ∃ u, exec (.dtCntClear el p) s = .next u ∧ u.out = [.wrote p R.DT_CMD 0] ∧
      u.reg R.DT_STEP_CNT = 0 ∧ u.reg R.DT_SRC_LOSS_CNT = 0 ∧ (∀ i : Fin 2, u.rfld (R.DT_TP_SEQ i) 0 31 = 0 ∧
        u.rbit (R.DT_TP_SEQ i) 31 = s.rbit (R.DT_TP_SEQ i) 31) ∧
      s.RegsBut u [R.DT_STEP_CNT, R.DT_SRC_LOSS_CNT, R.DT_TP_SEQ 0, R.DT_TP_SEQ 1] ∧ s.SameStore u := by
  have hc : commandReg R.DT_CMD = true := by decide +kernel
  obtain ⟨hreg, hrest⟩ := State.storeAt_commandReg hc (s.begin el) p 1
  have hseq (i : Fin 2) : R.DT_TP_SEQ i = R.DT_TP_SEQ 0 ∨ R.DT_TP_SEQ i = R.DT_TP_SEQ 1 := by revert i; decide
  have hcnt : ∀ a ∈ [R.DT_STEP_CNT, R.DT_SRC_LOSS_CNT], ¬ (a = R.DT_TP_SEQ 0 ∨ a = R.DT_TP_SEQ 1) := by decide
  have hexec : exec (.dtCntClear el p) s = .next ((dtCmd 1 ((s.begin el).storeAt p R.DT_CMD 1)).send (.wrote p R.DT_CMD 0)) :=
    congrArg Host.Outcome.next (State.writeCmd_plain 1 dtCmd (State.takes_begin h el) (commandReg_plain hc))
  refine ⟨_, hexec, ?_, ?_, ?_, fun i => ⟨?_, ?_⟩,
    fun b hb => ?_, fun b => ?_⟩
  · rw [State.send_out, dtCmd_cntClear, State.setFld_out, State.setFld_out, State.clearRegs_regs, hrest]; rfl
  · rw [State.send_reg, reg_dtCmd_cntClear, if_neg (hcnt _ (by simp)), if_pos (.inl rfl)]
  · rw [State.send_reg, reg_dtCmd_cntClear, if_neg (hcnt _ (by simp)), if_pos (.inr rfl)]
  · rw [State.send_rfld, State.rfld, reg_dtCmd_cntClear, if_pos (hseq i), fld_setFld _ _ _ _ (by decide)]; rfl
  · rw [State.send_rbit, State.rbit, reg_dtCmd_cntClear, if_pos (hseq i), getLsbD_setFld_above _ _ (by decide) (by decide), hreg]
    rfl
  · simp only [List.mem_cons, List.not_mem_nil, or_false, not_or] at hb
    obtain ⟨hstep, hloss, h0, h1⟩ := hb
    rw [State.send_reg, reg_dtCmd_cntClear, if_neg (not_or.2 ⟨h0, h1⟩), if_neg (not_or.2 ⟨hstep, hloss⟩), hreg]
    rfl
  · rw [State.send_storeByte, dtCmd_cntClear, State.clearRegs_regs, hrest]; rfl

/-- Settles O35: every clear but that of device time is `clearRegs` of its list. -/
theorem clearsReachTheirCounters : Obligations.ClearsReachTheirCounters := by
  unfold Obligations.ClearsReachTheirCounters
  refine ⟨?_, ?_, ?_, ?_, ?_, ?_, ?_, ?_, ?_, ?_, ?_, ?_, ?_, fun el p s h => dtCntClear_clears el h⟩
  · exact fun el p t s h => State.writeCmd_clears el (commandReg_tile t) h fun u => by simp [tileCmd]
  · exact fun el p s h => State.writeCmd_clears el (by decide +kernel) h fun u => by simp [intakeClear]
  · exact fun el p s h => State.writeCmd_clears el (by decide +kernel) h fun u => by simp [stitchCmd]
  · exact fun el p s h => State.writeCmd_clears el (by decide +kernel) h fun u => by simp [gndCmd]
  · exact fun el p t s h => State.writeCmd_clears el (commandReg_mot t) h fun u => by simp [motCmd]
  · exact fun el p s h => State.writeCmd_clears el (by decide +kernel) h fun u => by simp [fbCmd]
  · exact fun el p s h => State.writeCmd_clears el (by decide +kernel) h fun u => by simp [gnssCmd]
  · exact fun el p c s h => State.writeCmd_clears el (commandReg_can c) h fun u => by simp [canCmd]
  · exact fun el p s h => State.writeCmd_clears el (by decide +kernel) h fun u => by simp [sysCntClear]
  · exact fun el p s h => State.writeCmd_clears el (by decide +kernel) h fun u => by simp [clkCmd]
  · exact fun el p s h => State.writeCmd_clears el (by decide +kernel) h ldrCtrl_clearCnt
  · exact fun el p s h => State.writeCmd_clears el (by decide +kernel) h fun u => by simp [mssCmd]
  · exact fun el p s h => State.writeCmd_clears el (by decide +kernel) h fun u => by simp [recCmd]

end Sys2Proof.Machine
end

section
/-!
PROOFS. The rows of the host ports (13 R519–R546): register accesses, Ethernet, QSPI and USB.
-/
namespace Sys2Proof.Machine

/-- A QSPI transaction whose command byte is that of its row (13 R535). -/
theorem State.qRow_takes {s : State} (h : s.Runs 37) {code : Nat} {cmd : Byte} (hc : cmd.toNat = code) (act : State → State) :
    s.qRow code cmd act = act s := by
  rw [State.qRow, State.onIsland_runs h, if_pos hc]

/-- The service device once it has taken a block of the command `cmd`: configured, not suspended, and the last command shown (13
R540, Table 10). -/
def State.usbTaken (s : State) (cmd : Nat) : State :=
  ((((s.setBit R.USB_STAT 30 true).setBit R.USB_STAT 29 false).trimShow).setFld R.USB_STAT 0 8 cmd).updSec fun q =>
    { q with blkAt := s.now }

/-- A well-formed block of its own row carries its command out, where the MSS serves it (13 R540, R541, R543). -/
theorem State.usbRow_takes {s v : State} {code : Nat} {b : UsbBlk} (h : s.Runs 37) (hg : s.gateOn 11 = true)
    (ha : s.rbit R.USB_STAT 31 = true) (hm : b.magic = 0x5A50) (hc : b.cmd.toNat = code) (hk : usbKnown code = true)
    (hl : usbLenOk code b.len.toNat = true) (hw : s.port.usbWait = none) (hv : v = s.usbTaken code)
    (hs : code < 0x10 ∨ v.usbServed b = true) (act : State → UsbEnd) : s.usbRow code b act = (act v).finish b := by
  have hserve : ¬ (0x10 ≤ code ∧ (!v.usbServed b) = true) := by
    rcases hs with hs | hs
    · omega
    · simp [hs]
  have hbad : (b.magic != 0x5A50 || !usbKnown code || !usbLenOk code b.len.toNat) = false := by simp [hm, hk, hl]
  have hfree : (!s.gateOn 11 || !s.rbit R.USB_STAT 31 || s.port.usbWait.isSome) = false := by simp [hg, ha, hw]
  subst hv
  rw [State.usbRow, State.onIsland_runs h]
  simp only [hc, hbad, hfree, Bool.not_false, Bool.true_and, bne_self_eq_false, Bool.false_eq_true, if_false]
  exact if_neg hserve

/-- Settles O13: under its conditions each row runs through the branch that its rule names. -/
theorem portRowsComplete : Obligations.PortRowsComplete := by
  unfold Obligations.PortRowsComplete
  refine ⟨?registerWrite, ?read, ?portCntClear, ?request, ?notify, ?pause, ?link, ?qread, ?qreadFixed, ?qwrite, ?qwriteFixed,
    ?qrmw, ?getStatus, ?attach, ?detach, ?getInfo, ?regRead, ?regWrite, ?stageWrite, ?stageCommit, ?recorderRead, ?attest,
    ?getReport, ?sessionOut, ?sessionIn⟩
  case registerWrite =>
    rintro el p a v e s u rfl hp
    exact congrArg Host.Outcome.next (State.atPort_runs (s := s.begin el) hp _ _)
  case read =>
    rintro el p a x s u rfl hg
    exact congrArg Host.Outcome.next (State.readCmd_gives _ (State.gives_begin hg el))
  case portCntClear =>
    rintro el p s u rfl ht
    exact congrArg Host.Outcome.next (State.writeCmd_plain 1 portCmd (State.takes_begin ht el) (by decide +kernel))
  case request =>
    rintro el f run envs b t v s u rfl hb rfl hsub hlen rfl hw hc
    change execRegAccessRequest el f run envs s = _
    simp only [execRegAccessRequest, hb, hsub, ne_eq, not_true_eq_false, if_false, if_neg (Nat.not_le.2 hlen), hw, hc,
      Bool.and_self, if_true]
  case notify =>
    rintro el t v s u rfl ht hen hne hat hfree hsent hv
    have hsend : t.ethSend .eth1 (t.reg (R.ETH_PEER_LO 1)) (t.reg (R.ETH_PEER_HI 1)) 0x5A31
        (t.notification ((t.eth .eth1).nseq + 1)) = (true, v) := Prod.ext hsent hv.symm
    change execNotifyTx el s = _
    simp only [execNotifyTx, ← ht, hen, hat, hfree, bne_iff_ne.2 hne, Bool.and_self, if_true, hsend]
  case pause =>
    rintro el e f s u rfl hf
    exact congrArg Host.Outcome.next (if_pos hf)
  case link =>
    rintro el e linkUp aneg speed s u rfl hr hc hl
    have hl' : ((s.begin el).rbit (R.ETH_CTRL (ethNum e)) 0 || !linkUp) = true := by simpa using hl
    change execEthLinkChange el e linkUp aneg speed s = _
    simp only [execEthLinkChange, State.onIsland_runs (State.runs_begin hr el), hc, hl', Bool.and_self, if_true]
  case qread =>
    rintro el cmd x a n s u rfl hr rfl
    exact congrArg Host.Outcome.next (State.qRow_takes (State.runs_begin hr el) rfl _)
  case qreadFixed =>
    rintro el cmd x a n s u rfl hr rfl
    exact congrArg Host.Outcome.next (State.qRow_takes (State.runs_begin hr el) rfl _)
  case qwrite =>
    rintro el cmd a b pace envs s u rfl hr rfl
    exact congrArg Host.Outcome.next (State.qRow_takes (State.runs_begin hr el) rfl _)
  case qwriteFixed =>
    rintro el cmd a b pace envs s u rfl hr rfl
    exact congrArg Host.Outcome.next (State.qRow_takes (State.runs_begin hr el) rfl _)
  case qrmw =>
    rintro el cmd x a m v check e t r s u rfl hr rfl rfl hcrc rfl
    refine (congrArg Host.Outcome.next (State.qRow_takes (State.runs_begin hr el) (cmd := 0x35) rfl _)).trans ?_
    simp only [hcrc, Bool.false_and, Bool.false_eq_true, if_false]
  case getStatus =>
    rintro el cmd s u rfl hr rfl
    exact congrArg Host.Outcome.next (State.qRow_takes (State.runs_begin hr el) rfl _)
  case attach =>
    rintro el s u rfl hr ha
    change execUsbAttach el s = _
    simp only [execUsbAttach, State.onIsland_runs (State.runs_begin hr el), ha, Bool.false_eq_true, if_false]
  case detach =>
    rintro el busReset v s u rfl hr ha rfl
    change execUsbDetach el busReset s = _
    simp only [execUsbDetach, State.onIsland_runs (State.runs_begin hr el), ha, if_true]
  case getInfo =>
    rintro el b v s u rfl hr hg ha hm hc hl hw hv
    exact congrArg Host.Outcome.next (State.usbRow_takes (State.runs_begin hr el) hg ha hm (by rw [hc]; rfl) rfl hl hw hv
      (.inl (by decide)) _)
  case regRead =>
    rintro el b x r v s u rfl hr hg ha hm hc hl hw hv rfl
    exact congrArg Host.Outcome.next (State.usbRow_takes (State.runs_begin hr el) hg ha hm (by rw [hc]; rfl) rfl hl hw hv
      (.inl (by decide)) _)
  case regWrite =>
    rintro el b data envs r v s u rfl hr hg ha hm hc hl hw hv hmay rfl
    change execRegWrite el b data envs s = _
    rw [execRegWrite, State.usbRow_takes (State.runs_begin hr el) hg ha hm (by rw [hc]; rfl) rfl hl hw hv (.inl (by decide)),
      if_pos hmay]
  case stageWrite =>
    rintro el b data a size v s u rfl hr hg ha hm hc hl hw hv hs hmay htg hoff hat hsize
    change execStageWrite el b data s = _
    rw [execStageWrite, State.usbRow_takes (State.runs_begin hr el) hg ha hm (by rw [hc]; rfl) rfl hl hw hv (.inr hs)]
    rw [htg] at hmay
    simp [htg, hmay, hoff, hat, Nat.not_lt.2 hsize]
  case stageCommit =>
    rintro el b c k v s u rfl hr hg ha hm hc hl hw hv hs hmay htg hbusy hslot
    change execStageCommit el b c s = _
    rw [execStageCommit, State.usbRow_takes (State.runs_begin hr el) hg ha hm (by rw [hc]; rfl) rfl hl hw hv (.inr hs)]
    rw [htg] at hmay
    simp [htg, hmay, hbusy, hslot]
  case recorderRead =>
    rintro el b x n w v s u rfl hr hg ha hm hc hl hw hv hs hopen rfl hn rfl
    change execRecorderRead _ b s = _
    rw [execRecorderRead, State.usbRow_takes (State.runs_begin hr el) hg ha hm (by rw [hc]; rfl) rfl hl hw hv (.inr hs)]
    simp [hopen, Nat.not_lt.2 hn]
  case attest =>
    rintro el b nonce out v s u rfl hr hg ha hm hc hl hw hv hs hid
    change execUsbAttest el b nonce out s = _
    rw [execUsbAttest, State.usbRow_takes (State.runs_begin hr el) hg ha hm (by rw [hc]; rfl) rfl hl hw hv (.inr hs)]
    simp [hid]
  case getReport =>
    rintro el b v s u rfl hr hg ha hm hc hl hw hv hs
    exact congrArg Host.Outcome.next (State.usbRow_takes (State.runs_begin hr el) hg ha hm (by rw [hc]; rfl) rfl hl hw hv
      (.inr hs) _)
  case sessionOut =>
    rintro el mg cmd rsv tag len par x b v s u rfl hr rfl hg ha hm hc hl hw hv hs
    exact congrArg Host.Outcome.next (State.usbRow_takes (State.runs_begin hr el) hg ha hm (by rw [hc]; rfl) rfl hl hw hv
      (.inr hs) _)
  case sessionIn =>
    rintro el b v s u rfl hr hg ha hm hc hl hw hv hs
    exact congrArg Host.Outcome.next (State.usbRow_takes (State.runs_begin hr el) hg ha hm (by rw [hc]; rfl) rfl hl hw hv
      (.inr hs) _)

end Sys2Proof.Machine
end

section
/-!
PROOFS. Accesses outside the map and to an isolated island (01 R41, R53).
-/
namespace Sys2Proof.Machine

/-- A failure outside the map leaves what one below the store window leaves: the window guard does not count it (15 R603). -/
theorem State.accessFail_outsideMap {s : State} {p : Port} {a code : Nat} (ht : code ≠ errTimeout) (hb : code ≠ errBusy)
    (hm : inMap a = false) : s.accessFail p a code =
      { s.portFail p a code with sys := { s.sys with failingAcc := s.sys.failingAcc.erase (p, a) } } := by
  have ht' : (code == errTimeout) = false := by simpa using ht
  have hb' : (code == errBusy) = false := by simpa using hb
  simp only [State.accessFail, hm, ht', hb', Bool.false_and, Bool.and_false, State.when_false]
  rfl

/-- What a failed access leaves in the failure registers of its port, and in every other register (13 R521). -/
theorem State.portFail_failRegs (s : State) (p : Port) (a code : Nat) :
    s.RegsBut (s.portFail p a code)
      [R.PORT_ERR_ADDR (portNum p), R.PORT_ERR_INFO (portNum p), R.PORT_ERR_CNT (portNum p), R.PORT_IRQ_STAT] ∧
    (s.portFail p a code).reg (R.PORT_ERR_ADDR (portNum p)) = wordN a ∧
    (s.portFail p a code).reg (R.PORT_ERR_INFO (portNum p)) = wordN code ∧
    (s.portFail p a code).reg (R.PORT_ERR_CNT (portNum p)) =
      wordN (satN 32 ((s.reg (R.PORT_ERR_CNT (portNum p))).toNat + 1)) ∧
    (s.portFail p a code).reg R.PORT_IRQ_STAT = s.reg R.PORT_IRQ_STAT ||| bit 7 := by
  have hd := failRegs_distinct p
  simp only [List.nodup_cons, List.mem_cons, List.not_mem_nil, or_false, not_or] at hd
  obtain ⟨⟨hic, hii, hia⟩, -⟩ := hd
  refine ⟨fun b hb => ?_, ?_, ?_, ?_, ?_⟩
  · simp only [List.mem_cons, List.not_mem_nil, or_false, not_or] at hb
    simp [State.reg_portFail, hb]
  · simp [State.reg_portFail, Ne.symm hia]
  · simp [State.reg_portFail, Ne.symm hii]
  · simp [State.reg_portFail, Ne.symm hic]
  · simp [State.reg_portFail]

/-- An address outside the map is an address error, aligned or not (R53; 00 R11). -/
theorem State.accessErr_outsideMap {a : Nat} (hm : inMap a = false) (s : State) (p : Port) (w : Bool) :
    s.accessErr p a w = errAddress := by
  simp [State.accessErr, hm]

/-- What an access outside the map leaves. -/
theorem State.refused_outsideMap {a : Nat} (hm : inMap a = false) (s : State) (el : Nat) (p : Port) (o : Out) :
    s.Refused (((s.begin el).accessFail p a errAddress).send o) el p a errAddress o := by
  have hfail := State.accessFail_outsideMap (s := s.begin el) (p := p) (code := errAddress) (by decide) (by decide) hm
  have hreg (b : Nat) : (((s.begin el).accessFail p a errAddress).send o).reg b = ((s.begin el).portFail p a errAddress).reg b := by
    rw [hfail]; rfl
  obtain ⟨hbut, haddr, hinfo, hcnt, hirq⟩ := (s.begin el).portFail_failRegs p a errAddress
  exact ⟨by rw [hfail]; rfl, fun b hb => (hreg b).trans (hbut b hb), (hreg _).trans haddr, (hreg _).trans hinfo,
    (hreg _).trans hcnt, (hreg _).trans hirq⟩

/-- Settles O25: the map is checked right after alignment, and both checks answer with the address error. -/
theorem accessOutsideTheMap : Obligations.AccessOutsideTheMap := by
  unfold Obligations.AccessOutsideTheMap
  intro el p a v e x s hu hm
  have he (w : Bool) : s.accessErr p a w = errAddress := State.accessErr_outsideMap hm s p w
  have hne (w : Bool) : s.accessErr p a w ≠ 0 := by rw [he w]; decide
  refine ⟨⟨_, execRegisterWrite_refused el v e hu (hne true), ?_⟩, ⟨_, execMultiwordCaptureRead_refused el x hu (hne false), ?_⟩⟩
  · rw [he true]; exact State.refused_outsideMap hm s el p _
  · rw [he false]; exact State.refused_outsideMap hm s el p _

/-- A block of an isolated island refuses what the map and the configuration let pass (R41). -/
theorem State.accessErr_isolated {s : State} {p : Port} {a : Nat} (h4 : a % 4 = 0) (hm : inMap a = true) (hc : s.Answers p a)
    (hu : s.up (islandOf a) = false) (w : Bool) : s.accessErr p a w = errIslandDown := by
  have hcfg : ((!s.imageOk || (p == .eth1 && s.rbit R.SEC_SESS_STAT 16)) && !answersUnconfigured a) = false := by
    rcases hc with ⟨hi, he⟩ | hc
    · have : (p == .eth1 && s.rbit R.SEC_SESS_STAT 16) = false := by simpa using he
      simp [hi, this]
    · simp [hc]
  simp [State.accessErr, h4, hm, hcfg, hu]

/-- Settles O27: of the checks that an isolated island meets, those before it pass. -/
theorem accessToAnIsolatedBlock : Obligations.AccessToAnIsolatedBlock := by
  unfold Obligations.AccessToAnIsolatedBlock
  intro el p a v e x s hu h4 hm ha hc hup
  have he (w : Bool) : s.accessErr p a w = errIslandDown := State.accessErr_isolated h4 hm hc hup w
  exact ⟨refused_registerWrite el v e hu (he true) (by decide) (by decide) (by decide) (.inl ha),
    refused_multiwordCaptureRead el x hu (he false) (by decide) (by decide) (by decide) (.inl ha)⟩

end Sys2Proof.Machine
end

section
/-!
PROOFS. A restart bit of an island that works (01 R58), and the slew of an island's copy of DT (01 R42).
-/
namespace Sys2Proof.Machine

/-! Writes of a device that is not sealed, which a register's own rules may refuse. -/

/-- The word reaches a plain register of an unsealed device as it was sent. -/
theorem State.screen_plain {s : State} {a : Nat} (hs : s.sealed = false) (hp : plainReg a = true) (v : Word) :
    ∃ r, regHit? a = some r ∧ s.screen r.row a v = ⟨v, 0⟩ := by
  unfold plainReg at hp
  cases hr : regHit? a with
  | none => simp [hr] at hp
  | some r =>
    refine ⟨r, rfl, ?_⟩
    cases hb : blockAt? regBlocks a with
    | none => simp [State.screen, hs, hb]
    | some b =>
      simp only [hr, hb, Bool.not_eq_true'] at hp
      simp [State.screen, hs, hb, extHi, hp]

/-- A write that passes every check is answered with the code of its register's own rules, and is a failed access where they
refuse it. -/
theorem State.hostWrite_plain {s : State} {p : Port} {a : Nat} (v : Word) (act : WriteAct) (h : s.Takes p a)
    (hp : plainReg a = true) : s.hostWrite p a v act =
      ((act v s).1, (act v s).2.when ((act v s).1 != 0) fun t => t.portFail p a (act v s).1) := by
  obtain ⟨-, he, hseal⟩ := h
  obtain ⟨r, hr, hs⟩ := State.screen_plain hseal hp v
  by_cases hc : (act v s).1 = 0 <;> simp [State.hostWrite, he, hr, hs, hc]

/-- ISLAND_RESTART through a port whose write passes every check (R40). -/
theorem execIslandRestart_takes {el : Nat} {p : Port} {hi : Bool} {a : Nat} {s : State} (v : Word)
    (ha : a = if hi then R.SYS_ISLAND_RESTART1 else R.SYS_ISLAND_RESTART0) (ht : s.Takes p a) {code : Nat}
    (hc : (restartWrite hi v (s.begin el)).1 = code) : exec (.islandRestart el p hi v) s =
      .next (((restartWrite hi v (s.begin el)).2.when (code != 0) fun t => t.portFail p a code).send (.wrote p a code)) := by
  have hp : plainReg a = true := by subst ha; cases hi <;> decide +kernel
  change execIslandRestart el p hi v s = _
  simp only [execIslandRestart, ← ha, State.atPort_runs (s := s.begin el) ht.1,
    State.hostWrite_plain v (restartWrite hi) (State.takes_begin ht el) hp, hc]

/-! Restart requests (01 R40, R58, R59). -/

/-- The islands that a word written to SYS_ISLAND_RESTART0 or 1 names. -/
def restartBits (hi : Bool) (w : Word) : List Nat :=
  let bits := (List.range 32).filterMap fun i => if w.getLsbD i then some (i + if hi then 32 else 0) else none
  if hi then bits.filter fun i => decide (i < 39) else bits

/-- A host may ask for the restart of island `i`: a restartable island that is isolated. -/
def State.mayRestart (s : State) (i : Nat) : Bool := decide (i < 37) && !s.up i

/-- The request for the restart of island `i`, taken where `may` allows it and none is on its way. -/
def State.askRestart (may : Nat → Bool) (i : Nat) (t : State) : State :=
  if may i && t.restartOf i == .none then t.setRestart i .held else t

theorem restartWrite_eq (hi : Bool) (w : Word) (s : State) : restartWrite hi w s =
    (if (restartBits hi w).all s.mayRestart then 0 else errAddress, forL (State.askRestart s.mayRestart) (restartBits hi w) s) :=
  rfl

/-- Island `i` is among those that a word with its bit names. -/
theorem mem_restartBits {hi : Bool} {w : Word} {i : Nat} (h39 : i < 39) (hi' : hi = true ↔ 32 ≤ i)
    (hw : w.getLsbD (i % 32) = true) : i ∈ restartBits hi w := by
  cases hi with
  | false =>
    have hlt : i < 32 := by simpa using hi'
    rw [Nat.mod_eq_of_lt hlt] at hw
    simp [restartBits, hw, hlt]
  | true =>
    have hge : 32 ≤ i := by simpa using hi'
    have hmod : i % 32 = i - 32 := by omega
    rw [hmod] at hw
    simp only [restartBits, if_true, List.mem_filter, List.mem_filterMap, List.mem_range, decide_eq_true_eq]
    exact ⟨⟨i - 32, by omega, by simp [hw]; omega⟩, h39⟩

/-- The restart of one island is no matter of another. -/
theorem State.restartOf_setRestart_ne (s : State) {i j : Nat} (x : RestartPhase) (h : i ≠ j) :
    (s.setRestart j x).restartOf i = s.restartOf i := by
  simp [State.restartOf, State.setRestart, State.updSys, Tab.get_set_ne, h]

/-- Requests for restarts change nothing but the restarts that are on their way. -/
theorem State.askRestarts_restart (may : Nat → Bool) (l : List Nat) : ∀ s : State, forL (State.askRestart may) l s =
    { s with sys := { s.sys with restart := (forL (State.askRestart may) l s).sys.restart } } := by
  induction l with
  | nil => intro s; rfl
  | cons j r ih =>
    intro s
    rw [forL, ih, State.askRestart]
    split <;> rfl

/-- An island that may not be restarted is not asked to restart. -/
theorem State.restartOf_askRestarts {may : Nat → Bool} {i : Nat} (h : may i = false) (l : List Nat) :
    ∀ s : State, (forL (State.askRestart may) l s).restartOf i = s.restartOf i := by
  induction l with
  | nil => intro s; rfl
  | cons j r ih =>
    intro s
    rw [forL, ih, State.askRestart]
    by_cases hj : i = j
    · simp [← hj, h]
    · split
      · exact s.restartOf_setRestart_ne .held hj
      · rfl

/-- The bit of an island that is up makes a write of the restart registers an address error (R58). -/
theorem restartWrite_refused {hi : Bool} {w : Word} {i : Nat} {s : State} (h : i ∈ restartBits hi w) (hu : s.up i = true) :
    (restartWrite hi w s).1 = errAddress := by
  have hall : (restartBits hi w).all s.mayRestart = false := List.all_eq_false.2 ⟨i, h, by simp [State.mayRestart, hu]⟩
  simp [restartWrite_eq, hall]

/-- Which islands are up is no matter of the failure registers of a port. -/
theorem State.up_portFail (s : State) (p : Port) (a code i : Nat) : (s.portFail p a code).up i = s.up i := by
  obtain ⟨hbut, -⟩ := s.portFail_failRegs p a code
  have h0 : (s.portFail p a code).reg R.SYS_ISLAND_UP0 = s.reg R.SYS_ISLAND_UP0 := hbut _ (by cases p <;> decide)
  have h1 : (s.portFail p a code).reg R.SYS_ISLAND_UP1 = s.reg R.SYS_ISLAND_UP1 := hbut _ (by cases p <;> decide)
  simp only [State.up, State.rbit, h0, h1]
  rfl

/-- Settles O36: the bit is among those of the word, its island may not be restarted, and the other bits reach other islands. -/
theorem restartOfAWorkingIsland : Obligations.RestartOfAWorkingIsland := by
  unfold Obligations.RestartOfAWorkingIsland
  intro el p v hi i s hhi hv hu ht
  generalize ha : (if hi then R.SYS_ISLAND_RESTART1 else R.SYS_ISLAND_RESTART0) = a at ht ⊢
  have hcode : (restartWrite hi v (s.begin el)).1 = errAddress := restartWrite_refused (mem_restartBits i.isLt hhi hv) hu
  have hrest := State.askRestarts_restart (s.begin el).mayRestart (restartBits hi v) (s.begin el)
  have hmay : (s.begin el).mayRestart i = false := by
    have hu' : (s.begin el).up i = true := hu
    simp [State.mayRestart, hu']
  refine ⟨_, execIslandRestart_takes v ha.symm ht hcode, ?_, ?_, ?_, fun b => ?_⟩
  · rw [restartWrite_eq, hrest]; rfl
  · exact State.restartOf_askRestarts hmay (restartBits hi v) (s.begin el)
  · change ((restartWrite hi v (s.begin el)).2.portFail p a errAddress).up i = true
    rw [State.up_portFail, restartWrite_eq, hrest]
    exact hu
  · rw [restartWrite_eq, hrest]; rfl

/-! The slew of a local DT (01 R42). -/

/-- An island whose copy of DT differs by no more than 100 ns slews it (R42). -/
theorem execDtSyncToken_slews {el : Nat} {i : Fin 38} {drift d : Int} {s u : State} (hu : u = (s.begin el).onIsland 32 State.dtDue)
    (hd : d = Tab.get (fun _ => 0) u.sys.localDt i + drift) (hup : u.up i = true) (hg : u.ungated i = true)
    (hs : d.natAbs ≤ 100) : exec (.dtSyncToken el i drift) s =
      .next (u.updSys fun q => { q with localDt := Tab.set (fun _ => 0) q.localDt i (d - clampI (-2) 2 d) }) := by
  subst hu hd
  change execDtSyncToken el i drift s = _
  simp only [execDtSyncToken, hup, hg, hs, Bool.not_true, Bool.or_self, Bool.false_eq_true, if_false, if_true]

/-- A difference less its clamped value has moved by at most 2 toward 0, and not past it. -/
theorem sub_clampI_two (d : Int) : (d - (d - clampI (-2) 2 d)).natAbs = min 2 d.natAbs ∧
    (d - clampI (-2) 2 d).natAbs ≤ d.natAbs ∧ 0 ≤ d * (d - clampI (-2) 2 d) := by
  unfold clampI
  split_ifs with hlo hhi
  · exact ⟨by omega, by omega, mul_nonneg_of_nonpos_of_nonpos (by omega) (by omega)⟩
  · exact ⟨by omega, by omega, mul_nonneg (by omega) (by omega)⟩
  · exact ⟨by omega, by omega, by simp⟩

/-- Settles O37: the copy moves by the clamped difference. -/
theorem smallDriftIsSlewed : Obligations.SmallDriftIsSlewed := by
  unfold Obligations.SmallDriftIsSlewed
  intro el i drift s u d hu hd hup hg hs
  exact ⟨d - clampI (-2) 2 d, execDtSyncToken_slews hu hd hup hg hs, sub_clampI_two d⟩

end Sys2Proof.Machine
end

section
/-!
PROOFS. The rows of islands, clocks, gates, rails, power-down and resets (01 R32–R43, R58, R59; 17 R658–R679).
-/
namespace Sys2Proof.Machine

/-- A row of an island that runs. -/
theorem State.onIsland_begin {s : State} {i : Nat} (el : Nat) (h : s.Runs i) (f : State → State) :
    (s.begin el).onIsland i f = f (s.begin el) :=
  State.onIsland_runs (State.runs_begin h el) f

/-- A write of a command register by its own row. -/
theorem State.writeCmd_begin {s : State} {p : Port} {a : Nat} (el : Nat) (v : Word) (act : Word → State → State) (h : s.Takes p a)
    (hp : plainReg a = true) :
    (s.begin el).writeCmd p a v act = (act v ((s.begin el).storeAt p a v)).send (.wrote p a 0) :=
  State.writeCmd_plain v act (State.takes_begin h el) hp

/-- RST_CMD resets the device where its port has written the key no more than 1 ms before (17 R676). -/
theorem rstCmd_keyed {p : Port} {t : Nat} {s : State} (hk : s.clk.key = some (t, p)) (ht : s.now ≤ t + 1000000) :
    rstCmd p 1 s = s.resetBy 3 := by
  simp [rstCmd, hk, ht]

/-- Settles O11: under its conditions each row runs through the branch that its rule names. -/
theorem islandAndClockRowsComplete : Obligations.IslandAndClockRowsComplete := by
  unfold Obligations.IslandAndClockRowsComplete
  refine ⟨?linkTransfer, ?handshakeTimeout, ?clockMonitorWindow, ?islandRestart, ?islandRestartBegin, ?islandUp, ?dtSyncToken,
    ?sysCntClear, ?pllLocked, ?clockSourceLost, ?clockSourceOk, ?iroTrim, ?selMain, ?clkCntClear, ?clkGateCmd, ?gateIdle,
    ?gateLate, ?railOutOfWindow, ?railInWindow, ?powerDownWarning, ?powerDownEnd, ?deviceReset, ?resetPin, ?debugReset,
    ?resetAssert, ?rstKeyWrite, ?rstDevice, ?resetRelease⟩
  case linkTransfer =>
    rintro el src dst first again acc s u rfl hr href hstop hok
    refine congrArg Host.Outcome.next ((State.onIsland_begin el hr _).trans ?_)
    simp only [href, hstop, hok, Bool.false_eq_true, if_false, if_true]
  case handshakeTimeout =>
    rintro el src dst acc s u rfl hr
    exact congrArg Host.Outcome.next (State.onIsland_begin el hr _)
  case clockMonitorWindow =>
    rintro el isl edges runs v s u rfl hrst hedges hv hgate hup rfl
    have hrst' : v.clk.inReset = false := by subst hv; exact hrst
    have hgate' : v.gateOpen isl = true := by subst hv; exact hgate
    have hup' : v.up isl = true := by subst hv; exact hup
    change execClockMonitorWindow ⟨el, runs⟩ isl 0 s = _
    simp only [execClockMonitorWindow, hedges, if_false, ← hv]
    simp [hrst', hedges, hgate', hup']
  case islandRestart =>
    rintro el p hi v a s u rfl ha ht hc
    exact execIslandRestart_takes v ha ht hc
  case islandRestartBegin =>
    rintro el isl v s u rfl hheld hdown hgood rfl
    exact congrArg Host.Outcome.next (if_pos ⟨hheld, by simp [hdown], hgood⟩)
  case islandUp =>
    rintro el isl s u hu hrun hisl
    obtain rfl : isl = 22 := Fin.ext hisl
    change execIslandUp el 22 s = _
    simp only [execIslandUp, ← hu, if_pos hrun]
    rfl
  case dtSyncToken =>
    rintro el isl drift d v s u rfl rfl hup hg hd hs
    exact execDtSyncToken_slews rfl hd hup hg hs
  case sysCntClear =>
    rintro el p s u rfl ht
    exact congrArg Host.Outcome.next (State.writeCmd_begin el 1 sysCntClear ht (by decide +kernel))
  case pllLocked =>
    rintro el s u hu hrst htcxo hpll
    change execPllLocked el s = _
    simp only [execPllLocked, ← hu, hrst, htcxo, hpll, Bool.not_false, Bool.and_self, if_true]
  case clockSourceLost =>
    rintro el k forced s u hu hrst hbit hk
    obtain rfl : k = 2 := Fin.ext hk
    change execClockSourceLost el 2 forced s = _
    simp only [execClockSourceLost, ← hu, hrst, hbit]
    rfl
  case clockSourceOk =>
    rintro el k s u hu hrst hbit hk
    obtain rfl : k = 2 := Fin.ext hk
    change execClockSourceOk el 2 s = _
    simp only [execClockSourceOk, ← hu, hrst, hbit]
    rfl
  case iroTrim =>
    rintro el err sf v s u rfl hr rfl hsrc hdue
    exact congrArg Host.Outcome.next ((State.onIsland_begin el hr _).trans (if_neg (by omega)))
  case selMain =>
    rintro el p s u rfl ht
    exact congrArg Host.Outcome.next (State.writeCmd_begin el 2 clkCmd ht (by decide +kernel))
  case clkCntClear =>
    rintro el p s u rfl ht
    exact congrArg Host.Outcome.next (State.writeCmd_begin el 1 clkCmd ht (by decide +kernel))
  case clkGateCmd =>
    rintro el p v s u rfl ht
    exact congrArg Host.Outcome.next (State.writeCmd_begin el v gateCmd ht (by decide +kernel))
  case gateIdle =>
    rintro el g b v s u rfl hr hgate rfl htime
    refine congrArg Host.Outcome.next ((State.onIsland_begin el hr _).trans ?_)
    simp only [hgate, decide_eq_false (Nat.not_lt.2 htime), Bool.not_false, Bool.and_self, if_true]
  case gateLate =>
    rintro el idle g b v s u rfl hr hgate rfl htime
    refine congrArg Host.Outcome.next ((State.onIsland_begin el hr _).trans ?_)
    simp only [hgate, decide_eq_true htime, Bool.not_true, Bool.and_false, Bool.false_eq_true, if_false, if_true]
  case railOutOfWindow =>
    rintro el r mv vio33 s u rfl hr hout hbit
    exact congrArg Host.Outcome.next ((State.onIsland_begin el hr _).trans (if_neg (by simp [hout, hbit])))
  case railInWindow =>
    rintro el r mv vio33 s u rfl hr hin hbit
    exact congrArg Host.Outcome.next ((State.onIsland_begin el hr _).trans (if_pos ⟨hin, hbit⟩))
  case powerDownWarning =>
    rintro el pin vbat s u rfl hr hwarn hhold
    exact congrArg Host.Outcome.next ((State.onIsland_begin el hr _).trans (if_pos (by simp [hwarn, hhold])))
  case powerDownEnd =>
    rintro el pin vbat v s u rfl hr hhold hgood rfl
    exact congrArg Host.Outcome.next ((State.onIsland_begin el hr _).trans (if_pos (by simp [hhold, hgood])))
  case deviceReset =>
    rintro el cause s u rfl
    rfl
  case resetPin =>
    rintro el ns s u rfl hns
    exact congrArg Host.Outcome.next (if_pos hns)
  case debugReset =>
    rintro el s u rfl hdbg
    exact congrArg Host.Outcome.next (if_pos hdbg)
  case resetAssert =>
    rintro el s u rfl
    rfl
  case rstKeyWrite =>
    rintro el p v s u rfl ht
    exact congrArg Host.Outcome.next (State.writeCmd_begin el v (rstKey p) ht (by decide +kernel))
  case rstDevice =>
    rintro el p t s u rfl ht hkey htime
    refine congrArg Host.Outcome.next ((State.writeCmd_begin el 1 (rstCmd p) ht (by decide +kernel)).trans ?_)
    rw [rstCmd_keyed hkey htime]
  case resetRelease =>
    rintro el a b vbkLost count ran v w s u rfl hrst rfl rfl
    exact congrArg Host.Outcome.next (if_pos hrst)

end Sys2Proof.Machine
end

section
/-!
PROOFS. Accesses without a full image (02 R77).
-/
namespace Sys2Proof.Machine

/-- Without a full image the configuration refuses what alignment and the map let pass, but for the blocks of R77. -/
theorem State.accessErr_noImage {s : State} {a : Nat} (h4 : a % 4 = 0) (hm : inMap a = true) (hi : s.imageOk = false)
    (hc : answersUnconfigured a = false) (p : Port) (w : Bool) : s.accessErr p a w = errNoImage := by
  simp [State.accessErr, h4, hm, hi, hc]

/-- Settles O29: the configuration is checked before the island, the owner and the register. -/
theorem accessWithoutAnImage : Obligations.AccessWithoutAnImage := by
  unfold Obligations.AccessWithoutAnImage
  intro el p a v e x s hu h4 hm ha hi hc
  have he (w : Bool) : s.accessErr p a w = errNoImage := State.accessErr_noImage h4 hm hi hc p w
  exact ⟨refused_registerWrite el v e hu (he true) (by decide) (by decide) (by decide) (.inl ha),
    refused_multiwordCaptureRead el x hu (he false) (by decide) (by decide) (by decide) (.inl ha)⟩

end Sys2Proof.Machine
end

section
/-!
PROOFS. The state commands of the Trellis loader (02 R89, Table 7), and its rows (02 R74–R101).
-/
namespace Sys2Proof.Machine

/-! State commands. -/

/-- Table 7 gives the state command of bit `c` of LDR_CTRL a transition in state `st` of the loader: VERIFY in IDLE, ARM in STAGED,
ABORT in STAGED and SEARCHING, ACK in DONE, REFUSED and ERROR. -/
def ldrTransition (st c : Nat) : Prop :=
  (c = 0 ∧ st = ldIdle) ∨ (c = 1 ∧ st = ldStaged) ∨ (c = 2 ∧ (st = ldStaged ∨ st = ldSearching)) ∨ (c = 3 ∧ ldDone ≤ st)

/-- A state command without a transition only warns (R89). -/
theorem State.ldrCommand_ignored {s : State} {c : Nat} (h : ¬ ldrTransition s.ldrState c) :
    s.ldrCommand c = s.ldrWarn lwCmdIgnored := by
  simp only [ldrTransition, not_or, not_and] at h
  obtain ⟨hverify, harm, habort, hack⟩ := h
  unfold State.ldrCommand
  rw [if_neg (not_and.2 hverify), if_neg (not_and.2 harm), if_neg fun hc => (habort hc.1).1 hc.2,
    if_neg fun hc => (habort hc.1).2 hc.2, if_neg (not_and.2 hack)]

/-- A word with the bit of one state command alone brings that command and nothing else. -/
theorem ldrCtrl_bit (c : Fin 4) (s : State) : ldrCtrl (bit c) s = s.ldrCommand c := by
  have hcmd : ((List.range 4).filter fun i => (bit c).getLsbD i) = [c.val] := by revert c; decide
  have hseal : (bit c).getLsbD 4 = false := by revert c; decide
  have hclear : (bit c).getLsbD 5 = false := by revert c; decide
  simp only [ldrCtrl, hcmd, hseal, hclear, List.isEmpty_nil, Bool.not_true, Bool.false_and, State.when_false]

/-- What a warning leaves in the register at `b`. -/
theorem State.reg_ldrWarn (s : State) (i b : Nat) : (s.ldrWarn i).reg b =
    if b = R.LDR_IRQ_STAT then s.reg R.LDR_IRQ_STAT ||| bit liWarn
    else if b = R.LDR_WARN then s.reg R.LDR_WARN ||| bit i
    else s.reg b := by
  simp [State.ldrWarn, State.reg_event]

/-- A warning is no matter of anything but registers and the record of the bits just set. -/
theorem State.ldrWarn_regs (s : State) (i : Nat) :
    s.ldrWarn i = { s with regs := (s.ldrWarn i).regs, fresh := (s.ldrWarn i).fresh } := rfl

/-- A state command that Table 7 gives no transition, written through a port: it is answered with success, CMD_IGNORED sets, and
every register but LDR_WARN and the loader's interrupt register stays. -/
theorem State.writeCmd_ldrIgnored {s : State} {p : Port} (el : Nat) (c : Fin 4) (ht : s.Takes p R.LDR_CTRL)
    (hn : ¬ ldrTransition s.ldrState c) :
    ∃ t, (Host.Outcome.next ((s.begin el).writeCmd p R.LDR_CTRL (bit c) ldrCtrl) : Host.Outcome State Fault Refusal) = .next t ∧
      s.SameButRegs t el [.wrote p R.LDR_CTRL 0] ∧ t.rbit R.LDR_WARN lwCmdIgnored = true ∧
      s.RegsBut t [R.LDR_WARN, R.LDR_IRQ_STAT] := by
  have hc : commandReg R.LDR_CTRL = true := by decide +kernel
  obtain ⟨hreg, hrest⟩ := State.storeAt_commandReg hc (s.begin el) p (bit c)
  have hwrite := State.writeCmd_begin el (bit c) ldrCtrl ht (commandReg_plain hc)
  have hstate : ((s.begin el).storeAt p R.LDR_CTRL (bit c)).ldrState = s.ldrState :=
    congrArg (fld · 0 4) (hreg R.LDR_STAT)
  rw [ldrCtrl_bit, State.ldrCommand_ignored (by rwa [hstate])] at hwrite
  refine ⟨_, congrArg _ hwrite, ?_, ?_, fun b hb => ?_⟩
  · rw [State.ldrWarn_regs, hrest]; rfl
  · rw [State.send_rbit, State.rbit, State.reg_ldrWarn, if_neg (by decide), if_pos rfl, getLsbD_or_bit _ _ _ (by decide)]
    simp
  · simp only [List.mem_cons, List.not_mem_nil, or_false, not_or] at hb
    obtain ⟨hwarn, hirq⟩ := hb
    rw [State.send_reg, State.reg_ldrWarn, if_neg hirq, if_neg hwarn, hreg]
    rfl

/-- Settles O51: each of the four commands is the bit of its own row. -/
theorem loaderCommandWithoutATransition : Obligations.LoaderCommandWithoutATransition := by
  unfold Obligations.LoaderCommandWithoutATransition
  intro el p s ht
  refine ⟨fun hst => ?verify, fun hst => ?arm, fun hst hse => ?abort, fun hst => ?ack⟩
  case verify => exact State.writeCmd_ldrIgnored el 0 ht (by simp [ldrTransition, hst])
  case arm => exact State.writeCmd_ldrIgnored el 1 ht (by simp [ldrTransition, hst])
  case abort => exact State.writeCmd_ldrIgnored el 2 ht (by simp [ldrTransition, hst, hse])
  case ack => exact State.writeCmd_ldrIgnored el 3 ht (by simp [ldrTransition, Nat.not_le.2 hst])

/-! Rows. -/

/-- Settles O12: under its conditions each row runs through the branch that its rule names. -/
theorem loaderRowsComplete : Obligations.LoaderRowsComplete := by
  unfold Obligations.LoaderRowsComplete
  have hplain : plainReg R.LDR_CTRL = true := by decide +kernel
  refine ⟨?bootImageLoad, ?sealTimeout, ?verify, ?arm, ?abort, ?ack, ?sealCmd, ?clearCnt, ?refuseAck, ?verifyComplete, ?shadowBanks,
    ?thFinal, ?swap, ?patchLogMarked, ?boundaryTimeout⟩
  case bootImageLoad =>
    rintro el a b patches h k j l v s u hu hrst hmss hboot hslot rfl htry rfl
    have hguard : (u.clk.inReset || !u.mssReady || u.ldr.bootEnded) = false := by simp [hrst, hmss, hboot]
    change execBootImageLoad el a b patches s = _
    simp only [execBootImageLoad, ← hu, hguard, Bool.false_eq_true, if_false, hslot]
    rw [← Prod.eta (u.bootTry _ _), htry]
  case sealTimeout =>
    rintro el s u rfl hr hboot hseal hmode htime
    exact congrArg Host.Outcome.next ((State.onIsland_begin el hr _).trans (if_pos ⟨hboot, by rw [hseal]; rfl, hmode, htime⟩))
  case verify =>
    rintro el p s u rfl ht
    exact congrArg Host.Outcome.next (State.writeCmd_begin el 1 ldrCtrl ht hplain)
  case arm =>
    rintro el p s u rfl ht
    exact congrArg Host.Outcome.next (State.writeCmd_begin el 2 ldrCtrl ht hplain)
  case abort =>
    rintro el p s u rfl ht
    exact congrArg Host.Outcome.next (State.writeCmd_begin el 4 ldrCtrl ht hplain)
  case ack =>
    rintro el p s u rfl ht
    exact congrArg Host.Outcome.next (State.writeCmd_begin el 8 ldrCtrl ht hplain)
  case sealCmd =>
    rintro el p s u rfl ht
    exact congrArg Host.Outcome.next (State.writeCmd_begin el 16 ldrCtrl ht hplain)
  case clearCnt =>
    rintro el p s u rfl ht
    refine congrArg Host.Outcome.next ((State.writeCmd_begin el 32 ldrCtrl ht hplain).trans ?_)
    rw [ldrCtrl_clearCnt]
  case refuseAck =>
    rintro el p s u rfl ht
    exact congrArg Host.Outcome.next (State.writeCmd_begin el 1 refuseAck ht (by decide +kernel))
  case verifyComplete =>
    rintro el c s u rfl hr hcommit hst hmss
    refine congrArg Host.Outcome.next ((State.onIsland_begin el hr _).trans ?_)
    simp only [hcommit]
    exact if_neg (by simp [hst, hmss])
  case shadowBanks =>
    rintro el v s u rfl hr hst rfl
    exact congrArg Host.Outcome.next ((State.onIsland_begin el hr _).trans (if_pos hst))
  case thFinal =>
    rintro el x h s u rfl hr hth hst hlo hhi
    refine congrArg Host.Outcome.next ((State.onIsland_begin el hr _).trans ?_)
    simp only [hth]
    exact if_pos ⟨hst, hlo, hhi⟩
  case swap =>
    rintro el h v w s u rfl hr hth hst hswap hdue rfl rfl
    refine congrArg Host.Outcome.next ((State.onIsland_begin el hr _).trans ?_)
    simp only [hth]
    exact if_pos ⟨hst, by rw [hswap]; rfl, hdue⟩
  case patchLogMarked =>
    rintro el n s u rfl hr hst hswap rfl
    exact congrArg Host.Outcome.next ((State.onIsland_begin el hr _).trans (if_pos ⟨hst, hswap⟩))
  case boundaryTimeout =>
    rintro el s u rfl hr hst hdue
    exact congrArg Host.Outcome.next ((State.onIsland_begin el hr _).trans (if_pos ⟨hst, hdue⟩))

end Sys2Proof.Machine
end

section
/-!
PROOFS. The intake (03 R108, R109, R113): the sequence number of a stream, and the targets that its FIFO takes or refuses.
-/
namespace Sys2Proof.Machine

/-- What a conditional update leaves, whether it acts or not. -/
theorem State.when_keeps {α : Type} (g : State → α) {s : State} {f : State → State} (h : g (f s) = g s) (b : Bool) :
    g (s.when b f) = g s := by
  cases b
  · rfl
  · exact h

/-! A signed value stored with saturation (00 R8). -/

@[simp] theorem State.noteSat_reg (s : State) (a b : Nat) (c : Bool) : (s.noteSat a c).reg b = s.reg b := by
  cases c <;> rfl

@[simp] theorem State.noteSat_intake (s : State) (a : Nat) (c : Bool) : (s.noteSat a c).intake = s.intake := by
  cases c <;> rfl

theorem State.reg_setRegI_ne (s : State) {a b : Nat} (v : Int) (h : b ≠ a) : (s.setRegI a v).reg b = s.reg b := by
  simp [State.setRegI, State.reg_setReg_ne _ _ h]

@[simp] theorem State.setRegI_intake (s : State) (a : Nat) (v : Int) : (s.setRegI a v).intake = s.intake := by
  simp [State.setRegI]

/-! The fill of the FIFO (R116). -/

@[simp] theorem State.pauseTx_intake (s : State) (q : Nat) : (s.pauseTx q).intake = s.intake := by
  unfold State.pauseTx
  split <;> rfl

theorem State.reg_pauseTx_ne (s : State) (q : Nat) {a : Nat} (h : a ≠ R.ETH_PAUSE_TX 0) : (s.pauseTx q).reg a = s.reg a := by
  unfold State.pauseTx
  split
  · exact State.reg_setReg_ne _ _ h
  · rfl

/-- The registers that a rise of the fill can change: the high-water mark, FIFO_HIGH, PAUSED, and the count of PAUSE frames sent. -/
def fillRegs : List Nat := [R.INTAKE_HWM, R.INTAKE_IRQ_STAT, R.INTAKE_STAT, R.ETH_PAUSE_TX 0]

theorem State.regsBut_fifoRose (s : State) (old : Nat) : s.RegsBut (s.fifoRose old) fillRegs := by
  intro a ha
  simp only [fillRegs, List.mem_cons, List.not_mem_nil, or_false, not_or] at ha
  obtain ⟨hhwm, hirq, hstat, htx⟩ := ha
  refine (State.when_keeps (·.reg a) ?pause _).trans ((State.when_keeps (·.reg a) ?high _).trans
    (State.when_keeps (·.reg a) ?mark _))
  case pause => exact (State.reg_pauseTx_ne _ _ htx).trans (State.reg_setReg_ne _ _ hstat)
  case high => exact State.reg_setReg_ne _ _ hirq
  case mark => exact State.reg_setReg_ne _ _ hhwm

@[simp] theorem State.fifoRose_fifo (s : State) (old : Nat) : (s.fifoRose old).intake.fifo = s.intake.fifo := by
  refine (State.when_keeps (·.intake.fifo) ?pause _).trans ((State.when_keeps (·.intake.fifo) ?high _).trans
    (State.when_keeps (·.intake.fifo) ?mark _))
  case pause => simp
  case high => rfl
  case mark => rfl

/-! Frames (R108, R109). -/

/-- The sequence of a stream has a register of its own, beside those that its frames count in. -/
theorem streamRegs_distinct (k : Nat) : R.INTAKE_S_SEQ k ≠ R.INTAKE_S_FULLDROP k ∧ R.INTAKE_S_SEQ k ≠ R.INTAKE_S_STALE k ∧
    R.INTAKE_S_SEQ k ≠ R.INTAKE_S_TRANSIT k := by
  simp only [R.INTAKE_S_SEQ, R.INTAKE_S_FULLDROP, R.INTAKE_S_STALE, R.INTAKE_S_TRANSIT]
  omega

/-- An accepted frame before its records are queued: its SEQ is held, it is counted, and its stream is synchronised (R107, R109). -/
def State.frameTaken (s : State) (k seq : Nat) : State :=
  ((s.setReg (R.INTAKE_S_SEQ k) (wordN seq)).count (R.INTAKE_S_FRAMES k) 1).setBit (R.INTAKE_S_STAT k) 0 true

@[simp] theorem State.frameTaken_intake (s : State) (k seq : Nat) : (s.frameTaken k seq).intake = s.intake := rfl

theorem State.reg_frameTaken_seq (s : State) (k seq : Nat) : (s.frameTaken k seq).reg (R.INTAKE_S_SEQ k) = wordN seq := by
  simp [State.frameTaken, State.reg_setBit, State.reg_count]

/-- A FIFO without room for every record of a frame takes none of them. -/
theorem State.acceptFrame_refused {s : State} {cnt : Nat} (h : fifoSize - s.intake.fifo.length < cnt) (k seq : Nat)
    (body : List Byte) : s.acceptFrame k seq cnt body = (s.frameTaken k seq).count (R.INTAKE_S_FULLDROP k) cnt :=
  if_pos h

/-- A FIFO with room for every record of a frame takes them in order. -/
theorem State.acceptFrame_queued {s : State} {cnt : Nat} (h : cnt ≤ fifoSize - s.intake.fifo.length) (k seq : Nat)
    (body : List Byte) : s.acceptFrame k seq cnt body =
      ((s.frameTaken k seq).setFifo (s.intake.fifo ++ (records body cnt).map fun r => ⟨r, k, s.dt, false⟩)).fifoRose
        s.intake.fifo.length :=
  if_neg (Nat.not_lt.2 h)

/-- The SEQ of an accepted frame is held, whatever becomes of its records (R109). -/
theorem State.reg_acceptFrame_seq (s : State) (k : Fin 4) (seq cnt : Nat) (body : List Byte) :
    (s.acceptFrame k seq cnt body).reg (R.INTAKE_S_SEQ k) = wordN seq := by
  rcases Nat.lt_or_ge (fifoSize - s.intake.fifo.length) cnt with h | h
  · obtain ⟨hfull, -, -⟩ := streamRegs_distinct k
    rw [State.acceptFrame_refused h, State.count, State.reg_setReg_ne _ _ hfull, State.reg_frameTaken_seq]
  · have hfill : R.INTAKE_S_SEQ k ∉ fillRegs := by revert k; decide
    rw [State.acceptFrame_queued h, State.regsBut_fifoRose _ _ _ hfill]
    exact State.reg_frameTaken_seq s k seq

/-- Settles O39: SEQ is held before the FIFO is asked for room. -/
theorem acceptedFrameMovesTheSequence : Obligations.AcceptedFrameMovesTheSequence := by
  unfold Obligations.AcceptedFrameMovesTheSequence
  intro s k seq cnt body hseq
  refine ⟨?_, fun hfull => ?_, fun hroom hlen => ?_⟩
  · rw [State.reg_acceptFrame_seq, wordN, BitVec.toNat_ofNat, Nat.mod_eq_of_lt hseq]
  · rw [State.acceptFrame_refused hfull, State.count_intake, State.frameTaken_intake]
  · rw [State.acceptFrame_queued hroom, State.fifoRose_fifo]
    simp [State.setFifo, hlen]

/-- Settles O38: the checks of R104 to R107 pass, and what is left of the intake's decision is one on d. -/
theorem sequenceOfAStream : Obligations.SequenceOfAStream := by
  unfold Obligations.SequenceOfAStream
  intro s w body k cnt seq d hty hk hk3 hver hcnt hmax hlen hen hsync hres hseq hd hw
  obtain ⟨-, hstale, htransit⟩ := streamRegs_distinct k
  have hdecide : s.huzer body = if d = 0 then w.acceptFrame k seq cnt body
      else if d < 2 ^ 31 then ((w.count (R.INTAKE_S_LOST k) d).event R.INTAKE_IRQ_STAT iSeqGap).acceptFrame k seq cnt body
      else w.count (R.INTAKE_S_STALE k) 1 := by
    subst hk hcnt hseq hw
    have hown : ¬ (leAt body 0 2 ≠ 0x5A17 ∨ 3 < (body.getD 3 0).toNat) := not_or.2 ⟨not_not.2 hty, Nat.not_lt.2 hk3⟩
    have hform : ¬ ((body.getD 2 0).toNat ≠ 1 ∨ 88 < (body.getD 8 0).toNat ∨
        body.length < 16 + 16 * (body.getD 8 0).toNat ∨ (!s.rbit R.INTAKE_CTRL (body.getD 3 0).toNat) = true) :=
      not_or.2 ⟨not_not.2 hver, not_or.2 ⟨Nat.not_lt.2 hmax, not_or.2 ⟨Nat.not_lt.2 hlen, by rw [hen]; decide⟩⟩⟩
    refine (if_neg hown).trans ((if_neg hform).trans ?_)
    simp only [← hd, hsync, hres]
    simp
  refine ⟨fun h0 => ?accepted, fun h1 hlt => ?gap, fun hge => ?stale⟩
  case accepted => rw [hdecide, if_pos h0]
  case gap => rw [hdecide, if_neg (by omega), if_pos hlt]
  case stale =>
    have hdrop : s.huzer body = w.count (R.INTAKE_S_STALE k) 1 := by rw [hdecide, if_neg (by omega), if_neg (by omega)]
    refine ⟨hdrop, ?_, ?_⟩
    · rw [hdrop, State.count, State.reg_setReg_ne _ _ hstale, hw, State.reg_setRegI_ne _ _ htransit]
    · rw [hdrop, State.count_intake, hw, State.setRegI_intake]

/-! Single targets (R113). -/

/-- The record that a write of INTAKE_TGT_W3 submits, as the FIFO queues it (R112). -/
def State.tgtEntry (s : State) (w : Word) : FifoEntry :=
  let tw (i : Nat) : Word := Tab.get (fun _ => 0) s.intake.tgt i
  ⟨bytesOfWord (tw 0) ++ bytesOfWord (tw 1) ++ bytesOfWord (tw 2) ++ bytesOfWord w, s.rfld R.INTAKE_TGT_CFG 0 2, s.dt, true⟩

theorem tgtSubmit_queued {s : State} (h : s.intake.fifo.length < fifoSize) (w : Word) : tgtSubmit w s =
    ((s.setFifo (s.intake.fifo ++ [s.tgtEntry w])).count R.INTAKE_TGT_CNT 1).fifoRose s.intake.fifo.length :=
  if_pos h

theorem tgtSubmit_refused {s : State} (h : fifoSize ≤ s.intake.fifo.length) (w : Word) :
    tgtSubmit w s = (s.count R.INTAKE_TGT_REFUSED 1).event R.INTAKE_IRQ_STAT iTgtRefused :=
  if_neg (Nat.not_lt.2 h)

/-- Settles O40: the free entries of the FIFO decide, and a rise of the fill touches neither counter. -/
theorem targetOfTheHost : Obligations.TargetOfTheHost := by
  unfold Obligations.TargetOfTheHost
  have hcnt : R.INTAKE_TGT_CNT ∉ fillRegs := by decide
  have hrefused : R.INTAKE_TGT_REFUSED ∉ fillRegs := by decide
  intro s w
  refine ⟨fun hroom => ?queued, fun hfull => ?refused⟩
  case queued =>
    rw [tgtSubmit_queued hroom]
    refine ⟨by simp [State.setFifo], ?_, ?_⟩
    · rw [State.regsBut_fifoRose _ _ _ hcnt, State.reg_count, if_pos rfl]
      rfl
    · rw [State.regsBut_fifoRose _ _ _ hrefused, State.reg_count, if_neg (by decide)]
      rfl
  case refused =>
    rw [tgtSubmit_refused hfull]
    refine ⟨rfl, ?_, State.rbit_event _ _ _ (by decide), fun a ha => ?_⟩
    · rw [State.reg_event, if_neg (by decide), State.reg_count, if_pos rfl]
    · simp only [List.mem_cons, List.not_mem_nil, or_false, not_or] at ha
      rw [State.reg_event, if_neg ha.2, State.reg_count, if_neg ha.1]

end Sys2Proof.Machine
end

section
/-!
PROOFS. The rows of the intake (03 R104–R123), of Stitch (05 R174–R220) and of the GROUND block (04 R141–R172).
-/
namespace Sys2Proof.Machine

/-- A row of an island that runs ends where its action on the begun state does. -/
theorem State.next_onIsland {s t : State} {i : Nat} (el : Nat) (h : s.Runs i) {f : State → State} (hf : f (s.begin el) = t) :
    (Host.Outcome.next ((s.begin el).onIsland i f) : Host.Outcome State Fault Refusal) = .next t :=
  congrArg Host.Outcome.next ((State.onIsland_begin el h f).trans hf)

/-- Settles O5: under its conditions each row runs through the branch that its rule names. -/
theorem planRowsComplete : Obligations.PlanRowsComplete := by
  unfold Obligations.PlanRowsComplete
  refine ⟨?huzerFrame, ?pauseRefresh, ?targetDispatch, ?beltSample, ?stitchPlace, ?stitchCancel, ?sectionOn, ?sectionOff,
    ?dutyUpdate, ?spotRetime, ?latencyRecompute, ?stitchCommit, ?stitchRetimeBelt, ?fusedDrTick, ?fusedFix, ?drOnlyTimeout,
    ?drMaxExpiry, ?historyTick, ?evalPass, ?evalPeriodSkipped, ?spotEventTake, ?blockWriteback, ?pageReady⟩
  case huzerFrame =>
    rintro el f body t s u rfl hb hsub rfl hr
    have hrx : (s.begin el).macRx .eth0 f = (some body, ((s.begin el).macRx .eth0 f).2) := Prod.ext hb rfl
    change execHuzerFrame el f s = _
    rw [execHuzerFrame, hrx]
    exact congrArg Host.Outcome.next ((if_pos hsub).trans (State.onIsland_runs hr _))
  case pauseRefresh =>
    rintro el s u rfl hpaused hdue
    exact congrArg Host.Outcome.next (if_pos (by simp only [hpaused, hdue, decide_true, Bool.and_self]))
  case targetDispatch =>
    rintro el b e r s u rfl hr hpipe hfifo
    refine State.next_onIsland el hr ((if_neg hpipe).trans ?_)
    simp only [hfifo]
  case beltSample =>
    rintro el k s u rfl hr hen hdue hworks hvalid
    refine State.next_onIsland el hr ((if_pos ⟨hen, hdue⟩).trans ?_)
    simp only [hworks, hvalid, Bool.and_self, if_true, Bool.not_true, State.when_false]
  case stitchPlace =>
    rintro el x g s u rfl hr hhead hfire
    refine State.next_onIsland el hr ?_
    simp only [hhead, hfire, Bool.false_eq_true, if_false]
  case stitchCancel =>
    rintro el x g s u rfl hr hhead hcancel
    refine State.next_onIsland el hr ?_
    simp only [hhead, hcancel, if_true]
  case sectionOn =>
    rintro el x tag lanes arr raw s u rfl hr hhead
    refine State.next_onIsland el hr ?_
    simp only [hhead]
  case sectionOff =>
    rintro el x tag lanes arr raw s u rfl hr hhead
    refine State.next_onIsland el hr ?_
    simp only [hhead]
  case dutyUpdate =>
    rintro el x n d s u rfl hr hhead
    refine State.next_onIsland el hr ?_
    simp only [hhead]
  case spotRetime =>
    rintro el x n key iv s u rfl hr hhead
    refine State.next_onIsland el hr ?_
    simp only [hhead]
  case latencyRecompute =>
    rintro el n x l v s u rfl hr rfl hlane
    refine State.next_onIsland el hr ?_
    simp only [State.recomputePhys, hlane]
  case stitchCommit =>
    rintro el n hurt x p e v s u rfl hr rfl hphys hchanged hhead hheld hdue hturn
    refine State.next_onIsland el hr ?_
    simp only [hphys, hchanged, State.when_false, hhead, hheld, hdue, hturn, Bool.not_false, decide_true, Bool.and_self, if_true]
  case stitchRetimeBelt =>
    rintro el k x s u rfl hr hvalid
    exact State.next_onIsland el hr (if_pos hvalid)
  case fusedDrTick =>
    rintro el s u rfl hr hfused hdue
    refine State.next_onIsland el hr (if_pos ?_)
    simpa only [hfused, Bool.true_and, Bool.or_eq_true, Bool.not_eq_true', decide_eq_true_eq] using hdue
  case fusedFix =>
    rintro el x r s u rfl hr hfixes
    refine State.next_onIsland el hr ?_
    simp only [hfixes]
  case drOnlyTimeout =>
    rintro el s u rfl hr hfused hdue
    refine State.next_onIsland el hr (if_pos ?_)
    simp only [hfused, hdue, decide_true, Bool.and_self]
  case drMaxExpiry =>
    rintro el s u rfl hr hfused hdue
    refine State.next_onIsland el hr (if_pos ?_)
    simp only [hfused, hdue, decide_true, Bool.and_self]
  case historyTick =>
    rintro el s u rfl hr hhave hdue
    exact State.next_onIsland el hr (if_pos ⟨hhave, hdue⟩)
  case evalPass =>
    rintro el bad s u rfl hr hen hstart hidle
    refine State.next_onIsland el hr (if_pos ?_)
    simp only [hen, hstart, hidle, decide_true, Bool.and_self]
  case evalPeriodSkipped =>
    rintro el s u rfl hr hen hstart hbusy
    refine State.next_onIsland el hr (if_pos ?_)
    simp only [hen, hstart, hbusy, decide_true, Bool.and_self]
  case spotEventTake =>
    rintro el e r s u rfl hr hqueue hspaced
    refine State.next_onIsland el hr ?_
    have hfree : ((s.begin el).gnd.takenAt.map fun a => decide (a + 1000 ≤ (s.begin el).now)).getD true = true := by
      cases htaken : (s.begin el).gnd.takenAt with
      | none => rfl
      | some a => simp only [Option.map_some, Option.getD_some, hspaced a htaken, decide_true]
    simp only [hqueue, hfree, if_true]
  case blockWriteback =>
    rintro el n s u rfl hr
    exact State.next_onIsland el hr rfl
  case pageReady =>
    rintro el s u rfl hr hpaging hpaging' hready hleft
    refine State.next_onIsland el hr ?_
    simp only [hpaging, if_true, hpaging', hready, hleft, List.isEmpty_nil, Bool.not_false, Bool.and_self]

end Sys2Proof.Machine
end

section
/-!
PROOFS. The widening of an entry of a lane's calendar (05 R188).
-/
namespace Sys2Proof.Machine

/-- MIN_PULSE is held in units of 10 ns. -/
theorem State.minPulse_emod (s : State) (n : Nat) : s.minPulse n % 10 = 0 :=
  Int.mul_emod_left _ 10

/-- An entry that has a close and is shorter than MIN_PULSE grows on both sides by the units that it lacks. -/
theorem State.wide_short {s : State} {n : Nat} {e : Entry} {c x : Int} (hc : e.close = some c)
    (h : c - e.opn < s.minPulse n) (hx : x = (s.minPulse n - (c - e.opn)) / 10) :
    s.wide n e = { e with opn := e.opn - x / 2 * 10, close := some (c + (x - x / 2) * 10), widened := true } := by
  subst hx
  simp only [State.wide, hc]
  exact if_pos (Int.sub_pos_of_lt h)

/-- An entry that has a close and is as long as MIN_PULSE stays as it is. -/
theorem State.wide_long {s : State} {n : Nat} {e : Entry} {c : Int} (hc : e.close = some c)
    (h : s.minPulse n ≤ c - e.opn) : s.wide n e = e := by
  simp only [State.wide, hc]
  exact if_neg (by omega)

/-- The widening counts where WIDENED sets. -/
theorem State.widen_of_sets {s : State} {n : Nat} {e : Entry} (hw : (s.wide n e).widened = true)
    (he : e.widened = false) : (s.widen n e).1 = s.count (R.STITCH_LANE_WIDENED n) 1 := by
  simp [State.widen, hw, he]

/-- An entry whose widening was counted is not counted again. -/
theorem State.widen_of_widened {s : State} {n : Nat} {e : Entry} (he : e.widened = true) : (s.widen n e).1 = s := by
  simp [State.widen, he]

/-- An entry that stays as it is counts nothing. -/
theorem State.widen_of_wide_eq {s : State} {n : Nat} {e : Entry} (h : s.wide n e = e) : s.widen n e = (s, e) := by
  simp [State.widen, h]

/-- Settles O41: the shortfall decides, and it is a whole number of units where the length is one. -/
theorem shortEntryIsWidened : Obligations.ShortEntryIsWidened := by
  unfold Obligations.ShortEntryIsWidened
  intro s n e c hc
  refine ⟨fun hshort => ?short, fun hlong => State.widen_of_wide_eq (State.wide_long hc hlong)⟩
  case short =>
    have hwide := State.wide_short hc hshort rfl
    have hsets : (s.wide n e).widened = true := congrArg Entry.widened hwide
    have hunits := s.minPulse_emod n
    refine ⟨(s.minPulse n - (c - e.opn)) / 10, rfl, ?nonneg, hwide, State.widen_of_sets hsets, State.widen_of_widened,
      fun hwhole => ?length⟩
    case nonneg => omega
    case length => omega

end Sys2Proof.Machine
end

section
/-!
PROOFS. The rows of a lane tile and its group high-side (06 R228, R229, R243–R247, R272, R275, R280, R281), and what the checks of an
access read.
-/
namespace Sys2Proof.Machine

/-! A command that changes nothing but registers and what it sends out: its updates one by one. -/

namespace State.SameButRegs

variable {s t u : State} {el : Nat} {o : List Out}

protected theorem begin (s : State) (el : Nat) : s.SameButRegs (s.begin el) el [] := rfl

theorem of_regs (h : s.SameButRegs t el o) (hu : u = { t with regs := u.regs }) : s.SameButRegs u el o := by
  have hmoved : ({ t with regs := u.regs } : State) = { s.begin el with out := o, regs := u.regs, fresh := t.fresh, sats := t.sats } :=
    congrArg (fun x : State => { x with regs := u.regs }) h
  rw [hu]
  exact hmoved

theorem setReg (h : s.SameButRegs t el o) (a : Nat) (v : Word) : s.SameButRegs (t.setReg a v) el o := h.of_regs rfl
theorem setFld (h : s.SameButRegs t el o) (a lo wid v : Nat) : s.SameButRegs (t.setFld a lo wid v) el o := h.setReg a _
theorem count (h : s.SameButRegs t el o) (a k : Nat) : s.SameButRegs (t.count a k) el o := h.setReg a _
theorem event (h : s.SameButRegs t el o) (a i : Nat) : s.SameButRegs (t.event a i) el o :=
  congrArg (fun x : State => { x with fresh := (t.event a i).fresh }) (h.setReg a (t.reg a ||| bit i))
theorem send (h : s.SameButRegs t el o) (x : Out) : s.SameButRegs (t.send x) el (o ++ [x]) :=
  congrArg (State.send · x) h

/-- A tile changes after them. -/
theorem setTile (h : s.SameButRegs t el []) (k : Nat) (v : TileSt) : t.setTile k v =
    { s.begin el with regs := (t.setTile k v).regs, fresh := (t.setTile k v).fresh, sats := (t.setTile k v).sats,
                      tiles := (t.setTile k v).tiles } :=
  congrArg (fun x : State => { x with tiles := (t.setTile k v).tiles }) h

end State.SameButRegs

/-! A tile beside its registers. -/

@[simp] theorem State.tile_setTile_self (s : State) (t : Nat) (v : TileSt) : (s.setTile t v).tile t = v :=
  Tab.get_set_self _ _ _ _

theorem State.tile_setTile_ne (s : State) {t k : Nat} (v : TileSt) (h : k ≠ t) : (s.setTile t v).tile k = s.tile k :=
  Tab.get_set_ne _ _ _ h

@[simp] theorem State.setTile_reg (s : State) (t : Nat) (v : TileSt) (a : Nat) : (s.setTile t v).reg a = s.reg a := rfl
@[simp] theorem State.begin_tile (s : State) (el t : Nat) : (s.begin el).tile t = s.tile t := rfl
@[simp] theorem State.setFld_tile (s : State) (a lo wid v t : Nat) : (s.setFld a lo wid v).tile t = s.tile t := rfl
@[simp] theorem State.event_tile (s : State) (a i t : Nat) : (s.event a i).tile t = s.tile t := rfl
@[simp] theorem State.count_tile (s : State) (a k t : Nat) : (s.count a k).tile t = s.tile t := rfl

/-! What a row of a tile measures goes into registers of its own. -/

theorem tileTempWarn_ne_tileTemp (t : Nat) : R.TILE_TEMP_WARN t ≠ R.TILE_TEMP t := by
  simp only [R.TILE_TEMP_WARN, R.TILE_TEMP]
  omega

theorem groupRegs_distinct (t : Nat) : R.TILE_IRQ_STAT t ≠ R.GRP_IMEAS t ∧ R.GRP_OVERLOAD_CNT t ≠ R.GRP_IMEAS t ∧
    R.TILE_IRQ_STAT t ≠ R.GRP_OVERLOAD_CNT t := by
  simp only [R.TILE_IRQ_STAT, R.GRP_IMEAS, R.GRP_OVERLOAD_CNT]
  omega

/-- TILE_TEMP_WARN where the threshold is reached (R281). -/
theorem execTileTempWarn_reached {el : Nat} {t : Fin 20} {temp : BitVec 16} {s v : State} (hr : s.Runs t)
    (hv : v = (s.begin el).setFld (R.TILE_TEMP t) 0 16 temp.toNat) (hwarm : v.rsfld (R.TILE_TEMP_WARN t) 0 16 ≤ temp.toInt) :
    exec (.tileTempWarn el t temp) s = .next (v.event (R.TILE_IRQ_STAT t) tiWarn) := by
  subst hv
  exact State.next_onIsland el hr (if_pos (decide_eq_true hwarm))

/-- Settles O42: the row writes one field and one event. -/
theorem temperatureWarning : Obligations.TemperatureWarning := by
  unfold Obligations.TemperatureWarning
  intro el t temp s hr hwarm
  have hwarm' : ((s.begin el).setFld (R.TILE_TEMP t) 0 16 temp.toNat).rsfld (R.TILE_TEMP_WARN t) 0 16 ≤ temp.toInt := by
    rw [State.rsfld, State.reg_setFld, if_neg (tileTempWarn_ne_tileTemp t)]
    exact hwarm
  refine ⟨_, execTileTempWarn_reached hr rfl hwarm', State.rbit_event _ _ _ (by decide),
    ((State.SameButRegs.begin s el).setFld _ _ _ _).event _ _, fun a ha => ?_⟩
  simp only [List.mem_cons, List.not_mem_nil, or_false, not_or] at ha
  obtain ⟨htemp, hirq⟩ := ha
  rw [State.reg_event, if_neg hirq, State.reg_setFld, if_neg htemp, State.begin_reg]

/-- GROUP_OVERLOAD at the start of an excursion (R245). -/
theorem execGroupOverload_first {el : Nat} {t : Fin 20} {rms : BitVec 16} {s v w : State} (hr : s.Runs t)
    (hhot : 8000 < rms.toNat) (hv : v = (s.begin el).setFld (R.GRP_IMEAS t) 16 16 rms.toNat) (hnew : (v.tile t).overload = false)
    (hw : w = (v.event (R.TILE_IRQ_STAT t) tiOverload).count (R.GRP_OVERLOAD_CNT t) 1) :
    exec (.groupOverload el t rms) s = .next (w.setTile t { w.tile t with overload := true }) := by
  subst hv hw
  refine State.next_onIsland el hr ?_
  simp only [hhot, hnew, decide_true, Bool.not_false, Bool.and_self, State.when_true]

/-- GROUP_OVERLOAD outside the start of an excursion: nothing but the shown current and the end of one (R245). -/
theorem execGroupOverload_again {el : Nat} {t : Fin 20} {rms : BitVec 16} {s v : State} (hr : s.Runs t)
    (hv : v = (s.begin el).setFld (R.GRP_IMEAS t) 16 16 rms.toNat) (hno : rms.toNat ≤ 8000 ∨ (v.tile t).overload = true) :
    exec (.groupOverload el t rms) s = .next (v.setTile t { v.tile t with overload := decide (8000 < rms.toNat) }) := by
  subst hv
  have hquiet : (decide (8000 < rms.toNat) && !(((s.begin el).setFld (R.GRP_IMEAS t) 16 16 rms.toNat).tile t).overload) = false := by
    rcases hno with hlow | hold
    · rw [decide_eq_false (Nat.not_lt.2 hlow), Bool.false_and]
    · rw [hold, Bool.not_true, Bool.and_false]
  refine State.next_onIsland el hr ?_
  simp only [hquiet, State.when_false]

/-- Settles O43: the row counts where the excursion is new, and otherwise only shows the current. -/
theorem groupOverloadOncePerExcursion : Obligations.GroupOverloadOncePerExcursion := by
  unfold Obligations.GroupOverloadOncePerExcursion
  intro el t rms s hr
  obtain ⟨hirq, hcnt, hne⟩ := groupRegs_distinct t
  have hsame := (State.setFld_tile (s.begin el) (R.GRP_IMEAS t) 16 16 rms.toNat t).trans (State.begin_tile s el t)
  have hshown := (State.SameButRegs.begin s el).setFld (R.GRP_IMEAS t) 16 16 rms.toNat
  by_cases hnew : 8000 < rms.toNat ∧ (s.tile t).overload = false
  case pos =>
    obtain ⟨hhot, hfirst⟩ := hnew
    refine ⟨_, execGroupOverload_first hr hhot rfl (hsame.symm ▸ hfirst) rfl, ((hshown.event _ _).count _ _).setTile _ _, ?tile,
      fun k hk => ?tiles, fun a ha => ?regs, fun _ _ => ⟨?event, ?count⟩, fun hno => ?old⟩
    case tile =>
      rw [State.tile_setTile_self, State.count_tile, State.event_tile, hsame, decide_eq_true hhot]
    case tiles =>
      rw [State.tile_setTile_ne _ _ hk, State.count_tile, State.event_tile, State.setFld_tile, State.begin_tile]
    case regs =>
      simp only [List.mem_cons, List.not_mem_nil, or_false, not_or] at ha
      obtain ⟨haimeas, hairq, hacnt⟩ := ha
      rw [State.setTile_reg, State.reg_count, if_neg hacnt, State.reg_event, if_neg hairq, State.reg_setFld, if_neg haimeas,
        State.begin_reg]
    case event =>
      rw [State.rbit, State.setTile_reg, State.reg_count, if_neg hne]
      exact State.rbit_event _ _ _ (by decide)
    case count =>
      rw [State.setTile_reg, State.reg_count, if_pos rfl, State.reg_event, if_neg hne.symm, State.reg_setFld, if_neg hcnt,
        State.begin_reg]
    case old =>
      rcases hno with hlow | hold
      · exact absurd hhot (Nat.not_lt.2 hlow)
      · exact absurd hold (Bool.eq_false_iff.1 hfirst)
  case neg =>
    have hno : rms.toNat ≤ 8000 ∨ (s.tile t).overload = true :=
      (not_and_or.1 hnew).imp Nat.not_lt.1 Bool.eq_true_of_not_eq_false
    have hregs : ∀ a, a ≠ R.GRP_IMEAS t → ((s.begin el).setFld (R.GRP_IMEAS t) 16 16 rms.toNat).reg a = s.reg a := fun a ha =>
      State.reg_setReg_ne _ _ ha
    refine ⟨_, execGroupOverload_again hr rfl (hsame.symm ▸ hno), hshown.setTile _ _, ?tile, fun k hk => ?tiles, fun a ha => ?regs,
      fun hhot hfirst => absurd ⟨hhot, hfirst⟩ hnew, fun _ => ⟨?irq, ?count⟩⟩
    case tile =>
      rw [State.tile_setTile_self, hsame]
    case tiles =>
      rw [State.tile_setTile_ne _ _ hk, State.setFld_tile, State.begin_tile]
    case regs =>
      rw [State.setTile_reg, hregs a (List.ne_of_not_mem_cons ha)]
    case irq =>
      rw [State.setTile_reg, hregs _ hirq]
    case count =>
      rw [State.setTile_reg, hregs _ hcnt]

/-! The checks of an access (log 9) read registers that no row of a tile writes. -/

/-- The registers that the checks of an access to a register read. -/
def checkRegs : List Nat := [R.LDR_STAT, R.SEC_SESS_STAT, R.SYS_ISLAND_UP0, R.SYS_ISLAND_UP1, R.CLK_GATE_STAT0, R.CLK_GATE_STAT1,
  R.PORT_CFG, R.LDR_SET]

/-- A register that the checks do not read may change without a write being refused for it. -/
theorem State.takes_setReg {s : State} {p : Port} {a b : Nat} (h : s.Takes p a) (ha : a < 0x10000000) (hb : b ∉ checkRegs)
    (v : Word) : (s.setReg b v).Takes p a := by
  have hreg : ∀ c ∈ checkRegs, (s.setReg b v).reg c = s.reg c := fun c hc =>
    State.reg_setReg_ne _ _ fun hcb => hb (hcb ▸ hc)
  simp only [checkRegs, List.forall_mem_cons] at hreg
  obtain ⟨hldr, hsess, hup0, hup1, hgate0, hgate1, hport, hset, -⟩ := hreg
  have himage : (s.setReg b v).imageOk = s.imageOk := by simp only [State.imageOk, State.rbit, hldr]
  have hup (i : Nat) : (s.setReg b v).up i = s.up i := by
    simp only [State.up, State.rbit, hup0, hup1]; rfl
  have hgate (g : Nat) : (s.setReg b v).gateOn g = s.gateOn g := by
    simp only [State.gateOn, State.rbit, hgate0, hgate1]
  have hungated (i : Nat) : (s.setReg b v).ungated i = s.ungated i := by
    simp only [State.ungated, State.gateOpen, State.released, hgate, himage]; rfl
  have hmay : (s.setReg b v).mayWrite p = s.mayWrite p := by
    cases p with
    | usb => simp only [State.mayWrite, State.rbit, hport]; rfl
    | eth1 => simp only [State.mayWrite, State.rbit, hport, himage, hup]
    | qspi => simp only [State.mayWrite, State.rbit, hport, himage, hup]
  have hfinal : (s.setReg b v).inFinalSet a = s.inFinalSet a := by
    simp only [State.inFinalSet, State.ldrState, State.rfld, State.rbit, hldr, hset]
  have herr : (s.setReg b v).accessErr p a true = s.accessErr p a true := by
    have hlow : ¬ 0x10000000 ≤ a := Nat.not_le.2 ha
    simp only [State.accessErr, himage, hup, State.clocked, hgate, hmay, hfinal, hlow, if_false, State.rbit, hsess]
    rfl
  obtain ⟨⟨h37, h34⟩, herr0, hseal⟩ := h
  refine ⟨⟨?_, fun hp => ?_⟩, herr.trans herr0, ?_⟩
  · exact ⟨(hup 37).trans h37.1, (hungated 37).trans h37.2⟩
  · exact ⟨(hup 34).trans (h34 hp).1, (hungated 34).trans (h34 hp).2⟩
  · rw [State.sealed, State.rbit, hldr]; exact hseal

/-- GRP_CLEAR at a group current above 50 mA releases nothing (R244). -/
theorem tileCmd_grpClear_high {t : Nat} {s : State} (h : 50 < s.rfld (R.GRP_IMEAS t) 0 16) : tileCmd t 2 s = s := by
  have hhigh : decide (s.rfld (R.GRP_IMEAS t) 0 16 ≤ 50) = false := decide_eq_false (Nat.not_le.2 h)
  simp [tileCmd, hhigh]

theorem grpImeas_notMem_checkRegs (t : Fin 20) : R.GRP_IMEAS t ∉ checkRegs := by revert t; decide

/-- GRP_CLEAR at a group current above 50 mA is answered and does nothing else (R244). -/
theorem execGrpClear_high {el : Nat} {p : Port} {t : Fin 20} {i : BitVec 16} {s v : State} (ht : s.Takes p (R.TILE_CMD t))
    (hi : 50 < i.toNat) (hv : v = (s.begin el).setFld (R.GRP_IMEAS t) 0 16 i.toNat) :
    exec (.grpClear el p t i) s = .next ((v.storeAt p (R.TILE_CMD t) 2).send (.wrote p (R.TILE_CMD t) 0)) := by
  have hcmd := commandReg_tile t
  have hlow : R.TILE_CMD t < 0x10000000 := by
    simp only [R.TILE_CMD]
    omega
  have htakes : v.Takes p (R.TILE_CMD t) :=
    hv ▸ State.takes_setReg (State.takes_begin ht el) hlow (grpImeas_notMem_checkRegs t) _
  have himeas : v.rfld (R.GRP_IMEAS t) 0 16 = i.toNat := by
    rw [hv, State.rfld_setFld _ _ _ _ _ (by decide), Nat.mod_eq_of_lt i.isLt]
  have hhigh : 50 < (v.storeAt p (R.TILE_CMD t) 2).rfld (R.GRP_IMEAS t) 0 16 := by
    rw [State.rfld, (State.storeAt_commandReg hcmd v p 2).1]
    exact lt_of_lt_of_eq hi himeas.symm
  have hwrite := State.writeCmd_plain 2 (tileCmd t) htakes (commandReg_plain hcmd)
  rw [tileCmd_grpClear_high hhigh, hv] at hwrite
  exact hv ▸ congrArg Host.Outcome.next hwrite

/-- Settles O44: the write of the command register stores nothing, and the command asks for a current that is not there. -/
theorem groupClearNeedsLowCurrent : Obligations.GroupClearNeedsLowCurrent := by
  unfold Obligations.GroupClearNeedsLowCurrent
  intro el p t i s ht hi
  obtain ⟨hreg, hrest⟩ :=
    State.storeAt_commandReg (commandReg_tile t) ((s.begin el).setFld (R.GRP_IMEAS t) 0 16 i.toNat) p 2
  have hframe : ∀ a, a ≠ R.GRP_IMEAS t →
      (((s.begin el).setFld (R.GRP_IMEAS t) 0 16 i.toNat).storeAt p (R.TILE_CMD t) 2).reg a = s.reg a := fun a ha =>
    (hreg a).trans (State.reg_setReg_ne _ _ ha)
  have hstat : R.TILE_STAT t ≠ R.GRP_IMEAS t := by
    simp only [R.TILE_STAT, R.GRP_IMEAS]
    omega
  refine ⟨_, execGrpClear_high ht hi rfl, ?rest, fun a ha => ?regs, ?trip⟩
  case rest =>
    exact (((State.SameButRegs.begin s el).setFld _ _ _ _).of_regs hrest).send _
  case regs =>
    rw [State.send_reg, hframe a (by simpa using ha)]
  case trip =>
    rw [State.send_rbit, State.rbit, hframe _ hstat, State.rbit]

/-! Every row of a tile and of its group high-side. -/

/-- Settles O1: under its conditions each row runs through the branch that its rule names. -/
theorem groupAndTileRowsComplete : Obligations.GroupAndTileRowsComplete := by
  unfold Obligations.GroupAndTileRowsComplete
  refine ⟨?ghTurnOn, ?ghTurnOff, ?groupTrip, ?grpClear, ?groupOverload, ?ghStuck, ?tileOt, ?tileOtClear, ?tileTempWarn,
    ?peakInhibit, ?peakInhibitEnd, ?idleTestStart, ?idleTestResult⟩
  case ghTurnOn =>
    rintro el t o s u rfl hr hwait hdue hblocked
    have hany : ((s.begin el).waiting t).any (fun o => decide (o - 2000 ≤ (s.begin el).localDt t)) = true :=
      List.any_eq_true.2 ⟨o, hwait, decide_eq_true hdue⟩
    exact State.next_onIsland el hr (if_pos (by simp only [hany, hblocked, Bool.not_false, Bool.and_self]))
  case ghTurnOff =>
    rintro el t s u rfl hr hidle hdue hfar
    have hnone : ((s.begin el).waiting t).any
        (fun o => decide (o ≤ ((s.begin el).tile t).ghLast + 20000 + 50000)) = false :=
      List.any_eq_false.2 fun o ho hle => absurd (of_decide_eq_true hle) (Int.not_le.2 (hfar o ho))
    refine State.next_onIsland el hr (if_pos ?_)
    simp only [hidle, hdue, hnone, decide_true, Bool.not_false, Bool.and_self]
  case groupTrip =>
    rintro el t s u rfl hr
    exact State.next_onIsland el hr rfl
  case grpClear =>
    rintro el p t i v s u rfl rfl ht
    exact congrArg Host.Outcome.next (State.writeCmd_plain 2 (tileCmd t) ht (commandReg_plain (commandReg_tile t)))
  case groupOverload =>
    rintro el t rms v w s u rfl hr hhot hv hfirst hw
    exact execGroupOverload_first hr hhot hv hfirst hw
  case ghStuck =>
    rintro el t s u rfl hr hoff hnew hdue
    refine State.next_onIsland el hr (if_pos ?_)
    simp only [hoff, hnew, hdue, decide_true, Bool.not_false, Bool.and_self]
  case tileOt =>
    rintro el t temp s u rfl hr hhot hnew
    exact State.next_onIsland el hr (if_pos ⟨hhot, by simp only [hnew, Bool.not_false]⟩)
  case tileOtClear =>
    rintro el p t temp v s u rfl rfl ht
    exact congrArg Host.Outcome.next (State.writeCmd_plain 4 (tileCmd t) ht (commandReg_plain (commandReg_tile t)))
  case tileTempWarn =>
    rintro el t temp s u rfl hr hwarm
    exact execTileTempWarn_reached hr rfl hwarm
  case peakInhibit =>
    rintro el cur s u rfl hnone
    exact congrArg Host.Outcome.next (if_neg (by simp only [hnone, Bool.false_eq_true, not_false_eq_true]))
  case peakInhibitEnd =>
    rintro el s u rfl
    rfl
  case idleTestStart =>
    rintro el t v s u rfl hr hnone hdue hmay rfl
    refine State.next_onIsland el hr (if_pos ?_)
    simp only [hnone, hdue, hmay, Option.isNone_none, decide_true, Bool.and_self]
  case idleTestResult =>
    rintro el t high b l w s u rfl hr hidle hdue rfl
    refine State.next_onIsland el hr ?_
    simp only [hidle, hdue, if_true]

end Sys2Proof.Machine
end

section
/-!
PROOFS. Rows that leave every lane but their own alone (06 R232, R236, R248, R260–R263): each update that such a row makes keeps the
frame of its lane.
-/
namespace Sys2Proof.Machine

namespace State.OnlyLane

variable {s t : State} {el n : Nat} {l : List Nat}

protected theorem begin (s : State) (el n : Nat) (l : List Nat) : s.OnlyLane (s.begin el) el n l :=
  ⟨rfl, fun _ _ => rfl, fun _ _ => rfl⟩

/-- A row that its island does not carry out leaves the state at its start. -/
theorem onIsland {i : Nat} {f : State → State} (h : s.OnlyLane (f (s.begin el)) el n l) :
    s.OnlyLane ((s.begin el).onIsland i f) el n l := by
  unfold State.onIsland
  split
  · exact h
  · exact .begin s el n l

theorem updLane (h : s.OnlyLane t el n l) (f : LaneSt → LaneSt) : s.OnlyLane (t.updLane n f) el n l := by
  obtain ⟨hrest, hlane, hreg⟩ := h
  refine ⟨?_, fun m hm => ?_, hreg⟩
  · exact congrArg (fun x : State => { x with lanes := (t.updLane n f).lanes }) hrest
  · exact (Tab.get_set_ne _ _ _ hm).trans (hlane m hm)

theorem updFiring (h : s.OnlyLane t el n l) (f : Firing → Firing) : s.OnlyLane (t.updFiring n f) el n l :=
  h.updLane _

theorem setReg (h : s.OnlyLane t el n l) {a : Nat} (ha : a ∈ l) (v : Word) : s.OnlyLane (t.setReg a v) el n l := by
  obtain ⟨hrest, hlane, hreg⟩ := h
  refine ⟨?_, hlane, fun b hb => ?_⟩
  · exact congrArg (fun x : State => { x with regs := (t.setReg a v).regs }) hrest
  · have hne : b ≠ a := fun hba => hb (hba ▸ ha)
    rw [State.reg_setReg_ne _ _ hne, hreg b hb]

theorem event (h : s.OnlyLane t el n l) {a : Nat} (ha : a ∈ l) (i : Nat) : s.OnlyLane (t.event a i) el n l := by
  obtain ⟨hrest, hlane, hreg⟩ := h.setReg ha (t.reg a ||| bit i)
  exact ⟨congrArg (fun x : State => { x with fresh := (t.event a i).fresh }) hrest, hlane, hreg⟩

theorem noteSat (h : s.OnlyLane t el n l) (a : Nat) (c : Bool) : s.OnlyLane (t.noteSat a c) el n l := by
  obtain ⟨hrest, hlane, hreg⟩ := h
  cases c
  · exact ⟨hrest, hlane, hreg⟩
  · exact ⟨congrArg (fun x : State => { x with sats := (t.noteSat a true).sats }) hrest, hlane, hreg⟩

theorem setFldN (h : s.OnlyLane t el n l) {a : Nat} (ha : a ∈ l) (lo wid v : Nat) :
    s.OnlyLane (t.setFldN a lo wid v) el n l :=
  (h.noteSat a _).setReg ha _

theorem setFldI (h : s.OnlyLane t el n l) {a : Nat} (ha : a ∈ l) (lo wid : Nat) (v : Int) :
    s.OnlyLane (t.setFldI a lo wid v) el n l :=
  (h.noteSat a _).setReg ha _

/-- What has happened in a lane's chopping is written down in that lane. -/
theorem chopNow (h : s.OnlyLane t el n l) : s.OnlyLane (t.chopNow n) el n l := by
  simp only [State.chopNow, State.chopTo]
  split
  · exact h
  · split
    · exact h
    · exact h.updLane _

/-- A resistance draws a free value at most (log 5). -/
theorem resistance (h : s.OnlyLane t el n l) (x : List RelSample) : s.OnlyLane (t.resistance x).2 el n l := by
  obtain ⟨hrest, hlane, hreg⟩ := h
  simp only [State.resistance]
  split
  · exact ⟨congrArg (fun y : State => { y with free := t.free + 1 }) hrest, hlane, hreg⟩
  · exact ⟨hrest, hlane, hreg⟩

theorem chop (h : s.OnlyLane t el n l) (i : Nat) : s.OnlyLane (t.chop n i) el n l := by
  simp only [State.chop]
  split
  · exact h.chopNow.updLane _
  · exact h.chopNow

end State.OnlyLane

/-- Settles O60: every branch of each row is a chain of updates that keep the frame of the lane. -/
theorem laneRowsTouchOnlyTheirLane : Obligations.LaneRowsTouchOnlyTheirLane := by
  unfold Obligations.LaneRowsTouchOnlyTheirLane
  intro el n i k x s
  have h (l : List Nat) : s.OnlyLane (s.begin el) el n l := .begin s el n l
  refine ⟨⟨_, rfl, .onIsland ?peakReached⟩, ⟨_, rfl, .onIsland ?holdReached⟩, ⟨_, rfl, ?chopCycle⟩,
    ⟨_, rfl, .onIsland ?splitReached⟩, ⟨_, rfl, .onIsland ?rmeasWindowClose⟩⟩
  case peakReached =>
    dsimp only
    split
    · exact h _
    · split
      · exact (((h _).updFiring _).setFldN List.mem_cons_self _ _ _).updLane _
      · exact h _
  case holdReached =>
    dsimp only
    split
    · exact h _
    · split
      · exact (h _).updLane _
      · exact h _
  case chopCycle =>
    split
    · exact (h _).chop i
    · exact .onIsland ((h _).chop i)
  case splitReached =>
    split
    · exact h _
    · split
      · exact (h _).updLane _
      · exact h _
  case rmeasWindowClose =>
    have h1 := (h [R.LANE_COIL_RMEAS n, R.LANE_COIL_TMEAS n, R.LANE_DIAG n]).chopNow
    dsimp only
    split
    · exact h1
    · next w r hwin =>
      have h2 := h1.updLane fun l => { l with wins := r }
      split
      · exact h2
      · split
        · exact h2
        · split
          · exact ((((h2.resistance _).setFldN (by simp) _ _ _).setFldI (by simp) _ _ _).updLane _)
          · exact (h2.resistance _).event (by simp) _

end Sys2Proof.Machine
end

section
/-!
PROOFS. The rows of a firing (06 R230–R242, R248–R252, R257, R258, R260–R271).
-/
namespace Sys2Proof.Machine

/-! What decides whether the diagnostics of a lane run (02 R70): the lane map, which lies below the registers of the tiles, and the
lane. -/

@[simp] theorem State.recAdd_reg (s : State) (k inst qty : Nat) (v : Int) (a : Nat) : (s.recAdd k inst qty v).reg a = s.reg a := by
  unfold State.recAdd
  split <;> rfl

@[simp] theorem State.recAdd_lane (s : State) (k inst qty : Nat) (v : Int) (n : Nat) : (s.recAdd k inst qty v).lane n = s.lane n := by
  unfold State.recAdd
  split <;> rfl

theorem State.reg_setFldN_ne (s : State) {a b : Nat} (lo wid v : Nat) (h : b ≠ a) : (s.setFldN a lo wid v).reg b = s.reg b := by
  rw [State.setFldN, State.reg_setFld, if_neg h, State.noteSat_reg]

@[simp] theorem State.setFldN_lane (s : State) (a lo wid v n : Nat) : (s.setFldN a lo wid v).lane n = s.lane n := by
  unfold State.setFldN State.noteSat
  split <;> rfl

/-- The role of a lane is read from the lane map. -/
theorem State.role_congr {s t : State} (h : ∀ a < 0x100000, t.reg a = s.reg a) (p : Fin 160) : t.role p = s.role p := by
  have hmap : ∀ n ∈ List.range 160, t.physOf n = s.physOf n := by
    intro n hn
    have hlt : R.LDR_MAP (n / 4) < 0x100000 := by
      have := List.mem_range.1 hn
      simp only [R.LDR_MAP]
      omega
    rw [State.physOf, State.physOf, State.rfld, State.rfld, h _ hlt]
  have hlogical : t.logicalOf p = s.logicalOf p :=
    congrArg List.head? (List.filter_congr fun n hn => by rw [hmap n hn])
  have hspare : t.isSpare p = s.isSpare p := by
    have hlt : R.LDR_SPARE (p / 32) < 0x100000 := by
      simp only [R.LDR_SPARE]
      omega
    simp only [State.isSpare, State.rbit, h _ hlt]
  simp only [State.role, hlogical, hspare]

theorem State.diagRuns_congr {s t : State} {n : Fin 160} (hreg : ∀ a < 0x100000, t.reg a = s.reg a) (hlane : t.lane n = s.lane n) :
    t.diagRuns n = s.diagRuns n := by
  simp only [State.diagRuns, State.role_congr hreg, hlane]

/-- LANE_CLAMP_EMAX and the recorder have no part in it. -/
theorem State.diagRuns_clamp (s : State) (n : Fin 160) (v k inst qty : Nat) (x : Int) :
    ((s.setFldN (R.LANE_CLAMP_EMAX n) 0 16 v).recAdd k inst qty x).diagRuns n = s.diagRuns n := by
  refine State.diagRuns_congr (fun a ha => ?_) (by simp)
  have hne : a ≠ R.LANE_CLAMP_EMAX n := by simp only [R.LANE_CLAMP_EMAX]; omega
  rw [State.recAdd_reg, State.reg_setFldN_ne _ _ _ _ hne]

/-- Settles O2: under its conditions each row runs through the branch that its rule names. -/
theorem firingRowsComplete : Obligations.FiringRowsComplete := by
  unfold Obligations.FiringRowsComplete
  refine ⟨?openInstant, ?peakReached, ?peakEnd, ?boostTimeout, ?holdReached, ?chopCycle, ?closeInstant, ?splitReached, ?firingEnd,
    ?clampIntervalEnd, ?clampPowerWindow, ?laneOpenCheck, ?laneOpenHold, ?laneShort, ?laneOc, ?rmeasWindowClose⟩
  case openInstant =>
    rintro el n entries q r v s u rfl hr hpulses hdue rfl hline hblocked hoc hth hbusy
    refine State.next_onIsland el hr ?_
    simp only [hpulses, Int.not_lt.2 hdue, hline, hblocked, hoc, beq_eq_false_iff_ne.2 hth, hbusy, Option.isSome_none, Bool.or_self,
      Bool.false_eq_true, if_false]
  case peakReached =>
    rintro el n i f s u rfl hr hfiring hphase hfresh hdead hearly hthr hlate
    refine State.next_onIsland el hr ?_
    simp only [hfiring]
    exact if_pos ⟨hphase, hfresh, by simp only [hdead, Bool.not_false], hearly, hthr, hlate⟩
  case peakEnd =>
    rintro el n i f t e s u rfl hr hfiring hpeak hphase rfl hdue
    refine State.next_onIsland el hr ?_
    simp only [hfiring, hpeak]
    exact if_pos ⟨hphase, hdue⟩
  case boostTimeout =>
    rintro el n i f s u rfl hr hfiring hphase hfresh hdue
    refine State.next_onIsland el hr ?_
    simp only [hfiring]
    exact if_pos ⟨hphase, hfresh, hdue⟩
  case holdReached =>
    rintro el n i th f s u rfl hr hfiring hphase hdead hsw rfl hlow
    refine State.next_onIsland el hr ?_
    simp only [hfiring]
    exact if_pos ⟨hphase, by simp only [hdead, Bool.not_false], hsw, hlow⟩
  case chopCycle =>
    rintro el n i f v s u rfl hr hfiring hphase rfl hhold hon honly hlong hthr
    have hsafe : ¬ ((s.begin el).phase n = phSafe ∧ (!(s.begin el).clk.inReset) = true) := by
      rw [hphase]; exact fun h => absurd h.1 (by decide)
    refine congrArg Host.Outcome.next ((if_neg hsafe).trans ((State.onIsland_begin el hr _).trans (if_pos ?_)))
    exact ⟨by simp only [hhold]; rfl, hon, honly, hlong, hthr⟩
  case closeInstant =>
    rintro el n i f c s u rfl hr hfiring hclose hopen hdue
    refine State.next_onIsland el hr ?_
    simp only [hfiring, hclose, hopen]
    exact if_pos hdue
  case splitReached =>
    rintro el n i f s u rfl hr hfiring hphase hslow hlow
    refine State.next_onIsland el hr ?_
    simp only [hfiring]
    exact if_pos ⟨hphase, hslow, hlow⟩
  case firingEnd =>
    rintro el n i f e s u rfl hr hfiring hend hdue hlow
    refine State.next_onIsland el hr ?_
    have hno : decide (20 < i) = false := decide_eq_false (Nat.not_lt.2 hlow)
    simp only [hfiring, Option.bind_some, hend, hno, State.when_false]
    exact if_pos hdue
  case clampIntervalEnd =>
    rintro el n e s u rfl hr hhigh hruns
    refine State.next_onIsland el hr ?_
    rw [State.diagRuns_clamp] at hruns
    exact if_pos (by simp only [hruns, hhigh, decide_true, Bool.and_self])
  case clampPowerWindow =>
    rintro el n p s u rfl hr hhigh hruns
    refine State.next_onIsland el hr ?_
    exact if_pos (by simp only [hruns, hhigh, decide_true, Bool.and_self])
  case laneOpenCheck =>
    rintro el n i f s u rfl hr hseek harmed hlow
    refine State.next_onIsland el hr ?_
    simp only [hseek]
    exact if_pos ⟨harmed, hlow⟩
  case laneOpenHold =>
    rintro el n f s u rfl hr hfiring hphase harmed
    refine State.next_onIsland el hr ?_
    simp only [hfiring, hphase, harmed, ne_eq, not_true_eq_false, if_false, if_true]
  case laneShort =>
    rintro el n v s u rfl hr hruns hgroup hoff rfl
    refine State.next_onIsland el hr ?_
    simp only [hruns, hgroup, hoff, Bool.and_self, if_true]
    rfl
  case laneOc =>
    rintro el n i v w s u rfl hr hruns hhigh rfl rfl
    exact State.next_onIsland el hr (if_pos ⟨hruns, hhigh⟩)
  case rmeasWindowClose =>
    rintro el n k x w r a tm u1 u2 r20 q s u rfl hr rfl hwin rfl hfirst rfl hr20 hlong rfl hlow hhigh rfl
    refine State.next_onIsland el hr ?_
    simp only [hwin, hfirst]
    exact (if_neg (not_or.2 ⟨hr20, Int.not_lt.2 hlong⟩)).trans (if_pos ⟨hlow, hhigh⟩)

end Sys2Proof.Machine
end

section
/-!
PROOFS. The rows of the thermal tick, of latency learning and of Burnish (06 R264–R268; 07 R288–R305, R308–R311, R315–R319).
-/
namespace Sys2Proof.Machine

/-- Settles O3: under its conditions each row runs through the branch that its rule names. -/
theorem learnerRowsComplete : Obligations.LearnerRowsComplete := by
  unfold Obligations.LearnerRowsComplete
  refine ⟨?thermalTick, ?kneeSearchEnd, ?stuckTimeReached, ?closingSearchEnd, ?modelUpdate, ?burnishStart, ?burnishComplete,
    ?burnishStale, ?modelCopy⟩
  case thermalTick =>
    rintro el t temp ig vpk cur x s1 s2 s3 s4 ta m s u rfl hr hm hs1 hta hs2 hs3 hs4
    rw [hs4, hs3, hs2, hta, hs1, hm]
    exact State.next_onIsland el hr rfl
  case kneeSearchEnd =>
    rintro el n k samples f used j v s1 s u rfl hr hseek rfl hdip rfl rfl
    refine State.next_onIsland el hr ?_
    simp only [hseek, hdip]
    rfl
  case stuckTimeReached =>
    rintro el n f s u rfl hr hfiring hdone hnone helig hlong
    refine State.next_onIsland el hr ?_
    simp only [hfiring, hdone, hnone, helig, hlong, Option.isNone_none, decide_true, Bool.and_self]
  case closingSearchEnd =>
    rintro el n k x f t c w s2 s u rfl hr hseek hclosed hdue hseat rfl
    refine State.next_onIsland el hr ?_
    simp only [hseek, hclosed, Option.getD_some, Int.not_lt.2 hdue, if_false, hseat]
    rfl
  case modelUpdate =>
    rintro el n x f k s1 s u rfl hr hfirst hknee hseat hfound hnone hopen hclose hrow rfl
    refine State.next_onIsland el hr ?_
    have hopening : (!true || decide (8 ≠ 8) && decide (8 ≠ 7) && (decide (8 ≠ 5) || (some k).isSome)) = false := rfl
    have hclosing : (!true || 8 == 1 || 8 == 2) = false := rfl
    simp only [hfirst, hknee, hseat, hfound, hnone, hopen, hclose, hrow]
    refine (if_neg (by decide)).trans ?_
    simp only [hopening, hclosing, Bool.or_self, Bool.false_eq_true, if_false]
    rfl
  case burnishStart =>
    rintro el t n s u rfl hr hen hfree hidle hmax
    refine State.next_onIsland el hr ?_
    simp only [hen, hfree, hidle, Bool.not_true, Option.isSome_none, Bool.or_self, Bool.false_eq_true, if_false, hmax]
  case burnishComplete =>
    rintro el t io ig vo vg co b n s u rfl hr hburn hdue rfl hok
    refine State.next_onIsland el hr ?_
    simp only [hburn, Int.not_lt.2 hdue, if_false, hok, if_true]
  case burnishStale =>
    rintro el n s u rfl hr hnew hage
    refine State.next_onIsland el hr (if_pos ?_)
    simp only [hnew, hage, Bool.not_false, decide_true, Bool.and_self]
  case modelCopy =>
    rintro el s u rfl hworks hmss hdue
    exact congrArg Host.Outcome.next (if_pos ⟨hworks, hmss, hdue⟩)

end Sys2Proof.Machine
end

section
/-!
PROOFS. The commands that hosts write to lane tiles, learners, the intake, Stitch and the GROUND block (06 R244, R280; 07 R306, R307,
R315, R320; 03 R107, R112, R113; 05 R184, R214; 04 R139, R140, R167, R171, R172).
-/
namespace Sys2Proof.Machine

theorem plainReg_lrnCmd (n : Fin 160) : plainReg (R.LRN_CMD n) = true := by revert n; decide +kernel
theorem plainReg_streamCfg (k : Fin 4) : plainReg (R.INTAKE_S_CFG k) = true := by revert k; decide +kernel

/-! What each command bit does, written alone. -/

theorem tileCmd_cntClear (t : Nat) (s : State) : tileCmd t 1 s = s.clearRegs (tileCounters t) := by simp [tileCmd]
theorem lrnCmd_burnishNow (n : Nat) (s : State) : lrnCmd n 8 s = s.updLane n fun l => { l with calNow := true } := by
  simp [lrnCmd]
theorem intakeClear_one (s : State) : intakeClear 1 s = s.clearRegs intakeCounters := by simp [intakeClear]
theorem stitchCmd_cntClear (s : State) : stitchCmd 1 s = s.clearRegs stitchCounters := by simp [stitchCmd]
theorem gndCmd_page (s : State) : gndCmd 1 s = s.pageMove := by simp [gndCmd]
theorem gndCmd_commit (s : State) : gndCmd 2 s = s.pageCommit := by simp [gndCmd]
theorem gndCmd_cntClear (s : State) : gndCmd 4 s = s.clearRegs gndCounters := by simp [gndCmd]
theorem gndCmd_flush (s : State) : gndCmd 8 s = s.writeBackAll := by simp [gndCmd]

theorem lrnCmd_clear (n : Nat) (s : State) : lrnCmd n 1 s = s.clearModel n := by
  have h0 : (1 : Word).getLsbD 0 = true := by decide
  have h3 : (1 : Word).getLsbD 3 = false := by decide
  rw [lrnCmd, h3]
  exact (State.when_false _ _).trans (if_pos h0)

theorem lrnCmd_acceptOpen (n : Nat) (s : State) : lrnCmd n 2 s = s.acceptShift n .opening := by
  have h0 : ¬ (2 : Word).getLsbD 0 = true := by decide
  have h1 : (2 : Word).getLsbD 1 = true := by decide
  have h2 : (2 : Word).getLsbD 2 = false := by decide
  have h3 : (2 : Word).getLsbD 3 = false := by decide
  rw [lrnCmd, h1, h2, h3, if_neg h0, State.when_true, State.when_false, State.when_false]

theorem lrnCmd_acceptClose (n : Nat) (s : State) : lrnCmd n 4 s = s.acceptShift n .closing := by
  have h0 : ¬ (4 : Word).getLsbD 0 = true := by decide
  have h1 : (4 : Word).getLsbD 1 = false := by decide
  have h2 : (4 : Word).getLsbD 2 = true := by decide
  have h3 : (4 : Word).getLsbD 3 = false := by decide
  rw [lrnCmd, h1, h2, h3, if_neg h0, State.when_false, State.when_true, State.when_false]

/-- RESYNC clears SYNCED, whatever the other bits of the word are (03 R107). -/
theorem streamCfg_resync (k : Nat) (w : Word) (s : State) :
    streamCfg k (w ||| 1) s = s.setBit (R.INTAKE_S_STAT k) 0 false := by
  have hbit : (w ||| 1).getLsbD 0 = true := by simp
  simp only [streamCfg, hbit, State.when_true]

/-- Blocks that end at or below `m` hold no address from `m` on. -/
theorem blockAt?_above {m a : Nat} (ha : m ≤ a) :
    ∀ {l : List RegBlock}, (∀ b ∈ l, b.base + b.count * b.stride ≤ m) → blockAt? l a = none
  | [], _ => rfl
  | b :: l, hl => by
    have hb : b.base + b.count * b.stride ≤ m := hl b List.mem_cons_self
    rw [blockAt?, if_neg (by omega)]
    exact blockAt?_above ha fun c hc => hl c (List.mem_cons_of_mem b hc)

/-- No register lies in the store window. -/
theorem regHit?_window {a : Nat} (h : 0x10000000 ≤ a) : regHit? a = none := by
  rw [regHit?, blockAt?_above h (by decide)]

/-- A write of a word of the raster that every check lets pass takes effect there (04 R167); it is not screened, since the raster is no
register. -/
theorem State.writeCmd_raster {s : State} {p : Port} {a : Nat} (v : Word) (act : Word → State → State) (hp : s.PortRuns p)
    (he : s.accessErr p a true = 0) (ha : isRaster a = true) :
    s.writeCmd p a v act = (s.rasterHost a (bytesOfWord v)).send (.wrote p a 0) := by
  have hlow : 0x10000000 ≤ a := by
    simp only [isRaster, decide_eq_true_eq] at ha
    omega
  simp [State.writeCmd, State.atPort_runs hp, State.hostWrite, he, regHit?_window hlow, ha]

/-- A write of a command register by its own row, whose word acts on the state after the write. -/
theorem State.writeCmd_acts {s t : State} {p : Port} {a : Nat} {v : Word} {act : Word → State → State} (el : Nat)
    (h : s.Takes p a) (hp : plainReg a = true) (hact : act v ((s.begin el).storeAt p a v) = t) :
    (s.begin el).writeCmd p a v act = t.send (.wrote p a 0) := by
  rw [State.writeCmd_begin el v act h hp, hact]

/-- Settles O4: each command register passes its word on, and the bit of the word names the action. -/
theorem laneCommandsComplete : Obligations.LaneCommandsComplete := by
  unfold Obligations.LaneCommandsComplete
  refine ⟨?tileCntClear, ?acceptOpen, ?acceptClose, ?lrnClear, ?burnishNow, ?streamResync, ?tgtSubmit, ?intakeCntClear,
    ?stitchFlush, ?stitchCntClear, ?stitchCalCapture, ?gndVsCommit, ?gndFlush, ?gndPage, ?gndCommit, ?gndCntClear,
    ?rasterHostWrite⟩
  case tileCntClear =>
    rintro el p t s u rfl ht
    exact congrArg Host.Outcome.next (State.writeCmd_acts el ht (commandReg_plain (commandReg_tile t)) (tileCmd_cntClear t _))
  case acceptOpen =>
    rintro el p n s u rfl ht
    exact congrArg Host.Outcome.next (State.writeCmd_acts el ht (plainReg_lrnCmd n) (lrnCmd_acceptOpen n _))
  case acceptClose =>
    rintro el p n s u rfl ht
    exact congrArg Host.Outcome.next (State.writeCmd_acts el ht (plainReg_lrnCmd n) (lrnCmd_acceptClose n _))
  case lrnClear =>
    rintro el p n s u rfl ht
    exact congrArg Host.Outcome.next (State.writeCmd_acts el ht (plainReg_lrnCmd n) (lrnCmd_clear n _))
  case burnishNow =>
    rintro el p n s u rfl ht
    exact congrArg Host.Outcome.next (State.writeCmd_acts el ht (plainReg_lrnCmd n) (lrnCmd_burnishNow n _))
  case streamResync =>
    rintro el p k w s u rfl rfl ht
    exact congrArg Host.Outcome.next (State.writeCmd_acts el ht (plainReg_streamCfg k) (streamCfg_resync k _ _))
  case tgtSubmit =>
    rintro el p v s u rfl ht
    exact congrArg Host.Outcome.next (State.writeCmd_acts el ht (by decide +kernel) rfl)
  case intakeCntClear =>
    rintro el p s u rfl ht
    exact congrArg Host.Outcome.next (State.writeCmd_acts el ht (by decide +kernel) (intakeClear_one _))
  case stitchFlush =>
    rintro el p both s u rfl ht
    exact congrArg Host.Outcome.next (State.writeCmd_acts el ht (by decide +kernel) rfl)
  case stitchCntClear =>
    rintro el p s u rfl ht
    exact congrArg Host.Outcome.next (State.writeCmd_acts el ht (by decide +kernel) (stitchCmd_cntClear _))
  case stitchCalCapture =>
    rintro el p s u rfl hg
    exact congrArg Host.Outcome.next (State.readCmd_gives calCapture (State.gives_begin hg el))
  case gndVsCommit =>
    rintro el p v s u rfl ht
    exact congrArg Host.Outcome.next (State.writeCmd_acts el ht (by decide +kernel) rfl)
  case gndFlush =>
    rintro el p s u rfl ht
    exact congrArg Host.Outcome.next (State.writeCmd_acts el ht (by decide +kernel) (gndCmd_flush _))
  case gndPage =>
    rintro el p s u rfl ht
    exact congrArg Host.Outcome.next (State.writeCmd_acts el ht (by decide +kernel) (gndCmd_page _))
  case gndCommit =>
    rintro el p s u rfl ht
    exact congrArg Host.Outcome.next (State.writeCmd_acts el ht (by decide +kernel) (gndCmd_commit _))
  case gndCntClear =>
    rintro el p s u rfl ht
    exact congrArg Host.Outcome.next (State.writeCmd_acts el ht (by decide +kernel) (gndCmd_cntClear _))
  case rasterHostWrite =>
    rintro el p i v s u rfl hp he
    have hi : isRaster (rasterBase + 4 * i) = true := by
      have hlt := i.isLt
      simp only [isRaster, rasterBase, decide_eq_true_eq]
      omega
    exact congrArg Host.Outcome.next (State.writeCmd_raster v _ (s := s.begin el) hp he hi)

end Sys2Proof.Machine
end

section
/-!
PROOFS. The commands that hosts write to a motion axis, and the release of a held one (08 R348, R354, R357, R360).
-/
namespace Sys2Proof.Machine

/-- The command register of an axis (08 Table 5) stores nothing. -/
theorem commandReg_axis (a : Fin 8) : commandReg (R.AX_CMD a) = true := by revert a; decide +kernel

/-- A write of AX_CMD by the row of one of its bits: the word acts on the state after the write. -/
theorem State.writeCmd_axis {s : State} {p : Port} (el : Nat) (a : Fin 8) (w : Word) (h : s.Takes p (R.AX_CMD a)) :
    (Host.Outcome.next ((s.begin el).writeCmd p (R.AX_CMD a) w (axCmd a)) : Host.Outcome State Fault Refusal) =
      .next ((axCmd a w ((s.begin el).storeAt p (R.AX_CMD a) w)).send (.wrote p (R.AX_CMD a) 0)) :=
  congrArg Host.Outcome.next (State.writeCmd_begin el w (axCmd a) h (commandReg_plain (commandReg_axis a)))

/-- RELEASE alone at an axis that is held (R357). -/
theorem axCmd_release_held {s : State} {a : Nat} (h : s.rbit (R.AX_STAT a) asHeld = true) :
    axCmd a 4 s = (s.setBit (R.AX_STAT a) asHeld false).updAxis a fun q => { q with hold := none } := by
  simp [axCmd, h]

/-- RELEASE alone at an axis that is not held. -/
theorem axCmd_release_free {s : State} {a : Nat} (h : s.rbit (R.AX_STAT a) asHeld = false) : axCmd a 4 s = s := by
  simp [axCmd, h]

/-! An axis beside its registers. -/

@[simp] theorem State.axis_updAxis_self (s : State) (a : Nat) (f : AxisSt → AxisSt) : (s.updAxis a f).axis a = f (s.axis a) :=
  Tab.get_set_self _ _ _ _

theorem State.axis_updAxis_ne (s : State) {a m : Nat} (f : AxisSt → AxisSt) (h : m ≠ a) : (s.updAxis a f).axis m = s.axis m :=
  Tab.get_set_ne _ _ _ h

@[simp] theorem State.updAxis_reg (s : State) (a : Nat) (f : AxisSt → AxisSt) (b : Nat) : (s.updAxis a f).reg b = s.reg b := rfl
@[simp] theorem State.updAxis_rbit (s : State) (a : Nat) (f : AxisSt → AxisSt) (b i : Nat) :
    (s.updAxis a f).rbit b i = s.rbit b i := rfl
@[simp] theorem State.setBit_axis (s : State) (a i : Nat) (b : Bool) (m : Nat) : (s.setBit a i b).axis m = s.axis m := rfl
@[simp] theorem State.send_axis (s : State) (o : Out) (m : Nat) : (s.send o).axis m = s.axis m := rfl

/-! A command that changes nothing but an axis and registers of it: its updates one by one. -/

theorem State.SameButRegs.axis {s t : State} {el : Nat} {o : List Out} (h : s.SameButRegs t el o) (m : Nat) :
    t.axis m = s.axis m :=
  (congrArg (State.axis · m) h).trans rfl

theorem State.SameButRegs.onlyAxis {s t : State} {el : Nat} {o : List Out} {l : List Nat} (h : s.SameButRegs t el o)
    (hr : s.RegsBut t l) (a : Nat) : s.OnlyAxis t el a l o :=
  ⟨congrArg (fun x : State => { x with axes := t.axes }) h, fun m _ => h.axis m, hr⟩

namespace State.OnlyAxis

variable {s t : State} {el a : Nat} {l : List Nat} {o : List Out}

theorem setBit (h : s.OnlyAxis t el a l o) {b : Nat} (hb : b ∈ l) (i : Nat) (x : Bool) :
    s.OnlyAxis (t.setBit b i x) el a l o := by
  obtain ⟨hrest, haxis, hreg⟩ := h
  refine ⟨congrArg (fun y : State => { y with regs := (t.setBit b i x).regs }) hrest, haxis, fun c hc => ?_⟩
  have hne : c ≠ b := fun hcb => hc (hcb ▸ hb)
  rw [State.reg_setBit, if_neg hne, hreg c hc]

theorem updAxis (h : s.OnlyAxis t el a l o) (f : AxisSt → AxisSt) : s.OnlyAxis (t.updAxis a f) el a l o := by
  obtain ⟨hrest, haxis, hreg⟩ := h
  refine ⟨congrArg (fun y : State => { y with axes := (t.updAxis a f).axes }) hrest, fun m hm => ?_, hreg⟩
  exact (State.axis_updAxis_ne _ _ hm).trans (haxis m hm)

theorem send (h : s.OnlyAxis t el a l o) (x : Out) : s.OnlyAxis (t.send x) el a l (o ++ [x]) := by
  obtain ⟨hrest, haxis, hreg⟩ := h
  exact ⟨congrArg (State.send · x) hrest, haxis, hreg⟩

end State.OnlyAxis

/-- Settles O59: the write of AX_CMD stores nothing, and RELEASE acts on HELD and the stop position of a held axis alone. -/
theorem releaseOfAHeldAxis : Obligations.ReleaseOfAHeldAxis := by
  unfold Obligations.ReleaseOfAHeldAxis
  intro el p a s ht
  obtain ⟨hreg, hrest⟩ := State.storeAt_commandReg (commandReg_axis a) (s.begin el) p 4
  have hstored := (State.SameButRegs.begin s el).of_regs hrest
  have hframe := hstored.onlyAxis (l := [R.AX_STAT a]) (fun b _ => hreg b) a
  have hbit : ((s.begin el).storeAt p (R.AX_CMD a) 4).rbit (R.AX_STAT a) asHeld = s.rbit (R.AX_STAT a) asHeld := by
    rw [State.rbit, hreg, State.begin_reg, State.rbit]
  refine ⟨_, State.writeCmd_axis el a 4 ht, ?_⟩
  cases hheld : s.rbit (R.AX_STAT a) asHeld with
  | true =>
    rw [axCmd_release_held (hbit.trans hheld)]
    refine ⟨((hframe.setBit List.mem_cons_self _ _).updAxis _).send _, ?held, fun _ => ?axis, nofun⟩
    case held =>
      rw [State.send_rbit, State.updAxis_rbit, State.rbit_setBit _ _ _ _ (by decide)]
    case axis =>
      rw [State.send_axis, State.axis_updAxis_self, State.setBit_axis, hstored.axis]
  | false =>
    rw [axCmd_release_free (hbit.trans hheld)]
    refine ⟨hframe.send _, ?held, nofun, fun _ => ⟨?axis, ?stat⟩⟩
    case held =>
      rw [State.send_rbit, hbit, hheld]
    case axis =>
      rw [State.send_axis, hstored.axis]
    case stat =>
      rw [State.send_reg, hreg, State.begin_reg]

end Sys2Proof.Machine
end

section
/-!
PROOFS. The rows of a motion axis and of a motion tile (08 R324–R332, R339–R341, R346, R348, R354, R357, R360, R361).
-/
namespace Sys2Proof.Machine

/-! The choppers (R324, R325). -/

/-- A phase that has driven for 500 ns stops where its target has been reached. -/
theorem Chop.compare_reached {c : Chop} {now toff : Nat} {t i : Int} (hon : c.drive = true) (hmin : c.since + 500 ≤ now)
    (hmag : t.natAbs ≤ i.natAbs) (hsign : t = 0 ∨ i.sign = t.sign) : c.compare now toff t i = (⟨false, now, i⟩, false) := by
  have hturn : (decide (i.sign ≠ t.sign) && decide (t ≠ 0)) = false := by
    rcases hsign with hzero | hsame
    · rw [decide_eq_false (not_not.2 hzero), Bool.and_false]
    · rw [decide_eq_false (not_not.2 hsame), Bool.false_and]
  have hlow : decide (i.natAbs < t.natAbs) = false := decide_eq_false (Nat.not_lt.2 hmag)
  simp only [Chop.compare, hon, hmin, hturn, hlow, Bool.or_self, Bool.not_false, and_self, if_true]

/-- A phase that has been off for T_OFF drives where its current lies below its target, and a cycle has ended. -/
theorem Chop.compare_drives {c : Chop} {now toff : Nat} {t i : Int} (hoff : c.drive = false) (hdue : c.since + toff * 10 ≤ now)
    (hlow : i.natAbs < t.natAbs) : c.compare now toff t i = (⟨true, now, i⟩, true) := by
  simp only [Chop.compare, hoff, hdue, hlow, decide_true, Bool.or_true, Bool.false_eq_true, if_false, if_true]

theorem State.phaseChop_off {s : State} {a : Nat} (h : s.bridgesOn a = false) (b : Bool) (i : Int) :
    s.phaseChop a b i = s.setAxis a (if b then { s.axis a with chopB := ⟨false, s.now, i⟩ } else
      { s.axis a with chopA := ⟨false, s.now, i⟩ }) :=
  if_pos (by rw [h, Bool.not_false])

theorem State.phaseChop_on {s : State} {a : Nat} {b : Bool} {i : Int} {c : Chop} {r : Chop × Bool} (h : s.bridgesOn a = true)
    (hc : c = if b then (s.axis a).chopB else (s.axis a).chopA)
    (hr : c.compare s.now (s.rfld (R.AX_CHOP a) 16 16) (s.phaseTarget a b) i = r) :
    s.phaseChop a b i = s.setAxis a (if b then { s.axis a with chopB := r.1 } else
      { s.axis a with chopA := r.1, ramp := if r.2 then min 16 ((s.axis a).ramp + 1) else (s.axis a).ramp }) := by
  subst hc hr
  exact if_neg (by rw [h, Bool.not_true]; exact Bool.false_ne_true)

/-- PHASE_CHOP_CYCLE in an island that runs: the comparator acts with a fail-safe HOLD and without. -/
theorem execPhaseChopCycle_runs {el : Nat} {a : Fin 8} {s t : State} (hr : s.Runs (axisIsland a)) (b : Bool) (i : BitVec 16)
    (ht : (s.begin el).phaseChop a b i.toInt = t) : exec (.phaseChopCycle el a b i) s = .next t := by
  refine congrArg Host.Outcome.next (Eq.trans ?_ ht)
  exact (congrArg (ite _ _) (State.onIsland_begin el hr _)).trans (ite_self _)

/-- CNT_CLEAR alone (R361). -/
theorem motCmd_cntClear (t : Nat) (s : State) : motCmd t 1 s = s.clearRegs (motCounters t) := by simp [motCmd]

/-- Settles O6: under its conditions each row runs through the branch that its rule names, and each command register passes its
word on. -/
theorem motionRowsComplete : Obligations.MotionRowsComplete := by
  unfold Obligations.MotionRowsComplete
  refine ⟨?profileUpdate, ?holdCurrentSwitch, ?stepPulse, ?microstepEmit, ?chopReached, ?chopDrives, ?chopOff, ?axisOc,
    ?axisOpen, ?axisVmUv, ?vmRecover, ?motionOt, ?motOtClear, ?motCntClear, ?axStop, ?axHold, ?axRelease, ?encSync, ?setActual⟩
  case profileUpdate =>
    rintro el a ok d v s u rfl hr hdue hfirst rfl
    refine State.next_onIsland el hr (if_neg ?_)
    simp only [hdue, hfirst, ne_eq, not_true_eq_false, decide_false, Bool.or_self, Bool.false_eq_true, not_false_eq_true]
  case holdCurrentSwitch =>
    rintro el a t s u rfl hr hstill hdue hrun
    refine State.next_onIsland el hr ?_
    simp only [hstill]
    exact if_pos ⟨hdue, by rw [hrun, Bool.not_false]⟩
  case stepPulse =>
    rintro el a pos d v s u rfl hr hmode hfirst rfl hfree hmoves
    refine State.next_onIsland el hr ((if_neg (not_not.2 hmode)).trans ?_)
    simp only [hfirst, hfree, hmoves, Bool.false_eq_true, if_false]
  case microstepEmit =>
    rintro el a d q s u rfl hr rfl hleft hdue
    exact State.next_onIsland el hr ((if_neg hleft).trans (if_pos hdue))
  case chopReached =>
    rintro el a b i c s u rfl hr hon hc hdrive hmin hmag hsign
    exact execPhaseChopCycle_runs hr b i (State.phaseChop_on hon hc (Chop.compare_reached hdrive hmin hmag hsign))
  case chopDrives =>
    rintro el a b i c s u rfl hr hon hc hidle hdue hlow
    exact execPhaseChopCycle_runs hr b i (State.phaseChop_on hon hc (Chop.compare_drives hidle hdue hlow))
  case chopOff =>
    rintro el a b i s u rfl hr hoff
    exact execPhaseChopCycle_runs hr b i (State.phaseChop_off hoff b i.toInt)
  case axisOc =>
    rintro el a s u rfl hr
    exact State.next_onIsland el hr rfl
  case axisOpen =>
    rintro el a b s u rfl hr hbig
    exact State.next_onIsland el hr (if_neg (Nat.not_lt.2 hbig))
  case axisVmUv =>
    rintro el a vm v s u rfl hr rfl hlow hnew
    exact State.next_onIsland el hr (if_pos ⟨hlow, by rw [hnew, Bool.not_false]⟩)
  case vmRecover =>
    rintro el a vm s u rfl hr hhigh
    refine State.next_onIsland el hr ?_
    simp only [hhigh, decide_true, State.when_true]
  case motionOt =>
    rintro el t temp v s u rfl hr rfl hhot hnew
    exact State.next_onIsland el hr (if_pos ⟨hhot, by rw [hnew, Bool.not_false]⟩)
  case motOtClear =>
    rintro el p t temp v s u rfl rfl ht
    exact congrArg Host.Outcome.next (State.writeCmd_plain 2 (motCmd t) ht (commandReg_plain (commandReg_mot t)))
  case motCntClear =>
    rintro el p t s u rfl ht
    exact congrArg Host.Outcome.next (State.writeCmd_acts el ht (commandReg_plain (commandReg_mot t)) (motCmd_cntClear t _))
  case axStop =>
    rintro el p a s u rfl ht
    exact State.writeCmd_axis el a 1 ht
  case axHold =>
    rintro el p a s u rfl ht
    exact State.writeCmd_axis el a 2 ht
  case axRelease =>
    rintro el p a s u rfl ht
    exact State.writeCmd_axis el a 4 ht
  case encSync =>
    rintro el p a s u rfl ht
    exact State.writeCmd_axis el a 8 ht
  case setActual =>
    rintro el p a s u rfl ht
    exact State.writeCmd_axis el a 16 ht

end Sys2Proof.Machine
end

section
/-!
PROOFS. A write of a register that has no rules beyond its access types, as is the lead of a compare unit (09 R394), and the overrun of
a serial port (09 R376).
-/
namespace Sys2Proof.Machine

/-- A REGISTER_WRITE that every check and the register's own rules let pass (13 R519). -/
theorem execRegisterWrite_takes {s t : State} {p : Port} {a : Nat} {v : Word} {e : WriteEnv} (el : Nat) (h : s.Takes p a)
    (hp : plainReg a = true) (ha : hostAct p a e v (s.begin el) = (0, t)) :
    exec (.registerWrite el p a v e) s = .next (t.send (.wrote p a 0)) := by
  have hlow : ¬ 0x10000000 ≤ a := fun hhigh => by simp [plainReg, regHit?_window hhigh] at hp
  have hwrite : (s.begin el).writeWord p a v e = (0, t) := by
    rw [State.writeWord, if_neg hlow, State.hostWrite_plain v _ (State.takes_begin h el) hp, ha]
    rfl
  refine congrArg Host.Outcome.next ((State.atPort_runs (s := s.begin el) h.1 _ _).trans ?_)
  simp only [hwrite]

/-- A field all of whose bits come from `w`. -/
theorem fld_merge (v w k : Word) {lo wid : Nat} (hk : ∀ i < wid, k.getLsbD (lo + i) = true) :
    fld ((v &&& ~~~k) ||| (w &&& k)) lo wid = fld w lo wid := by
  refine congrArg BitVec.toNat (BitVec.eq_of_getLsbD_eq fun i hi => ?_)
  rw [BitVec.getLsbD_extractLsb', BitVec.getLsbD_extractLsb', getLsbD_merge, hk i hi, if_pos rfl]

/-- Where no bit of a register is cleared by a 1, its stored bits take the word as stored and the others stay (00 R13). -/
theorem State.reg_storeWord_self {r : RegRow} (hr : r.w1c = 0) (s : State) (a : Nat) (v : Word) :
    (s.storeWord r a v).reg a = (s.reg a &&& ~~~r.stores a) |||
      (s.stored a ((s.reg a &&& ~~~r.stores a) ||| (v &&& r.stores a)) &&& r.stores a) := by
  have hkept : ~~~(v &&& 0 &&& ~~~s.freshBits a) = BitVec.allOnes 32 := by simp
  rw [State.storeWord, State.reg_setReg_self, hr, hkept, BitVec.and_allOnes]

/-- The row of CMP_LEAD: its stored bits are the 16 of the lead, and no bit is cleared by a 1 (09 Table 3). -/
def cmpLeadRow : RegRow := ⟨"CMP_LEAD", 0xC38, 8, 0x40, 0xFFFF, 0, 0, 0, 0, 0x7D0, 0, 0x1⟩

theorem regHit?_cmpLead (c : Fin 8) : regHit? (R.CMP_LEAD c) = some ⟨cmpLeadRow, 0, c⟩ := by revert c; decide +kernel

theorem blockAt?_cmpLead (c : Fin 8) : blockAt? regBlocks (R.CMP_LEAD c) = some ⟨0x410000, 1, 0x10000, rowsFb⟩ := by
  revert c; decide +kernel

theorem plainReg_cmpLead (c : Fin 8) : plainReg (R.CMP_LEAD c) = true := by revert c; decide +kernel

theorem cmpLeadRow_stores (c : Fin 8) : cmpLeadRow.stores (R.CMP_LEAD c) = 0xFFFF := by revert c; decide

/-- CMP_LEAD is a word of no multi-word value. -/
theorem State.storeAt_cmpLead (s : State) (p : Port) (c : Fin 8) (v : Word) :
    s.storeAt p (R.CMP_LEAD c) v = s.storeWord cmpLeadRow (R.CMP_LEAD c) v := by
  have hspan : spanAt? spans (R.CMP_LEAD c) = none := by revert c; decide +kernel
  simp only [State.storeAt, regHit?_cmpLead, hspan]

/-- CMP_LEAD is no command, and nothing follows its storing. -/
theorem hostAct_cmpLead (p : Port) (c : Fin 8) (e : WriteEnv) (v : Word) (s : State) :
    hostAct p (R.CMP_LEAD c) e v s = (0, s.storeAt p (R.CMP_LEAD c) v) := by
  have hfixed : s.rasterFixed (R.CMP_LEAD c) = false := by
    have hout : ¬ (0x320104 ≤ R.CMP_LEAD c ∧ R.CMP_LEAD c < 0x320118) := by
      simp only [R.CMP_LEAD]
      omega
    rw [State.rasterFixed, decide_eq_false hout, Bool.and_false]
  have hhook (t : State) : t.hostHook s (R.CMP_LEAD c) v e.onBus e.canBusy = t := by
    simp only [State.hostHook, blockAt?_cmpLead, regHit?_cmpLead]
    rfl
  simp only [hostAct, blockAt?_cmpLead, regHit?_cmpLead, hfixed, hhook, ite_self]
  rfl

/-- A lead below 2,000 is stored as 2,000 (R394). -/
theorem State.stored_cmpLead (s : State) (c : Fin 8) (v : Word) :
    s.stored (R.CMP_LEAD c) v = Machine.setFld v 0 16 (clampN 2000 65535 (fld v 0 16)) := by
  simp only [State.stored, blockAt?_cmpLead, regHit?_cmpLead]
  rfl

/-- A value of 16 bits is held from below alone. -/
theorem clampN_mod_of_lt {lo n : Nat} (hlo : lo ≤ 65535) (hn : n < 2 ^ 16) : clampN lo 65535 n % 2 ^ 16 = max lo n := by
  unfold clampN
  split
  · omega
  · rw [if_neg (by omega)]
    omega

theorem State.rfld_storeWord_cmpLead (s : State) (c : Fin 8) (v : Word) :
    (s.storeWord cmpLeadRow (R.CMP_LEAD c) v).rfld (R.CMP_LEAD c) 0 16 = max 2000 (fld v 0 16) := by
  have hbits : ∀ i < 16, (0xFFFF : Word).getLsbD (0 + i) = true := by decide
  have hlt : fld v 0 16 < 2 ^ 16 := BitVec.isLt _
  rw [State.rfld, State.reg_storeWord_self rfl, cmpLeadRow_stores, fld_merge _ _ _ hbits, State.stored_cmpLead,
    fld_setFld _ _ _ _ (by decide), fld_merge _ _ _ hbits, clampN_mod_of_lt (by decide) hlt]

/-- Settles O46: the word is stored as it stands, but for the lead's floor. -/
theorem compareLeadHasAFloor : Obligations.CompareLeadHasAFloor := by
  unfold Obligations.CompareLeadHasAFloor
  intro el p c v e s ht
  have hact : hostAct p (R.CMP_LEAD c) e v (s.begin el) = (0, (s.begin el).storeWord cmpLeadRow (R.CMP_LEAD c) v) := by
    rw [hostAct_cmpLead, State.storeAt_cmpLead]
  refine ⟨_, execRegisterWrite_takes el ht (plainReg_cmpLead c) hact, ?rest, fun a ha => ?regs, ?lead⟩
  case rest =>
    exact ((State.SameButRegs.begin s el).of_regs (State.storeWord_regs ..)).send _
  case regs =>
    rw [State.send_reg, State.reg_storeWord_ne _ _ _ (List.ne_of_not_mem_cons ha), State.begin_reg]
  case lead =>
    rw [State.send_rfld, State.rfld_storeWord_cmpLead]

/-! Serial ports. -/

/-- A period that starts while a frame or its timeout is in progress (R376). -/
theorem execSerialFrameStart_overrun {el : Nat} {k : Fin 4} {s u : State} (hu : u = s.begin el) (hr : s.Runs 22)
    (hproto : u.rfld (R.Q_CFG k) 0 2 ≠ 0) (hstart : u.fbDt % (u.rfld (R.Q_CFG k) 16 16 * 1000 : Nat) = 0)
    (hbusy : (u.ser k).frame.isSome = true) :
    exec (.serialFrameStart el k) s = .next ((u.count (R.Q_OVERRUN k) 1).event (R.Q_EVENT k) qeOverrun) := by
  subst hu
  exact State.next_onIsland el hr ((if_neg (not_or.2 ⟨hproto, not_not.2 hstart⟩)).trans (if_pos hbusy))

/-- Settles O45: the row counts and sets OVERRUN, and touches no frame. -/
theorem serialOverrun : Obligations.SerialOverrun := by
  unfold Obligations.SerialOverrun
  intro el k s hr hproto hstart hbusy
  have hne : R.Q_OVERRUN k ≠ R.Q_EVENT k := by
    simp only [R.Q_OVERRUN, R.Q_EVENT]
    omega
  refine ⟨_, execSerialFrameStart_overrun rfl hr hproto hstart hbusy, ?rest, fun a ha => ?regs, rfl, ?count, ?event⟩
  case rest =>
    exact ((State.SameButRegs.begin s el).count _ _).event _ _
  case regs =>
    simp only [List.mem_cons, List.not_mem_nil, or_false, not_or] at ha
    obtain ⟨hcnt, hevent⟩ := ha
    rw [State.reg_event, if_neg hevent, State.reg_count, if_neg hcnt, State.begin_reg]
  case count =>
    rw [State.reg_event, if_neg hne, State.reg_count, if_pos rfl, State.begin_reg]
  case event =>
    exact State.rbit_event _ _ _ (by decide)

end Sys2Proof.Machine
end

section
/-!
PROOFS. The rows of encoder channels, serial ports, probes and compare units (09 R362–R397).
-/
namespace Sys2Proof.Machine

/-! The command registers of encoder channels and probes (09 Table 3), and CMP_CFG. -/

theorem commandReg_enc (k : Fin 8) : commandReg (R.ENC_CMD k) = true := by revert k; decide +kernel
theorem commandReg_prb (k : Fin 8) : commandReg (R.PRB_CMD k) = true := by revert k; decide +kernel
theorem plainReg_cmpCfg (c : Fin 8) : plainReg (R.CMP_CFG c) = true := by revert c; decide +kernel

/-! What each command bit does, written alone (R369, R384, R385, R396). -/

theorem encCmd_indexArm (k : Nat) (s : State) : encCmd k 2 s = s.setBit (R.ENC_STAT k) esArmed true := by simp [encCmd]
theorem prbCmd_pop (k : Nat) (s : State) :
    prbCmd k 1 s = (s.setProbe k { s.probe k with fifo := (s.probe k).fifo.tail }).prbShow k := by simp [prbCmd]
theorem prbCmd_arm (k : Nat) (s : State) : prbCmd k 2 s = (s.setBit (R.PRB_STAT k) psArmed true).prbShow k := by simp [prbCmd]
theorem fbCmd_cntClear (s : State) : fbCmd 1 s = s.clearRegs fbCounters := by simp [fbCmd]

/-- A write of an unsealed register reaches it with bit 47 copied above the upper word of a 48-bit signed value (00 R19). -/
theorem State.writeCmd_extHi {s : State} {p : Port} {a : Nat} {r : RegHit} {b : RegBlock} (v : Word) (act : Word → State → State)
    (h : s.Takes p a) (hr : regHit? a = some r) (hb : blockAt? regBlocks a = some b) : s.writeCmd p a v act =
      (act (extHi b.base r.row.off v) (s.storeAt p a (extHi b.base r.row.off v))).send (.wrote p a 0) := by
  obtain ⟨hport, herr, hseal⟩ := h
  have hscreen : s.screen r.row a v = ⟨extHi b.base r.row.off v, 0⟩ := by
    simp only [State.screen, hb, hseal, Bool.false_eq_true, if_false]
  simp [State.writeCmd, State.atPort_runs hport, State.hostWrite, herr, hr, hscreen]

/-- The row of CMP_VAL_HI (09 Table 3). -/
def cmpValHiRow : RegRow := ⟨"CMP_VAL_HI", 0xC14, 8, 0x40, 0xFFFFFFFF, 0, 0, 0, 0, 0, 0, 0x1⟩

theorem regHit?_cmpValHi (c : Fin 8) : regHit? (R.CMP_VAL_HI c) = some ⟨cmpValHiRow, 0, c⟩ := by revert c; decide +kernel

theorem blockAt?_cmpValHi (c : Fin 8) : blockAt? regBlocks (R.CMP_VAL_HI c) = some ⟨0x410000, 1, 0x10000, rowsFb⟩ := by
  revert c; decide +kernel

theorem State.writeCmd_cmpValHi {s : State} {p : Port} {c : Fin 8} (v : Word) (act : Word → State → State)
    (h : s.Takes p (R.CMP_VAL_HI c)) : s.writeCmd p (R.CMP_VAL_HI c) v act =
      (act (extHi 0x410000 0xC14 v) (s.storeAt p (R.CMP_VAL_HI c) (extHi 0x410000 0xC14 v))).send (.wrote p (R.CMP_VAL_HI c) 0) :=
  State.writeCmd_extHi v act h (regHit?_cmpValHi c) (blockAt?_cmpValHi c)

/-- Settles O7: under its conditions each row runs through the branch that its rule names, and each command register passes its
word on. -/
theorem feedbackRowsComplete : Obligations.FeedbackRowsComplete := by
  unfold Obligations.FeedbackRowsComplete
  refine ⟨?encoderEdge, ?encRateRecover, ?indexEdge, ?encBreak, ?encBreakClear, ?speedWindowEnd, ?encLoad, ?indexArm,
    ?serialFrameStart, ?serialFrameEnd, ?serialTimeout, ?probeEdge, ?probeStuck, ?probeArm, ?probePop, ?probeCapRead, ?cmpValWrite,
    ?cmpCfgWrite, ?cmpPulseEnd, ?fbCntClear⟩
  case encoderEdge =>
    rintro el k n la lb s u rfl hr hlong hen ha hb
    have hacc : accepted ((s.begin el).rfld (R.ENC_CFG k) 0 6) n = true := decide_eq_true hlong
    refine State.next_onIsland el hr ?_
    simp only [hacc, hen, ha, hb, Bool.not_true, Bool.false_eq_true, if_false, Bool.and_false, Bool.or_false, if_true]
  case encRateRecover =>
    rintro el k t s u rfl hr hexcess hdue
    refine State.next_onIsland el hr ?_
    simp only [hexcess, hdue, if_true]
  case indexEdge =>
    rintro el k n v s u rfl hr hlow hlong rfl
    have hacc : accepted ((s.begin el).rfld (R.ENC_CFG k) 0 6) n = true := decide_eq_true hlong
    refine State.next_onIsland el hr ?_
    simp only [hlow, hacc, Bool.true_eq_false, if_false, Bool.not_true, Bool.false_eq_true]
  case encBreak =>
    rintro el k s u rfl hr hwatched hnew
    exact State.next_onIsland el hr (if_neg (by simp only [hwatched, hnew, Bool.or_self, Bool.false_eq_true, not_false_eq_true]))
  case encBreakClear =>
    rintro el k s u rfl hr
    exact State.next_onIsland el hr rfl
  case speedWindowEnd =>
    rintro el k w t0 r0 v s u rfl hr rfl hend hwin hspan rfl
    refine State.next_onIsland el hr ((if_neg (not_not.2 hend)).trans ?_)
    simp only [hwin, hspan, and_self, if_true]
  case encLoad =>
    rintro el p k s u rfl ht
    exact congrArg Host.Outcome.next (State.writeCmd_begin el 1 (encCmd k) ht (commandReg_plain (commandReg_enc k)))
  case indexArm =>
    rintro el p k s u rfl ht
    exact congrArg Host.Outcome.next (State.writeCmd_acts el ht (commandReg_plain (commandReg_enc k)) (encCmd_indexArm k _))
  case serialFrameStart =>
    rintro el k s u rfl hr hproto hstart hfree
    refine State.next_onIsland el hr ((if_neg (not_or.2 ⟨hproto, not_not.2 hstart⟩)).trans (if_neg ?_))
    simp only [hfree, Option.isSome_none, Bool.false_eq_true, not_false_eq_true]
  case serialFrameEnd =>
    rintro el k bits data t0 i s u rfl hr hframe hhead hall hdone hstarted hended
    have hread : ¬ (data.length < (s.begin el).serBits k ∨ (s.begin el).fbDt < t0 + (s.begin el).maTime k bits.length) := by
      omega
    refine State.next_onIsland el hr ?_
    simp only [hframe, hhead, hread, if_false]
    exact if_neg (by omega)
  case serialTimeout =>
    rintro el k bits t0 e s u rfl hr hframe hdue hpast
    refine State.next_onIsland el hr ?_
    simp only [hframe, hdue, hpast, if_true]
  case probeEdge =>
    rintro el p n v s u rfl hr hlow hlong rfl hactive harmed hpol
    have hrise : ((s.begin el).rbit (R.PRB_STAT p) psLevel == true) = false := by rw [hlow, beq_true]
    have hacc : accepted ((s.begin el).rfld (R.PRB_CFG p) 0 6) n = true := decide_eq_true hlong
    refine State.next_onIsland el hr ?_
    simp only [hrise, hacc, hactive, harmed, hpol, Bool.not_true, Bool.false_eq_true, if_false, if_true, Bool.and_self]
  case probeStuck =>
    rintro el p s u rfl hr htime hactive hnew hdue
    exact State.next_onIsland el hr (if_pos ⟨htime, hactive, by rw [hnew, Bool.not_false], hdue⟩)
  case probeArm =>
    rintro el p k s u rfl ht
    exact congrArg Host.Outcome.next (State.writeCmd_acts el ht (commandReg_plain (commandReg_prb k)) (prbCmd_arm k _))
  case probePop =>
    rintro el p k s u rfl ht
    exact congrArg Host.Outcome.next (State.writeCmd_acts el ht (commandReg_plain (commandReg_prb k)) (prbCmd_pop k _))
  case probeCapRead =>
    rintro el p k s u rfl hg
    exact congrArg Host.Outcome.next (State.readCmd_gives (prbRead k) (State.gives_begin hg el))
  case cmpValWrite =>
    rintro el p c v w s u rfl ht rfl
    exact congrArg Host.Outcome.next (State.writeCmd_cmpValHi v (fun _ t => t.cmpWritten c) (State.takes_begin ht el))
  case cmpCfgWrite =>
    rintro el p c v s u rfl ht
    exact congrArg Host.Outcome.next (State.writeCmd_begin el v _ ht (plainReg_cmpCfg c))
  case cmpPulseEnd =>
    rintro el c e s u rfl hr hpulse hdue hfree
    have hfree' : (s.begin el).rbit (R.CMP_STAT c) csFailsafe = false := hfree
    refine State.next_onIsland el hr ?_
    simp only [hpulse, hdue, hfree', if_true, Bool.not_false, State.when_true]
  case fbCntClear =>
    rintro el p s u rfl ht
    exact congrArg Host.Outcome.next (State.writeCmd_acts el ht (by decide +kernel) (fbCmd_cntClear _))

end Sys2Proof.Machine
end

section
/-!
PROOFS. The overtemperature of a cluster of switches (10 R414, R416).
-/
namespace Sys2Proof.Machine

/-- What a cluster's sensor shows, what its threshold is and whether it is hot stand in registers of their own. -/
theorem clusterRegs_distinct (k : Nat) : R.SW_CL_STAT k ≠ R.SW_CL_TEMP k ∧ R.SW_CL_CFG k ≠ R.SW_CL_TEMP k := by
  simp only [R.SW_CL_STAT, R.SW_CL_CFG, R.SW_CL_TEMP]
  omega

/-- CLUSTER_OT while OT_NOW is 1 (R414). -/
theorem execClusterOt_hot {el : Nat} {k : Fin 6} {temp : BitVec 16} {s v : State} (hr : s.Runs (23 + k))
    (hv : v = (s.begin el).setFld (R.SW_CL_TEMP k) 0 16 temp.toNat) (hnow : v.rbit (R.SW_CL_STAT k) 31 = true) :
    exec (.clusterOt el k temp) s = .next v := by
  subst hv
  refine State.next_onIsland el hr (if_neg fun hnew => ?_)
  rw [hnow, Bool.not_true] at hnew
  exact Bool.false_ne_true hnew.2

/-- CLUSTER_OT_CLEAR below T_OT − 10 °C (R414). -/
theorem execClusterOtClear_cool {el : Nat} {k : Fin 6} {temp : BitVec 16} {s v : State} (hr : s.Runs (23 + k))
    (hv : v = (s.begin el).setFld (R.SW_CL_TEMP k) 0 16 temp.toNat)
    (hcool : temp.toInt < (v.rfld (R.SW_CL_CFG k) 0 16 : Int) - 80) :
    exec (.clusterOtClear el k temp) s = .next (v.setBit (R.SW_CL_STAT k) 31 false) := by
  subst hv
  exact State.next_onIsland el hr (if_pos hcool)

/-- CLUSTER_OT_CLEAR from T_OT − 10 °C on (R414). -/
theorem execClusterOtClear_warm {el : Nat} {k : Fin 6} {temp : BitVec 16} {s v : State} (hr : s.Runs (23 + k))
    (hv : v = (s.begin el).setFld (R.SW_CL_TEMP k) 0 16 temp.toNat)
    (hwarm : (v.rfld (R.SW_CL_CFG k) 0 16 : Int) - 80 ≤ temp.toInt) :
    exec (.clusterOtClear el k temp) s = .next v := by
  subst hv
  exact State.next_onIsland el hr (if_neg (Int.not_lt.2 hwarm))

/-- Settles O48: a reading writes the shown temperature, and only one below the lower threshold writes OT_NOW. -/
theorem clusterOvertemperature : Obligations.ClusterOvertemperature := by
  unfold Obligations.ClusterOvertemperature
  have hshown (s : State) (el : Nat) (k : Fin 6) (temp : BitVec 16) (a : Nat) (ha : a ≠ R.SW_CL_TEMP k) :
      ((s.begin el).setFld (R.SW_CL_TEMP k) 0 16 temp.toNat).reg a = s.reg a := State.reg_setReg_ne _ _ ha
  refine ⟨?hot, ?clear⟩
  case hot =>
    intro el k temp s hr hnow
    obtain ⟨hstat, -⟩ := clusterRegs_distinct k
    have hnow' : ((s.begin el).setFld (R.SW_CL_TEMP k) 0 16 temp.toNat).rbit (R.SW_CL_STAT k) 31 = true := by
      rw [State.rbit, hshown s el k temp _ hstat]
      exact hnow
    exact ⟨_, execClusterOt_hot hr rfl hnow', (State.SameButRegs.begin s el).setFld _ _ _ _, fun a ha =>
      hshown s el k temp a (List.ne_of_not_mem_cons ha)⟩
  case clear =>
    intro el k temp s hr
    obtain ⟨hstat, hcfg⟩ := clusterRegs_distinct k
    have hsame := (State.SameButRegs.begin s el).setFld (R.SW_CL_TEMP k) 0 16 temp.toNat
    have hthr : ((s.begin el).setFld (R.SW_CL_TEMP k) 0 16 temp.toNat).rfld (R.SW_CL_CFG k) 0 16 =
        s.rfld (R.SW_CL_CFG k) 0 16 := by
      rw [State.rfld, hshown s el k temp _ hcfg, State.rfld]
    by_cases hcool : temp.toInt < (s.rfld (R.SW_CL_CFG k) 0 16 : Int) - 80
    case pos =>
      refine ⟨_, execClusterOtClear_cool hr rfl (hthr.symm ▸ hcool), hsame.setReg _ _, fun a ha => ?regs,
        fun _ => State.rbit_setBit _ _ _ _ (by decide), fun hwarm => absurd hcool (Int.not_lt.2 hwarm)⟩
      case regs =>
        simp only [List.mem_cons, List.not_mem_nil, or_false, not_or] at ha
        obtain ⟨hatemp, hastat⟩ := ha
        rw [State.reg_setBit, if_neg hastat, hshown s el k temp a hatemp]
    case neg =>
      exact ⟨_, execClusterOtClear_warm hr rfl (hthr.symm ▸ Int.not_lt.1 hcool), hsame,
        fun a ha => hshown s el k temp a (List.ne_of_not_mem_cons ha), fun hlow => absurd hlow hcool,
        fun _ => hshown s el k temp _ hstat⟩

end Sys2Proof.Machine
end

section
/-!
PROOFS. The rows of switch channels, clusters and the supply of the switches (10 R400–R404, R407–R423, R431).
-/
namespace Sys2Proof.Machine

/-! The command registers of a switch channel and of the block (10 Tables 5 to 7). -/

theorem plainReg_swChCtrl (h : Fin 24) : plainReg (R.SW_CH_CTRL h) = true := by revert h; decide +kernel
theorem commandReg_swCh (h : Fin 24) : commandReg (R.SW_CH_CMD h) = true := by revert h; decide +kernel

/-! What each command bit does, written alone (R412, R431). -/

theorem swChCmd_clrRetry (h : Nat) (s : State) : swChCmd h 1 s =
    ((((s.setChBit h hsRetryLatched false).setFld (R.SW_CH_STAT h) 0 4 0).swEndPause h).swTryOn h) := by simp [swChCmd]
theorem swCmd_cntClear (s : State) :
    swCmd 1 s = forL (fun k t => t.onIsland (23 + k) fun v => v.clearRegs (swCounters k)) (List.range 6) s := by simp [swCmd]

/-- A write of SW_CH_CTRL compares ON with what it held before (R401, R411). -/
theorem State.swCtrlCmd_begin {s : State} {p : Port} {h : Fin 24} (el : Nat) (v : Word) (ht : s.Takes p (R.SW_CH_CTRL h)) :
    (s.begin el).swCtrlCmd p h v = (((s.begin el).storeAt p (R.SW_CH_CTRL h) v).swCtrlWritten h
      ((s.begin el).rbit (R.SW_CH_CTRL h) 0)).send (.wrote p (R.SW_CH_CTRL h) 0) :=
  State.writeCmd_begin el v _ ht (plainReg_swChCtrl h)

/-! What a channel measures has no part in the limit at which it regulates (R403). -/

/-- The limits of a channel, its status and its current stand in registers of their own. -/
theorem swChRegs_distinct (h : Nat) : R.SW_CH_ILIM h ≠ R.SW_CH_IMEAS h ∧ R.SW_CH_ILIM h ≠ R.SW_CH_STAT h ∧
    R.SW_CH_STAT h ≠ R.SW_CH_IMEAS h := by
  simp only [R.SW_CH_ILIM, R.SW_CH_IMEAS, R.SW_CH_STAT]
  omega

/-- Whether a current ends OPEN_ON is no matter of the registers but SW_CH_STAT. -/
theorem State.reg_swOpenNow_ne (s : State) {h b : Nat} (hb : b ≠ R.SW_CH_STAT h) : (s.swOpenNow h).reg b = s.reg b :=
  State.when_keeps (State.reg · b) (State.reg_setReg_ne _ _ hb) _

/-- Nor is it of the bits of SW_CH_STAT but OPEN_ON. -/
theorem State.chBit_swOpenNow_ne (s : State) {h i : Nat} (hi : i ≠ hsOpenOn) : (s.swOpenNow h).chBit h i = s.chBit h i := by
  refine State.when_keeps (State.chBit · h i) ?_ _
  rw [State.chBit, State.setChBit, State.rbit, State.reg_setBit, if_pos rfl, getLsbD_setBit _ _ _ _ (by decide), if_neg hi.symm,
    State.chBit, State.rbit]

theorem State.swLimitMa_swMeasure (s : State) (h draw : Nat) (mean : BitVec 16) :
    (s.swMeasure h draw mean).swLimitMa h = s.swLimitMa h := by
  obtain ⟨himeas, hstat, hne⟩ := swChRegs_distinct h
  have hlimits : (s.swMeasure h draw mean).reg (R.SW_CH_ILIM h) = s.reg (R.SW_CH_ILIM h) :=
    (State.reg_swOpenNow_ne _ hstat).trans (State.reg_setReg_ne _ _ himeas)
  have hwindow : (s.swMeasure h draw mean).chBit h hsInrush = s.chBit h hsInrush :=
    (State.chBit_swOpenNow_ne _ (by decide)).trans (congrArg (BitVec.getLsbD · hsInrush) (State.reg_setReg_ne _ _ hne))
  rw [State.swLimitMa, State.rfld, hlimits, hwindow, State.swLimitMa, State.rfld]

/-- Settles O8: under its conditions each row runs through the branch that its rule names, and each command register passes its
word on. -/
theorem switchRowsComplete : Obligations.SwitchRowsComplete := by
  unfold Obligations.SwitchRowsComplete
  refine ⟨?switchOn, ?switchOff, ?inrushEnd, ?limitEnter, ?limitTimeout, ?fastTrip, ?channelOt, ?pauseEnd, ?channelRestart,
    ?switchHotChange, ?triesClear, ?clrRetry, ?clrTh, ?clusterOt, ?clusterOtClear, ?switchOpenOn, ?switchOpenOff, ?switchStuck,
    ?switchShortVbat, ?vbatUv, ?vbatUvRecover, ?reverseBattery, ?reverseEnd, ?overvolt, ?swCntClear⟩
  case switchOn =>
    rintro el p h s u rfl ht
    exact congrArg Host.Outcome.next (State.swCtrlCmd_begin el 1 ht)
  case switchOff =>
    rintro el p h s u rfl ht
    exact congrArg Host.Outcome.next (State.swCtrlCmd_begin el 0 ht)
  case inrushEnd =>
    rintro el h draw mean e v s u rfl hr hwin hdue rfl
    refine State.next_onIsland el hr ?_
    simp only [hwin, hdue, if_true, State.when, decide_eq_true_eq, State.swLimitMa_swMeasure]
  case limitEnter =>
    rintro el h draw mean v s u rfl hr rfl hon hover hnew hpast
    refine State.next_onIsland el hr ?_
    simp only [hon, Nat.not_le.2 hover, hnew, hpast, Bool.not_true, Bool.false_eq_true, if_false]
  case limitTimeout =>
    rintro el h b s u rfl hr hlim hdue
    refine State.next_onIsland el hr ?_
    simp only [hlim, hdue, if_true]
  case fastTrip =>
    rintro el h s u rfl
    rfl
  case channelOt =>
    rintro el h temp s u rfl hhot hr
    refine congrArg Host.Outcome.next ((if_pos hhot).trans ?_)
    rw [State.onIsland_begin el hr]
  case pauseEnd =>
    rintro el h e s u rfl hr hpause hdue
    refine State.next_onIsland el hr ?_
    simp only [hpause, hdue, if_true]
  case channelRestart =>
    rintro el h temp s u rfl hr
    exact State.next_onIsland el hr rfl
  case switchHotChange =>
    rintro el h temp s u rfl hr
    exact State.next_onIsland el hr rfl
  case triesClear =>
    rintro el h s u rfl hr hon hdue
    exact State.next_onIsland el hr (if_pos ⟨hon, hdue⟩)
  case clrRetry =>
    rintro el p h s u rfl ht
    exact congrArg Host.Outcome.next (State.writeCmd_acts el ht (commandReg_plain (commandReg_swCh h)) (swChCmd_clrRetry h _))
  case clrTh =>
    rintro el p h temp v s u rfl hr rfl ht
    refine congrArg Host.Outcome.next ?_
    rw [State.onIsland_begin el hr]
    exact State.writeCmd_plain 2 (swChCmd h) ht (commandReg_plain (commandReg_swCh h))
  case clusterOt =>
    rintro el k temp v w s u rfl hr rfl hhot hnew rfl
    exact State.next_onIsland el hr (if_pos ⟨hhot, by rw [hnew, Bool.not_false]⟩)
  case clusterOtClear =>
    rintro el k temp v s u rfl hr hv hcool
    exact execClusterOtClear_cool hr hv hcool
  case switchOpenOn =>
    rintro el h i v s u rfl hr rfl hlow hon hpast hnew hdue
    refine State.next_onIsland el hr (if_pos ?_)
    simp only [hlow, hon, hpast, hnew, hdue, decide_true, Bool.not_false, Bool.and_self]
  case switchOpenOff =>
    rintro el h x v s u rfl hr rfl hlow hhigh hoff hdiag hnew hdue
    refine State.next_onIsland el hr (if_pos ?_)
    simp only [hlow, hhigh, hoff, hdiag, hnew, hdue, decide_true, Bool.not_false, Bool.and_self]
  case switchStuck =>
    rintro el h i v s u rfl hr rfl hoff hheld hnew hdue hhigh
    refine State.next_onIsland el hr (if_pos ?_)
    simp only [hoff, hheld, hnew, hdue, hhigh, decide_true, Bool.not_false, Bool.and_self]
  case switchShortVbat =>
    rintro el h x i v s u rfl hr rfl hoff hnew hdue hhigh hlow
    refine State.next_onIsland el hr (if_pos ?_)
    simp only [hoff, hnew, hdue, hhigh, hlow, decide_true, Bool.not_false, Bool.and_self]
  case vbatUv =>
    rintro el v w s u rfl hlow rfl hnew
    exact congrArg Host.Outcome.next ((if_pos hlow).trans (if_neg (Bool.eq_false_iff.1 hnew)))
  case vbatUvRecover =>
    rintro el v w s u rfl hhigh rfl
    exact congrArg Host.Outcome.next (if_pos hhigh)
  case reverseBattery =>
    rintro el v w s u rfl hlow hhigh rfl
    exact congrArg Host.Outcome.next (if_pos ⟨hlow, hhigh⟩)
  case reverseEnd =>
    rintro el v w s u rfl hhigh hrev rfl
    exact congrArg Host.Outcome.next (if_pos ⟨hhigh, hrev⟩)
  case overvolt =>
    rintro el v s u rfl hhigh
    exact congrArg Host.Outcome.next (if_pos hhigh)
  case swCntClear =>
    rintro el p s u rfl ht
    exact congrArg Host.Outcome.next (State.writeCmd_acts el ht (by decide +kernel) (swCmd_cntClear _))

end Sys2Proof.Machine
end

section
/-!
PROOFS. The antenna of the GNSS receiver (11 R434, R435).
-/
namespace Sys2Proof.Machine

/-- ANT_SHORT with the bias on and more than 80 mA (R434). -/
theorem execAntShort_over {el : Nat} {i : BitVec 16} {s u : State} (hu : u = s.begin el) (hr : s.Runs 33) (hon : u.biasOn = true)
    (hover : 80 < i.toNat) : exec (.antShort el i) s = .next (((((u.setFld R.GNSS_ANT_STAT 0 16 0).setBit R.GNSS_ANT_STAT 31
      true).event R.GNSS_IRQ_STAT giAntShort).count R.GNSS_ANT_SHORT_CNT 1).fault srcGnssAntShort 0 0) := by
  subst hu
  exact State.next_onIsland el hr (if_pos (by rw [hon, decide_eq_true hover, Bool.and_self]))

/-- ANT_OPEN with the bias on and less than 3 mA (R435). -/
theorem execAntOpen_low {el : Nat} {i : BitVec 16} {s u : State} (hu : u = s.begin el) (hr : s.Runs 33) (hon : u.biasOn = true)
    (hlow : i.toNat < 3) : exec (.antOpen el i) s = .next (((u.setFld R.GNSS_ANT_STAT 0 16 i.toNat).setBit R.GNSS_ANT_STAT 30
      true).event R.GNSS_IRQ_STAT giAntOpen) := by
  subst hu
  exact State.next_onIsland el hr (if_pos (by rw [hon, decide_eq_true hlow, Bool.and_self]))

/-- ANT_OPEN_RECOVER with the bias on and 3 mA or more (R435). -/
theorem execAntOpenRecover_high {el : Nat} {i : BitVec 16} {s u : State} (hu : u = s.begin el) (hr : s.Runs 33)
    (hon : u.biasOn = true) (hhigh : 3 ≤ i.toNat) : exec (.antOpenRecover el i) s =
      .next ((u.setFld R.GNSS_ANT_STAT 0 16 i.toNat).setBit R.GNSS_ANT_STAT 30 false) := by
  subst hu
  exact State.next_onIsland el hr (if_pos (by rw [hon, decide_eq_true hhigh, Bool.and_self]))

/-- The antenna's status shows a current and whether it is open: every other register stays. -/
theorem State.reg_antShown_ne (s : State) (el i : Nat) (b : Bool) {a : Nat} (ha : a ≠ R.GNSS_ANT_STAT) :
    (((s.begin el).setFld R.GNSS_ANT_STAT 0 16 i).setBit R.GNSS_ANT_STAT 30 b).reg a = s.reg a := by
  rw [State.reg_setBit, if_neg ha, State.reg_setFld, if_neg ha, State.begin_reg]

/-- Settles O47: a low current writes the antenna's status and one event, and its return writes the status alone. -/
theorem antennaOpen : Obligations.AntennaOpen := by
  unfold Obligations.AntennaOpen
  intro el i s hr hon
  have hshown (b : Bool) :
      s.SameButRegs (((s.begin el).setFld R.GNSS_ANT_STAT 0 16 i.toNat).setBit R.GNSS_ANT_STAT 30 b) el [] :=
    ((State.SameButRegs.begin s el).setFld _ _ _ _).setReg _ _
  refine ⟨fun hlow => ?opens, fun hhigh => ?recovers⟩
  case opens =>
    refine ⟨_, execAntOpen_low rfl hr hon hlow, ?stat, State.rbit_event _ _ _ (by decide), (hshown true).event _ _,
      fun a ha => ?regs⟩
    case stat =>
      have hne : R.GNSS_ANT_STAT ≠ R.GNSS_IRQ_STAT := by decide
      rw [State.rbit, State.reg_event, if_neg hne]
      exact State.rbit_setBit _ _ _ _ (by decide)
    case regs =>
      simp only [List.mem_cons, List.not_mem_nil, or_false, not_or] at ha
      obtain ⟨hstat, hirq⟩ := ha
      rw [State.reg_event, if_neg hirq, State.reg_antShown_ne s el _ _ hstat]
  case recovers =>
    exact ⟨_, execAntOpenRecover_high rfl hr hon hhigh, State.rbit_setBit _ _ _ _ (by decide), hshown false, fun a ha =>
      State.reg_antShown_ne s el _ _ (List.ne_of_not_mem_cons ha)⟩

end Sys2Proof.Machine
end

section
/-!
PROOFS. The device right after reset (02 R77, R78; 11 R456; 17 R656, R677).
-/
namespace Sys2Proof.Machine

/-- No register is in the table of written ones: each reads its reset value. -/
@[simp] theorem State.reg_reset (a : Nat) : State.reset.reg a = resetWord a := rfl

/-- What the map resets of the status of device time, of the clocks and of the loader (02 Table 8, 11 Table 12, 17 Table 10). -/
theorem resetWord_stats : fld (resetWord R.DT_STAT) 0 2 = dtFree ∧ (resetWord R.CLK_STAT).getLsbD csRefOnIro = true ∧
    (resetWord R.LDR_STAT).getLsbD 30 = false ∧ (resetWord R.LDR_STAT).getLsbD 31 = false := ⟨rfl, rfl, rfl, rfl⟩

/-- Settles O24: the registers read their reset values, and every table beside them is empty. -/
theorem resetLeavesWhatTheRulesSay : Obligations.ResetLeavesWhatTheRulesSay := by
  unfold Obligations.ResetLeavesWhatTheRulesSay
  obtain ⟨hfree, hiro, himage, hsealed⟩ := resetWord_stats
  refine ⟨rfl, ?time, ?ref, ?image, ?sealed, State.reg_reset, fun _ => rfl, fun _ _ => ⟨rfl, rfl⟩, rfl⟩
  case time => rw [State.rfld, State.reg_reset, hfree]
  case ref => rw [State.rbit, State.reg_reset, hiro]
  case image => rw [State.imageOk, State.rbit, State.reg_reset, himage]
  case sealed => rw [State.sealed, State.rbit, State.reg_reset, hsealed]

end Sys2Proof.Machine
end

section
/-!
PROOFS. The rows of the GNSS receiver and of device time (11 R432–R470; 17 R675).
-/
namespace Sys2Proof.Machine

/-! The command registers of the receiver and of device time (11 Tables 9 and 12). -/

theorem plainReg_gnssCmd : plainReg R.GNSS_CMD = true := rfl
theorem plainReg_dtCmd : plainReg R.DT_CMD = true := rfl

/-! What each bit of GNSS_CMD does, written alone (11 Table 9). -/

theorem gnssCmd_aidTime (ok : Bool) (r : NavRef) (s : State) : gnssCmd ok r 1 s = s.aidTime := by simp [gnssCmd]
theorem gnssCmd_aidPos (ok : Bool) (r : NavRef) (s : State) : gnssCmd ok r 2 s = s.aidPos := by simp [gnssCmd]
theorem gnssCmd_aidNav (ok : Bool) (r : NavRef) (s : State) : gnssCmd ok r 4 s = s.aidNav ok r := by simp [gnssCmd]
theorem gnssCmd_navPop (ok : Bool) (r : NavRef) (s : State) :
    gnssCmd ok r 8 s = (s.updGnss fun g => { g with fifo := g.fifo.tail }).navShow := by simp [gnssCmd]
theorem gnssCmd_antClear (ok : Bool) (r : NavRef) (s : State) :
    gnssCmd ok r 16 s = (s.setBit R.GNSS_ANT_STAT 31 false).biasShow s.biasOn := by simp [gnssCmd]
theorem gnssCmd_cntClear (ok : Bool) (r : NavRef) (s : State) : gnssCmd ok r 32 s = s.clearRegs gnssCounters := by simp [gnssCmd]
theorem gnssCmd_forget (ok : Bool) (r : NavRef) (s : State) :
    gnssCmd ok r 64 s = s.updGnss fun g => { g with aids := GnssAids.init, kept := GnssAids.init } := by simp [gnssCmd]

/-- A write of GNSS_CMD with the bit of one of its rows: what the bit does on the state after the write is all that happens. -/
theorem State.next_gnssCmd {s t : State} {p : Port} {ok : Bool} {r : NavRef} {v : Word} (el : Nat) (h : s.Takes p R.GNSS_CMD)
    (hact : gnssCmd ok r v ((s.begin el).storeAt p R.GNSS_CMD v) = t) :
    (Host.Outcome.next ((s.begin el).writeCmd p R.GNSS_CMD v (gnssCmd ok r)) : Host.Outcome State Fault Refusal) =
      .next (t.send (.wrote p R.GNSS_CMD 0)) :=
  congrArg Host.Outcome.next (State.writeCmd_acts el h plainReg_gnssCmd hact)

@[simp] theorem b2n_false : b2n false = 0 := rfl

/-! The number of an epoch (R445, R446): what the channels latch, and the words of a bank, leave it. -/

/-- What each turn of an iteration leaves, the iteration leaves. -/
theorem forL_keeps {α β : Type} (g : State → β) {f : α → State → State} (h : ∀ x s, g (f x s) = g s) (l : List α) :
    ∀ s : State, g (forL f l s) = g s := by
  induction l with
  | nil => intro s; rfl
  | cons x r ih => intro s; exact (ih (f x s)).trans (h x s)

/-- A run of register writes touches registers alone. -/
theorem State.forN_setReg_gnss (a : Nat → Nat) (w : Nat → Word) (n : Nat) (s : State) :
    (forN (fun i t => t.setReg (a i) (w i)) n s).gnss = s.gnss := by
  induction n with
  | zero => rfl
  | succ n ih => exact ih

@[simp] theorem State.updGnss_gnss (s : State) (f : GnssSt → GnssSt) : (s.updGnss f).gnss = f s.gnss := rfl

@[simp] theorem State.recAdd_gnss (s : State) (k inst qty : Nat) (v : Int) : (s.recAdd k inst qty v).gnss = s.gnss := by
  unfold State.recAdd
  split <;> rfl

@[simp] theorem State.noteSat_gnss (s : State) (a : Nat) (c : Bool) : (s.noteSat a c).gnss = s.gnss := by
  cases c <;> rfl

theorem State.measure_seq (s : State) (ms : List SatMeas) (c : Fin 64) : (s.measure ms c).gnss.seq = s.gnss.seq := by
  unfold State.measure
  split
  · rw [State.noteSat_gnss, State.recAdd_gnss]
    rfl
  · rfl

/-- The epoch's number and bank stand in a register of their own, beside those of the receiver's status and events (Table 9). -/
theorem epochStat_ne_stats : R.GNSS_EPOCH_STAT ≠ R.GNSS_STAT ∧ R.GNSS_EPOCH_STAT ≠ R.GNSS_IRQ_STAT := by decide

/-- Settles O9: under its conditions each row runs through the branch that its rule names, and each command register passes its
word on. -/
theorem gnssAndTimeRowsComplete : Obligations.GnssAndTimeRowsComplete := by
  unfold Obligations.GnssAndTimeRowsComplete
  refine ⟨?antShort, ?antOpen, ?antOpenRecover, ?antClear, ?aidTime, ?aidPos, ?aidNavCommit, ?gnssForget, ?navPop, ?gnssCntClear,
    ?gnssRetain, ?satelliteAcquired, ?carrierLockLoss, ?measEpoch, ?navUnit, ?navSolution, ?dtMeasurement, ?ppsEdge,
    ?dtSourceLoss, ?holdoverSecond, ?timePulse, ?dtModelClear, ?dtCntClear, ?rtcLatch⟩
  case antShort => exact fun el i s u hu hr hon hover => execAntShort_over hu hr hon hover
  case antOpen => exact fun el i s u hu hr hon hlow => execAntOpen_low hu hr hon hlow
  case antOpenRecover => exact fun el i s u hu hr hon hhigh => execAntOpenRecover_high hu hr hon hhigh
  case antClear =>
    rintro el p s u rfl ht
    exact State.next_gnssCmd el ht (gnssCmd_antClear _ _ _)
  case aidTime =>
    rintro el p s u rfl ht
    exact State.next_gnssCmd el ht (gnssCmd_aidTime _ _ _)
  case aidPos =>
    rintro el p s u rfl ht
    exact State.next_gnssCmd el ht (gnssCmd_aidPos _ _ _)
  case aidNavCommit =>
    rintro el p ok r s u rfl ht
    exact State.next_gnssCmd el ht (gnssCmd_aidNav _ _ _)
  case gnssForget =>
    rintro el p s u rfl ht
    exact State.next_gnssCmd el ht (gnssCmd_forget _ _ _)
  case navPop =>
    rintro el p s u rfl ht
    exact State.next_gnssCmd el ht (gnssCmd_navPop _ _ _)
  case gnssCntClear =>
    rintro el p s u rfl ht
    exact State.next_gnssCmd el ht (gnssCmd_cntClear _ _ _)
  case gnssRetain =>
    rintro el s u rfl hmss hdue
    exact congrArg Host.Outcome.next (if_pos ⟨hmss, hdue⟩)
  case satelliteAcquired =>
    rintro el sig sv elev dop off second c v s u rfl hr hsearch hnew hsat hsig hfind hcover hband hfree rfl
    have hband' : (sig == 2) = false := beq_false_of_ne fun h => hband (congrArg Fin.val h)
    refine State.next_onIsland el hr ?_
    simp only [hsearch, hnew, hsat, hsig, hfind, hcover, hband', hfree, bne, Bool.not_true, Bool.not_false, Bool.or_self,
      Bool.false_and, Bool.true_and, Bool.false_eq_true, if_false, Option.isSome_some, Bool.and_true]
    rfl
  case carrierLockLoss =>
    rintro el c bits q s u rfl hr hchan
    refine State.next_onIsland el hr ?_
    simp only [hchan]
  case measEpoch =>
    rintro el ms seq s u rfl hr hrun hepoch rfl
    obtain ⟨hstat, hirq⟩ := epochStat_ne_stats
    refine ⟨_, State.next_onIsland el hr (if_neg ?guard), ?seq, ?stat, State.rbit_event _ _ _ (by decide)⟩
    case guard =>
      rw [hrun, hepoch]
      exact Bool.false_ne_true
    case seq =>
      rw [State.event_gnss, State.setFld_gnss, State.setReg_gnss, State.forN_setReg_gnss,
        forL_keeps (·.gnss.seq) (fun c t => t.measure_seq ms c), State.updGnss_gnss]
    case stat =>
      rw [State.reg_event, if_neg hirq, State.reg_setFld, if_neg hstat, State.reg_setReg_self]
  case navUnit =>
    rintro el c type bits pass inverted start q r w s u rfl hr hchan hrun htype hlast hlost hloss hroom rfl rfl rfl
    have hnow : ¬ (start : Int) < q.lossAt := Int.not_lt.2 hloss
    have hroom' : ¬ 256 ≤ (s.begin el).gnss.fifo.length := Nat.not_le.2 hroom
    refine State.next_onIsland el hr ?_
    simp only [hchan, hrun, hlast, hlost, hnow, htype, bne_self_eq_false, Bool.not_true, Bool.or_self, decide_false,
      Bool.false_eq_true, if_false, if_true, Bool.and_true]
    exact if_neg hroom'
  case navSolution =>
    rintro el q s u rfl hr hrun hsol hmss hpast hepoch
    exact State.next_onIsland el hr (if_pos (by rw [hrun, hsol, hmss, decide_eq_true hpast, hepoch]; rfl))
  case dtMeasurement =>
    rintro el k e s u rfl hr
    exact State.next_onIsland el hr rfl
  case ppsEdge =>
    rintro el rising frac x v w s u rfl hr hedge rfl hfirst rfl rfl
    have hedge' : (rising == (s.begin el).rbit R.DT_PPS_CFG 16) = false := by
      rw [hedge, Bool.not_beq_self]
    refine State.next_onIsland el hr ?_
    simp only [hedge', hfirst, Bool.false_eq_true, if_false]
    rfl
  case dtSourceLoss =>
    rintro el k v w s u rfl hr rfl hqual hsilent rfl hcan hlocked
    have hcan' : (k.val == dtCan) = false := beq_false_of_ne hcan
    refine State.next_onIsland el hr ((if_neg ?due).trans ?lost)
    case due =>
      rw [hqual, decide_eq_false (Nat.not_lt.2 hsilent)]
      exact Bool.false_ne_true
    case lost =>
      simp only [hcan', State.when_false]
      exact if_pos hlocked
  case holdoverSecond =>
    rintro el n v s u rfl hr rfl hstate hdue rfl
    exact State.next_onIsland el hr (if_pos ⟨hstate, hdue⟩)
  case timePulse =>
    rintro el i v s u rfl hr rfl hen hstate hinst hstep
    refine State.next_onIsland el hr ?_
    simp only [hen, hstate, hinst, hstep, decide_true, Bool.and_self, if_true, Option.none_beq_some, Bool.false_eq_true, if_false,
      b2n_false, Nat.zero_mul, Nat.add_zero]
  case dtModelClear =>
    rintro el p s u rfl ht
    exact congrArg Host.Outcome.next (State.writeCmd_begin el 2 dtCmd ht plainReg_dtCmd)
  case dtCntClear =>
    rintro el p s u rfl ht
    exact congrArg Host.Outcome.next (State.writeCmd_acts el ht plainReg_dtCmd (dtCmd_cntClear _))
  case rtcLatch =>
    rintro el s u rfl hrun hon hsecond
    exact congrArg Host.Outcome.next (if_pos (by rw [hrun, hon, decide_eq_true hsecond]; rfl))

end Sys2Proof.Machine
end

section
/-!
PROOFS. CAN_FIFO_POP (12 R489).
-/
namespace Sys2Proof.Machine

/-- A field of a number's word. -/
theorem fld_wordN (n lo wid : Nat) : fld (wordN n) lo wid = n % 2 ^ 32 / 2 ^ lo % 2 ^ wid := by
  simp only [fld, wordN, BitVec.extractLsb'_toNat, BitVec.toNat_ofNat, Nat.shiftRight_eq_div_pow]

theorem fld_lt (w : Word) (lo wid : Nat) : fld w lo wid < 2 ^ wid := (w.extractLsb' lo wid).isLt

/-- The word of CAN_FIFO_POP names the FIFO in bits 2–0 and the object in bits 14–8 (12 Table 8). -/
theorem fld_fifoPopWord (k : Fin 8) (m : Fin 128) :
    fld (wordN (m * 256 + k)) 0 3 = k ∧ fld (wordN (m * 256 + k)) 8 7 = m := by
  simp only [fld_wordN]
  omega

/-- The object is the head of the FIFO, which holds a frame; FIFO 0 is none (R487, R489). -/
abbrev State.FifoHead (s : State) (c k m : Nat) : Prop :=
  k ≠ 0 ∧ s.rfld (R.CAN_FIFO_STAT c k) 0 8 ≠ 0 ∧ s.rfld (R.CAN_FIFO_STAT c k) 16 7 = m

/-- The head of a FIFO is removed. -/
def State.fifoRemove (s : State) (c k m : Nat) : State :=
  ((s.setBit (R.OBJ_CTRL c m) obNew false).setFld (R.CAN_FIFO_STAT c k) 0 8 (s.rfld (R.CAN_FIFO_STAT c k) 0 8 - 1)).setFld
    (R.CAN_FIFO_STAT c k) 16 7 (nextIn (s.fifoMembers c k) m)

theorem fifoPop_head {s : State} {c : Nat} {k : Fin 8} {m : Fin 128} (h : s.FifoHead c k m) :
    fifoPop c (wordN (m * 256 + k)) s = s.fifoRemove c k m := by
  obtain ⟨hfifo, hobj⟩ := fld_fifoPopWord k m
  simp only [fifoPop, hfifo, hobj]
  exact if_pos h

theorem fifoPop_ignored {s : State} {c : Nat} {k : Fin 8} {m : Fin 128} (h : ¬ s.FifoHead c k m) :
    fifoPop c (wordN (m * 256 + k)) s = s.event (R.CAN_EVENT c) cvIgnored := by
  obtain ⟨hfifo, hobj⟩ := fld_fifoPopWord k m
  simp only [fifoPop, hfifo, hobj]
  exact if_neg h

/-! What the removal leaves in the object and in the status of the FIFO. -/

theorem objCtrl_ne_fifoStat (c : Nat) (k : Fin 8) (m : Nat) : R.OBJ_CTRL c m ≠ R.CAN_FIFO_STAT c k := by
  simp only [R.OBJ_CTRL, R.CAN_FIFO_STAT]
  omega

theorem State.reg_fifoRemove_ne (s : State) {c k m a : Nat} (hstat : a ≠ R.CAN_FIFO_STAT c k) (hobj : a ≠ R.OBJ_CTRL c m) :
    (s.fifoRemove c k m).reg a = s.reg a := by
  rw [State.fifoRemove, State.reg_setFld, if_neg hstat, State.reg_setFld, if_neg hstat, State.reg_setBit, if_neg hobj]

theorem State.fill_fifoRemove (s : State) (c k m : Nat) :
    (s.fifoRemove c k m).rfld (R.CAN_FIFO_STAT c k) 0 8 = s.rfld (R.CAN_FIFO_STAT c k) 0 8 - 1 := by
  have hfits : s.rfld (R.CAN_FIFO_STAT c k) 0 8 - 1 < 2 ^ 8 := Nat.lt_of_le_of_lt (Nat.sub_le _ _) (fld_lt _ _ _)
  rw [State.fifoRemove, State.rfld, State.reg_setFld, if_pos rfl, fld_setFld_ne _ _ _ _ _ _ (by decide) (.inl (by decide)),
    ← State.rfld, State.rfld_setFld _ _ _ _ _ (by decide), Nat.mod_eq_of_lt hfits]

theorem State.new_fifoRemove (s : State) (c : Nat) (k : Fin 8) (m : Nat) :
    (s.fifoRemove c k m).rbit (R.OBJ_CTRL c m) obNew = false := by
  have hne := objCtrl_ne_fifoStat c k m
  rw [State.fifoRemove, State.rbit, State.reg_setFld, if_neg hne, State.reg_setFld, if_neg hne, ← State.rbit,
    State.rbit_setBit _ _ _ _ (by decide)]

theorem State.SameButRegs.fifoRemove {s t : State} {el : Nat} {o : List Out} (h : s.SameButRegs t el o) (c k m : Nat) :
    s.SameButRegs (t.fifoRemove c k m) el o :=
  ((h.setReg _ _).setFld _ _ _ _).setFld _ _ _ _

/-! The command. -/

/-- CAN_FIFO_POP stores nothing (12 Table 8). -/
theorem commandReg_canFifoPop (c : Fin 4) : commandReg (R.CAN_FIFO_POP c) = true := by revert c; decide

/-- A write of CAN_FIFO_POP that every check lets pass acts by its word. -/
theorem execCanFifoPop_takes {s : State} {p : Port} {c : Fin 4} (el : Nat) (k : Fin 8) (m : Fin 128)
    (h : s.Takes p (R.CAN_FIFO_POP c)) : exec (.canFifoPop el p c k m) s =
      .next ((fifoPop c (wordN (m * 256 + k)) ((s.begin el).storeAt p (R.CAN_FIFO_POP c) (wordN (m * 256 + k)))).send
        (.wrote p (R.CAN_FIFO_POP c) 0)) :=
  congrArg Host.Outcome.next (State.writeCmd_begin el _ (fifoPop c) h (commandReg_plain (commandReg_canFifoPop c)))

/-- Settles O49: the write of CAN_FIFO_POP stores nothing, and its word removes the head that it names or is ignored. -/
theorem fifoPop_removesNamedHead : Obligations.FifoPop := by
  unfold Obligations.FifoPop
  intro el p c k m s ht
  have hexec := execCanFifoPop_takes el k m ht
  obtain ⟨hreg, hrest⟩ := State.storeAt_commandReg (commandReg_canFifoPop c) (s.begin el) p (wordN (m * 256 + k))
  have hstored := (State.SameButRegs.begin s el).of_regs hrest
  generalize (s.begin el).storeAt p (R.CAN_FIFO_POP c) (wordN (m * 256 + k)) = u at hexec hreg hstored
  have hstat (lo wid : Nat) : u.rfld (R.CAN_FIFO_STAT c k) lo wid = s.rfld (R.CAN_FIFO_STAT c k) lo wid := by
    rw [State.rfld, hreg, State.begin_reg, State.rfld]
  have hsame : u.FifoHead c k m ↔ s.FifoHead c k m := by
    simp only [State.FifoHead, hstat]
  refine ⟨_, hexec, ?_⟩
  by_cases hhead : s.FifoHead c k m
  case pos =>
    rw [fifoPop_head (hsame.2 hhead)]
    refine ⟨(hstored.fifoRemove c k m).send _, fun _ => ⟨?fill, State.new_fifoRemove u c k m, fun a ha => ?regs⟩,
      fun hno => absurd hhead hno⟩
    case fill =>
      rw [State.send_rfld, State.fill_fifoRemove, hstat]
    case regs =>
      simp only [List.mem_cons, List.not_mem_nil, or_false, not_or] at ha
      obtain ⟨hastat, haobj⟩ := ha
      rw [State.send_reg, State.reg_fifoRemove_ne _ hastat haobj, hreg, State.begin_reg]
  case neg =>
    rw [fifoPop_ignored (mt hsame.1 hhead)]
    refine ⟨(hstored.event _ _).send _, fun hyes => absurd hyes hhead, fun _ =>
      ⟨State.rbit_event u _ _ (by decide), fun a ha => ?regs⟩⟩
    case regs =>
      rw [State.send_reg, State.reg_event, if_neg (List.ne_of_not_mem_cons ha), hreg, State.begin_reg]

end Sys2Proof.Machine
end

section
/-!
PROOFS. The rows of the CAN controllers (12 R474–R514).
-/
namespace Sys2Proof.Machine

/-! Where the registers of a block stand (01 Table 9, 12 Table 8). -/

/-- Where a row of a table has a register, the table has one. -/
theorem exists_rowAt? {rows : List RegRow} {r : RegRow} {off i : Nat} (hr : r ∈ rows) (hi : r.idx? off = some i) :
    ∃ q, rowAt? rows off = some q := by
  induction rows with
  | nil => exact absurd hr List.not_mem_nil
  | cons q rest ih =>
    simp only [rowAt?]
    cases hq : q.idx? off with
    | some j => exact ⟨_, rfl⟩
    | none =>
      rcases List.mem_cons.1 hr with rfl | hrest
      · exact absurd (hq.symm.trans hi) nofun
      · exact ih hrest

/-- Each unit of a row has its register. -/
theorem RegRow.idx?_unit {r : RegRow} {i : Nat} (hi : i < r.count) (hs : 0 < r.stride) :
    r.idx? (r.off + i * r.stride) = some i := by
  have hlt : i * r.stride < r.count * r.stride := Nat.mul_lt_mul_of_pos_right hi hs
  have hin : r.off ≤ r.off + i * r.stride ∧ r.off + i * r.stride < r.off + r.count * r.stride ∧
      (r.off + i * r.stride - r.off) % r.stride = 0 := by
    rw [Nat.add_sub_cancel_left, Nat.mul_mod_left]
    omega
  rw [RegRow.idx?, if_pos hin, Nat.add_sub_cancel_left, Nat.mul_div_cancel _ hs]

/-- The blocks below an address do not hold it. -/
theorem blockAt?_below {l : List RegBlock} {a : Nat} (h : ∀ b ∈ l, b.base + b.count * b.stride ≤ a) (rest : List RegBlock) :
    blockAt? (l ++ rest) a = blockAt? rest a := by
  induction l with
  | nil => rfl
  | cons b l ih =>
    obtain ⟨hb, hl⟩ := List.forall_mem_cons.1 h
    exact (if_neg fun hin => Nat.not_lt.2 hb hin.2).trans (ih hl)

/-- A register of a block, but for those of the axes, stands at its row. -/
theorem regHit?_row {a i : Nat} {b : RegBlock} {r : RegRow} (hb : blockAt? regBlocks a = some b) (hbase : b.base ≠ 0x400000)
    (hr : rowAt? b.rows ((a - b.base) % b.stride) = some (r, i)) : regHit? a = some ⟨r, (a - b.base) / b.stride, i⟩ := by
  simp only [regHit?, hb, hr]
  exact if_neg fun haxis => hbase haxis.1

/-- The block of the CAN controllers in the address map (01 Table 9). -/
def canBlock : RegBlock := ⟨0x600000, 4, 0x4000, rowsCan⟩

/-- The blocks before that of the CAN controllers end below it. -/
theorem blockAt?_can {a : Nat} (hlo : 0x600000 ≤ a) (hhi : a < 0x610000) : blockAt? regBlocks a = some canBlock := by
  have hbelow : ∀ b ∈ regBlocks.take 14, b.base + b.count * b.stride ≤ 0x600000 := by decide
  have hfrom : blockAt? (regBlocks.drop 14) a = some canBlock := if_pos ⟨hlo, hhi⟩
  rw [← List.take_append_drop 14 regBlocks, blockAt?_below (fun b hb => (hbelow b hb).trans hlo), hfrom]

/-- A register of a CAN controller is of the map, and no upper word of a 48-bit value is among them (00 R19). -/
theorem plainReg_canRow {a off i : Nat} {r : RegRow} (hlo : 0x600000 ≤ a) (hhi : a < 0x610000)
    (hoff : (a - canBlock.base) % canBlock.stride = off) (hr : r ∈ rowsCan) (hi : r.idx? off = some i) : plainReg a = true := by
  have hblock := blockAt?_can hlo hhi
  obtain ⟨⟨q, j⟩, hrow⟩ := exists_rowAt? hr hi
  simp only [plainReg, regHit?_row hblock (by decide) (hoff.symm ▸ hrow), hblock]
  rfl

/-- The rows of OBJ_CTRL and CAN_FV in the block of a controller (12 Tables 3 and 8). -/
def objCtrlRow : RegRow := ⟨"OBJ_CTRL", 0x1000, 128, 0x50, 0xFB8FFF20, 0, 0xDC, 0, 0, 0, 0, 0xFC9101FF⟩
def canFvRow : RegRow := ⟨"CAN_FV", 0x3800, 128, 0x4, 0xFFFFFFFF, 0, 0, 0, 0, 0, 0, 0x1⟩

theorem objCtrlRow_mem : objCtrlRow ∈ rowsCan := by decide
theorem canFvRow_mem : canFvRow ∈ rowsCan := by decide

theorem plainReg_objCtrl (c : Fin 4) (m : Fin 128) : plainReg (R.OBJ_CTRL c m) = true := by
  refine plainReg_canRow ?_ ?_ ?_ objCtrlRow_mem (RegRow.idx?_unit m.isLt (by decide))
  all_goals
    simp only [R.OBJ_CTRL, canBlock, objCtrlRow]
    omega

theorem plainReg_canFv (c : Fin 4) (m : Fin 128) : plainReg (R.CAN_FV c m) = true := by
  refine plainReg_canRow ?_ ?_ ?_ canFvRow_mem (RegRow.idx?_unit m.isLt (by decide))
  all_goals
    simp only [R.CAN_FV, canBlock, canFvRow]
    omega

/-! The commands of a controller (12 Table 8). -/

theorem plainReg_canCtrl (c : Fin 4) : plainReg (R.CAN_CTRL c) = true := by revert c; decide
theorem plainReg_canCmd (c : Fin 4) : plainReg (R.CAN_CMD c) = true := commandReg_plain (commandReg_can c)

theorem canCmd_cntClear (c : Nat) (onBus : Option Nat) (s : State) : canCmd c onBus 1 s = s.clearRegs (canCounters c) := by
  simp [canCmd]

/-- A row of a controller whose island and clock run ends where its action on the begun state does. -/
theorem State.next_onCan {s t : State} {c : Nat} (el : Nat) (h : s.Runs 35) (hgate : (s.begin el).gateOn (5 + c) = true)
    {f : State → State} (hf : f (s.begin el) = t) :
    (Host.Outcome.next ((s.begin el).onCan c f) : Host.Outcome State Fault Refusal) = .next t :=
  State.next_onIsland el h (by rw [hgate, State.when_true, hf])

/-- Settles O10: under its conditions each row runs through the branch that its rule names, and each command register passes its
word on. -/
theorem canRowsComplete : Obligations.CanRowsComplete := by
  unfold Obligations.CanRowsComplete
  refine ⟨?canInitSet, ?canInitClear, ?txReqSet, ?txReqWithdraw, ?canFrameRx, ?canFrameTxDone, ?canAbortAll, ?canRecover,
    ?canCntClear, ?canError, ?recovered, ?recovering, ?protocolException, ?canFifoPop, ?objCaptureRead, ?canFvWrite,
    ?referenceRequest, ?canTmHandoff⟩
  case canInitSet =>
    rintro el p b c w s u rfl rfl ht
    exact congrArg Host.Outcome.next (State.writeCmd_begin el _ _ ht (plainReg_canCtrl c))
  case canInitClear =>
    rintro el p c w s u rfl rfl ht
    exact congrArg Host.Outcome.next (State.writeCmd_begin el _ _ ht (plainReg_canCtrl c))
  case txReqSet =>
    rintro el p c m w s u rfl rfl ht
    exact congrArg Host.Outcome.next (State.writeCmd_begin el _ _ ht (plainReg_objCtrl c m))
  case txReqWithdraw =>
    rintro el p c m onBus w s u rfl rfl ht
    exact congrArg Host.Outcome.next (State.writeCmd_begin el _ _ ht (plainReg_objCtrl c m))
  case canFrameRx =>
    rintro el c f v s u rfl hr hgate hlive hmode hfdf rfl
    refine State.next_onCan el hr hgate ?_
    simp only [hlive, hmode, hfdf, Bool.not_true, Bool.false_and, Bool.or_self, Bool.false_eq_true, if_false]
  case canFrameTxDone =>
    rintro el c sof delay m t v s u rfl hr hgate - rfl hlive hsends hpick rfl
    refine State.next_onCan el hr hgate ?_
    simp only [hlive, hsends, hpick, Bool.not_true, Bool.or_self, Bool.false_eq_true, if_false]
  case canAbortAll =>
    rintro el p c onBus s u rfl ht
    exact congrArg Host.Outcome.next (State.writeCmd_begin el 4 _ ht (plainReg_canCmd c))
  case canRecover =>
    rintro el p c s u rfl ht
    exact congrArg Host.Outcome.next (State.writeCmd_begin el 2 _ ht (plainReg_canCmd c))
  case canCntClear =>
    rintro el p c s u rfl ht
    exact congrArg Host.Outcome.next (State.writeCmd_acts el ht (plainReg_canCmd c) (canCmd_cntClear c none _))
  case canError =>
    rintro el c lec dTec dRec f s u rfl hr hgate hlec hlive hreceives hmode hsteps
    have hmode' : ((s.begin el).canMode c == 2) = false := beq_false_of_ne hmode
    refine State.next_onCan el hr hgate ?_
    simp only [hlec, hlive, hreceives, hmode', hsteps, Bool.not_true, Bool.false_eq_true, or_self, if_false]
  case recovered =>
    rintro el c n s u rfl hr hgate hcount hrecovering hdue
    refine State.next_onCan el hr hgate ((if_pos ⟨hrecovering, hdue⟩).trans ?_)
    rw [Nat.min_eq_right hcount]
    exact if_pos hcount
  case recovering =>
    rintro el c n s u rfl hr hgate hcount hrecovering hdue
    refine State.next_onCan el hr hgate ((if_pos ⟨hrecovering, hdue⟩).trans ?_)
    rw [Nat.min_eq_left hcount.le]
    exact if_neg (Nat.not_le.2 hcount)
  case protocolException =>
    rintro el c s u rfl hr hgate hlive hfd hpxhd
    refine State.next_onCan el hr hgate ?_
    simp only [hlive, hfd, hpxhd, Bool.not_true, Bool.not_false, Bool.and_self, Bool.false_eq_true, if_false, if_true]
  case canFifoPop =>
    rintro el p c k m s u rfl ht
    exact execCanFifoPop_takes el k m ht
  case objCaptureRead =>
    rintro el p c m s u rfl hg
    exact congrArg Host.Outcome.next (State.readCmd_gives (objRead c m) (State.gives_begin hg el))
  case canFvWrite =>
    rintro el p c m v s u rfl ht
    exact congrArg Host.Outcome.next (State.writeCmd_begin el v _ ht (plainReg_canFv c m))
  case referenceRequest =>
    rintro el c s u rfl hr hgate hmaster hlocked hworks hdue
    have hworks' : (s.begin el).works 32 = true := hworks
    refine State.next_onCan el hr hgate (if_pos ?_)
    rw [hmaster, hlocked, hworks', decide_eq_true hdue]
    rfl
  case canTmHandoff =>
    rintro el c e s u rfl hr hgate hworks hsrc hnew hlast
    refine State.next_onCan el hr hgate ((if_pos ⟨hworks, hsrc, hnew⟩).trans ?_)
    simp only [hlast]

end Sys2Proof.Machine
end

section
/-!
PROOFS. What every command keeps: the queue, and the canonical form of registers and store. One lemma per function of the
model, in the model's order, says that it keeps both; one per command says that the command answers a next state that does.
O18 to O23 are read off from these. What the application of the safe-state table runs through keeps CINCH_STAT as well, which
O54 needs: those lemmas hold for either value of `spare`.
-/
namespace Sys2Proof.Machine

/-- `t` has the queue of `s₀`, and is in canonical form where `s₀` is; with `spare`, CINCH_STAT too reads as in `s₀`. -/
structure State.Keeps (spare : Bool) (s₀ t : State) : Prop where
  queue : t.pending = s₀.pending
  canon : s₀.Canonical → t.Canonical
  cinch : spare = true → t.reg R.CINCH_STAT = s₀.reg R.CINCH_STAT

/-- `o` answers a next state, which keeps the queue and the canonical form of `s`. -/
def State.Completes (s : State) (o : Host.Outcome State Fault Refusal) : Prop := ∃ t, o = .next t ∧ s.Keeps false t

namespace State

theorem Completes.next {s t : State} (h : s.Keeps false t) : s.Completes (.next t) := ⟨t, rfl, h⟩

variable {spare : Bool} {s₀ : State}

theorem Keeps.refl {s : State} : s.Keeps spare s := ⟨rfl, fun h => h, fun _ => rfl⟩

/-- An update that touches neither registers nor store nor queue. -/
theorem Keeps.frame {t : State} {dt dtFrac now nowRem : Nat} {out : List Out} {free : Nat} {sys : SysSt} {intake : IntakeSt}
    {gnd : GndSt} {stitch : StitchSt} {lanes : Tab LaneSt} {tiles : Tab TileSt} {axes : Tab AxisSt} {fb : FbSt} {sw : SwSt}
    {gnss : GnssSt} {time : DtSt} {cans : Tab CanSt} {fm : FmSt} {cinch : CinchSt} {safe : SafeSt} {port : PortSt} {ldr : LdrSt}
    {rcd : RecSt} {mgt : MgtSt} {sec : SecSt} {clk : ClkSt} {fresh : Tab Word} {acked : List Nat} {sats : Tab Nat}
    (ht : s₀.Keeps spare t) : s₀.Keeps spare ⟨t.regs, dt, dtFrac, now, nowRem, t.store, t.pending, out, free, sys, intake, gnd,
      stitch, lanes, tiles, axes, fb, sw, gnss, time, cans, fm, cinch, safe, port, ldr, rcd, mgt, sec, clk, fresh, acked, sats⟩
        :=
  ⟨ht.queue, ht.canon, ht.cinch⟩

theorem Keeps.ite {c : Prop} [Decidable c] {a b : State} (ha : s₀.Keeps spare a) (hb : s₀.Keeps spare b) : s₀.Keeps spare (if c
    then a else b) := by
  split
  · exact ha
  · exact hb

/-- A state that comes out of a pair. -/
theorem Keeps.of_pair {α : Type} {x : α × State} {r : α} {u : State} (h : s₀.Keeps spare x.2) (hx : x = (r, u)) : s₀.Keeps spare
    u := by
  subst hx
  exact h

/-! Of `Sys2Proof/Machine/Tab.lean`. -/

theorem Keeps.forN {f : Nat → State → State} {n : Nat} {s : State} (hs : s₀.Keeps spare s)
    (hf : ∀ {i y}, s₀.Keeps spare y → s₀.Keeps spare (f i y)) : s₀.Keeps spare (forN f n s) := by
  induction n with
  | zero => exact hs
  | succ n ih => exact hf ih
/-- What every turn of an iteration keeps, the iteration keeps. -/
theorem forL_induction {α σ : Type} {P : σ → Prop} {f : α → σ → σ} (hf : ∀ {a x}, P x → P (f a x)) {l : List α} :
    ∀ {x : σ}, P x → P (forL f l x) := by
  induction l with
  | nil => exact fun h => h
  | cons a r ih => exact fun h => ih (hf h)

theorem Keeps.forL {α : Type} {f : α → State → State} {l : List α} {s : State} (hs : s₀.Keeps spare s)
    (hf : ∀ {a y}, s₀.Keeps spare y → s₀.Keeps spare (f a y)) : s₀.Keeps spare (forL f l s) :=
  forL_induction (P := s₀.Keeps spare) hf hs

/-! Of `Sys2Proof/Machine/Ops.lean`. -/

theorem Keeps.setReg_ne {s : State} {a : Nat} {v : Word} (hs : s₀.Keeps spare s) (ha : a ≠ R.CINCH_STAT) :
    s₀.Keeps spare (s.setReg a v) :=
  ⟨hs.queue, fun h => (hs.canon h).setReg a v, fun h => (State.reg_setReg_ne s v ha.symm).trans (hs.cinch h)⟩
theorem Keeps.setReg {s : State} {a : Nat} {v : Word} (hs : s₀.Keeps false s) : s₀.Keeps false (s.setReg a v) :=
  ⟨hs.queue, fun h => (hs.canon h).setReg a v, nofun⟩
theorem Keeps.setFld_ne {s : State} {a lo wid v : Nat} (hs : s₀.Keeps spare s) (ha : a ≠ R.CINCH_STAT) :
    s₀.Keeps spare (s.setFld a lo wid v) :=
  hs.setReg_ne ha
theorem Keeps.setFld {s : State} {a lo wid v : Nat} (hs : s₀.Keeps false s) : s₀.Keeps false (s.setFld a lo wid v) := hs.setReg
theorem Keeps.setBit_ne {s : State} {a i : Nat} {b : Bool} (hs : s₀.Keeps spare s) (ha : a ≠ R.CINCH_STAT) :
    s₀.Keeps spare (s.setBit a i b) :=
  hs.setReg_ne ha
theorem Keeps.setBit {s : State} {a i : Nat} {b : Bool} (hs : s₀.Keeps false s) : s₀.Keeps false (s.setBit a i b) := hs.setReg
theorem Keeps.event_ne {s : State} {a i : Nat} (hs : s₀.Keeps spare s) (ha : a ≠ R.CINCH_STAT) : s₀.Keeps spare
    (s.event a i) :=
  (hs.setReg_ne ha).frame
theorem Keeps.event {s : State} {a i : Nat} (hs : s₀.Keeps false s) : s₀.Keeps false (s.event a i) := hs.setReg.frame
theorem Keeps.count_ne {s : State} {a n : Nat} (hs : s₀.Keeps spare s) (ha : a ≠ R.CINCH_STAT) : s₀.Keeps spare
    (s.count a n) :=
  hs.setReg_ne ha
theorem Keeps.count {s : State} {a n : Nat} (hs : s₀.Keeps false s) : s₀.Keeps false (s.count a n) := hs.setReg
theorem Keeps.noteSat {s : State} {a : Nat} {c : Bool} (hs : s₀.Keeps false s) : s₀.Keeps false (s.noteSat a c) := .ite hs.frame
    hs
theorem Keeps.setRegI {s : State} {a : Nat} {v : Int} (hs : s₀.Keeps false s) : s₀.Keeps false (s.setRegI a v) :=
    hs.noteSat.setReg
theorem Keeps.setRegN {s : State} {a v : Nat} (hs : s₀.Keeps false s) : s₀.Keeps false (s.setRegN a v) := hs.noteSat.setReg
theorem Keeps.setFldI {s : State} {a lo wid : Nat} {v : Int} (hs : s₀.Keeps false s) : s₀.Keeps false (s.setFldI a lo wid v) :=
  hs.noteSat.setFld
theorem Keeps.setFldN {s : State} {a lo wid v : Nat} (hs : s₀.Keeps false s) : s₀.Keeps false (s.setFldN a lo wid v) :=
    hs.noteSat.setFld
theorem Keeps.clearRegs {l : List Nat} : ∀ {s : State}, s₀.Keeps false s → s₀.Keeps false (s.clearRegs l) := by
  induction l with
  | nil => exact fun hs => hs
  | cons a r ih => exact fun hs => ih hs.setReg
theorem Keeps.resetRegs {l : List Nat} : ∀ {s : State}, s₀.Keeps false s → s₀.Keeps false (s.resetRegs l) := by
  induction l with
  | nil => exact fun hs => hs
  | cons a r ih => exact fun hs => ih hs.setReg
theorem Keeps.setReg48 {s : State} {a : Nat} {v : Int} (hs : s₀.Keeps false s) : s₀.Keeps false (s.setReg48 a v) :=
    hs.setReg.setReg
theorem Keeps.setReg64 {s : State} {a v : Nat} (hs : s₀.Keeps false s) : s₀.Keeps false (s.setReg64 a v) := hs.setReg.setReg
theorem Keeps.setReg48I {s : State} {a : Nat} {v : Int} (hs : s₀.Keeps false s) : s₀.Keeps false (s.setReg48I a v) :=
    hs.noteSat.setReg48
theorem Keeps.begin {s : State} {el : Nat} (hs : s₀.Keeps false s) : s₀.Keeps false (s.begin el) := hs.frame
theorem Keeps.send {s : State} {o : Out} (hs : s₀.Keeps false s) : s₀.Keeps false (s.send o) := hs.frame
theorem Keeps.setUp {s : State} {i : Nat} {b : Bool} (hs : s₀.Keeps false s) : s₀.Keeps false (s.setUp i b) := .ite hs.setBit
    hs.setBit
theorem Keeps.linkTimeout {s : State} (hs : s₀.Keeps spare s) : s₀.Keeps spare s.linkTimeout := (hs.count_ne (by lia)).frame
/-- A transfer keeps what its delivery and its failure keep, whatever it answers. -/
theorem carry_induction {α : Type} {P : α → Prop} {s : State} {src dst : Nat} {yes no : State → α} (hs : s₀.Keeps spare s)
    (hyes : ∀ {y}, s₀.Keeps spare y → P (yes y)) (hno : ∀ {y}, s₀.Keeps spare y → P (no y)) : P (s.carry src dst yes no) := by
  unfold State.carry
  split
  · exact hno hs.frame
  · split
    · exact hyes hs
    · split
      · exact hno hs.linkTimeout
      · exact hno hs

theorem Keeps.carry {s : State} {src dst : Nat} {yes no : State → State} (hs : s₀.Keeps spare s)
    (hyes : ∀ {y}, s₀.Keeps spare y → s₀.Keeps spare (yes y)) (hno : ∀ {y}, s₀.Keeps spare y → s₀.Keeps spare (no y)) :
    s₀.Keeps spare (s.carry src dst yes no) :=
  carry_induction hs hyes hno

theorem Keeps.carry_snd {α : Type} {s : State} {src dst : Nat} {yes no : State → α × State} (hs : s₀.Keeps spare s)
    (hyes : ∀ {y}, s₀.Keeps spare y → s₀.Keeps spare (yes y).2) (hno : ∀ {y}, s₀.Keeps spare y → s₀.Keeps spare (no y).2) :
    s₀.Keeps spare (s.carry src dst yes no).2 :=
  carry_induction (P := fun r : α × State => s₀.Keeps spare r.2) hs hyes hno
theorem Keeps.onIsland {s : State} {i : Nat} {f : State → State} (hs : s₀.Keeps spare s)
    (hf : ∀ {y}, s₀.Keeps spare y → s₀.Keeps spare (f y)) : s₀.Keeps spare (s.onIsland i f) :=
  Keeps.ite (hf hs) hs
theorem Keeps.when {s : State} {b : Bool} {f : State → State} (hs : s₀.Keeps spare s)
    (hf : ∀ {y}, s₀.Keeps spare y → s₀.Keeps spare (f y)) : s₀.Keeps spare (s.when b f) :=
  Keeps.ite (hf hs) hs
theorem Keeps.setEth {s : State} {e : EthPort} {v : EthSt} (hs : s₀.Keeps false s) : s₀.Keeps false (s.setEth e v) := by
  unfold State.setEth
  split
  · exact hs.frame
  · exact hs.frame

/-! Of `Sys2Proof/Machine/Belt.lean`. -/

theorem Keeps.beltLost {s : State} {k : Nat} (hs : s₀.Keeps false s) : s₀.Keeps false (s.beltLost k) := hs.frame.setBit.event
theorem Keeps.beltFault {s : State} {e : Nat} (hs : s₀.Keeps false s) : s₀.Keeps false (s.beltFault e) :=
  hs.onIsland (fun hu => hu.forN (fun ht => ht.when (fun hv => hv.beltLost)))
theorem Keeps.beltEnWritten {s old : State} {k : Nat} (hs : s₀.Keeps false s) : s₀.Keeps false (s.beltEnWritten old k) :=
  hs.when (fun ht => ht.setBit.frame)

/-! Of `Sys2Proof/Machine/CanTx.lean`. -/

theorem Keeps.setObjByte {s : State} {c m i : Nat} {b : Byte} (hs : s₀.Keeps spare s) : s₀.Keeps spare (s.setObjByte c m i b) :=
    hs.setFld_ne (by lia)
theorem Keeps.setObjBytes {c m : Nat} {l : List Byte} :
    ∀ {s : State} {i : Nat}, s₀.Keeps spare s → s₀.Keeps spare (s.setObjBytes c m i l) := by
  induction l with
  | nil => exact fun hs => hs
  | cons b r ih => exact fun hs => ih hs.setObjByte
theorem Keeps.txRefuse {s : State} {c m : Nat} (hs : s₀.Keeps spare s) : s₀.Keeps spare (s.txRefuse c m) := by
  unfold State.txRefuse
  exact (hs.when (fun hu => (hu.event_ne (by lia)))).when (fun hu => (hu.event_ne (by lia)))
theorem Keeps.notePick {s old : State} {c : Nat} (hs : s₀.Keeps spare s) : s₀.Keeps spare (s.notePick old c) := hs.frame
theorem Keeps.signObj {s : State} {c m : Nat} {key : List Byte} (hs : s₀.Keeps spare s) : s₀.Keeps spare (s.signObj c m key) :=
  (hs.setReg_ne (by lia)).setObjBytes
theorem Keeps.notePicks {s old : State} (hs : s₀.Keeps false s) : s₀.Keeps false (s.notePicks old) := hs.forN (fun ht =>
    ht.notePick)
theorem Keeps.setTxReq {s : State} {c m : Nat} (hs : s₀.Keeps spare s) : s₀.Keeps spare (s.setTxReq c m).2 := by
  unfold State.setTxReq
  split
  · exact hs.txRefuse
  · refine Keeps.notePick ?_
    refine Keeps.setBit_ne ?_ (by lia)
    refine .ite ?_ hs
    split
    · exact hs.signObj
    · exact hs

/-! Of `Sys2Proof/Machine/Eth.lean`. -/

theorem Keeps.pnWarn {s : State} {e : EthPort} {old pn : Nat} (hs : s₀.Keeps false s) : s₀.Keeps false (s.pnWarn e old pn) := by
  unfold State.pnWarn
  exact hs.when (fun ht => ht.setBit.event)
theorem Keeps.pauseRx {s : State} {e : EthPort} {body : List Byte} (hs : s₀.Keeps false s) : s₀.Keeps false (s.pauseRx e body)
    := by
  unfold State.pauseRx
  split
  · exact hs.count
  · exact hs.setEth
theorem Keeps.secDrop {s : State} {a : Nat} (hs : s₀.Keeps false s) : s₀.Keeps false (s.secDrop a) := hs.count.event
theorem Keeps.acceptPn {s : State} {e : EthPort} {an pn : Nat} (hs : s₀.Keeps false s) : s₀.Keeps false (s.acceptPn e an pn) :=
    by
  unfold State.acceptPn
  dsimp only
  split
  · exact hs.setEth.setBit.pnWarn
  · split
    · exact hs.setEth.pnWarn
    · exact hs.setEth
theorem Keeps.ethPut {s : State} {e : EthPort} {f : TxFrame} (hs : s₀.Keeps false s) : s₀.Keeps false (s.ethPut e f) := by
  unfold State.ethPut
  refine .ite ?_ hs.send.count
  split
  · exact hs
  · exact hs.setEth.send.count.pnWarn
theorem Keeps.ethFlush {s : State} {e : EthPort} (hs : s₀.Keeps false s) : s₀.Keeps false (s.ethFlush e) :=
  .ite (hs.setEth.forL (fun ht => ht.ethPut)) hs
theorem Keeps.ethGive {s : State} {e : EthPort} {f : TxFrame} (hs : s₀.Keeps false s) : s₀.Keeps false (s.ethGive e f) :=
  .ite hs.ethFlush.ethPut hs.ethFlush.setEth
theorem Keeps.ethSend {s : State} {e : EthPort} {dstLo dstHi : Word} {subtype : Nat} {payload : List Byte} (hs : s₀.Keeps false
    s) :
    s₀.Keeps false (s.ethSend e dstLo dstHi subtype payload).2 := by
  unfold State.ethSend
  split
  · exact hs.ethGive
  · exact hs
theorem Keeps.macSec {s : State} {e : EthPort} {f : RxFrame} (hs : s₀.Keeps false s) : s₀.Keeps false (s.macSec e f).2 := by
  unfold State.macSec
  dsimp only
  split
  · split
    · exact hs
    · split
      · exact hs
      · split
        · exact hs
        · split
          · exact hs
          · exact hs.acceptPn
  · split
    · exact hs
    · exact hs
theorem Keeps.macRx {s : State} {e : EthPort} {f : RxFrame} (hs : s₀.Keeps false s) : s₀.Keeps false (s.macRx e f).2 := by
  unfold State.macRx
  dsimp only
  split
  · exact hs.ethFlush
  split
  · exact hs.ethFlush.count
  split
  · exact hs.ethFlush.count
  split
  · exact hs.ethFlush.count
  split
  · split
    · exact hs.ethFlush.pauseRx
    · exact hs.ethFlush.count
  split
  case h_1 a t ht => exact (hs.ethFlush.macSec.of_pair ht).secDrop
  case h_2 ty m t ht =>
    have hkeep := hs.ethFlush.macSec.of_pair ht
    split
    · exact hkeep.count
    · exact hkeep.count
theorem Keeps.pauseTx {s : State} {quanta : Nat} (hs : s₀.Keeps false s) : s₀.Keeps false (s.pauseTx quanta) := .ite
    hs.send.count hs

/-! Of `Sys2Proof/Machine/Store.lean`. -/

theorem Keeps.setPoison {s : State} {word : Nat} {b : Bool} (hs : s₀.Keeps false s) : s₀.Keeps false (s.setPoison word b) :=
    hs.frame
theorem Keeps.clearPoison {s : State} {a n : Nat} (hs : s₀.Keeps false s) : s₀.Keeps false (s.clearPoison a n) :=
  hs.forL (fun ht => ht.setPoison)
theorem Keeps.setStoreByte {s : State} {a : Nat} {b : Byte} (hs : s₀.Keeps spare s) : s₀.Keeps spare (s.setStoreByte a b) :=
  ⟨hs.queue, fun h => (hs.canon h).setStoreByte a b, hs.cinch⟩
theorem Keeps.setStoreBytes {l : List Byte} : ∀ {s : State} {a : Nat}, s₀.Keeps false s → s₀.Keeps false (s.setStoreBytes a l)
    := by
  induction l with
  | nil => exact fun hs => hs
  | cons b r ih => exact fun hs => ih hs.setStoreByte
theorem Keeps.noteWear {s : State} {a : Nat} (hs : s₀.Keeps false s) : s₀.Keeps false (s.noteWear a) := hs.frame
theorem Keeps.wearing {s : State} {a : Nat} {f : State → State} (hs : s₀.Keeps false s) (hf : ∀ {y0}, s₀.Keeps false y0 →
    s₀.Keeps false (f y0)) :
    s₀.Keeps false (s.wearing a f) :=
  .ite (hf hs.noteWear) hs
theorem Keeps.setMarks {s : State} {n : Nat} {v : Option (Nat × List Nat)} (hs : s₀.Keeps false s) : s₀.Keeps false (s.setMarks
    n v) :=
  hs.frame
theorem Keeps.mark {s : State} {n k : Nat} (hs : s₀.Keeps false s) : s₀.Keeps false (s.mark n k) := by
  unfold State.mark
  refine .ite hs ?_
  split
  · exact hs.setMarks
  · exact hs.setMarks
theorem Keeps.writeBack {s : State} {n : Nat} (hs : s₀.Keeps false s) : s₀.Keeps false (s.writeBack n) := by
  unfold State.writeBack
  split
  · exact hs
  · exact hs.wearing (fun hu => (hu.forL (fun ht => ht.setStoreByte)).setMarks)
theorem Keeps.writeBackAll {s : State} (hs : s₀.Keeps false s) : s₀.Keeps false s.writeBackAll := hs.forL (fun ht =>
    ht.writeBack)
theorem Keeps.rasterHost {l : List Byte} : ∀ {s : State} {a : Nat}, s₀.Keeps false s → s₀.Keeps false (s.rasterHost a l) := by
  induction l with
  | nil => exact fun hs => hs
  | cons v r ih =>
    intro s a hs
    refine ih (.ite hs.setStoreByte (.ite ?_ hs.setStoreByte))
    dsimp only
    split
    · exact hs.setStoreByte
    · exact hs.setStoreByte.setMarks

/-! Of `Sys2Proof/Machine/Guard.lean`. -/

theorem Keeps.putRec {s : State} (hs : s₀.Keeps false s) : s₀.Keeps false s.putRec := by
  unfold State.putRec
  split
  · exact .ite hs hs.frame.clearPoison
theorem Keeps.setSlot {s : State} {i v : Nat} (hs : s₀.Keeps false s) : s₀.Keeps false (s.setSlot i v) := hs.setFld.putRec

/-! Of `Sys2Proof/Machine/Faults.lean`. -/

theorem Keeps.setPrim {s : State} {src : Nat} {c : Option Capture} (hs : s₀.Keeps spare s) : s₀.Keeps spare (s.setPrim src c) :=
    hs.frame
theorem Keeps.setSeco {s : State} {src : Nat} {c : Option Capture} (hs : s₀.Keeps spare s) : s₀.Keeps spare (s.setSeco src c) :=
    hs.frame
theorem Keeps.setOvf {s : State} {src n : Nat} (hs : s₀.Keeps spare s) : s₀.Keeps spare (s.setOvf src n) := hs.frame
theorem Keeps.setBucket {s : State} {src inst n : Nat} (hs : s₀.Keeps spare s) : s₀.Keeps spare (s.setBucket src inst n) :=
    hs.frame
theorem Keeps.setLasting {s : State} {src inst : Nat} {b : Bool} (hs : s₀.Keeps spare s) : s₀.Keeps spare (s.setLasting src inst
    b) :=
  hs.frame
theorem Keeps.recAdd {s : State} {k inst qty : Nat} {v : Int} (hs : s₀.Keeps spare s) : s₀.Keeps spare (s.recAdd k inst qty v)
    :=
  .ite hs.frame hs
theorem Keeps.recTrigger {s : State} {k inst : Nat} (hs : s₀.Keeps spare s) : s₀.Keeps spare (s.recTrigger k inst) := hs.frame
theorem Keeps.reportLost {s : State} (hs : s₀.Keeps spare s) : s₀.Keeps spare s.reportLost :=
  ((hs.count_ne (by lia)).event_ne (by lia))
theorem Keeps.canGive {s : State} {c m : Nat} {r : Report} (hs : s₀.Keeps spare s) : s₀.Keeps spare (s.canGive c m r) := by
  unfold State.canGive
  dsimp only
  split
  case h_1 u hu => exact ((hs.setFld_ne (by lia)).setBit_ne (by lia)).setObjBytes.setTxReq.of_pair hu
  case h_2 u hu => exact (((hs.setFld_ne (by lia)).setBit_ne (by lia)).setObjBytes.setTxReq.of_pair hu).reportLost
theorem Keeps.canReportDrain {s : State} (hs : s₀.Keeps spare s) : s₀.Keeps spare s.canReportDrain := by
  unfold State.canReportDrain
  exact hs.forL (fun ht => .ite ht.frame.canGive ht)
theorem Keeps.report {s : State} {src : Nat} {secondary : Bool} {c : Capture} (hs : s₀.Keeps spare s) : s₀.Keeps spare (s.report
    src
    secondary c) := by
  unfold State.report
  extract_lets rseq r s0 _ s1
  have hs0 : s₀.Keeps spare s0 := hs.setReg_ne (by lia)
  have hs1 : s₀.Keeps spare s1 := .ite (.ite hs0.frame hs0.reportLost) hs0
  exact .ite (.ite hs1.frame.canReportDrain hs1.reportLost) hs1
theorem Keeps.pinLatch {s : State} (hs : s₀.Keeps spare s) : s₀.Keeps spare s.pinLatch :=
  hs.when (fun ht => (ht.event_ne (by lia)))
theorem Keeps.pinsRead {s : State} {b : Bool × Bool} (hs : s₀.Keeps false s) : s₀.Keeps false (s.pinsRead b) :=
    hs.frame.pinLatch
theorem Keeps.lastingChange {s : State} {src inst level : Nat} (hs : s₀.Keeps spare s) : s₀.Keeps spare (s.lastingChange src
    inst level) :=
    by
  unfold State.lastingChange
  extract_lets s1
  have hs1 : s₀.Keeps spare s1 := by
    unfold s1
    split
    · exact .ite hs.setPrim.report hs
    · exact hs
  split
  · exact .ite hs1.setSeco.report hs1
  · exact hs1
theorem Keeps.place {s : State} {src : Nat} {c : Capture} (hs : s₀.Keeps spare s) : s₀.Keeps spare (s.place src c) := by
  unfold State.place
  split
  · exact (hs.setPrim.event_ne (by lia)).report
  · refine .ite hs.setPrim ?_
    split
    · exact (hs.setSeco.event_ne (by lia)).report
    · exact .ite hs.setSeco (hs.setOvf.event_ne (by lia))
theorem Keeps.ack {s : State} {src : Nat} (hs : s₀.Keeps spare s) : s₀.Keeps spare (s.ack src) := by
  unfold State.ack
  split
  · exact hs
  · exact (hs.setPrim.setSeco.count_ne (by lia)).setOvf.pinLatch
theorem Keeps.ackFirst {s : State} {src : Nat} (hs : s₀.Keeps spare s) : s₀.Keeps spare (s.ackFirst src) := hs.forN (fun ht =>
    ht.ack.frame)
theorem Keeps.fault {a : State} {src inst : Nat} {detail : Word} (ha : s₀.Keeps spare a) : s₀.Keeps spare (a.fault src inst
    detail) :=
  .ite (((((ha.ackFirst.setBucket.setLasting.count_ne (by lia)).recAdd.when (fun ht => ht.recTrigger)).when (fun ht =>
    ht.recTrigger)).when
    (fun ht => (ht.event_ne (by lia)).lastingChange)).when (fun ht => ht.place)).pinLatch ha
theorem Completes.execFaultOccurrence {el : Nat} {src : Fin 128} {inst : BitVec 16} {detail : Word} {s : State} : s.Completes
    (execFaultOccurrence el src inst detail s) :=
  .next Keeps.refl.begin.fault
theorem Keeps.leakOne {s : State} {src inst : Nat} (hs : s₀.Keeps false s) : s₀.Keeps false (s.leakOne src inst) :=
  .ite hs.setBucket.setLasting hs.setBucket
theorem Keeps.leak {s : State} {src : Nat} (hs : s₀.Keeps false s) : s₀.Keeps false (s.leak src) := hs.forL (fun ht => .ite
    ht.leakOne ht)
theorem Completes.execBucketLeak {el : Nat} {src : Fin 128} {s : State} : s.Completes (execBucketLeak el src s) :=
  .next (Keeps.refl.begin.onIsland (fun ht => .ite ht.leak ht))
theorem Completes.execReportFrameTx {el : Nat} {s : State} : s.Completes (execReportFrameTx el s) := by
  refine .next (Keeps.refl.begin.onIsland fun ht => Keeps.ite ?_ ht)
  split
  case h_1 u hu => exact (ht.ethSend.of_pair hu).frame
  case h_2 u hu => exact ht.ethSend.of_pair hu
theorem Keeps.readSrcStat {s : State} {src : Nat} (hs : s₀.Keeps false s) : s₀.Keeps false (s.readSrcStat src).2 := by
  unfold State.readSrcStat
  split
  · exact hs.frame
  · exact hs
theorem Keeps.pinTestStart {s : State} {faultLow safeLow : Bool} (hs : s₀.Keeps false s) : s₀.Keeps false (s.pinTestStart
    faultLow safeLow)
    :=
  hs.frame.pinsRead
theorem Completes.execPinTestEnd {e : Seen (Bool × Bool)} {s : State} : s.Completes (execPinTestEnd e s) := by
  unfold Machine.execPinTestEnd
  refine .next ?_
  split
  · exact Keeps.refl.begin
  · exact .ite Keeps.refl.frame.pinsRead Keeps.refl.begin

/-! Of `Sys2Proof/Machine/Access.lean`. -/

theorem Keeps.storeUe {s : State} {word : Nat} (hs : s₀.Keeps false s) : s₀.Keeps false (s.storeUe word) := hs.count.event.fault
theorem Keeps.devRead {s : State} {hits : List EccHit} {a n : Nat} (hs : s₀.Keeps false s) : s₀.Keeps false (s.devRead hits a n)
    := by
  unfold State.devRead
  exact (hs.forL (fun hu => .ite (.ite hu.setPoison (.ite hu hu.count.event)) hu)).forL (fun hu => hu.storeUe)
theorem Keeps.portFail {s : State} {p : Port} {a code : Nat} (hs : s₀.Keeps false s) : s₀.Keeps false (s.portFail p a code) :=
  hs.setReg.setReg.count.event
theorem Keeps.accessFail {s : State} {p : Port} {a code : Nat} (hs : s₀.Keeps false s) : s₀.Keeps false (s.accessFail p a code)
    := by
  unfold State.accessFail
  exact ((hs.portFail.when (fun hs => hs.linkTimeout)).frame.when (fun ht => ht.count)).when (fun ht => ht.event.event)
theorem Keeps.refuse {s : State} {p : Port} {a : Nat} {v : Word} {reasons : Nat} (hs : s₀.Keeps false s) : s₀.Keeps false
    (s.refuse p a v
    reasons) :=
  (Keeps.ite hs.setReg.setReg.setReg (.ite hs.setReg.setReg.setReg hs.setFld)).count.event.fault
theorem Keeps.setHeld {s : State} {p : Port} {a : Nat} {w : Option Word} (hs : s₀.Keeps false s) : s₀.Keeps false (s.setHeld p a
    w) :=
  hs.frame
theorem Keeps.setCap {s : State} {p : Port} {a : Nat} {w : Option Word} (hs : s₀.Keeps false s) : s₀.Keeps false (s.setCap p a
    w) :=
  hs.frame
theorem Keeps.storeWord {s : State} {r : RegRow} {a : Nat} {v : Word} (hs : s₀.Keeps false s) : s₀.Keeps false (s.storeWord r a
    v) :=
  hs.setReg
theorem Keeps.commitHeld {s : State} {p : Port} {lo n : Nat} (hs : s₀.Keeps false s) : s₀.Keeps false (s.commitHeld p lo n) :=
    by
  induction n with
  | zero => exact hs
  | succ n ih =>
    unfold State.commitHeld
    dsimp only
    split
    · exact ih.storeWord.setHeld
    · exact ih
theorem Keeps.storeAt {s : State} {p : Port} {a : Nat} {v : Word} (hs : s₀.Keeps false s) : s₀.Keeps false (s.storeAt p a v) :=
    by
  unfold State.storeAt
  split
  · exact hs
  · split
    · exact .ite hs.storeWord (.ite hs.commitHeld.storeWord hs.setHeld)
    · exact hs.storeWord
theorem Keeps.setMarked {s : State} {k n : Nat} (hs : s₀.Keeps false s) : s₀.Keeps false (s.setMarked k n) := hs.frame
theorem Keeps.noteStaged {s : State} {target k : Nat} (hs : s₀.Keeps false s) : s₀.Keeps false (s.noteStaged target k) :=
    hs.frame
theorem Keeps.touchSlot {s : State} {a : Nat} (hs : s₀.Keeps false s) : s₀.Keeps false (s.touchSlot a) :=
  .ite (.ite hs.setSlot.setMarked.noteStaged hs) (.ite hs.setSlot.noteStaged hs)
theorem Keeps.hostWrite {s : State} {p : Port} {a : Nat} {v : Word} {act : WriteAct} (hs : s₀.Keeps false s) (hact : ∀ {y0 y1},
    s₀.Keeps false y1 → s₀.Keeps false (act y0 y1).2) : s₀.Keeps false (s.hostWrite p a v act).2 := by
  unfold State.hostWrite
  dsimp only
  split
  · exact hs.accessFail
  · split
    · exact .ite hs.rasterHost hs.touchSlot.setStoreBytes
    · exact ((hact hs).when (fun ht => ht.refuse)).when (fun ht => ht.portFail)
theorem Keeps.atPort {s : State} {p : Port} {deaf : Out} {f : State → State} (hs : s₀.Keeps false s) (hf : ∀ {y0}, s₀.Keeps
    false y0 →
    s₀.Keeps false (f y0)) : s₀.Keeps false (s.atPort p deaf f) :=
  .ite hs (.ite (hf hs) (.ite hs.send hs))
theorem Keeps.writeCmd {s : State} {p : Port} {a : Nat} {v : Word} {act : Word → State → State} (hs : s₀.Keeps false s) (hact :
    ∀ {y0
    y1}, s₀.Keeps false y1 → s₀.Keeps false (act y0 y1)) : s₀.Keeps false (s.writeCmd p a v act) :=
  hs.atPort (fun hs0 => (hs0.hostWrite (fun ht => hact ht.storeAt)).send)
theorem Keeps.hostRead {s : State} {p : Port} {a : Nat} {act : ReadAct} (hs : s₀.Keeps false s) (hact : ∀ {y0}, s₀.Keeps false
    y0 → s₀.Keeps false
    (act y0).2) : s₀.Keeps false (s.hostRead p a act).2.2 := by
  unfold State.hostRead
  dsimp only
  split
  · exact hs.accessFail
  · exact hact hs
theorem Keeps.readCmd {s : State} {p : Port} {a : Nat} {act : ReadAct} (hs : s₀.Keeps false s) (hact : ∀ {y0}, s₀.Keeps false y0
    → s₀.Keeps false
    (act y0).2) : s₀.Keeps false (s.readCmd p a act) :=
  hs.atPort (fun hs0 => (hs0.hostRead hact).send)

/-! Of `Sys2Proof/Machine/TileOps.lean`. -/

theorem Keeps.setLane {s : State} {n : Nat} {v : LaneSt} (hs : s₀.Keeps spare s) : s₀.Keeps spare (s.setLane n v) := hs.frame
theorem Keeps.setTile {s : State} {t : Nat} {v : TileSt} (hs : s₀.Keeps spare s) : s₀.Keeps spare (s.setTile t v) := hs.frame
theorem Keeps.idleAbort {s : State} {t : Nat} (hs : s₀.Keeps spare s) : s₀.Keeps spare (s.idleAbort t) := hs.setTile
theorem Keeps.burnEnd {s : State} {t : Nat} (hs : s₀.Keeps spare s) : s₀.Keeps spare (s.burnEnd t) :=
  (hs.setReg_ne (by lia)).setTile
theorem Keeps.burnAbandon {s : State} {n : Nat} (hs : s₀.Keeps spare s) : s₀.Keeps spare (s.burnAbandon n) := .ite
    (hs.burnEnd.count_ne (by lia)) hs
theorem Keeps.burnAbandonTile {s : State} {t : Nat} (hs : s₀.Keeps false s) : s₀.Keeps false (s.burnAbandonTile t) := .ite
    hs.burnAbandon hs
theorem Keeps.tileTake {s : State} {n : Nat} {q : TilePulse} (hs : s₀.Keeps spare s) : s₀.Keeps spare (s.tileTake n q).2 := by
  unfold State.tileTake
  refine Keeps.carry_snd hs (fun hu => ?_) (fun hu => hu)
  split
  · exact hu.setLane.idleAbort.burnAbandon.setBit_ne (by lia)
  · exact hu
theorem Keeps.tileAmend {s : State} {n : Nat} {opn : Int} {close : Option Int} (hs : s₀.Keeps spare s) : s₀.Keeps spare
    (s.tileAmend n opn
    close).2 :=
  hs.carry_snd (fun hu => hu.setLane) (fun hu => hu)

/-! Of `Sys2Proof/Machine/Stitch.lean`. -/

theorem Keeps.setCal {s : State} {n : Nat} {l : List Entry} (hs : s₀.Keeps spare s) : s₀.Keeps spare (s.setCal n l) :=
  .ite (hs.frame.setReg_ne (by lia)) hs.frame
theorem Keeps.setCommitted {s : State} {l : List Commit} (hs : s₀.Keeps spare s) : s₀.Keeps spare (s.setCommitted l) := hs.frame
theorem Keeps.setSect {s : State} {n : Nat} {v : SectSt} (hs : s₀.Keeps false s) : s₀.Keeps false (s.setSect n v) := hs.frame
theorem Keeps.setChains {s : State} {n : Nat} {l : List PwmAt} (hs : s₀.Keeps spare s) : s₀.Keeps spare (s.setChains n l) :=
    hs.frame
theorem Keeps.putChain {s : State} {n : Nat} {q q' : PwmAt} (hs : s₀.Keeps false s) : s₀.Keeps false (s.putChain n q q') :=
    hs.setChains
theorem Keeps.setGlane {s : State} {n : Nat} {v : GndLane} (hs : s₀.Keeps spare s) : s₀.Keeps spare (s.setGlane n v) := hs.frame
theorem Keeps.sprayOn {s : State} {n : Nat} {y : Spray} (hs : s₀.Keeps spare s) : s₀.Keeps spare (s.sprayOn n y) := hs.setGlane
theorem Keeps.sprayOff {s : State} {n : Nat} {f : Spray → Bool} {stop : Option Int} (hs : s₀.Keeps spare s) : s₀.Keeps spare
    (s.sprayOff n f
    stop) :=
  hs.setGlane
theorem Keeps.handOff {s : State} {src : Nat} {h : HandOff} (hs : s₀.Keeps false s) : s₀.Keeps false (s.handOff src h) :=
  hs.carry (fun ht => ht.frame) (fun ha => ha)
theorem Keeps.widen {s : State} {n : Nat} {e : Entry} (hs : s₀.Keeps spare s) : s₀.Keeps spare (s.widen n e).1 :=
  hs.when (fun ht => (ht.count_ne (by lia)))
theorem Keeps.mergeLoop {n fuel : Nat} :
    ∀ {s : State} {e : Entry}, s₀.Keeps spare s → s₀.Keeps spare (s.mergeLoop n fuel e).1 := by
  induction fuel with
  | zero => exact fun hs => hs
  | succ fuel ih =>
    intro s e hs
    have hstep (x : Entry) : s₀.Keeps spare (State.mergeLoop (((s.setCal n (removeE x (s.cal n))).count (R.STITCH_LANE_MERGED n)
      1).widen n
        (((s.setCal n (removeE x (s.cal n))).count (R.STITCH_LANE_MERGED n) 1).unionE n x e)).1 n fuel
        (((s.setCal n (removeE x (s.cal n))).count (R.STITCH_LANE_MERGED n) 1).widen n
        (((s.setCal n (removeE x (s.cal n))).count (R.STITCH_LANE_MERGED n) 1).unionE n x e)).2).1 :=
      ih (hs.setCal.count_ne (by lia)).widen
    unfold State.mergeLoop
    dsimp only
    split
    · split
      · exact hstep _
      · split
        · split
          · exact hstep _
          · exact hs
        · exact hs
    · split
      · split
        · exact hstep _
        · exact hs
      · exact hs
theorem Keeps.amend {s : State} {x : Bool} {c : Commit} {close : Option Int} (hs : s₀.Keeps spare s) : s₀.Keeps spare (s.amend x
    c close) :=
  .ite hs.tileAmend.setCommitted.sprayOff ((hs.count_ne (by lia)).event_ne (by lia))
theorem Keeps.absorb {s : State} {x : Bool} {c : Commit} {e : Entry} {nc : Option Int} (hs : s₀.Keeps spare s) : s₀.Keeps spare
    (s.absorb x
    c e nc) :=
  (Keeps.ite hs hs.amend).setCommitted
theorem Keeps.setTh {s : State} {t : Option Int} (hs : s₀.Keeps false s) : s₀.Keeps false (s.setTh t) := by
  unfold State.setTh
  dsimp only
  split
  · exact .ite hs.frame.setReg.setReg hs.frame
  · exact hs.frame
theorem Keeps.research {s : State} {n : Nat} (hs : s₀.Keeps false s) : s₀.Keeps false (s.research n) :=
  .ite (hs.setTh.when (fun hu => hu.count)) hs
theorem Keeps.prune {s : State} (hs : s₀.Keeps spare s) : s₀.Keeps spare s.prune := hs.setCommitted
theorem Keeps.issue {s : State} {x : Bool} {n p : Nat} {e : Entry} {contended : Bool} (hs : s₀.Keeps spare s) : s₀.Keeps spare
    (s.issue x n
    p e contended) :=
  .ite (hs.tileTake.setCommitted.when (fun ht => ht.sprayOn)) ((hs.count_ne (by lia)).event_ne (by lia))
theorem Keeps.stagger {s : State} {n p : Nat} {e : Entry} (hs : s₀.Keeps spare s) : s₀.Keeps spare (s.stagger n p e).1 := by
  unfold State.stagger
  dsimp only
  split
  · split
    · exact ((hs.count_ne (by lia)).setReg_ne (by lia))
    · exact hs
  · exact ((hs.count_ne (by lia)).event_ne (by lia))
theorem Keeps.chainCommitted {s : State} {n : Nat} {e : Entry} (hs : s₀.Keeps spare s) : s₀.Keeps spare (s.chainCommitted n e)
    := by
  unfold State.chainCommitted
  split
  · exact hs
  · exact hs.setChains
theorem Keeps.broken {s : State} {n : Nat} (hs : s₀.Keeps spare s) : s₀.Keeps spare (s.broken n) :=
  ((hs.count_ne (by lia)).event_ne (by lia)).fault
theorem Keeps.sift {s : State} {n : Nat} (hs : s₀.Keeps spare s) : s₀.Keeps spare (s.sift n) :=
  .ite hs (hs.setCal.forL (fun ht => ht.chainCommitted.broken))
theorem Keeps.upset {s : State} {l : List (Nat × Nat)} (hs : s₀.Keeps false s) : s₀.Keeps false (s.upset l) := hs.forL (fun ht
    => ht.setCal)
theorem Keeps.dropUnmapped {s : State} {l : List Member} (hs : s₀.Keeps spare s) : s₀.Keeps spare (s.dropUnmapped l) := by
  unfold State.dropUnmapped
  exact hs.when (fun ht => ((ht.count_ne (by lia)).event_ne (by lia)))
theorem Keeps.commit {s0 : State} {x : Bool} {n : Nat} {e : Entry} (hs0 : s₀.Keeps spare s0) : s₀.Keeps spare (s0.commit x n e)
    := by
  unfold State.commit
  refine .ite hs0.chainCommitted.broken ?_
  split
  · exact hs0.chainCommitted.dropUnmapped
  · refine .ite (hs0.chainCommitted.count_ne (by lia)) ?_
    dsimp only
    split
    · exact hs0.chainCommitted.prune.stagger.dropUnmapped
    · exact hs0.chainCommitted.prune.stagger.issue
theorem Keeps.enter {s : State} {n : Nat} {e : Entry} (hs : s₀.Keeps spare s) : s₀.Keeps spare (s.enter n e) := hs.setCal
theorem Keeps.settle {s : State} {x : Bool} {n : Nat} {e : Entry} (hs : s₀.Keeps spare s) : s₀.Keeps spare (s.settle x n e) :=
    by
  unfold State.settle
  refine .ite ?_ hs.enter
  refine .ite (hs.when (fun ht => ((ht.count_ne (by lia)).event_ne (by lia)))) ?_
  refine .ite ?_ ?_
  · refine Keeps.commit ?_
    refine .ite ?_ ?_
    · split
      · exact hs.when (fun ht => ((ht.count_ne (by lia)).event_ne (by lia)))
      · exact (hs.when (fun ht => ((ht.count_ne (by lia)).event_ne (by lia)))).widen
    · refine Keeps.event_ne ?_ (by lia)
      refine Keeps.count_ne ?_ (by lia)
      split
      · exact hs.when (fun ht => ((ht.count_ne (by lia)).event_ne (by lia)))
      · exact (hs.when (fun ht => ((ht.count_ne (by lia)).event_ne (by lia)))).widen
  · refine Keeps.enter ?_
    refine Keeps.mergeLoop ?_
    split
    · exact hs.when (fun ht => ((ht.count_ne (by lia)).event_ne (by lia)))
    · exact (hs.when (fun ht => ((ht.count_ne (by lia)).event_ne (by lia)))).widen
theorem Keeps.poolFull {s : State} (hs : s₀.Keeps spare s) : s₀.Keeps spare s.poolFull :=
  ((hs.count_ne (by lia)).event_ne (by lia))
theorem Keeps.placeE {s0 : State} {x : Bool} {n : Nat} {new listed : Bool} {e0 : Entry} (hs0 : s₀.Keeps spare s0) : s₀.Keeps
    spare
    (s0.placeE x n new listed e0) := by
  unfold State.placeE
  dsimp only
  split
  · exact .ite ((hs0.widen.mergeLoop.absorb.count_ne (by lia)).when (fun hs => hs.poolFull)) (.ite (((hs0.widen.mergeLoop.when
      (fun ht =>
      (ht.count_ne (by lia)))).when (fun ht => ((ht.count_ne (by lia)).event_ne (by lia)))).mergeLoop.poolFull.count_ne (by
        lia)) (.ite ((((hs0.widen.mergeLoop.when (fun ht
        =>
      (ht.count_ne (by lia)))).when (fun ht => ((ht.count_ne (by lia)).event_ne (by lia)))).mergeLoop.count_ne (by
        lia)).event_ne (by lia)) (((hs0.widen.mergeLoop.when (fun ht =>
        (ht.count_ne (by lia)))).when
      (fun ht => ((ht.count_ne (by lia)).event_ne (by lia)))).mergeLoop.when (fun hs => hs.poolFull)).settle))
  · exact .ite (hs0.widen.mergeLoop.poolFull.count_ne (by lia)) (.ite ((hs0.widen.mergeLoop.count_ne (by lia)).event_ne (by
      lia)) (hs0.widen.mergeLoop.when (fun
    hs =>
      hs.poolFull)).settle)
theorem Keeps.gridWritten {s old : State} {n : Nat} (hs : s₀.Keeps false s) : s₀.Keeps false (s.gridWritten old n) := .ite hs
    hs.frame
theorem Keeps.placePwm {s : State} {x : Bool} {n d : Nat} {a b : Int} {stop : Option (Int × Int)} (hs : s₀.Keeps false s) :
    s₀.Keeps false
    (s.placePwm x n d a b stop) :=
  hs.setFld.placeE
theorem Keeps.pwmStep {x : Bool} {n fuel : Nat} : ∀ {s : State}, s₀.Keeps false s → s₀.Keeps false (State.pwmStep x n fuel s) :=
    by
  induction fuel with
  | zero => exact fun hs => hs
  | succ fuel ih =>
    intro s hs
    refine Keeps.ite hs ?_
    split
    · exact hs
    · exact Keeps.ite (ih hs.setChains) (Keeps.ite (ih hs.putChain.setFld) (ih hs.putChain.placePwm))
theorem Keeps.after {s : State} {x : Bool} {n : Nat} (hs : s₀.Keeps false s) : s₀.Keeps false (s.after x n) :=
    hs.pwmStep.research
theorem Keeps.pwmAfter {s : State} {x : Bool} {n : Nat} (hs : s₀.Keeps false s) : s₀.Keeps false (s.pwmAfter x n) := by
  unfold State.pwmAfter
  exact hs.pwmStep.when (fun hu => hu.research)
theorem Keeps.pwmResume {s : State} {x : Bool} {n : Nat} (hs : s₀.Keeps false s) : s₀.Keeps false (s.pwmResume x n) :=
    hs.setChains.pwmAfter
theorem Keeps.recomputeLane {s0 : State} {x : Bool} {n : Nat} (hs0 : s₀.Keeps spare s0) : s₀.Keeps spare (s0.recomputeLane x n)
    := by
  unfold State.recomputeLane
  exact hs0.sift.setCal.forL (fun ht => ht.placeE)
theorem Keeps.replaceE {s : State} {x : Bool} {n : Nat} {e : Entry} (hs : s₀.Keeps false s) : s₀.Keeps false (s.replaceE x n e)
    :=
  .ite (.ite hs.enter hs) (.ite hs.enter hs.placeE)
theorem Keeps.dropped {s t : State} {n : Nat} (hs : s₀.Keeps false s) (ht : s.dropped n = some t) : s₀.Keeps false t := by
  unfold State.dropped at ht
  split at ht
  · exact Option.some.inj ht ▸ hs.count.event
  · split at ht
    · exact Option.some.inj ht ▸ hs.count.event
    · exact nomatch ht
theorem Keeps.placeTarget {s0 : State} {x : Bool} {t : Target} {n : Nat} (hs0 : s₀.Keeps false s0) :
    s₀.Keeps false (s0.placeTarget x t n) := by
  unfold State.placeTarget
  extract_lets s
  have hs : s₀.Keeps false s := hs0.sift
  split
  case h_1 s1 h1 => exact hs.dropped h1
  case h_2 =>
    exact Keeps.ite (Keeps.ite hs.poolFull.count (Keeps.ite hs.count.event hs.enter.research)) hs.placeE.after
theorem Keeps.cancelLane {s0 : State} {x : Bool} {t : Target} {n : Nat} (hs0 : s₀.Keeps false s0) :
    s₀.Keeps false (s0.cancelLane x t n) := by
  unfold State.cancelLane
  extract_lets s
  have hs : s₀.Keeps false s := hs0.sift
  split
  case h_1 s1 h1 => exact hs.dropped h1
  case h_2 => exact .ite (.ite hs.count hs.count.event) (hs.setCal.count.forL (fun ht => ht.replaceE)).after
theorem Keeps.askSect {s : State} {n : Nat} {on : Bool} {t : Int} (hs : s₀.Keeps false s) : s₀.Keeps false (s.askSect n on t) :=
    hs.setSect
theorem Keeps.chainStart {s : State} {x : Bool} {n : Nat} {oi : Int} (hs : s₀.Keeps false s) : s₀.Keeps false (s.chainStart x n
    oi) :=
  .ite hs.setChains.sprayOn.setFld hs.setChains.sprayOn.placePwm
theorem Keeps.sectOn {s0 : State} {x : Bool} {tag : Nat} {arr : Int} {raw : Bool} {n : Nat} (hs0 : s₀.Keeps false s0) :
    s₀.Keeps false (s0.sectOn x tag arr raw n) := by
  unfold State.sectOn
  extract_lets s
  have hs : s₀.Keeps false s := hs0.sift
  split
  case h_1 s1 h1 => exact hs.dropped h1
  case h_2 => exact Keeps.ite hs (Keeps.ite hs.askSect.chainStart hs.askSect.placeE).after
theorem Keeps.closeCommitted {s : State} {x : Bool} {k : Commit} {c : Int} (hs : s₀.Keeps false s) : s₀.Keeps false
    (s.closeCommitted x k c)
    :=
  .ite (.ite (hs.when (fun hu => hu.count)) (hs.when (fun hu => hu.count)).amend) (hs.when (fun hu => hu.count))
theorem Keeps.closeEntry {s : State} {x : Bool} {n : Nat} {e : Entry} {ms : List Member} {late : Bool} (hs : s₀.Keeps false s) :
    s₀.Keeps false (s.closeEntry x n e ms late) :=
  .ite (hs.setCal.when (fun hu => hu.count)).replaceE (hs.setCal.when (fun hu => hu.count)).placeE
theorem Keeps.pwmOff {s : State} {x : Bool} {n : Nat} {c ci : Int} {late : Bool} (hs : s₀.Keeps false s) : s₀.Keeps false
    (s.pwmOff x n c ci
    late) := by
  unfold State.pwmOff
  exact (hs.setChains.sprayOff.forL (fun ht => ht.closeEntry)).forL (fun ht => ht.closeCommitted)
theorem Keeps.pulseOff {s : State} {x : Bool} {n : Nat} {arr : Int} {raw : Bool} {c ci : Int} {late : Bool} (hs : s₀.Keeps false
    s) :
    s₀.Keeps false (s.pulseOff x n arr raw c ci late) := by
  unfold State.pulseOff
  dsimp only
  split
  · exact hs.closeEntry
  · split
    · exact hs.closeCommitted
    · exact hs
theorem Keeps.sectOff {s0 : State} {x : Bool} {arr : Int} {raw : Bool} {n : Nat} (hs0 : s₀.Keeps false s0) :
    s₀.Keeps false (s0.sectOff x arr raw n) := by
  unfold State.sectOff
  extract_lets s
  have hs : s₀.Keeps false s := hs0.sift
  split
  case h_1 s1 h1 => exact hs.dropped h1
  case h_2 => exact Keeps.ite hs (Keeps.ite hs.askSect.pwmOff hs.askSect.pulseOff).after
theorem Keeps.respot {s0 : State} {x : Bool} {n key : Nat} {iv : Option (Int × Int)} (hs0 : s₀.Keeps false s0) : s₀.Keeps false
    (s0.respot x
    n key iv) := by
  unfold State.respot
  dsimp only
  split
  · exact hs0.sift
  · exact hs0.sift.setCal.replaceE.after
theorem Keeps.retimeLane {s0 : State} {x : Bool} {k n : Nat} (hs0 : s₀.Keeps false s0) : s₀.Keeps false (s0.retimeLane x k n) :=
  .ite hs0.sift (hs0.sift.setCal.forL (fun ht => .ite ht.enter (.ite ht.enter (ht.when (fun hu => hu.count)).placeE))).after
theorem Keeps.flushLane {s0 : State} {n : Nat} (hs0 : s₀.Keeps false s0) : s₀.Keeps false (s0.flushLane n) := by
  unfold State.flushLane
  exact hs0.sift.setCal.forL (fun ht => .ite ht.count (.ite ht.count.enter ht.count.placeE))
theorem Keeps.unmapLane {s : State} {n : Nat} (hs : s₀.Keeps false s) : s₀.Keeps false (s.unmapLane n) :=
  hs.dropUnmapped.setCal.setSect.setChains.sprayOff
theorem Keeps.stitchClear {s : State} (hs : s₀.Keeps false s) : s₀.Keeps false s.stitchClear :=
  (hs.forN (fun ht => ht.when (fun hu => hu.sprayOff))).frame
theorem Keeps.calCapture {x0 : State} (hx0 : s₀.Keeps false x0) : s₀.Keeps false (calCapture x0).2 := hx0.sift.frame
theorem Keeps.takeInbox {s : State} (hs : s₀.Keeps false s) : s₀.Keeps false s.takeInbox := hs.frame
theorem Completes.execStitchPlace {el : Nat} {x : Bool} {s : State} : s.Completes (execStitchPlace el x s) := by
  unfold Machine.execStitchPlace
  refine .next ?_
  refine Keeps.onIsland Keeps.refl.begin (fun ht => ?_)
  split
  · exact .ite ht (ht.takeInbox.forL (fun hu => hu.placeTarget))
  · exact ht
theorem Completes.execStitchCancel {el : Nat} {x : Bool} {s : State} : s.Completes (execStitchCancel el x s) := by
  unfold Machine.execStitchCancel
  refine .next ?_
  refine Keeps.onIsland Keeps.refl.begin (fun ht => ?_)
  split
  · exact .ite (ht.takeInbox.forL (fun hu => hu.cancelLane)) ht
  · exact ht
theorem Completes.execSectionOn {el : Nat} {x : Bool} {s : State} : s.Completes (execSectionOn el x s) := by
  unfold Machine.execSectionOn
  refine .next ?_
  refine Keeps.onIsland Keeps.refl.begin (fun ht => ?_)
  split
  · exact ht.takeInbox.forL (fun hu => hu.sectOn)
  · exact ht
theorem Completes.execSectionOff {el : Nat} {x : Bool} {s : State} : s.Completes (execSectionOff el x s) := by
  unfold Machine.execSectionOff
  refine .next ?_
  refine Keeps.onIsland Keeps.refl.begin (fun ht => ?_)
  split
  · exact ht.takeInbox.forL (fun hu => hu.sectOff)
  · exact ht
theorem Completes.execDutyUpdate {el : Nat} {x : Bool} {s : State} : s.Completes (execDutyUpdate el x s) := by
  unfold Machine.execDutyUpdate
  refine .next ?_
  refine Keeps.onIsland Keeps.refl.begin (fun ht => ?_)
  split
  · exact ht.frame.pwmResume
  · exact ht
theorem Completes.execSpotRetime {el : Nat} {x : Bool} {s : State} : s.Completes (execSpotRetime el x s) := by
  unfold Machine.execSpotRetime
  refine .next ?_
  refine Keeps.onIsland Keeps.refl.begin (fun ht => ?_)
  split
  · exact ht.takeInbox.respot
  · exact ht
theorem Keeps.recomputePhys {s : State} {x : Bool} {p : Nat} (hs : s₀.Keeps false s) : s₀.Keeps false (s.recomputePhys x p) :=
    by
  unfold State.recomputePhys
  dsimp only
  split
  · exact hs.frame.recomputeLane.after
  · exact hs.frame
theorem Completes.execLatencyRecompute {el : Nat} {n : Fin 160} {x : Bool} {s : State} : s.Completes (execLatencyRecompute el n
    x s) :=
  .next (Keeps.refl.begin.onIsland (fun ht => ht.recomputePhys))
theorem Completes.execStitchCommit {el : Nat} {n : Fin 160} {hurt : List (Nat × Nat)} {x : Bool} {s : State} : s.Completes
    (execStitchCommit el n hurt x s) := by
  unfold Machine.execStitchCommit
  refine .next ?_
  refine Keeps.onIsland Keeps.refl.begin (fun ht0 => ?_)
  dsimp only
  split
  · refine .ite ?_ ?_
    · refine Keeps.after ?_
      refine Keeps.commit ?_
      refine Keeps.setCal ?_
      split
      · exact ht0.upset.sift.when (fun hu => hu.recomputePhys)
      · exact ht0.upset.sift
    · refine Keeps.pwmAfter ?_
      split
      · exact ht0.upset.sift.when (fun hu => hu.recomputePhys)
      · exact ht0.upset.sift
  · refine Keeps.pwmAfter ?_
    split
    · exact ht0.upset.sift.when (fun hu => hu.recomputePhys)
    · exact ht0.upset.sift
theorem Completes.execStitchRetimeBelt {el : Nat} {k : Fin 4} {x : Bool} {s : State} : s.Completes (execStitchRetimeBelt el k x
    s) :=
  .next (Keeps.refl.begin.onIsland (fun ht => .ite (ht.forL (fun hu => hu.retimeLane)) ht))
theorem Keeps.stitchCmd {w : Word} {s : State} (hs : s₀.Keeps false s) : s₀.Keeps false (stitchCmd w s) := by
  unfold Machine.stitchCmd
  exact (hs.when (fun ht => ht.clearRegs)).when (fun ht => ht.forL (fun hu => hu.flushLane.research))
theorem Completes.execStitchFlush {el : Nat} {p : Port} {both : Bool} {s : State} : s.Completes (execStitchFlush el p both s) :=
  .next (Keeps.refl.begin.writeCmd (fun hs => hs.stitchCmd))
theorem Completes.execStitchCntClear {el : Nat} {p : Port} {s : State} : s.Completes (execStitchCntClear el p s) :=
  .next (Keeps.refl.begin.writeCmd (fun hs => hs.stitchCmd))
theorem Completes.execStitchCalCapture {el : Nat} {p : Port} {s : State} : s.Completes (execStitchCalCapture el p s) :=
  .next (Keeps.refl.begin.readCmd (fun ha => ha.calCapture))

/-! Of `Sys2Proof/Machine/Axes.lean`. -/

theorem Keeps.setAxis {s : State} {a : Nat} {v : AxisSt} (hs : s₀.Keeps spare s) : s₀.Keeps spare (s.setAxis a v) := hs.frame
theorem Keeps.updAxis {s : State} {a : Nat} {f : AxisSt → AxisSt} (hs : s₀.Keeps spare s) : s₀.Keeps spare (s.updAxis a f) :=
    hs.setAxis
theorem Keeps.axStall {s : State} {a : Nat} {load : Bool} (hs : s₀.Keeps false s) : s₀.Keeps false (s.axStall a load) :=
  .ite hs (.ite hs.event.count.fault hs.event.count.fault.setBit.updAxis)
theorem Keeps.loadAngle {s : State} {a : Nat} {d : Int} (hs : s₀.Keeps false s) : s₀.Keeps false (s.loadAngle a d) :=
  .ite hs (.ite hs.setReg.updAxis.axStall hs.setReg.updAxis)
theorem Keeps.micro {s : State} {a : Nat} {dir d : Int} (hs : s₀.Keeps false s) : s₀.Keeps false (s.micro a dir d) :=
  .ite hs.count.event (.ite hs.setReg48.updAxis.setFld.loadAngle hs.setReg48.updAxis)
theorem Keeps.micros {s : State} {a : Nat} {n d : Int} (hs : s₀.Keeps false s) : s₀.Keeps false (s.micros a n d) :=
  hs.forN (fun hu => hu.micro)
theorem Keeps.flushSteps {s : State} {a : Nat} {d : Int} (hs : s₀.Keeps false s) : s₀.Keeps false (s.flushSteps a d) :=
    hs.updAxis.micros
theorem Keeps.coarse {s : State} {a : Nat} {n d : Int} (hs : s₀.Keeps false s) : s₀.Keeps false (s.coarse a n d) := by
  unfold State.coarse
  dsimp only
  have h1 : s₀.Keeps false (if (s.axis a).left = 0 then s else (s.flushSteps a d).count (R.AX_INTERP_JUMP a) 1) :=
    .ite hs hs.flushSteps.count
  split
  · exact .ite h1.frame.micros h1.frame
  · exact h1.frame.micros
theorem Keeps.coarses {a fuel : Nat} {d : Int} : ∀ {s : State}, s₀.Keeps false s → s₀.Keeps false (s.coarses a d fuel) := by
  induction fuel with
  | zero => exact fun hs => hs
  | succ fuel ih => exact fun hs => Keeps.ite (ih hs.coarse) (Keeps.ite (ih hs.coarse) (Keeps.ite hs.coarse hs))
theorem Keeps.axStopNow {s : State} {a : Nat} (hs : s₀.Keeps false s) : s₀.Keeps false (s.axStopNow a) := .ite
    hs.updAxis.setReg48.setReg hs
theorem Keeps.axStop {s : State} {a : Nat} (hs : s₀.Keeps spare s) : s₀.Keeps spare (s.axStop a) := hs.updAxis
theorem Keeps.generate {s : State} {a : Nat} {d : Int} (hs : s₀.Keeps false s) : s₀.Keeps false (s.generate a d) :=
  .ite hs.updAxis (.ite hs (Keeps.ite (.ite ((((hs.setAxis.when (fun hu => hu.event.count)).when (fun hu =>
    hu.event.count)).when (fun hu => hu.event.count)).when (fun hu => hu.event)) ((((hs.setAxis.when (fun hu =>
    hu.event.count)).when (fun hu => hu.event.count)).when (fun hu => hu.event.count)).when (fun hu => hu.event)).event.updAxis)
    ((((hs.setAxis.when (fun hu => hu.event.count)).when (fun hu => hu.event.count)).when (fun hu => hu.event.count)).when (fun
    hu => hu.event)).updAxis).coarses)
theorem Keeps.holdCurrent {s : State} {a : Nat} {on : Bool} (hs : s₀.Keeps false s) : s₀.Keeps false (s.holdCurrent a on) :=
  hs.setBit.updAxis
theorem Keeps.axShow {s : State} {a : Nat} (hs : s₀.Keeps false s) : s₀.Keeps false (s.axShow a) := by
  unfold State.axShow
  extract_lets q v s1 still s2 w at_ here s3 s4 onLim s5
  have hs1 : s₀.Keeps false s1 := hs.setRegI.setRegI
  have hs5 : s₀.Keeps false s5 := ((Keeps.ite hs1.setBit.event.updAxis hs1).when (fun hu =>
    hu.event)).updAxis.setBit.setBit.setBit
  exact .ite hs5.updAxis (.ite hs5.updAxis.holdCurrent hs5.updAxis)
theorem Keeps.deviation {s : State} {a : Nat} {ok : Bool} (hs : s₀.Keeps false s) : s₀.Keeps false (s.deviation a ok) := by
  unfold State.deviation
  dsimp only
  split
  · exact (hs.when (fun hu => hu.event)).setBit.updAxis
  · exact .ite (Keeps.ite hs.setBit.setReg48I.updAxis hs.setBit).updAxis (.ite (Keeps.ite hs.setBit.setReg48I.updAxis
      hs.setBit).setRegI.setRegN.updAxis (.ite (Keeps.ite hs.setBit.setReg48I.updAxis hs.setBit).setRegI.setRegN.updAxis (.ite
      (Keeps.ite hs.setBit.setReg48I.updAxis hs.setBit).setRegI.setRegN.updAxis.axStall (Keeps.ite hs.setBit.setReg48I.updAxis
      hs.setBit).setRegI.setRegN.updAxis)))
theorem Keeps.motionSearch {s : State} {a : Nat} (hs : s₀.Keeps false s) : s₀.Keeps false (s.motionSearch a) := .ite (.ite
    hs.setTh hs) hs
theorem Completes.execProfileUpdate {el : Nat} {a : Fin 8} {ok : Bool} {d : BitVec 16} {s : State} : s.Completes
    (execProfileUpdate el a ok d s) :=
  .next (Keeps.refl.begin.onIsland (fun hu => .ite hu hu.updAxis.axStopNow.setFld.generate.axShow.deviation.motionSearch))
theorem Completes.execHoldCurrentSwitch {el : Nat} {a : Fin 8} {s : State} : s.Completes (execHoldCurrentSwitch el a s) := by
  unfold Machine.execHoldCurrentSwitch
  refine .next ?_
  refine Keeps.onIsland Keeps.refl.begin (fun hu => ?_)
  split
  · exact .ite hu.holdCurrent hu
  · exact hu
theorem Completes.execStepPulse {el : Nat} {a : Fin 8} {pos : Bool} {d : BitVec 16} {s : State} : s.Completes (execStepPulse el
    a pos d s) :=
  .next (Keeps.refl.begin.onIsland (fun hu => .ite hu (.ite hu.updAxis.count.event (.ite hu.updAxis.count (.ite hu.updAxis
    hu.updAxis.coarse)))))
theorem Completes.execMicrostepEmit {el : Nat} {a : Fin 8} {d : BitVec 16} {s : State} : s.Completes (execMicrostepEmit el a d
    s) :=
  .next (Keeps.refl.begin.onIsland (fun hu => .ite hu (.ite hu.updAxis.micro hu)))
theorem Keeps.phaseChop {s : State} {a : Nat} {b : Bool} {i : Int} (hs : s₀.Keeps false s) : s₀.Keeps false (s.phaseChop a b i)
    :=
  .ite hs.setAxis hs.setAxis
theorem Completes.execPhaseChopCycle {el : Nat} {a : Fin 8} {b : Bool} {i : BitVec 16} {s : State} : s.Completes
    (execPhaseChopCycle el a b i s) :=
  .next (.ite Keeps.refl.begin.phaseChop (Keeps.refl.begin.onIsland (fun hv => hv.phaseChop)))
theorem Completes.execAxisOc {el : Nat} {a : Fin 8} {s : State} : s.Completes (execAxisOc el a s) :=
  .next (Keeps.refl.begin.onIsland (fun hu => hu.event.setBit.axStop.fault))
theorem Completes.execAxisOpen {el : Nat} {a : Fin 8} {b : Bool} {s : State} : s.Completes (execAxisOpen el a b s) :=
  .next (Keeps.refl.begin.onIsland (fun hu => .ite hu hu.event.fault))
theorem Completes.execAxisVmUv {el : Nat} {a : Fin 8} {vm : BitVec 16} {s : State} : s.Completes (execAxisVmUv el a vm s) :=
  .next (Keeps.refl.begin.onIsland (fun hu => .ite hu.setReg.event.setBit.axStop.fault hu.setReg))
theorem Completes.execVmRecover {el : Nat} {a : Fin 8} {vm : BitVec 16} {s : State} : s.Completes (execVmRecover el a vm s) :=
  .next (Keeps.refl.begin.onIsland (fun hu => hu.setReg.when (fun hw => hw.setBit)))
theorem Completes.execMotionOt {el : Nat} {t : Fin 2} {temp : BitVec 16} {s : State} : s.Completes (execMotionOt el t temp s) :=
  .next (Keeps.refl.begin.onIsland (fun hu => .ite (hu.setReg.setBit.forL (fun hw => hw.axStop)).fault hu.setReg))
theorem Keeps.motCmd {t : Nat} {w : Word} {s : State} (hs : s₀.Keeps false s) : s₀.Keeps false (motCmd t w s) := by
  unfold Machine.motCmd
  exact (hs.when (fun hu => hu.clearRegs)).when (fun hu => hu.setBit)
theorem Completes.execMotOtClear {el : Nat} {p : Port} {t : Fin 2} {temp : BitVec 16} {s : State} : s.Completes (execMotOtClear
    el p t temp s) :=
  .next (Keeps.refl.begin.setReg.writeCmd (fun hs => hs.motCmd))
theorem Completes.execMotCntClear {el : Nat} {p : Port} {t : Fin 2} {s : State} : s.Completes (execMotCntClear el p t s) :=
  .next (Keeps.refl.begin.writeCmd (fun hs => hs.motCmd))
theorem Keeps.axCmd {a : Nat} {w : Word} {s : State} (hs : s₀.Keeps false s) : s₀.Keeps false (axCmd a w s) := by
  unfold Machine.axCmd
  exact ((((hs.when (fun hu => .ite hu hu.setReg48.setReg.updAxis)).when (fun hu => .ite hu.flushSteps.setBit.event.updAxis
    (.ite hu hu.updAxis))).when (fun hu => hu.setBit.updAxis)).when (fun hu => hu.updAxis)).when (fun hu => .ite
    hu.setReg48.setReg48.updAxis hu.event)
theorem Completes.execAxStop {el : Nat} {p : Port} {a : Fin 8} {s : State} : s.Completes (execAxStop el p a s) :=
  .next (Keeps.refl.begin.writeCmd (fun hs => hs.axCmd))
theorem Completes.execAxHold {el : Nat} {p : Port} {a : Fin 8} {s : State} : s.Completes (execAxHold el p a s) :=
  .next (Keeps.refl.begin.writeCmd (fun hs => hs.axCmd))
theorem Completes.execAxRelease {el : Nat} {p : Port} {a : Fin 8} {s : State} : s.Completes (execAxRelease el p a s) :=
  .next (Keeps.refl.begin.writeCmd (fun hs => hs.axCmd))
theorem Completes.execEncSync {el : Nat} {p : Port} {a : Fin 8} {s : State} : s.Completes (execEncSync el p a s) :=
  .next (Keeps.refl.begin.writeCmd (fun hs => hs.axCmd))
theorem Completes.execSetActual {el : Nat} {p : Port} {a : Fin 8} {s : State} : s.Completes (execSetActual el p a s) :=
  .next (Keeps.refl.begin.writeCmd (fun hs => hs.axCmd))
theorem Keeps.axLineOn {s : State} {a : Nat} (hs : s₀.Keeps spare s) : s₀.Keeps spare (s.axLineOn a) :=
    ((hs.setBit_ne (by lia)).event_ne (by lia)).axStop.updAxis
theorem Keeps.axLineOff {s : State} {a : Nat} (hs : s₀.Keeps false s) : s₀.Keeps false (s.axLineOff a) := hs.setBit.updAxis
theorem Keeps.axNewTarget {s : State} {a : Nat} (hs : s₀.Keeps false s) : s₀.Keeps false (s.axNewTarget a) := .ite hs hs.updAxis
theorem Keeps.axCfgApplied {s : State} {a : Nat} (hs : s₀.Keeps false s) : s₀.Keeps false (s.axCfgApplied a) :=
  (hs.when (fun ht => ht.setReg)).setFld
theorem Keeps.axWritten {s old : State} {a off : Nat} {w : Word} (hs : s₀.Keeps false s) : s₀.Keeps false (s.axWritten old a off
    w) :=
  .ite (.ite hs.setFld.event.axCfgApplied hs.axCfgApplied) (.ite ((Keeps.ite (.ite hs.setBit hs.event) hs).when (fun hu =>
    hu.setBit.updAxis)) (.ite hs.axNewTarget (.ite hs.axCfgApplied (.ite (.ite hs.setReg.setReg.event hs) hs))))
theorem Keeps.motionApplied {s : State} {t : Nat} (hs : s₀.Keeps false s) : s₀.Keeps false (s.motionApplied t) :=
  hs.forL (fun hu => hu.setReg48.setReg)

/-! Of `Sys2Proof/Machine/Lane.lean`. -/

theorem Keeps.updLane {s : State} {n : Nat} {f : LaneSt → LaneSt} (hs : s₀.Keeps spare s) : s₀.Keeps spare (s.updLane n f) :=
    hs.setLane
theorem Keeps.updFiring {s : State} {n : Nat} {f : Firing → Firing} (hs : s₀.Keeps spare s) : s₀.Keeps spare (s.updFiring n f)
    := hs.updLane
theorem Keeps.r20Written {s : State} {n : Nat} (hs : s₀.Keeps spare s) : s₀.Keeps spare (s.r20Written n) := .ite hs hs.updLane
theorem Keeps.thActShow {s : State} {n : Nat} (hs : s₀.Keeps spare s) : s₀.Keeps spare (s.thActShow n) :=
  ((hs.setBit_ne (by lia)).setBit_ne (by lia))
theorem Keeps.takeBank {s : State} {n : Nat} (hs : s₀.Keeps spare s) : s₀.Keeps spare (s.takeBank n) := by
  unfold State.takeBank
  split
  · exact hs
  · exact hs.updLane.thActShow.when (fun ht => ht.r20Written)
theorem Keeps.bankDue {s : State} {n : Nat} (hs : s₀.Keeps false s) : s₀.Keeps false (s.bankDue n) := by
  unfold State.bankDue
  split
  · exact .ite hs.takeBank hs
  · exact hs
theorem Keeps.actStop {s : State} {n : Nat} (hs : s₀.Keeps spare s) : s₀.Keeps spare (s.actStop n) := hs.updLane
theorem Keeps.spoil {s : State} {n : Nat} {f : Firing → Firing} (hs : s₀.Keeps spare s) : s₀.Keeps spare (s.spoil n f) :=
  hs.actStop.updFiring
theorem Keeps.markShared {s : State} {n : Nat} (hs : s₀.Keeps spare s) : s₀.Keeps spare (s.markShared n) := by
  unfold State.markShared
  split
  · exact .ite hs (((hs.spoil.setBit_ne (by lia)).count_ne (by lia)).count_ne (by lia))
  · exact hs
theorem Keeps.share {s : State} {t : Nat} (hs : s₀.Keeps spare s) : s₀.Keeps spare (s.share t) := by
  unfold State.share
  exact (hs.setFld_ne (by lia)).forL (fun hu => (hu.when (fun hw => hw.markShared)).updLane)
theorem Keeps.chopTo {s : State} {n : Nat} {t : Int} (hs : s₀.Keeps spare s) : s₀.Keeps spare (s.chopTo n t) := by
  unfold State.chopTo
  split
  · exact hs
  · exact .ite hs hs.updLane
theorem Keeps.chopNow {s : State} {n : Nat} (hs : s₀.Keeps false s) : s₀.Keeps false (s.chopNow n) := hs.chopTo
theorem Keeps.enterAt {s : State} {n p : Nat} {w : Sw} {t : Int} (hs : s₀.Keeps spare s) : s₀.Keeps spare (s.enterAt n p w t) :=
    by
  unfold State.enterAt
  exact (hs.chopTo.setFld_ne (by lia)).updLane.updFiring.when (fun hu => hu.share)
theorem Keeps.enterPhase {s : State} {n p : Nat} {w : Sw} (hs : s₀.Keeps spare s) : s₀.Keeps spare (s.enterPhase n p w) :=
    hs.enterAt
theorem Keeps.ghOn {s : State} {t : Nat} (hs : s₀.Keeps spare s) : s₀.Keeps spare (s.ghOn t) :=
  (hs.setBit_ne (by lia)).idleAbort
theorem Keeps.ghOff {s : State} {t : Nat} (hs : s₀.Keeps false s) : s₀.Keeps false (s.ghOff t) := .ite hs.setBit.setTile hs
theorem Keeps.cutLane {s : State} {n : Nat} (hs : s₀.Keeps false s) : s₀.Keeps false (s.cutLane n) := by
  unfold State.cutLane
  refine .ite hs.enterPhase ?_
  split
  · exact hs
  · exact hs.spoil.enterPhase
theorem Keeps.cutTile {s : State} {t : Nat} (hs : s₀.Keeps false s) : s₀.Keeps false (s.cutTile t) := (hs.forL (fun hu =>
    hu.cutLane)).ghOff
theorem Keeps.tripGroup {s : State} {t : Nat} {byShort : Bool} (hs : s₀.Keeps false s) : s₀.Keeps false (s.tripGroup t byShort)
    :=
  hs.cutTile.setBit.event.count.fault
theorem Keeps.safeHoldOn {s : State} {n : Nat} (hs : s₀.Keeps spare s) : s₀.Keeps spare (s.safeHoldOn n) :=
  .ite hs.enterPhase hs.updLane.enterPhase.ghOn
theorem Keeps.resumeHold {s : State} {t : Nat} (hs : s₀.Keeps false s) : s₀.Keeps false (s.resumeHold t) :=
  .ite hs (hs.forL (fun hu => .ite hu.safeHoldOn hu))
theorem Keeps.endFiring {s : State} {n : Nat} {e : Int} (hs : s₀.Keeps spare s) : s₀.Keeps spare (s.endFiring n e) := by
  unfold State.endFiring
  split
  · exact hs
  · exact ((hs.updLane.setBit_ne (by lia)).setBit_ne (by lia)).setTile.when (fun hu => hu.takeBank)
theorem Keeps.busyTo {s : State} {n : Nat} {e : Int} (hs : s₀.Keeps spare s) : s₀.Keeps spare (s.busyTo n e) :=
    hs.updLane.setTile
theorem Keeps.laneLineOn {s : State} {n st : Nat} (hs : s₀.Keeps spare s) : s₀.Keeps spare (s.laneLineOn n st) := by
  unfold State.laneLineOn
  extract_lets now s1 fired rel s2 s3
  have hs3 : s₀.Keeps spare s3 := (hs.spoil.frame.endFiring.setBit_ne (by lia)).idleAbort.burnAbandon
  exact .ite (.ite hs3.enterPhase hs3.safeHoldOn) (hs3.enterPhase.when (fun hu => hu.busyTo))
theorem Keeps.laneLineOff {s : State} {n st : Nat} (hs : s₀.Keeps false s) : s₀.Keeps false (s.laneLineOff n st) :=
  .ite hs.setBit.enterPhase.busyTo hs.setBit
theorem Keeps.trace {s : State} {n : Nat} {o : Int} {entries : List Word} (hs : s₀.Keeps false s) : s₀.Keeps false (s.trace n o
    entries) :=
  .ite hs.frame hs
theorem Keeps.fire {s0 : State} {n : Nat} {q : TilePulse} {entries : List Word} (hs0 : s₀.Keeps false s0) : s₀.Keeps false
    (s0.fire n q
    entries) := by
  unfold State.fire
  refine Keeps.trace ?_
  refine Keeps.when ?_ (fun hu => hu.count)
  refine Keeps.enterAt ?_
  refine Keeps.setBit ?_
  refine Keeps.ghOn ?_
  refine Keeps.updLane ?_
  refine Keeps.count ?_
  split
  · exact .ite hs0.takeBank hs0.bankDue
  · exact hs0
theorem Keeps.notFired {s : State} {n : Nat} {q : TilePulse} {a flag : Nat} (hs : s₀.Keeps false s) : s₀.Keeps false (s.notFired
    n q a flag)
    :=
  hs.count.event.setTile
theorem Keeps.peakToHold {s : State} {n i : Nat} {t : Int} (hs : s₀.Keeps false s) : s₀.Keeps false (s.peakToHold n i t) := by
  unfold State.peakToHold
  split
  · exact hs
  · exact hs.enterAt.updLane
theorem Keeps.onTile {s : State} {t : Nat} {f : State → State} (hs : s₀.Keeps false s) (hf : ∀ {y0}, s₀.Keeps false y0 →
    s₀.Keeps false (f y0)) :
    s₀.Keeps false (s.onTile t f) :=
  hs.onIsland hf
theorem Completes.execGhTurnOn {el : Nat} {t : Fin 20} {s : State} : s.Completes (execGhTurnOn el t s) :=
  .next (Keeps.refl.begin.onTile (fun hu => .ite hu.ghOn hu))
theorem Completes.execOpenInstant {el : Nat} {n : Fin 160} {entries : List Word} {s : State} : s.Completes (execOpenInstant el n
    entries s) := by
  unfold Machine.execOpenInstant
  refine .next ?_
  refine Keeps.onTile Keeps.refl.begin (fun hu => ?_)
  split
  · exact hu
  · exact .ite hu (.ite hu.updLane.setBit.notFired (.ite hu.updLane.setBit.notFired hu.updLane.setBit.fire))
theorem Completes.execPeakReached {el : Nat} {n : Fin 160} {i : Nat} {s : State} : s.Completes (execPeakReached el n i s) := by
  unfold Machine.execPeakReached
  refine .next ?_
  refine Keeps.onTile Keeps.refl.begin (fun hu => ?_)
  split
  · exact hu
  · exact .ite hu.updFiring.setFldN.updLane hu
theorem Completes.execPeakEnd {el : Nat} {n : Fin 160} {i : Nat} {s : State} : s.Completes (execPeakEnd el n i s) := by
  unfold Machine.execPeakEnd
  refine .next ?_
  refine Keeps.onTile Keeps.refl.begin (fun hu => ?_)
  split
  · exact hu
  · split
    · exact .ite hu.peakToHold hu
    · exact hu
theorem Completes.execBoostTimeout {el : Nat} {n : Fin 160} {i : Nat} {s : State} : s.Completes (execBoostTimeout el n i s) :=
    by
  unfold Machine.execBoostTimeout
  refine .next ?_
  refine Keeps.onTile Keeps.refl.begin (fun hu => ?_)
  split
  · exact hu
  · exact .ite hu.updFiring.event.count.setFld.peakToHold hu
theorem Completes.execHoldReached {el : Nat} {n : Fin 160} {i : Nat} {s : State} : s.Completes (execHoldReached el n i s) := by
  unfold Machine.execHoldReached
  refine .next ?_
  refine Keeps.onTile Keeps.refl.begin (fun hu => ?_)
  split
  · exact hu
  · exact .ite hu.updLane hu
theorem Keeps.chop {s : State} {n i : Nat} (hs : s₀.Keeps false s) : s₀.Keeps false (s.chop n i) := .ite hs.chopNow.updLane
    hs.chopNow
theorem Completes.execChopCycle {el : Nat} {n : Fin 160} {i : Nat} {s : State} : s.Completes (execChopCycle el n i s) :=
  .next (.ite Keeps.refl.begin.chop (Keeps.refl.begin.onTile (fun hv => hv.chop)))
theorem Completes.execCloseInstant {el : Nat} {n : Fin 160} {i : Nat} {s : State} : s.Completes (execCloseInstant el n i s) :=
    by
  unfold Machine.execCloseInstant
  refine .next ?_
  refine Keeps.onTile Keeps.refl.begin (fun hu => ?_)
  split
  · exact hu
  · split
    · exact .ite hu.updFiring.enterAt hu
    · exact hu
theorem Completes.execSplitReached {el : Nat} {n : Fin 160} {i : Nat} {s : State} : s.Completes (execSplitReached el n i s) :=
    by
  unfold Machine.execSplitReached
  refine .next ?_
  refine Keeps.onTile Keeps.refl.begin (fun hu => ?_)
  split
  · exact hu
  · exact .ite hu.updLane hu
theorem Completes.execFiringEnd {el : Nat} {n : Fin 160} {i : Nat} {s : State} : s.Completes (execFiringEnd el n i s) := by
  unfold Machine.execFiringEnd
  refine .next ?_
  refine Keeps.onTile Keeps.refl.begin (fun hu => ?_)
  split
  · exact hu
  · exact .ite (hu.when (fun hw => hw.event.count)).enterPhase.endFiring hu
theorem Completes.execClampIntervalEnd {el : Nat} {n : Fin 160} {e : Nat} {s : State} : s.Completes (execClampIntervalEnd el n e
    s) :=
  .next (Keeps.refl.begin.onTile (fun hu => hu.setFldN.recAdd.when (fun hx => hx.noteSat.event.fault)))
theorem Completes.execClampPowerWindow {el : Nat} {n : Fin 160} {p : Nat} {s : State} : s.Completes (execClampPowerWindow el n p
    s) :=
  .next (Keeps.refl.begin.onTile (fun hu => hu.setFldN.when (fun hx => hx.noteSat.event.fault)))
theorem Completes.execGhTurnOff {el : Nat} {t : Fin 20} {s : State} : s.Completes (execGhTurnOff el t s) :=
  .next (Keeps.refl.begin.onTile (fun hu => .ite hu.ghOff hu))
theorem Completes.execGroupTrip {el : Nat} {t : Fin 20} {s : State} : s.Completes (execGroupTrip el t s) :=
  .next (Keeps.refl.begin.onTile (fun hu => hu.tripGroup))
theorem Keeps.tileCmd {t : Nat} {w : Word} {s : State} (hs : s₀.Keeps false s) : s₀.Keeps false (tileCmd t w s) := by
  unfold Machine.tileCmd
  exact ((hs.when (fun hu => hu.clearRegs)).when (fun hu => hu.setBit.resumeHold)).when (fun hu => hu.setBit.resumeHold)
theorem Completes.execGrpClear {el : Nat} {p : Port} {t : Fin 20} {i : BitVec 16} {s : State} : s.Completes (execGrpClear el p t
    i s) :=
  .next (Keeps.refl.begin.setFld.writeCmd (fun hs => hs.tileCmd))
theorem Completes.execGroupOverload {el : Nat} {t : Fin 20} {rms : BitVec 16} {s : State} : s.Completes (execGroupOverload el t
    rms s) :=
  .next (Keeps.refl.begin.onTile (fun hu => (hu.setFld.when (fun hx => hx.event.count)).setTile))
theorem Completes.execGhStuck {el : Nat} {t : Fin 20} {s : State} : s.Completes (execGhStuck el t s) :=
  .next (Keeps.refl.begin.onTile (fun hu => .ite hu.setTile.event.count.fault hu))
theorem Keeps.updAt {s : State} {n : Nat} {o : Int} {g : Firing → Firing} (hs : s₀.Keeps false s) : s₀.Keeps false (s.updAt n o
    g) :=
  hs.updLane
theorem Keeps.openFound {s : State} {n : Nat} {o : Int} (hs : s₀.Keeps false s) : s₀.Keeps false (s.openFound n o) :=
  (hs.when (fun hu => hu.actStop)).updAt.event.count.fault
theorem Completes.execLaneOpenCheck {el : Nat} {n : Fin 160} {i : Nat} {s : State} : s.Completes (execLaneOpenCheck el n i s) :=
    by
  unfold Machine.execLaneOpenCheck
  refine .next ?_
  refine Keeps.onTile Keeps.refl.begin (fun hu => ?_)
  split
  · exact hu
  · exact .ite hu.updAt.updLane.openFound hu.updAt.updLane
theorem Completes.execLaneOpenHold {el : Nat} {n : Fin 160} {low : Bool} {s : State} : s.Completes (execLaneOpenHold el n low s)
    := by
  unfold Machine.execLaneOpenHold
  refine .next ?_
  refine Keeps.onTile Keeps.refl.begin (fun hu => ?_)
  split
  · exact hu
  · exact .ite hu (.ite (.ite hu.openFound hu) hu.updFiring)
theorem Completes.execLaneShort {el : Nat} {n : Fin 160} {s : State} : s.Completes (execLaneShort el n s) :=
  .next (Keeps.refl.begin.onTile (fun hu => .ite (hu.event.count.fault.when (fun hw => hw.tripGroup)) hu))
theorem Completes.execLaneOc {el : Nat} {n : Fin 160} {i : Nat} {s : State} : s.Completes (execLaneOc el n i s) :=
  .next (Keeps.refl.begin.onTile (fun hu => .ite (hu.event.count.fault.chopNow.spoil.updLane.when (fun hx => hx.setBit)) hu))
theorem Keeps.resistance {s : State} {l : List RelSample} (hs : s₀.Keeps false s) : s₀.Keeps false (s.resistance l).2 := by
  unfold State.resistance
  dsimp only
  split
  · exact hs.frame
  · exact hs
theorem Completes.execRmeasWindowClose {el : Nat} {n : Fin 160} {k : Nat} {x : Samples} {s : State} : s.Completes
    (execRmeasWindowClose el n k x s) := by
  unfold Machine.execRmeasWindowClose
  refine .next ?_
  refine Keeps.onTile Keeps.refl.begin (fun hu0 => ?_)
  dsimp only
  split
  · exact hu0.chopNow
  · split
    · exact hu0.chopNow.updLane
    · exact .ite hu0.chopNow.updLane (.ite hu0.chopNow.updLane.resistance.setFldN.setFldI.updLane
        hu0.chopNow.updLane.resistance.event)
theorem Completes.execIdleTestStart {el : Nat} {t : Fin 20} {s : State} : s.Completes (execIdleTestStart el t s) :=
  .next (Keeps.refl.begin.onTile (fun hu => .ite hu.burnAbandonTile.setTile hu))
theorem Completes.execIdleTestResult {el : Nat} {t : Fin 20} {high : List (Fin 8)} {s : State} : s.Completes (execIdleTestResult
    el t high s) := by
  unfold Machine.execIdleTestResult
  refine .next ?_
  refine Keeps.onTile Keeps.refl.begin (fun hu => ?_)
  split
  · exact hu
  · exact .ite (hu.idleAbort.setTile.forL (fun hv => .ite hv.event.count.fault hv)) hu
theorem Keeps.inhibitTile {s : State} {t : Nat} {cur : List (Fin 160 × Nat)} (hs : s₀.Keeps false s) : s₀.Keeps false
    (s.inhibitTile t cur)
    := by
  unfold State.inhibitTile
  exact hs.event.forL (fun hu => hu.spoil.setBit.count.peakToHold)
theorem Completes.execPeakInhibit {e : Seen (List (Fin 160 × Nat))} {s : State} : s.Completes (execPeakInhibit e s) :=
  .next (.ite Keeps.refl.begin (Keeps.refl.frame.forL (fun hu => hu.onTile (fun hv => hv.inhibitTile))))
theorem Completes.execPeakInhibitEnd {el : Nat} {s : State} : s.Completes (execPeakInhibitEnd el s) := .next Keeps.refl.frame
theorem Completes.execTileOt {el : Nat} {t : Fin 20} {temp : BitVec 16} {s : State} : s.Completes (execTileOt el t temp s) :=
  .next (Keeps.refl.begin.onTile (fun hu => .ite hu.setFld.cutTile.setBit.event.fault hu.setFld))
theorem Completes.execTileOtClear {el : Nat} {p : Port} {t : Fin 20} {temp : BitVec 16} {s : State} : s.Completes
    (execTileOtClear el p t temp s) :=
  .next (Keeps.refl.begin.setFld.writeCmd (fun hs => hs.tileCmd))
theorem Completes.execTileTempWarn {el : Nat} {t : Fin 20} {temp : BitVec 16} {s : State} : s.Completes (execTileTempWarn el t
    temp s) :=
  .next (Keeps.refl.begin.onTile (fun hu => hu.setFld.when (fun hw => hw.event)))
theorem Completes.execTileCntClear {el : Nat} {p : Port} {t : Fin 20} {s : State} : s.Completes (execTileCntClear el p t s) :=
  .next (Keeps.refl.begin.writeCmd (fun hs => hs.tileCmd))

/-! Of `Sys2Proof/Machine/TrimOps.lean`. -/

theorem Keeps.trimShow {s : State} (hs : s₀.Keeps false s) : s₀.Keeps false s.trimShow := by
  unfold State.trimShow
  exact hs.when (fun ht => ht.setFld.event)

/-! Of `Sys2Proof/Machine/Time.lean`. -/

theorem Keeps.shiftFuture {s : State} {d : Int} (hs : s₀.Keeps false s) : s₀.Keeps false (s.shiftFuture d) :=
  .ite hs.frame.setReg64.setTh hs.frame
theorem Keeps.dtStepBy {s : State} {d : Int} (hs : s₀.Keeps false s) : s₀.Keeps false (s.dtStepBy d) :=
  hs.noteSat.shiftFuture.frame.setReg.setReg.count.event.setBit.frame.fault.recTrigger
theorem Keeps.dtDue {s : State} (hs : s₀.Keeps false s) : s₀.Keeps false s.dtDue := by
  unfold State.dtDue
  extract_lets s1
  have hs1 : s₀.Keeps false s1 := by
    unfold s1
    split
    · exact .ite hs.setFld.event.frame hs
    · exact hs
  split
  · exact .ite hs1.dtStepBy hs1
  · exact hs1
theorem Keeps.setEst {s : State} {v : Nat} (hs : s₀.Keeps false s) : s₀.Keeps false (s.setEst v) := by
  unfold State.setEst
  exact hs.setRegN.when (fun ht => ht.event)
theorem Keeps.dtNote {s : State} {e : Int} (hs : s₀.Keeps false s) : s₀.Keeps false (s.dtNote e) :=
    hs.frame.setRegI.setBit.setEst.recAdd
theorem Keeps.dtLoop {s : State} {e : Int} (hs : s₀.Keeps false s) : s₀.Keeps false (s.dtLoop e) := .ite hs hs.setReg.frame
theorem Keeps.dtPlanStep {s : State} {e : Int} (hs : s₀.Keeps false s) : s₀.Keeps false (s.dtPlanStep e) := hs.frame
theorem Keeps.dtReturn {s : State} {e : Int} (hs : s₀.Keeps false s) : s₀.Keeps false (s.dtReturn e) :=
  .ite hs.frame.dtPlanStep hs.frame.dtLoop
theorem Keeps.dtLock {s : State} {k : Nat} {e : Int} (hs : s₀.Keeps false s) : s₀.Keeps false (s.dtLock k e) :=
  .ite hs.setFld.setFld.event.frame.dtNote.dtReturn hs.setFld.setFld.event.frame.dtNote.dtPlanStep
theorem Keeps.dtChange {s : State} (hs : s₀.Keeps false s) : s₀.Keeps false s.dtChange := by
  unfold State.dtChange
  split
  · exact .ite hs.frame hs
  · exact hs
theorem Keeps.dtMeasure {s : State} {k : Nat} {e : Int} (hs : s₀.Keeps false s) : s₀.Keeps false (s.dtMeasure k e) :=
  .ite hs.dtDue (.ite (.ite hs.dtDue.dtLock hs.dtDue) (.ite (.ite hs.dtDue.dtChange.dtNote.dtReturn
    hs.dtDue.dtChange.dtNote.dtLoop) hs.dtDue.dtChange))
theorem Keeps.dtGood {s : State} {k run : Nat} (hs : s₀.Keeps false s) : s₀.Keeps false (s.dtGood k run) :=
  (Keeps.ite hs.frame.setBit.dtChange hs.frame).trimShow
theorem Keeps.dtBad {s : State} {k : Nat} (hs : s₀.Keeps false s) : s₀.Keeps false (s.dtBad k) := hs.frame
theorem Keeps.dtGoodMeasure {s : State} {k run : Nat} {e : Int} (hs : s₀.Keeps false s) : s₀.Keeps false (s.dtGoodMeasure k run
    e) :=
  .ite hs.dtGood.dtMeasure hs.dtGood
theorem Keeps.dtSolution {s : State} {fix3 : Bool} {phase : Int} (hs : s₀.Keeps false s) : s₀.Keeps false (s.dtSolution fix3
    phase) :=
  hs.onIsland (fun ht => .ite ht.dtGoodMeasure ht.dtBad)
theorem Keeps.dtReference {s : State} {ok : Bool} (hs : s₀.Keeps false s) : s₀.Keeps false (s.dtReference ok) :=
  hs.onIsland (fun ht => .ite ht.dtGood ht.dtBad.trimShow)
theorem Completes.execDtMeasurement {el : Nat} {k : Fin 3} {e : Int} {s : State} : s.Completes (execDtMeasurement el k e s) :=
  .next (Keeps.refl.begin.onIsland (fun ht => ht.dtMeasure))
theorem Completes.execPpsEdge {el : Nat} {rising : Bool} {frac : BitVec 8} {s : State} : s.Completes (execPpsEdge el rising frac
    s) :=
  .next (Keeps.refl.begin.onIsland (fun ht => .ite ht (ht.dtDue.dtGood.frame.when (fun hw => hw.dtMeasure))))
theorem Keeps.dtHold {s : State} (hs : s₀.Keeps false s) : s₀.Keeps false s.dtHold :=
  hs.setFld.setFld.setBit.event.setRegI.setReg.setReg.frame.setEst.recTrigger
theorem Completes.execDtSourceLoss {el : Nat} {k : Fin 3} {s : State} : s.Completes (execDtSourceLoss el k s) := by
  unfold Machine.execDtSourceLoss
  refine .next ?_
  refine Keeps.onIsland Keeps.refl.begin (fun ht0 => ?_)
  refine .ite ht0.dtDue ?_
  refine .ite (ht0.dtDue.setBit.count.dtBad.when (fun hx => hx.frame)).trimShow ?_
  refine .ite (ht0.dtDue.setBit.count.dtBad.when (fun hx => hx.frame)).trimShow.frame ?_
  split
  · exact (ht0.dtDue.setBit.count.dtBad.when (fun hx => hx.frame)).trimShow.frame
  · exact (ht0.dtDue.setBit.count.dtBad.when (fun hx => hx.frame)).trimShow.dtHold
theorem Completes.execHoldoverSecond {el : Nat} {s : State} : s.Completes (execHoldoverSecond el s) :=
  .next (Keeps.refl.begin.onIsland (fun ht => .ite ht.setReg.setReg.setEst ht))
theorem Completes.execTimePulse {el : Nat} {i : Fin 2} {s : State} : s.Completes (execTimePulse el i s) :=
  .next (Keeps.refl.begin.onIsland (fun ht0 => .ite ht0.dtDue.setReg64.setReg.frame ht0.dtDue))
theorem Keeps.dtCmd {w : Word} {s : State} (hs : s₀.Keeps false s) : s₀.Keeps false (dtCmd w s) := by
  unfold Machine.dtCmd
  exact (hs.when (fun ht => ht.setReg.frame.when (fun hv => hv.setReg))).when (fun ht => ht.clearRegs.setFld.setFld)
theorem Completes.execDtModelClear {el : Nat} {p : Port} {s : State} : s.Completes (execDtModelClear el p s) :=
  .next (Keeps.refl.begin.writeCmd (fun hs => hs.dtCmd))
theorem Completes.execDtCntClear {el : Nat} {p : Port} {s : State} : s.Completes (execDtCntClear el p s) :=
  .next (Keeps.refl.begin.writeCmd (fun hs => hs.dtCmd))

/-! Of `Sys2Proof/Machine/Can.lean`. -/

theorem Keeps.onCan {s : State} {c : Nat} {f : State → State} (hs : s₀.Keeps false s) (hf : ∀ {y0}, s₀.Keeps false y0 → s₀.Keeps
    false (f y0)) :
    s₀.Keeps false (s.onCan c f) :=
  hs.onIsland (fun ht => ht.when hf)
theorem Keeps.canJoin {s : State} {c : Nat} (hs : s₀.Keeps false s) : s₀.Keeps false (s.canJoin c) := hs.frame
theorem Keeps.canEnd {s : State} {c : Nat} (hs : s₀.Keeps false s) : s₀.Keeps false (s.canEnd c) := hs.frame
theorem Keeps.canCfgWritten {s old : State} {c a : Nat} (hs : s₀.Keeps false s) : s₀.Keeps false (s.canCfgWritten old c a) :=
  .ite hs.notePick hs.setReg.event
theorem Keeps.canCtrlWritten {s old : State} {c : Nat} {busy : Bool} (hs : s₀.Keeps false s) : s₀.Keeps false (s.canCtrlWritten
    old c busy)
    :=
  .ite (Keeps.ite hs.setFld.event hs).frame (.ite (Keeps.ite hs.setFld.event hs).canJoin (.ite hs.setFld.event hs))
theorem Completes.execCanInitSet {e : Seen Bool} {p : Port} {c : Fin 4} {s : State} : s.Completes (execCanInitSet e p c s) :=
  .next (Keeps.refl.begin.writeCmd (fun hu => hu.canCtrlWritten))
theorem Completes.execCanInitClear {el : Nat} {p : Port} {c : Fin 4} {s : State} : s.Completes (execCanInitClear el p c s) :=
  .next (Keeps.refl.begin.writeCmd (fun hu => hu.canCtrlWritten))
theorem Keeps.abortObj {s : State} {c m : Nat} (hs : s₀.Keeps false s) : s₀.Keeps false (s.abortObj c m) :=
  hs.setBit.event.count.event.canReportDrain
theorem Keeps.dropRef {s : State} {c : Nat} (hs : s₀.Keeps false s) : s₀.Keeps false (s.dropRef c) := .ite hs.frame hs
theorem Keeps.recover {s : State} {c : Nat} (hs : s₀.Keeps false s) : s₀.Keeps false (s.recover c) := hs.setBit.setFld.frame
theorem Keeps.busOff {s : State} {c : Nat} (hs : s₀.Keeps false s) : s₀.Keeps false (s.busOff c) :=
  .ite (hs.event.count.fault.dropRef.forL (fun ht => ht.abortObj)) hs.event.count.fault.dropRef.recover
theorem Keeps.setErr {s : State} {c tec rec_ : Nat} (hs : s₀.Keeps false s) : s₀.Keeps false (s.setErr c tec rec_) := by
  unfold State.setErr
  exact ((hs.setReg.setFld.when (fun hu => hu.event)).setBit.when (fun hu => hu.event.fault)).when (fun hu => hu.busOff)
theorem Keeps.noKeyEvent {s : State} {c : Nat} (hs : s₀.Keeps false s) : s₀.Keeps false (s.noKeyEvent c) := hs.when (fun ht =>
    ht.event)
theorem Keeps.txFailed {s : State} {c sof : Nat} (hs : s₀.Keeps false s) : s₀.Keeps false (s.txFailed c sof) := by
  unfold State.txFailed
  dsimp only
  split
  · exact .ite hs.abortObj.frame (.ite hs.abortObj hs)
  · exact .ite hs.dropRef.count.event hs
  · exact hs
theorem Keeps.canErr {s : State} {c lec dTec dRec : Nat} (hs : s₀.Keeps false s) : s₀.Keeps false (s.canErr c lec dTec dRec) :=
  (hs.when (fun ht => ht.send)).count.setFld.setErr
theorem Keeps.formError {s : State} {c : Nat} (hs : s₀.Keeps false s) : s₀.Keeps false (s.formError c) := hs.canErr
theorem Keeps.storeFrame {s : State} {c m : Nat} {f : CanFrame} {full : Bool} (hs : s₀.Keeps false s) : s₀.Keeps false
    (s.storeFrame c m f
    full) :=
  ((hs.setReg.event.when (fun ht => ht.event)).setReg.setReg.setObjBytes.frame.when (fun ht => ht.count.event)).count.event
theorem Keeps.fifoStore {s : State} {c k : Nat} {f : CanFrame} (hs : s₀.Keeps false s) : s₀.Keeps false (s.fifoStore c k f) :=
  .ite (.ite hs.storeFrame.setFld.frame hs.count.event) (hs.storeFrame.setFld.frame.when (fun hu => hu.setFld))
theorem Keeps.takeFrame {s : State} {c m : Nat} {f : CanFrame} (hs : s₀.Keeps false s) : s₀.Keeps false (s.takeFrame c m f) :=
  .ite hs.storeFrame hs.fifoStore
theorem Keeps.authFail {s : State} {c m : Nat} (hs : s₀.Keeps false s) : s₀.Keeps false (s.authFail c m) :=
    hs.event.event.count.fault
theorem Keeps.authTake {s : State} {c m : Nat} {f : CanFrame} (hs : s₀.Keeps false s) : s₀.Keeps false (s.authTake c m f) := by
  unfold State.authTake
  split
  · exact hs.event.when (fun ht => ht.authFail)
  · exact .ite hs.authFail (.ite hs.setReg.takeFrame hs.authFail)
theorem Keeps.offer {s : State} {c : Nat} {f : CanFrame} (hs : s₀.Keeps false s) : s₀.Keeps false (s.offer c f) := by
  unfold State.offer
  split
  · exact hs.count
  · exact .ite hs.authTake hs.takeFrame
theorem Keeps.refRx {s : State} {c : Nat} {f : CanFrame} (hs : s₀.Keeps false s) : s₀.Keeps false (s.refRx c f) :=
  .ite (Keeps.ite hs.setReg.setReg64.frame hs.setReg.setReg64.frame).dtReference (Keeps.ite hs.setReg.count.event.frame
    hs.setReg.count.event).dtReference
theorem Keeps.refCheck {s : State} {c : Nat} {f : CanFrame} (hs : s₀.Keeps false s) : s₀.Keeps false (s.refCheck c f) :=
  .ite hs (.ite hs.count.event (.ite hs.refRx hs))
theorem Keeps.recOk {s : State} {c : Nat} (hs : s₀.Keeps false s) : s₀.Keeps false (s.recOk c) := .ite hs.frame.setErr hs.setErr
theorem Completes.execCanFrameRx {el : Nat} {c : Fin 4} {f : CanFrame} {s : State} : s.Completes (execCanFrameRx el c f s) :=
  .next (Keeps.refl.begin.onCan (fun ht => .ite ht (Keeps.ite (ht.when (fun hv => hv.txFailed)).noKeyEvent.formError ((ht.when
    (fun hv => hv.txFailed)).noKeyEvent.when (fun hx => hx.send)).recOk.refCheck.offer).canEnd))
theorem Keeps.refSent {s : State} {c sof : Nat} (hs : s₀.Keeps false s) : s₀.Keeps false (s.refSent c sof) := by
  unfold State.refSent
  exact hs.send.setReg64.setFld.count.event.frame.when (fun ht => ht.offer)
theorem Keeps.objSent {s : State} {c m sof : Nat} {f : CanFrame} (hs : s₀.Keeps false s) : s₀.Keeps false (s.objSent c m sof f)
    :=
  (hs.send.setBit.event.setReg.count.event.frame.when (fun ht => ht.offer)).canReportDrain
theorem Keeps.loopDelay {s : State} {c : Nat} {f : CanFrame} {d : Option (BitVec 7)} (hs : s₀.Keeps false s) : s₀.Keeps false
    (s.loopDelay c
    f d) := by
  unfold State.loopDelay
  split
  · exact hs.when (fun ht => ht.setFld)
  · exact hs
theorem Completes.execCanFrameTxDone {el : Nat} {c : Fin 4} {sof : Nat} {delay : BitVec 7} {s : State} : s.Completes
    (execCanFrameTxDone el c sof delay s) := by
  unfold Machine.execCanFrameTxDone
  refine .next ?_
  refine Keeps.onCan Keeps.refl.begin (fun ht0 => ?_)
  refine .ite ht0 ?_
  split
  · exact ht0.noKeyEvent
  · exact ht0.noKeyEvent.setErr.refSent.canEnd
  · exact ht0.noKeyEvent.setErr.loopDelay.objSent.canEnd
theorem Keeps.withdraw {s : State} {c m : Nat} {onBus : Bool} (hs : s₀.Keeps false s) : s₀.Keeps false (s.withdraw c m onBus) :=
  .ite hs.setBit.frame hs.abortObj
theorem Keeps.objCtrlWritten {s old : State} {c m : Nat} {onBus : Bool} (hs : s₀.Keeps false s) : s₀.Keeps false
    (s.objCtrlWritten old c m
    onBus) := by
  unfold State.objCtrlWritten
  extract_lets a was cfg fmt run reqd hold now clash s1 s2 s3 req
  have hs1 : s₀.Keeps false s1 := .ite hs.setReg.event hs
  have hs3 : s₀.Keeps false s3 := (Keeps.ite hs1.setBit hs1).notePick
  exact .ite hs3.setBit.setTxReq (.ite (.ite hs3.setBit.txRefuse hs3) (.ite hs3.withdraw hs3))
theorem Keeps.objWordWritten {s old : State} {c m off : Nat} (hs : s₀.Keeps false s) : s₀.Keeps false (s.objWordWritten old c m
    off) :=
  .ite hs.setReg.event (.ite (hs.forL (fun ht => .ite ht.setObjByte ht)) hs)
theorem Completes.execTxReqSet {el : Nat} {p : Port} {c : Fin 4} {m : Fin 128} {s : State} : s.Completes (execTxReqSet el p c m
    s) :=
  .next (Keeps.refl.begin.writeCmd (fun hu => hu.objCtrlWritten))
theorem Completes.execTxReqWithdraw {el : Nat} {p : Port} {c : Fin 4} {m : Fin 128} {onBus : Bool} {s : State} : s.Completes
    (execTxReqWithdraw el p c m onBus s) :=
  .next (Keeps.refl.begin.writeCmd (fun hu => hu.objCtrlWritten))
theorem Keeps.canCmd {c : Nat} {onBus : Option Nat} {w : Word} {s : State} (hs : s₀.Keeps false s) : s₀.Keeps false (canCmd c
    onBus w s) :=
    by
  unfold Machine.canCmd
  exact ((hs.when (fun ht => ht.forL (fun hu => hu.withdraw))).when (fun ht => .ite ht.recover ht.event)).when (fun ht =>
    ht.clearRegs)
theorem Completes.execCanAbortAll {el : Nat} {p : Port} {c : Fin 4} {onBus : Option (Fin 128)} {s : State} : s.Completes
    (execCanAbortAll el p c onBus s) :=
  .next (Keeps.refl.begin.writeCmd (fun hs => hs.canCmd))
theorem Completes.execCanRecover {el : Nat} {p : Port} {c : Fin 4} {s : State} : s.Completes (execCanRecover el p c s) :=
  .next (Keeps.refl.begin.writeCmd (fun hs => hs.canCmd))
theorem Completes.execCanCntClear {el : Nat} {p : Port} {c : Fin 4} {s : State} : s.Completes (execCanCntClear el p c s) :=
  .next (Keeps.refl.begin.writeCmd (fun hs => hs.canCmd))
theorem Completes.execCanError {el : Nat} {c : Fin 4} {lec : Fin 7} {dTec dRec : Nat} {f : CanErr} {s : State} : s.Completes
    (execCanError el c lec dTec dRec f s) := by
  unfold Machine.execCanError
  refine .next ?_
  refine Keeps.onCan Keeps.refl.begin (fun ht => ?_)
  refine .ite ht ?_
  refine Keeps.canEnd ?_
  refine Keeps.canErr ?_
  refine .ite ?_ ht
  refine Keeps.txFailed ?_
  split
  · exact ht.loopDelay
  · exact ht
theorem Completes.execBusoffRecovered {e : Seen Nat} {c : Fin 4} {s : State} : s.Completes (execBusoffRecovered e c s) :=
  .next (Keeps.refl.begin.onCan (fun ht => .ite (.ite ht.setFld.setBit.setErr.event ht.setFld) ht))
theorem Completes.execProtocolException {el : Nat} {c : Fin 4} {s : State} : s.Completes (execProtocolException el c s) :=
  .next (Keeps.refl.begin.onCan (fun ht => .ite ht (.ite ht.canJoin.event.canEnd ht.formError.canEnd)))
theorem Keeps.fifoPop {c : Nat} {w : Word} {s : State} (hs : s₀.Keeps false s) : s₀.Keeps false (fifoPop c w s) :=
  .ite hs.setBit.setFld.setFld hs.event
theorem Completes.execCanFifoPop {el : Nat} {p : Port} {c : Fin 4} {k : Fin 8} {m : Fin 128} {s : State} : s.Completes
    (execCanFifoPop el p c k m s) :=
  .next (Keeps.refl.begin.writeCmd (fun hs => hs.fifoPop))
theorem Keeps.objRead {c m : Nat} {s : State} (hs : s₀.Keeps false s) : s₀.Keeps false (objRead c m s).2 := hs.frame
theorem Completes.execObjCaptureRead {el : Nat} {p : Port} {c : Fin 4} {m : Fin 128} {s : State} : s.Completes
    (execObjCaptureRead el p c m s) :=
  .next (Keeps.refl.begin.readCmd (fun hs => hs.objRead))
theorem Keeps.fvWritten {s : State} {c m : Nat} (hs : s₀.Keeps false s) : s₀.Keeps false (s.fvWritten c m) := hs.setBit
theorem Completes.execCanFvWrite {el : Nat} {p : Port} {c : Fin 4} {m : Fin 128} {v : Word} {s : State} : s.Completes
    (execCanFvWrite el p c m v s) :=
  .next (Keeps.refl.begin.writeCmd (fun ht => ht.fvWritten))
theorem Completes.execReferenceRequest {el : Nat} {c : Fin 4} {s : State} : s.Completes (execReferenceRequest el c s) :=
  .next (Keeps.refl.begin.onCan (fun ht => .ite ht.frame.notePick ht))
theorem Completes.execCanTmHandoff {el : Nat} {c : Fin 4} {s : State} : s.Completes (execCanTmHandoff el c s) := by
  unfold Machine.execCanTmHandoff
  refine .next ?_
  refine Keeps.onCan Keeps.refl.begin (fun ht => ?_)
  refine .ite ?_ ht
  split
  · exact ht.frame.dtMeasure
  · exact ht

/-! Of `Sys2Proof/Machine/Intake.lean`. -/

theorem Keeps.setFifo {s : State} {l : List FifoEntry} (hs : s₀.Keeps false s) : s₀.Keeps false (s.setFifo l) := hs.frame
theorem Keeps.fifoRose {s : State} {old : Nat} (hs : s₀.Keeps false s) : s₀.Keeps false (s.fifoRose old) := by
  unfold State.fifoRose
  exact ((hs.when (fun ht => ht.setReg)).when (fun ht => ht.event)).when (fun ht => ht.setBit.pauseTx.frame)
theorem Keeps.fifoFell {s : State} (hs : s₀.Keeps false s) : s₀.Keeps false s.fifoFell := hs.when (fun ht => ht.setBit.pauseTx)
theorem Keeps.acceptFrame {s : State} {k seq count : Nat} {body : List Byte} (hs : s₀.Keeps false s) : s₀.Keeps false
    (s.acceptFrame k seq
    count body) :=
  .ite hs.setReg.count.setBit.count hs.setReg.count.setBit.setFifo.fifoRose
theorem Keeps.huzer {s : State} {body : List Byte} (hs : s₀.Keeps false s) : s₀.Keeps false (s.huzer body) :=
  .ite hs.count (.ite hs.count (.ite hs.setRegI.acceptFrame (.ite hs.setRegI.count.event.acceptFrame hs.setRegI.count)))
theorem Keeps.reject {s : State} {a : Nat} (hs : s₀.Keeps false s) : s₀.Keeps false (s.reject a) := hs.count.event
theorem Keeps.lanesOf {s : State} {r : List Byte} {k : Nat} {tref : Int} {q : Option Solved} (hs : s₀.Keeps false s) : s₀.Keeps
    false
    (s.lanesOf r k tref q).2 := by
  unfold State.lanesOf
  split
  · refine Keeps.when ?_ (fun ht => ht.count)
    refine Keeps.when ?_ (fun ht => ht.count)
    split
    · exact hs
    · split
      · exact hs.frame
      · exact hs
  · exact hs.when (fun ht => ht.count)
theorem Keeps.immediate {s : State} {e : FifoEntry} (hs : s₀.Keeps false s) : s₀.Keeps false (s.immediate e) := by
  unfold State.immediate
  dsimp only
  split
  case h_1 s1 h1 => exact (hs.lanesOf.of_pair h1).reject
  case h_2 l s1 h1 =>
    have hkeep := hs.lanesOf.of_pair h1
    split
    · exact hkeep.handOff
    · exact hkeep.handOff
    · exact hkeep.handOff
theorem Keeps.finish {s : State} {e : FifoEntry} {tref : Int} {pipe : Nat} {q : Solved} {b : DataB} (hs : s₀.Keeps false s) :
    s₀.Keeps false (s.finish e tref pipe q b) := by
  unfold State.finish
  refine Keeps.ite hs.reject (Keeps.ite (hs.when (fun ht => ht.setRegN)).count.event.reject.fault ?_)
  dsimp only
  split
  case h_1 s3 h3 => exact ((hs.when (fun ht => ht.setRegN)).count.lanesOf.of_pair h3).reject
  case h_2 l s3 h3 => exact ((hs.when (fun ht => ht.setRegN)).count.lanesOf.of_pair h3).handOff
theorem Keeps.gndEvent {s : State} {e : GndEvent} (hs : s₀.Keeps false s) : s₀.Keeps false (s.gndEvent e) :=
  hs.carry (fun ht => .ite ht.frame ht.count.event) (fun ha => ha)
theorem Keeps.solve {s : State} {e : FifoEntry} {pipe : Nat} {b : DataB} (hs : s₀.Keeps false s) : s₀.Keeps false (s.solve e
    pipe b) := by
  unfold State.solve
  refine .ite hs.reject ?_
  refine .ite hs.reject ?_
  dsimp only
  split
  · refine .ite hs.reject ?_
    split
    · exact hs.reject
    · exact hs.finish
  · refine .ite hs.reject ?_
    refine .ite hs.reject ?_
    split
    · exact hs.reject
    · exact hs.finish
  · exact hs.gndEvent
theorem Keeps.dispatch {s : State} {e : FifoEntry} {b : DataB} (hs : s₀.Keeps false s) : s₀.Keeps false (s.dispatch e b) := by
  unfold State.dispatch
  extract_lets r m pipe s1
  have hs1 : s₀.Keeps false s1 := hs.when (fun ht => ht.frame)
  exact .ite hs1.reject (.ite hs1.reject (.ite hs1.reject (.ite hs1.immediate hs1.solve)))
theorem Keeps.intakeClear {w : Word} {s : State} (hs : s₀.Keeps false s) : s₀.Keeps false (intakeClear w s) :=
  hs.when (fun ht => ht.clearRegs)
theorem Keeps.tgtSubmit {w : Word} {s : State} (hs : s₀.Keeps false s) : s₀.Keeps false (tgtSubmit w s) :=
  .ite hs.setFifo.count.fifoRose hs.count.event
theorem Keeps.streamCfg {k : Nat} {w : Word} {s : State} (hs : s₀.Keeps false s) : s₀.Keeps false (streamCfg k w s) :=
  hs.when (fun ht => ht.setBit)
theorem Keeps.beltSample {s : State} {good : Bool} {k : Nat} (hs : s₀.Keeps false s) : s₀.Keeps false (s.beltSample good k) :=
  (hs.frame.when (fun ht => ht.setBit)).setRegI
theorem Completes.execHuzerFrame {el : Nat} {f : RxFrame} {s : State} : s.Completes (execHuzerFrame el f s) := by
  refine .next ?_
  split
  case h_1 body t ht =>
    have hkeep := Keeps.refl.begin.macRx.of_pair ht
    exact Keeps.ite (hkeep.onIsland (fun hu => hu.huzer)) hkeep
  case h_2 t ht => exact Keeps.refl.begin.macRx.of_pair ht
theorem Completes.execPauseRefresh {el : Nat} {s : State} : s.Completes (execPauseRefresh el s) :=
  .next (.ite Keeps.refl.begin.pauseTx.frame Keeps.refl.begin)
theorem Completes.execStreamResync {el : Nat} {p : Port} {k : Fin 4} {s : State} : s.Completes (execStreamResync el p k s) :=
  .next (Keeps.refl.begin.writeCmd (fun hs => hs.streamCfg))
theorem Completes.execTgtSubmit {el : Nat} {p : Port} {v : Word} {s : State} : s.Completes (execTgtSubmit el p v s) :=
  .next (Keeps.refl.begin.writeCmd (fun hs => hs.tgtSubmit))
theorem Completes.execTargetDispatch {el : Nat} {b : DataB} {s : State} : s.Completes (execTargetDispatch el b s) := by
  unfold Machine.execTargetDispatch
  refine .next ?_
  refine Keeps.onIsland Keeps.refl.begin (fun ht => ?_)
  refine .ite ht ?_
  split
  · exact ht
  · exact ht.setFifo.fifoFell.dispatch
theorem Completes.execIntakeCntClear {el : Nat} {p : Port} {s : State} : s.Completes (execIntakeCntClear el p s) :=
  .next (Keeps.refl.begin.writeCmd (fun hs => hs.intakeClear))
theorem Completes.execBeltSample {el : Nat} {k : Fin 4} {ok : Bool} {s : State} : s.Completes (execBeltSample el k ok s) :=
  .next (Keeps.refl.begin.onIsland (fun ht => .ite (.ite (ht.carry (fun hu => (hu.when (fun hv => hv.beltLost)).beltSample) (fun
    hu => hu.beltLost)) ht.beltLost) ht))

/-! Of `Sys2Proof/Machine/Feedback.lean`. -/

theorem Keeps.setEnc {s : State} {k : Nat} {v : EncSt} (hs : s₀.Keeps false s) : s₀.Keeps false (s.setEnc k v) := hs.frame
theorem Keeps.setSer {s : State} {k : Nat} {v : SerSt} (hs : s₀.Keeps false s) : s₀.Keeps false (s.setSer k v) := hs.frame
theorem Keeps.setProbe {s : State} {p : Nat} {v : ProbeSt} (hs : s₀.Keeps false s) : s₀.Keeps false (s.setProbe p v) := hs.frame
theorem Keeps.setPulse {s : State} {c : Nat} {v : Option Nat} (hs : s₀.Keeps spare s) : s₀.Keeps spare (s.setPulse c v) :=
    hs.frame
theorem Keeps.encShow {s : State} {k : Nat} (hs : s₀.Keeps false s) : s₀.Keeps false (s.encShow k) := by
  unfold State.encShow
  exact hs.setBit.when (fun hu => hu.beltFault)
theorem Keeps.routeFail {s : State} {c : Nat} (hs : s₀.Keeps false s) : s₀.Keeps false (s.routeFail c) := hs.count.event
theorem Keeps.cmpPin {s : State} {c : Nat} (hs : s₀.Keeps false s) : s₀.Keeps false (s.cmpPin c) :=
  (hs.when (fun hu => hu.count.event)).setPulse.setBit
theorem Keeps.cmpStitch {s : State} {c : Nat} {d : Int} (hs : s₀.Keeps false s) : s₀.Keeps false (s.cmpStitch c d) :=
  hs.carry (fun hs => hs.handOff) (fun hu => hu.routeFail)
theorem Keeps.cmpTile {s : State} {c t : Nat} {d : Int} (hs : s₀.Keeps false s) : s₀.Keeps false (s.cmpTile c t d) :=
  hs.carry (fun hs => hs.frame) (fun hu => hu.routeFail)
theorem Keeps.cmpHit {s : State} {c : Nat} {d : Int} (hs : s₀.Keeps false s) : s₀.Keeps false (s.cmpHit c d) :=
  .ite hs.setReg.setReg.count.event (((hs.setReg.setReg.count.event.when (fun hu => hu.cmpPin)).when (fun hu =>
    hu.cmpStitch)).forN (fun hu => .ite hu.cmpTile hu))
theorem Keeps.cmpLate {s : State} {c : Nat} (hs : s₀.Keeps false s) : s₀.Keeps false (s.cmpLate c) :=
  .ite hs ((Keeps.ite hs.count.event.setReg48.count.event hs.count.event).when (fun hu => hu.cmpHit))
theorem Keeps.cmpMove {s : State} {c k : Nat} {p0 d : Int} (hs : s₀.Keeps false s) : s₀.Keeps false (s.cmpMove c k p0 d) :=
  .ite hs (.ite hs (.ite hs.cmpHit.setReg48.cmpLate hs.cmpHit))
theorem Keeps.encLoad {s : State} {k : Nat} {v d : Int} (hs : s₀.Keeps false s) : s₀.Keeps false (s.encLoad k v d) := by
  unfold State.encLoad
  exact hs.setReg48.setReg48.setEnc.forN (fun hu => .ite hu.cmpLate hu)
theorem Keeps.encMove {s : State} {k : Nat} {v d : Int} (hs : s₀.Keeps false s) : s₀.Keeps false (s.encMove k v d) :=
  .ite hs (hs.setReg48.setEnc.forN (fun hu => hu.cmpMove))
theorem Keeps.encCount {s : State} {k : Nat} {up : Bool} {d : Int} (hs : s₀.Keeps false s) : s₀.Keeps false (s.encCount k up d)
    :=
  ((hs.setReg48.when (fun hu => hu.event)).setBit.setEnc.when (fun hu => hu.event.fault.encShow)).encMove
theorem Keeps.encWritten {s : State} {k : Nat} (hs : s₀.Keeps false s) : s₀.Keeps false (s.encWritten k) :=
  .ite hs.encShow hs.encShow.setBit.encMove
theorem Completes.execEncoderEdge {el : Nat} {k : Fin 8} {n : Nat} {la lb : Bool} {s : State} : s.Completes (execEncoderEdge el
    k n la lb s) :=
  .next (Keeps.refl.begin.onIsland (fun hu => .ite hu.count (.ite hu.setEnc (.ite hu.setEnc.count.event.fault (.ite
    hu.setEnc.encCount hu.setEnc)))))
theorem Completes.execEncRateRecover {el : Nat} {k : Fin 8} {s : State} : s.Completes (execEncRateRecover el k s) := by
  unfold Machine.execEncRateRecover
  refine .next ?_
  refine Keeps.onIsland Keeps.refl.begin (fun hu => ?_)
  split
  · exact .ite hu.setEnc.encShow hu
  · exact hu
theorem Completes.execIndexEdge {e : Seen (Nat × Bool)} {k : Fin 8} {s : State} : s.Completes (execIndexEdge e k s) :=
  .next (Keeps.refl.begin.onIsland (fun hu => .ite hu (.ite hu.count (.ite hu.setEnc (.ite
    hu.setEnc.setReg48.event.setBit.encLoad hu.setEnc.setReg48.event)))))
theorem Completes.execEncBreak {el : Nat} {k : Fin 8} {s : State} : s.Completes (execEncBreak el k s) :=
  .next (Keeps.refl.begin.onIsland (fun hu => .ite hu hu.setBit.event.encShow.fault))
theorem Completes.execEncBreakClear {el : Nat} {k : Fin 8} {s : State} : s.Completes (execEncBreakClear el k s) :=
  .next (Keeps.refl.begin.onIsland (fun hu => hu.setBit.encShow))
theorem Completes.execSpeedWindowEnd {el : Nat} {k : Fin 8} {s : State} : s.Completes (execSpeedWindowEnd el k s) := by
  unfold Machine.execSpeedWindowEnd
  refine .next ?_
  refine Keeps.onIsland Keeps.refl.begin (fun hu => ?_)
  refine .ite hu ?_
  refine Keeps.setEnc ?_
  split
  · exact .ite hu.setRegI hu
  · exact hu
theorem Keeps.encCmd {k : Nat} {w : Word} {s : State} (hs : s₀.Keeps false s) : s₀.Keeps false (encCmd k w s) := by
  unfold Machine.encCmd
  exact (hs.when (fun hu => hu.encLoad)).when (fun hu => hu.setBit)
theorem Completes.execEncLoad {el : Nat} {p : Port} {k : Fin 8} {s : State} : s.Completes (execEncLoad el p k s) :=
  .next (Keeps.refl.begin.writeCmd (fun hs => hs.encCmd))
theorem Completes.execIndexArm {el : Nat} {p : Port} {k : Fin 8} {s : State} : s.Completes (execIndexArm el p k s) :=
  .next (Keeps.refl.begin.writeCmd (fun hs => hs.encCmd))
theorem Completes.execSerialFrameStart {el : Nat} {k : Fin 4} {s : State} : s.Completes (execSerialFrameStart el k s) :=
  .next (Keeps.refl.begin.onIsland (fun hu => .ite hu (.ite hu.count.event hu.setSer)))
theorem Keeps.serFail {s : State} {k check : Nat} (hs : s₀.Keeps false s) : s₀.Keeps false (s.serFail k check) :=
  hs.count.event.setBit.fault
theorem Keeps.serWarn {s : State} {k : Nat} {w : Bool} (hs : s₀.Keeps false s) : s₀.Keeps false (s.serWarn k w) :=
  hs.setBit.when (fun hv => hv.event)
theorem Keeps.serTake {s : State} {k t0 : Nat} {bits : List Bool} (hs : s₀.Keeps false s) : s₀.Keeps false (s.serTake k t0 bits)
    :=
  .ite hs.serWarn.serFail (.ite hs.serWarn.serFail hs.serWarn.setReg48.setReg64.count.setSer.setBit)
theorem Completes.execSerialFrameEnd {el : Nat} {k : Fin 4} {bits : List Bool} {s : State} : s.Completes (execSerialFrameEnd el
    k bits s) := by
  unfold Machine.execSerialFrameEnd
  refine .next ?_
  refine Keeps.onIsland Keeps.refl.begin (fun hu => ?_)
  split
  · exact hu
  · split
    · exact hu
    · exact .ite hu (.ite hu.setSer.serWarn.serFail hu.setSer.serTake)
theorem Completes.execSerialTimeout {e : Seen (List Bool)} {k : Fin 4} {s : State} : s.Completes (execSerialTimeout e k s) := by
  unfold Machine.execSerialTimeout
  refine .next ?_
  refine Keeps.onIsland Keeps.refl.begin (fun hu => ?_)
  split
  · exact hu
  · split
    · exact .ite hu.setSer.serWarn.serFail hu
    · exact hu
theorem Keeps.prbShow {s : State} {p : Nat} (hs : s₀.Keeps false s) : s₀.Keeps false (s.prbShow p) := .ite hs.setFld
    hs.setFld.setBit
theorem Keeps.capture {s : State} {p : Nat} {rising : Bool} {d : Int} (hs : s₀.Keeps false s) : s₀.Keeps false (s.capture p
    rising d) :=
  ((Keeps.ite hs.count.event.setProbe hs.count.event.count.event).when (fun hu => hu.setBit)).prbShow
theorem Completes.execProbeEdge {el : Nat} {p : Fin 8} {n : Nat} {level : Bool} {s : State} : s.Completes (execProbeEdge el p n
    level s) :=
  .next (Keeps.refl.begin.onIsland (fun hu => .ite hu (.ite hu.count.event (.ite (Keeps.ite hu.setBit.setProbe
    hu.setBit.setProbe.setBit).capture (.ite hu.setBit.setProbe hu.setBit.setProbe.setBit)))))
theorem Completes.execProbeStuck {el : Nat} {p : Fin 8} {s : State} : s.Completes (execProbeStuck el p s) :=
  .next (Keeps.refl.begin.onIsland (fun hu => .ite hu.setBit.event.fault hu))
theorem Keeps.prbCmd {p : Nat} {w : Word} {s : State} (hs : s₀.Keeps false s) : s₀.Keeps false (prbCmd p w s) := by
  unfold Machine.prbCmd
  exact (hs.when (fun hu => hu.setProbe.prbShow)).when (fun hu => hu.setBit.prbShow)
theorem Completes.execProbeArm {el : Nat} {p : Port} {k : Fin 8} {s : State} : s.Completes (execProbeArm el p k s) :=
  .next (Keeps.refl.begin.writeCmd (fun hs => hs.prbCmd))
theorem Completes.execProbePop {el : Nat} {p : Port} {k : Fin 8} {s : State} : s.Completes (execProbePop el p k s) :=
  .next (Keeps.refl.begin.writeCmd (fun hs => hs.prbCmd))
theorem Keeps.prbRead {k : Nat} {x1 : State} (hx1 : s₀.Keeps false x1) : s₀.Keeps false (prbRead k x1).2 := hx1.setProbe
theorem Completes.execProbeCapRead {el : Nat} {p : Port} {k : Fin 8} {s : State} : s.Completes (execProbeCapRead el p k s) :=
  .next (Keeps.refl.begin.readCmd (fun ha => ha.prbRead))
theorem Keeps.cmpHeldPin {s : State} {c : Nat} (hs : s₀.Keeps false s) : s₀.Keeps false (s.cmpHeldPin c) := by
  unfold State.cmpHeldPin
  split
  · exact hs.when (fun hu => hu.setBit)
  · exact hs
theorem Keeps.cmpOff {s : State} {c : Nat} (hs : s₀.Keeps false s) : s₀.Keeps false (s.cmpOff c) :=
  .ite hs (hs.setPulse.when (fun hu => hu.setBit))
theorem Keeps.cmpWritten {s : State} {c : Nat} (hs : s₀.Keeps false s) : s₀.Keeps false (s.cmpWritten c) :=
    hs.cmpOff.cmpHeldPin.cmpLate
theorem Completes.execCmpValWrite {el : Nat} {p : Port} {c : Fin 8} {v : Word} {s : State} : s.Completes (execCmpValWrite el p c
    v s) :=
  .next (Keeps.refl.begin.writeCmd (fun ht => ht.cmpWritten))
theorem Completes.execCmpCfgWrite {el : Nat} {p : Port} {c : Fin 8} {v : Word} {s : State} : s.Completes (execCmpCfgWrite el p c
    v s) :=
  .next (Keeps.refl.begin.writeCmd (fun ht => ht.cmpWritten))
theorem Completes.execCmpPulseEnd {el : Nat} {c : Fin 8} {s : State} : s.Completes (execCmpPulseEnd el c s) := by
  unfold Machine.execCmpPulseEnd
  refine .next ?_
  refine Keeps.onIsland Keeps.refl.begin (fun hu => ?_)
  split
  · exact .ite (hu.setPulse.when (fun hv => hv.setBit)) hu
  · exact hu
theorem Keeps.cmpLineOn {s : State} {c st : Nat} (hs : s₀.Keeps spare s) : s₀.Keeps spare (s.cmpLineOn c st) :=
    ((hs.setPulse.setBit_ne (by lia)).setBit_ne (by lia))
theorem Keeps.cmpLineOff {s : State} {c : Nat} (hs : s₀.Keeps false s) : s₀.Keeps false (s.cmpLineOff c) := hs.setBit.setBit
theorem Keeps.fbCmd {w : Word} {s : State} (hs : s₀.Keeps false s) : s₀.Keeps false (fbCmd w s) := hs.when (fun hu =>
    hu.clearRegs)
theorem Completes.execFbCntClear {el : Nat} {p : Port} {s : State} : s.Completes (execFbCntClear el p s) :=
  .next (Keeps.refl.begin.writeCmd (fun hs => hs.fbCmd))

/-! Of `Sys2Proof/Machine/Gnss.lean`. -/

theorem Keeps.setGchan {s : State} {c : Nat} {v : Option GnssChan} (hs : s₀.Keeps false s) : s₀.Keeps false (s.setGchan c v) :=
    hs.frame
theorem Keeps.biasShow {s : State} {was : Bool} (hs : s₀.Keeps false s) : s₀.Keeps false (s.biasShow was) :=
  .ite hs.setFld (.ite hs hs.frame.setFld)
theorem Completes.execAntShort {el : Nat} {i : BitVec 16} {s : State} : s.Completes (execAntShort el i s) :=
  .next (Keeps.refl.begin.onIsland (fun ht => .ite ht.setFld.setBit.event.count.fault ht))
theorem Completes.execAntOpen {el : Nat} {i : BitVec 16} {s : State} : s.Completes (execAntOpen el i s) :=
  .next (Keeps.refl.begin.onIsland (fun ht => .ite ht.setFld.setBit.event ht))
theorem Completes.execAntOpenRecover {el : Nat} {i : BitVec 16} {s : State} : s.Completes (execAntOpenRecover el i s) :=
  .next (Keeps.refl.begin.onIsland (fun ht => .ite ht.setFld.setBit ht))
theorem Keeps.aidRefused {s : State} {code : Nat} (hs : s₀.Keeps false s) : s₀.Keeps false (s.aidRefused code) :=
    hs.setFld.event
theorem Keeps.aidTime {s : State} (hs : s₀.Keeps false s) : s₀.Keeps false s.aidTime := .ite (.ite hs.frame hs.aidRefused)
    hs.frame
theorem Keeps.aidPos {s : State} (hs : s₀.Keeps false s) : s₀.Keeps false s.aidPos := hs.frame
theorem Keeps.addNav {s : State} {a : NavAid} (hs : s₀.Keeps false s) : s₀.Keeps false (s.addNav a) := hs.frame
theorem Keeps.takeNav {s : State} {a : NavAid} (hs : s₀.Keeps false s) : s₀.Keeps false (s.takeNav a) :=
  .ite hs.aidRefused (.ite hs.aidRefused (.ite hs.aidRefused hs.setFld.addNav))
theorem Keeps.aidNav {s : State} {iodOk : Bool} {r : NavRef} (hs : s₀.Keeps false s) : s₀.Keeps false (s.aidNav iodOk r) :=
  .ite hs.frame.aidRefused hs.frame.takeNav
theorem Keeps.restoreAids {s0 : State} {hits : List EccHit} (hs0 : s₀.Keeps false s0) : s₀.Keeps false (s0.restoreAids hits) :=
    by
  unfold State.restoreAids
  exact hs0.devRead.frame.forL (fun ht => ht.takeNav)
theorem Keeps.aidHdrWritten {s : State} (hs : s₀.Keeps false s) : s₀.Keeps false s.aidHdrWritten := hs.frame
theorem Keeps.aidDataWritten {s : State} {v : Word} (hs : s₀.Keeps false s) : s₀.Keeps false (s.aidDataWritten v) := hs.frame
theorem Keeps.navShow {s : State} (hs : s₀.Keeps false s) : s₀.Keeps false s.navShow := by
  unfold State.navShow
  exact hs.setFld.forN (fun ht => ht.setReg)
theorem Keeps.gnssCmd {iodOk : Bool} {r : NavRef} {w : Word} {s : State} (hs : s₀.Keeps false s) : s₀.Keeps false (gnssCmd iodOk
    r w s) :=
    by
  unfold Machine.gnssCmd
  exact ((((((hs.when (fun ht => ht.frame)).when (fun ht => ht.clearRegs)).when (fun ht => ht.setBit.biasShow)).when (fun ht =>
    ht.frame.navShow)).when (fun ht => ht.aidNav)).when (fun ht => ht.aidPos)).when (fun ht => ht.aidTime)
theorem Completes.execAntClear {el : Nat} {p : Port} {s : State} : s.Completes (execAntClear el p s) :=
  .next (Keeps.refl.begin.writeCmd (fun hs => hs.gnssCmd))
theorem Completes.execAidTime {el : Nat} {p : Port} {s : State} : s.Completes (execAidTime el p s) :=
  .next (Keeps.refl.begin.writeCmd (fun hs => hs.gnssCmd))
theorem Completes.execAidPos {el : Nat} {p : Port} {s : State} : s.Completes (execAidPos el p s) :=
  .next (Keeps.refl.begin.writeCmd (fun hs => hs.gnssCmd))
theorem Completes.execAidNavCommit {el : Nat} {p : Port} {iodOk : Bool} {r : NavRef} {s : State} : s.Completes (execAidNavCommit
    el p iodOk r s) :=
  .next (Keeps.refl.begin.writeCmd (fun hs => hs.gnssCmd))
theorem Completes.execGnssForget {el : Nat} {p : Port} {s : State} : s.Completes (execGnssForget el p s) :=
  .next (Keeps.refl.begin.writeCmd (fun hs => hs.gnssCmd))
theorem Completes.execNavPop {el : Nat} {p : Port} {s : State} : s.Completes (execNavPop el p s) :=
  .next (Keeps.refl.begin.writeCmd (fun hs => hs.gnssCmd))
theorem Completes.execGnssCntClear {el : Nat} {p : Port} {s : State} : s.Completes (execGnssCntClear el p s) :=
  .next (Keeps.refl.begin.writeCmd (fun hs => hs.gnssCmd))
theorem Keeps.gnssRetain {s : State} (hs : s₀.Keeps false s) : s₀.Keeps false s.gnssRetain := hs.frame.clearPoison
theorem Completes.execGnssRetain {el : Nat} {s : State} : s.Completes (execGnssRetain el s) :=
  .next (.ite Keeps.refl.begin.gnssRetain Keeps.refl.begin)
theorem Keeps.dropSat {s : State} {sig sv : Nat} (hs : s₀.Keeps false s) : s₀.Keeps false (s.dropSat sig sv) :=
  hs.forL (fun ht => .ite ht.setGchan ht)
theorem Keeps.assign {s : State} {sig sv : Nat} {elev : Int} {second : Bool} {seed : Nat × Nat} (hs : s₀.Keeps false s) :
    s₀.Keeps false
    (s.assign sig sv elev second seed) := by
  unfold State.assign
  split
  · exact hs.setGchan
  · exact hs
theorem Completes.execSatelliteAcquired {e : Seen (Nat × Nat)} {sig : Fin 3} {sv : BitVec 8} {elev : Int} {second : Bool} {s :
    State} : s.Completes (execSatelliteAcquired e sig sv elev second s) := by
  unfold Machine.execSatelliteAcquired
  refine .next ?_
  refine Keeps.onIsland Keeps.refl.begin (fun ht => ?_)
  refine .ite ht ?_
  refine Keeps.when ?_ (fun hw => hw.assign)
  refine Keeps.assign ?_
  split
  · exact ht
  · split
    · exact .ite ht.dropSat ht
    · exact ht
theorem Completes.execCarrierLockLoss {el : Nat} {c : Fin 64} {bits : Bool} {s : State} : s.Completes (execCarrierLockLoss el c
    bits s) := by
  unfold Machine.execCarrierLockLoss
  refine .next ?_
  refine Keeps.onIsland Keeps.refl.begin (fun ht => ?_)
  split
  · exact ht
  · exact ht.setGchan
theorem Keeps.measure {s : State} {ms : List SatMeas} {c : Fin 64} (hs : s₀.Keeps false s) : s₀.Keeps false (s.measure ms c) :=
    by
  unfold State.measure
  split
  · exact hs.setGchan.recAdd.noteSat
  · exact hs
theorem Completes.execMeasEpoch {el : Nat} {ms : List SatMeas} {s : State} : s.Completes (execMeasEpoch el ms s) :=
  .next (Keeps.refl.begin.onIsland (fun ht => .ite ht ((ht.frame.forL (fun hv => hv.measure)).forN (fun hx =>
    hx.setReg)).setReg.setFld.event))
theorem Completes.execNavUnit {el : Nat} {c : Fin 64} {type : Fin 5} {bits : List Bool} {pass inverted : Bool} {start : Nat}
    {done : Option NavAid} {s : State} : s.Completes (execNavUnit el c type bits pass inverted start done s) := by
  unfold Machine.execNavUnit
  refine .next ?_
  refine Keeps.onIsland Keeps.refl.begin (fun ht => ?_)
  split
  · exact ht
  · refine .ite ht ?_
    refine .ite ?_ ?_
    · refine Keeps.event ?_
      refine Keeps.count ?_
      split
      · exact .ite ht.frame.addNav ht.frame
      · exact ht.frame
    · refine Keeps.when ?_ (fun hx => hx.event)
      refine Keeps.when ?_ (fun hx => hx.count)
      refine Keeps.navShow ?_
      refine Keeps.frame ?_
      split
      · exact .ite ht.frame.addNav ht.frame
      · exact ht.frame
theorem Keeps.setFix {s : State} {k : Nat} (hs : s₀.Keeps false s) : s₀.Keeps false (s.setFix k) :=
  .ite hs.setFld.event (.ite hs.setFld.event hs.setFld)
theorem Keeps.publish {s : State} {q : NavSol} (hs : s₀.Keeps false s) : s₀.Keeps false (s.publish q) := by
  unfold State.publish
  refine Keeps.dtSolution (Keeps.when (Keeps.when ?_ fun ht => ht.frame) fun ht => ht.frame)
  split
  · exact (hs.setReg64.setReg.setFix.setFld.when (fun ht => ht.setReg.setReg.setReg.setReg.setReg.setReg.when
      (fun hu => hu.setReg))).onIsland (fun ht => ht.setReg)
  · exact hs.setReg64.setReg.setFix.setFld.when (fun ht => ht.setReg.setReg.setReg.setReg.setReg.setReg.when
      (fun hu => hu.setReg))
theorem Completes.execNavSolution {el : Nat} {q : NavSol} {s : State} : s.Completes (execNavSolution el q s) :=
  .next (Keeps.refl.begin.onIsland (fun ht => .ite ht.publish ht))
theorem Keeps.noFix {s : State} (hs : s₀.Keeps false s) : s₀.Keeps false s.noFix := hs.onIsland (fun ht => ht.setFix)
theorem Keeps.gnssCtrlWritten {s : State} (hs : s₀.Keeps false s) : s₀.Keeps false s.gnssCtrlWritten :=
  ((hs.forL (fun ht => .ite ht ht.setGchan)).forL (fun ht => ht.when (fun hw => hw.assign))).setFld

/-! Of `Sys2Proof/Machine/Recorder.lean`. -/

theorem Keeps.recOpen {s : State} {k inst : Nat} (hs : s₀.Keeps false s) : s₀.Keeps false (s.recOpen k inst) := hs.frame
theorem Keeps.takeSeq {s : State} (hs : s₀.Keeps false s) : s₀.Keeps false s.takeSeq := hs.setReg48
theorem Keeps.recWrite {s : State} {k inst cause flags supp : Nat} {ws : List Nat} {payload : List Byte} (hs : s₀.Keeps false s)
    :
    s₀.Keeps false (s.recWrite k inst cause flags supp ws payload) := by
  unfold State.recWrite
  refine Keeps.event (Keeps.count (Keeps.when (Keeps.setFld (Keeps.frame ?_)) fun ht => ht.setBit.event))
  exact hs.takeSeq.setStoreBytes.noteWear
theorem Keeps.recMerge {s : State} {k inst i flags : Nat} {vs : List Nat} {payload : List Byte} (hs : s₀.Keeps false s) :
    s₀.Keeps false
    (s.recMerge k inst i flags vs payload) :=
  hs.takeSeq.setStoreBytes.noteWear.count.frame
theorem Keeps.recEmit {s0 : State} {hits : List EccHit} {k inst cause flags : Nat} {vs : List Nat} {payload : List Byte} (hs0 :
    s₀.Keeps false s0) : s₀.Keeps false (s0.recEmit hits k inst cause flags vs payload) := by
  unfold State.recEmit
  extract_lets s
  have hs : s₀.Keeps false s := by
    unfold s
    split
    · exact hs0.devRead
    · exact hs0
  split
  · exact hs.recMerge
  · exact .ite hs.frame.recWrite hs.frame.count.count.event
theorem Keeps.traceTake {s : State} {n : Nat} (hs : s₀.Keeps false s) : s₀.Keeps false (s.traceTake n) := by
  unfold State.traceTake
  split
  · exact .ite (hs.forL (fun hu => hu.recAdd)).frame hs
  · exact hs
theorem Keeps.recClose {s : State} {hits : List EccHit} {k inst cause : Nat} {late : Bool} (hs : s₀.Keeps false s) :
    s₀.Keeps false (s.recClose hits k inst cause late) :=
  (List.foldlRecOn (motive := s₀.Keeps false) _ _ (Keeps.ite hs.traceTake hs) (fun _ hx _ _ => hx.recEmit)).recOpen
theorem Keeps.recDue {s : State} {hits : List EccHit} {k inst cause : Nat} (hs : s₀.Keeps false s) : s₀.Keeps false (s.recDue
    hits k inst
    cause) :=
  .ite hs (.ite hs.recClose (.ite hs hs.frame.setBit))
theorem Keeps.recCloseAll {s : State} {cause : Nat} (hs : s₀.Keeps false s) : s₀.Keeps false (s.recCloseAll cause) :=
  hs.forN (fun ht => ht.forN (fun hu => hu.recDue))
theorem Keeps.recCatchUp {s : State} (hs : s₀.Keeps false s) : s₀.Keeps false s.recCatchUp := by
  unfold State.recCatchUp
  refine Keeps.forN hs.setBit (fun ht => ?_)
  refine Keeps.forN ht (fun hu => ?_)
  split
  · exact hu.recClose
  · exact hu
theorem Keeps.recStart {s : State} (hs : s₀.Keeps false s) : s₀.Keeps false s.recStart := hs.frame
theorem Keeps.recCmd {w : Word} {s : State} (hs : s₀.Keeps false s) : s₀.Keeps false (recCmd w s) :=
  (hs.when (fun ht => ht.recCloseAll)).when (fun ht => ht.clearRegs)
theorem Completes.execRecCloseAll {el : Nat} {p : Port} {s : State} : s.Completes (execRecCloseAll el p s) :=
  .next (Keeps.refl.begin.writeCmd (fun hs => hs.recCmd))
theorem Completes.execRecCntClear {el : Nat} {p : Port} {s : State} : s.Completes (execRecCntClear el p s) :=
  .next (Keeps.refl.begin.writeCmd (fun hs => hs.recCmd))
theorem Keeps.traceWritten {s : State} (hs : s₀.Keeps false s) : s₀.Keeps false s.traceWritten := .ite hs.frame.recOpen hs.frame
theorem Keeps.traceClose {s : State} {hits : List EccHit} {c : TraceRun} (hs : s₀.Keeps false s) : s₀.Keeps false (s.traceClose
    hits c) :=
  (hs.setBit.forL (fun hu => hu.recAdd)).frame.recTrigger.recDue
theorem Keeps.recTick {s : State} {hits : List EccHit} {k inst : Nat} (hs : s₀.Keeps false s) : s₀.Keeps false (s.recTick hits k
    inst) := by
  unfold State.recTick
  refine .ite hs.recDue ?_
  refine .ite ?_ (.ite hs.recDue hs)
  split
  · exact hs.traceClose
  · exact .ite hs.recDue hs
theorem Completes.execIntervalClose {e : Seen (List EccHit)} {k : Fin 10} {inst : Fin 160} {s : State} : s.Completes
    (execIntervalClose e k inst s) :=
  .next (Keeps.refl.begin.onIsland (fun ht => .ite ht (ht.forN (fun hu => hu.forN (fun hv => .ite hv.recTick hv)))))
theorem Completes.execTraceArm {el : Nat} {p : Port} {n : Fin 160} {decim : Fin 8} {s : State} : s.Completes (execTraceArm el p
    n decim s) :=
  .next (Keeps.refl.begin.writeCmd (fun ht => ht.traceWritten))
theorem Keeps.codeCfgWritten {s old : State} {k : Nat} (hs : s₀.Keeps false s) : s₀.Keeps false (s.codeCfgWritten old k) :=
  .ite (hs.forN (fun ht => ht.recOpen)) hs
theorem Completes.execRecorderSample {el : Nat} {mv : List (BitVec 16)} {s : State} : s.Completes (execRecorderSample el mv s)
    :=
  .next (Keeps.refl.begin.onIsland (fun ht => .ite ht (ht.forN (fun hv => hv.setFld.recAdd)).recAdd))
theorem Keeps.win0Read {s : State} (hs : s₀.Keeps false s) : s₀.Keeps false (win0Read s).2 := hs.setReg48.frame
theorem Keeps.win63Read {s : State} (hs : s₀.Keeps false s) : s₀.Keeps false (win63Read s).2 :=
  (hs.setFld.frame.when (fun ht => ht.count)).when (fun ht => ht.setFld)
theorem Keeps.cursorWritten {s : State} (hs : s₀.Keeps false s) : s₀.Keeps false s.cursorWritten := hs.setFld.frame
theorem Completes.execRecCursorWrite {el : Nat} {p : Port} {v : Word} {s : State} : s.Completes (execRecCursorWrite el p v s) :=
  .next (Keeps.refl.begin.writeCmd (fun ht => ht.cursorWritten))

/-! Of `Sys2Proof/Machine/LdrOps.lean`. -/

theorem Keeps.setLdr {s : State} {st : Nat} (hs : s₀.Keeps spare s) : s₀.Keeps spare (s.setLdr st) := hs.setFld_ne (by lia)
theorem Keeps.ldrWarn {s : State} {i : Nat} (hs : s₀.Keeps false s) : s₀.Keeps false (s.ldrWarn i) := hs.event.event
theorem Keeps.ldrResult {s : State} {code sect pos : Nat} (hs : s₀.Keeps spare s) : s₀.Keeps spare (s.ldrResult code sect pos)
    :=
  ((hs.setReg_ne (by lia)).setReg_ne (by lia))
theorem Keeps.ldrFail {s : State} {code sect pos : Nat} (hs : s₀.Keeps false s) : s₀.Keeps false (s.ldrFail code sect pos) :=
  hs.ldrResult.setLdr.event
theorem Keeps.usbStatus {s : State} {b : UsbBlk} {st moved res : Nat} {data : List Byte} (hs : s₀.Keeps false s) : s₀.Keeps
    false
    (s.usbStatus b st moved res data) :=
  (hs.setFld.count.when (fun ht => ht.count)).send
theorem Keeps.usbDone {s : State} {loader : Bool} {res : Nat} (hs : s₀.Keeps false s) : s₀.Keeps false (s.usbDone loader res) :=
    by
  unfold State.usbDone
  split
  · exact .ite hs.frame.usbStatus hs
  · exact hs
theorem Keeps.ldrMssLost {s : State} (hs : s₀.Keeps false s) : s₀.Keeps false s.ldrMssLost := hs.when (fun ht =>
    ht.ldrFail.usbDone)
theorem Keeps.recomputeMapped {s : State} {x : Bool} (hs : s₀.Keeps spare s) : s₀.Keeps spare (s.recomputeMapped x) :=
  hs.forL (fun ht => ht.recomputeLane)
theorem Keeps.handoverRefuse {s : State} {code : Nat} (hs : s₀.Keeps spare s) : s₀.Keeps spare (s.handoverRefuse code) := by
  unfold State.handoverRefuse
  exact ((hs.ldrResult.setLdr.event_ne (by lia)).count_ne (by lia)).frame.when (fun ht => ht.recomputeMapped)
theorem Keeps.handoverDown {s : State} {i : Nat} (hs : s₀.Keeps false s) : s₀.Keeps false (s.handoverDown i) :=
  hs.when (fun ht => ht.handoverRefuse)
theorem Keeps.handoverSafe {s : State} {isl : List Nat} (hs : s₀.Keeps spare s) : s₀.Keeps spare (s.handoverSafe isl) :=
  hs.when (fun ht => ht.handoverRefuse)

/-! Of `Sys2Proof/Machine/Mss.lean`. -/

theorem Keeps.runFw {s : State} {k : Nat} (hs : s₀.Keeps false s) : s₀.Keeps false (s.runFw k) := hs.frame.setReg
theorem Keeps.bootFw {cause : Nat} {hits : List EccHit} {l : List Nat} :
    ∀ {s : State}, s₀.Keeps false s → s₀.Keeps false (s.bootFw cause hits l) := by
  induction l with
  | nil => exact fun hs => hs.setReg
  | cons k r ih =>
    intro s hs
    unfold State.bootFw
    dsimp only
    split
    · exact ih hs.devRead.setSlot
    · exact hs.devRead.runFw.frame.setReg
theorem Keeps.mssRestart {s : State} {cause : Nat} {hits : List EccHit} (hs : s₀.Keeps false s) : s₀.Keeps false (s.mssRestart
    cause hits)
    :=
  hs.count.event.noFix.ldrMssLost.bootFw
theorem Completes.execMssLockstep {e : Seen (List EccHit)} {s : State} : s.Completes (execMssLockstep e s) :=
  .next (Keeps.refl.begin.onIsland (fun ht => ht.fault.mssRestart))
theorem Completes.execMssWatchdog {e : Seen (List EccHit)} {s : State} : s.Completes (execMssWatchdog e s) :=
  .next (Keeps.refl.begin.onIsland (fun ht => ht.mssRestart))
theorem Keeps.mssCmd {w : Word} {s : State} (hs : s₀.Keeps false s) : s₀.Keeps false (mssCmd w s) :=
  (hs.when (fun ht => ht.onIsland (fun hu => hu.mssRestart))).when (fun ht => ht.clearRegs)
theorem Completes.execMssRestart {el : Nat} {p : Port} {s : State} : s.Completes (execMssRestart el p s) :=
  .next (Keeps.refl.begin.writeCmd (fun hs => hs.mssCmd))
theorem Completes.execMssCntClear {el : Nat} {p : Port} {s : State} : s.Completes (execMssCntClear el p s) :=
  .next (Keeps.refl.begin.writeCmd (fun hs => hs.mssCmd))
theorem Keeps.tempRead {s : State} {p : Nat} {x : BitVec 16} (hs : s₀.Keeps false s) : s₀.Keeps false (s.tempRead p x) :=
    hs.setFld.setFld
theorem Completes.execTempPoll {el : Nat} {temps : List (BitVec 16)} {s : State} : s.Completes (execTempPoll el temps s) :=
  .next (Keeps.refl.begin.onIsland (fun ht => .ite ht (ht.forN (fun hu => (hu.when (fun hw => hw.tempRead)).recAdd))))
theorem Keeps.bgWait {s : State} {n : Nat} (hs : s₀.Keeps false s) : s₀.Keeps false (s.bgWait n) := hs.setFld
theorem Completes.execStoreScrubRead {e : Seen Nat} {err : Ecc} {s : State} : s.Completes (execStoreScrubRead e err s) := by
  unfold Machine.execStoreScrubRead
  refine .next ?_
  refine Keeps.onIsland Keeps.refl.begin (fun ht0 => ?_)
  refine Keeps.when ?_ (fun hw => hw.frame.count)
  refine Keeps.setFld ?_
  split
  · exact ht0.bgWait.setPoison
  · exact ht0.bgWait.setPoison.count.event
  · exact ht0.bgWait.setPoison.storeUe
theorem Completes.execScrubLate {el : Nat} {store : Bool} {s : State} : s.Completes (execScrubLate el store s) :=
  .next (Keeps.refl.begin.onIsland (fun ht => .ite ht.frame.count.event ht))
theorem Completes.execPoweredHour {el : Nat} {s : State} : s.Completes (execPoweredHour el s) :=
  .next (Keeps.refl.begin.onIsland (fun ht => .ite ht.frame.count ht))

/-! Of `Sys2Proof/Machine/Session.lean`. -/

theorem Keeps.closeSession {s : State} {k : Nat} (hs : s₀.Keeps false s) : s₀.Keeps false (s.closeSession k) := by
  unfold State.closeSession
  exact (hs.setBit.setBit.when (fun ht => ht.setBit)).when (fun ht => ht.frame)
theorem Keeps.dropSas {s : State} {e : EthPort} (hs : s₀.Keeps false s) : s₀.Keeps false (s.dropSas e) := hs.setEth.setBit
theorem Keeps.zeroizeSlots {s : State} (hs : s₀.Keeps false s) : s₀.Keeps false s.zeroizeSlots :=
  hs.frame.setReg.setReg.notePicks.putRec.dropSas.dropSas.closeSession.closeSession.closeSession
theorem Keeps.zeroizeAll {s : State} (hs : s₀.Keeps false s) : s₀.Keeps false s.zeroizeAll :=
    hs.zeroizeSlots.frame.setBit.putRec
theorem Keeps.tamperResponse {s : State} {k : Nat} (hs : s₀.Keeps false s) : s₀.Keeps false (s.tamperResponse k) := by
  unfold State.tamperResponse
  split
  · exact hs
  · exact hs.zeroizeSlots
  · exact hs.zeroizeAll
theorem Keeps.tamperReport {s : State} {k : Nat} (hs : s₀.Keeps false s) : s₀.Keeps false (s.tamperReport k) :=
  hs.count.putRec.event.frame.fault
theorem Completes.execTamperDetect {el : Nat} {k : Fin 5} {s : State} : s.Completes (execTamperDetect el k s) :=
  .next (.ite (.ite Keeps.refl.begin Keeps.refl.begin.event.frame.tamperResponse)
    Keeps.refl.begin.event.tamperReport.tamperResponse)
theorem Keeps.tamperWritten {s : State} {old v : Word} (hs : s₀.Keeps false s) : s₀.Keeps false (s.tamperWritten old v) :=
  (hs.when (fun ht => ht.event)).putRec
theorem Keeps.setHand {s : State} {k : Nat} {h : Option Hand} (hs : s₀.Keeps false s) : s₀.Keeps false (s.setHand k h) :=
    hs.frame
theorem Keeps.sessSend {s : State} {k : Nat} {dst : BitVec 48} {m : List Byte} (hs : s₀.Keeps false s) : s₀.Keeps false
    (s.sessSend k dst m)
    := by
  unfold State.sessSend
  split
  · exact .ite hs.ethGive hs
  · exact hs.frame
theorem Keeps.sessAbort {s : State} {k : Nat} {dst : BitVec 48} {sid code : Nat} (hs : s₀.Keeps false s) : s₀.Keeps false
    (s.sessAbort k dst
    sid code) :=
  hs.setHand.sessSend.event
theorem Keeps.sessFail {s : State} {k : Nat} {dst : BitVec 48} {sid code : Nat} (hs : s₀.Keeps false s) : s₀.Keeps false
    (s.sessFail k dst
    sid code) :=
  hs.sessAbort.count
theorem Keeps.hello {s : State} {k : Nat} {src : BitVec 48} {m rnd : List Byte} (hs : s₀.Keeps false s) : s₀.Keeps false
    (s.hello k src m
    rnd) := by
  unfold State.hello
  refine .ite hs.sessAbort ?_
  refine .ite hs.sessAbort ?_
  refine .ite hs.sessAbort ?_
  split
  · exact hs.sessAbort
  · exact hs.setHand.sessSend
theorem Keeps.installSas {s : State} {e : EthPort} {q : SessKeys} (hs : s₀.Keeps false s) : s₀.Keeps false (s.installSas e
    q).2.2 :=
  hs.setEth.setBit.when (fun hu => hu.setBit)
theorem Keeps.sessDone {s : State} {k : Nat} {h : Hand} {untimed enrol : Bool} (hs : s₀.Keeps false s) : s₀.Keeps false
    (s.sessDone k h
    untimed enrol) := by
  unfold State.sessDone
  dsimp only
  split
  · exact (hs.setHand.setBit.setBit.event.frame.when (fun ht => ht.setBit)).installSas.sessSend
  · exact (hs.setHand.setBit.setBit.event.frame.when (fun ht => ht.setBit)).frame.sessSend
theorem Keeps.sessCheck {s : State} {k : Nat} {h : Hand} {m : List Byte} (hs : s₀.Keeps false s) : s₀.Keeps false (s.sessCheck k
    h m) :=
  .ite hs.sessFail (.ite (.ite hs.sessFail (.ite hs.sessFail (.ite hs.sessFail hs.sessDone))) (.ite hs.sessFail (.ite
    hs.sessFail hs.sessDone)))
theorem Keeps.sessFinish {s : State} {k : Nat} {src : BitVec 48} {m : List Byte} (hs : s₀.Keeps false s) : s₀.Keeps false
    (s.sessFinish k
    src m) := by
  unfold State.sessFinish
  split
  · exact hs.sessAbort
  · exact .ite hs.sessCheck hs.setHand
theorem Keeps.sessResume {s : State} (hs : s₀.Keeps false s) : s₀.Keeps false s.sessResume := by
  unfold State.sessResume
  refine Keeps.forN hs (fun ht => ?_)
  split
  · split
    · exact ht.sessCheck
    · exact ht
  · exact ht
theorem Keeps.sessMsg {s : State} {k : Nat} {src : BitVec 48} {m rnd : List Byte} (hs : s₀.Keeps false s) : s₀.Keeps false
    (s.sessMsg k src
    m rnd) :=
  .ite hs.hello (.ite hs.sessFinish (.ite (hs.when (fun ht => ht.setHand.event)) hs.sessAbort))
theorem Keeps.sessFrame {s : State} {e : EthPort} {f : RxFrame} {rnd : List Byte} (hs : s₀.Keeps false s) :
    s₀.Keeps false (s.sessFrame e f rnd) := by
  unfold State.sessFrame
  split
  case h_1 m t ht => exact Keeps.ite (hs.macRx.of_pair ht).sessMsg (hs.macRx.of_pair ht)
  case h_2 t ht => exact hs.macRx.of_pair ht
theorem Completes.execSessionHello {el : Nat} {e : EthPort} {f : RxFrame} {rnd : List Byte} {s : State} : s.Completes
    (execSessionHello el e f rnd s) :=
  .next Keeps.refl.begin.sessFrame
theorem Completes.execSessionFinish {el : Nat} {e : EthPort} {fcsOk : Bool} {len : Nat} {dst src : BitVec 48} {f : FrameBody} {s
    : State} : s.Completes (execSessionFinish el e fcsOk len dst src f s) :=
  .next Keeps.refl.begin.sessFrame
theorem Completes.execSessionTimeout {el : Nat} {k : Fin 3} {s : State} : s.Completes (execSessionTimeout el k s) := by
  unfold Machine.execSessionTimeout
  refine .next ?_
  refine Keeps.onIsland Keeps.refl.begin (fun ht => ?_)
  split
  · exact .ite ht.sessAbort ht
  · exact ht
theorem Completes.execOldSaDelete {el : Nat} {e : EthPort} {s : State} : s.Completes (execOldSaDelete el e s) := by
  unfold Machine.execOldSaDelete
  refine .next ?_
  refine Keeps.onIsland Keeps.refl.begin (fun ht => ?_)
  split
  · exact .ite ht.setEth ht
  · exact ht
theorem Completes.execServiceSessionTimeout {el : Nat} {s : State} : s.Completes (execServiceSessionTimeout el s) :=
  .next (Keeps.refl.begin.onIsland (fun ht => .ite ht.closeSession ht))

/-! Of `Sys2Proof/Machine/Switches.lean`. -/

theorem Keeps.setChBit {s : State} {h i : Nat} {b : Bool} (hs : s₀.Keeps spare s) : s₀.Keeps spare (s.setChBit h i b) :=
    hs.setBit_ne (by lia)
theorem Keeps.swShow {s : State} {h : Nat} {b : Bool} (hs : s₀.Keeps spare s) : s₀.Keeps spare (s.swShow h b) :=
  hs.when (fun ht => (ht.setBit_ne (by lia)))
theorem Keeps.swTurnOn {s : State} {h : Nat} (hs : s₀.Keeps spare s) : s₀.Keeps spare (s.swTurnOn h) :=
  hs.setChBit.setChBit.setChBit.frame.swShow
theorem Keeps.swTurnOff {s : State} {h : Nat} (hs : s₀.Keeps spare s) : s₀.Keeps spare (s.swTurnOff h) :=
  .ite hs.setChBit.setChBit.setChBit.setChBit.frame.swShow hs
theorem Keeps.swTryOn {s : State} {h : Nat} (hs : s₀.Keeps spare s) : s₀.Keeps spare (s.swTryOn h) := .ite hs.swTurnOn hs
theorem Keeps.swEndPause {s : State} {h : Nat} (hs : s₀.Keeps false s) : s₀.Keeps false (s.swEndPause h) := hs.setChBit.frame
theorem Keeps.swTry {s : State} {h : Nat} (hs : s₀.Keeps false s) : s₀.Keeps false (s.swTry h) :=
  .ite hs.setFld.swEndPause.setChBit.event.count.fault hs.setFld.setChBit.frame
theorem Keeps.swTrip {s : State} {h : Nat} {c : Trip} (hs : s₀.Keeps false s) : s₀.Keeps false (s.swTrip h c) :=
  .ite hs.swTurnOff.count.event.fault.swEndPause.setChBit.event hs.swTurnOff.count.event.fault.swTry
theorem Keeps.swTemp {s : State} {h : Nat} {temp : BitVec 16} (hs : s₀.Keeps false s) : s₀.Keeps false (s.swTemp h temp) :=
  hs.setFld.setChBit
theorem Keeps.swLimit {s : State} {h : Nat} (hs : s₀.Keeps false s) : s₀.Keeps false (s.swLimit h) := by
  unfold State.swLimit
  exact hs.setChBit.count.frame.when (fun ht => ht.swTrip)
theorem Keeps.swOpenNow {s : State} {h : Nat} (hs : s₀.Keeps false s) : s₀.Keeps false (s.swOpenNow h) := hs.when (fun ht =>
    ht.setChBit)
theorem Keeps.swCurrent {s : State} {h : Nat} {i : Word} (hs : s₀.Keeps false s) : s₀.Keeps false (s.swCurrent h i) :=
    hs.setReg.swOpenNow
theorem Keeps.swVout {s : State} {h : Nat} {v : BitVec 16} (hs : s₀.Keeps false s) : s₀.Keeps false (s.swVout h v) :=
  hs.setFld.when (fun ht => ht.setChBit)
theorem Keeps.swCtrlWritten {s : State} {h : Nat} {was : Bool} (hs : s₀.Keeps false s) : s₀.Keeps false (s.swCtrlWritten h was)
    :=
  .ite hs (.ite hs.setBit.event (.ite hs.swTryOn hs.swTurnOff))
theorem Keeps.swCfgWritten {s : State} {h : Nat} (hs : s₀.Keeps false s) : s₀.Keeps false (s.swCfgWritten h) :=
  hs.when (fun ht => ht.setChBit)
theorem Keeps.swTrstWritten {s : State} {h : Nat} (hs : s₀.Keeps false s) : s₀.Keeps false (s.swTrstWritten h) :=
    hs.setChBit.swTryOn
theorem Keeps.swCtrlCmd {s : State} {p : Port} {h : Nat} {v : Word} (hs : s₀.Keeps false s) : s₀.Keeps false (s.swCtrlCmd p h v)
    :=
  hs.writeCmd (fun ht => ht.swCtrlWritten)
theorem Completes.execSwitchOn {el : Nat} {p : Port} {h : Fin 24} {s : State} : s.Completes (execSwitchOn el p h s) :=
  .next Keeps.refl.begin.swCtrlCmd
theorem Completes.execSwitchOff {el : Nat} {p : Port} {h : Fin 24} {s : State} : s.Completes (execSwitchOff el p h s) :=
  .next Keeps.refl.begin.swCtrlCmd
theorem Keeps.swMeasure {s : State} {h draw : Nat} {mean : BitVec 16} (hs : s₀.Keeps false s) : s₀.Keeps false (s.swMeasure h
    draw mean) :=
  hs.swCurrent
theorem Completes.execInrushEnd {el : Nat} {h : Fin 24} {draw : Nat} {mean : BitVec 16} {s : State} : s.Completes (execInrushEnd
    el h draw mean s) := by
  unfold Machine.execInrushEnd
  refine .next ?_
  refine Keeps.onIsland Keeps.refl.begin (fun ht => ?_)
  split
  · exact .ite (ht.setChBit.setChBit.frame.swMeasure.when (fun hv => hv.swLimit)) ht
  · exact ht
theorem Completes.execLimitEnter {el : Nat} {h : Fin 24} {draw : Nat} {mean : BitVec 16} {s : State} : s.Completes
    (execLimitEnter el h draw mean s) :=
  .next (Keeps.refl.begin.onIsland (fun ht => .ite ht.swMeasure (.ite ht.swMeasure.setChBit.frame (.ite ht.swMeasure (.ite
    ht.swMeasure.setChBit ht.swMeasure.swLimit)))))
theorem Completes.execLimitTimeout {el : Nat} {h : Fin 24} {s : State} : s.Completes (execLimitTimeout el h s) := by
  unfold Machine.execLimitTimeout
  refine .next ?_
  refine Keeps.onIsland Keeps.refl.begin (fun ht => ?_)
  split
  · exact .ite ht.swTrip ht
  · exact ht
theorem Keeps.swHardTrip {s : State} {h : Nat} {c : Trip} (hs : s₀.Keeps false s) : s₀.Keeps false (s.swHardTrip h c) :=
  .ite hs (.ite hs.swTrip hs.frame)
theorem Completes.execFastTrip {el : Nat} {h : Fin 24} {s : State} : s.Completes (execFastTrip el h s) :=
  .next Keeps.refl.begin.swHardTrip
theorem Completes.execChannelOt {el : Nat} {h : Fin 24} {temp : BitVec 16} {s : State} : s.Completes (execChannelOt el h temp s)
    :=
  .next (.ite (Keeps.refl.begin.onIsland (fun hu => hu.swTemp)).swHardTrip Keeps.refl.begin)
theorem Completes.execPauseEnd {el : Nat} {h : Fin 24} {s : State} : s.Completes (execPauseEnd el h s) := by
  unfold Machine.execPauseEnd
  refine .next ?_
  refine Keeps.onIsland Keeps.refl.begin (fun ht => ?_)
  split
  · exact .ite ht.swEndPause.swTryOn ht
  · exact ht
theorem Completes.execChannelRestart {el : Nat} {h : Fin 24} {temp : BitVec 16} {s : State} : s.Completes (execChannelRestart el
    h temp s) :=
  .next (Keeps.refl.begin.onIsland (fun ht => ht.swTemp.swTryOn))
theorem Completes.execSwitchHotChange {el : Nat} {h : Fin 24} {temp : BitVec 16} {s : State} : s.Completes (execSwitchHotChange
    el h temp s) :=
  .next (Keeps.refl.begin.onIsland (fun ht => ht.swTemp.swTryOn))

theorem Completes.execTriesClear {el : Nat} {h : Fin 24} {s : State} : s.Completes (execTriesClear el h s) :=
  .next (Keeps.refl.begin.onIsland (fun ht => .ite ht.setFld ht))
theorem Keeps.swChCmd {h : Nat} {w : Word} {s : State} (hs : s₀.Keeps false s) : s₀.Keeps false (swChCmd h w s) := by
  unfold Machine.swChCmd
  exact ((hs.when (fun ht => ht.setChBit.setFld.swEndPause)).when (fun ht => .ite ht.setChBit ht.event)).when (fun ht =>
    ht.swTryOn)
theorem Completes.execClrRetry {el : Nat} {p : Port} {h : Fin 24} {s : State} : s.Completes (execClrRetry el p h s) :=
  .next (Keeps.refl.begin.writeCmd (fun hs => hs.swChCmd))
theorem Completes.execClrTh {el : Nat} {p : Port} {h : Fin 24} {temp : BitVec 16} {s : State} : s.Completes (execClrTh el p h
    temp s) :=
  .next ((Keeps.refl.begin.onIsland (fun ht => ht.swTemp)).writeCmd (fun hs => hs.swChCmd))
theorem Completes.execClusterOt {el : Nat} {k : Fin 6} {temp : BitVec 16} {s : State} : s.Completes (execClusterOt el k temp s)
    :=
  .next (Keeps.refl.begin.onIsland (fun ht => .ite (ht.setFld.setBit.event.count.fault.forL (fun hw => .ite hw.swTrip hw))
    ht.setFld))
theorem Completes.execClusterOtClear {el : Nat} {k : Fin 6} {temp : BitVec 16} {s : State} : s.Completes (execClusterOtClear el
    k temp s) :=
  .next (Keeps.refl.begin.onIsland (fun ht => .ite ht.setFld.setBit ht.setFld))
theorem Completes.execSwitchOpenOn {el : Nat} {h : Fin 24} {i : Word} {s : State} : s.Completes (execSwitchOpenOn el h i s) :=
  .next (Keeps.refl.begin.onIsland (fun ht => .ite ht.swCurrent.setChBit.event.count.fault ht.swCurrent))
theorem Completes.execSwitchOpenOff {el : Nat} {h : Fin 24} {v : BitVec 16} {s : State} : s.Completes (execSwitchOpenOff el h v
    s) :=
  .next (Keeps.refl.begin.onIsland (fun ht => .ite ht.swVout.setChBit.event.count.fault ht.swVout))
theorem Completes.execSwitchStuck {el : Nat} {h : Fin 24} {i : Word} {s : State} : s.Completes (execSwitchStuck el h i s) :=
  .next (Keeps.refl.begin.onIsland (fun ht => .ite ht.swCurrent.frame.event.fault ht.swCurrent))
theorem Completes.execSwitchShortVbat {el : Nat} {h : Fin 24} {v : BitVec 16} {i : Word} {s : State} : s.Completes
    (execSwitchShortVbat el h v i s) :=
  .next (Keeps.refl.begin.onIsland (fun ht => .ite ht.swVout.swCurrent.frame.event.fault ht.swVout.swCurrent))
theorem Keeps.swAllOff {s : State} (hs : s₀.Keeps false s) : s₀.Keeps false s.swAllOff := hs.forL (fun ht => ht.swTurnOff)
theorem Keeps.swAllRestore {s : State} (hs : s₀.Keeps false s) : s₀.Keeps false s.swAllRestore := hs.forL (fun ht => ht.swTryOn)
theorem Keeps.swVbat {s : State} {v : Int} (hs : s₀.Keeps false s) : s₀.Keeps false (s.swVbat v) := by
  unfold State.swVbat
  exact hs.frame.when (fun ht => ht.setFldI)
theorem Keeps.swEvent {s : State} {i : Nat} (hs : s₀.Keeps false s) : s₀.Keeps false (s.swEvent i) := hs.when (fun ht =>
    ht.event)
theorem Completes.execVbatUv {el : Nat} {v : Int} {s : State} : s.Completes (execVbatUv el v s) :=
  .next (.ite (.ite Keeps.refl.begin.swVbat Keeps.refl.begin.swVbat.frame.swAllOff.swEvent) Keeps.refl.begin)
theorem Completes.execVbatUvRecover {el : Nat} {v : Int} {s : State} : s.Completes (execVbatUvRecover el v s) :=
  .next (.ite Keeps.refl.begin.swVbat.frame.swAllRestore Keeps.refl.begin)
theorem Completes.execReverseBattery {el : Nat} {v : Int} {s : State} : s.Completes (execReverseBattery el v s) :=
  .next (.ite Keeps.refl.begin.swVbat.frame.swAllOff Keeps.refl.begin)
theorem Completes.execReverseEnd {el : Nat} {v : Int} {s : State} : s.Completes (execReverseEnd el v s) :=
  .next (.ite Keeps.refl.begin.swVbat.frame.swEvent.swAllRestore Keeps.refl.begin)
theorem Completes.execOvervolt {el : Nat} {v : Int} {s : State} : s.Completes (execOvervolt el v s) :=
  .next (.ite Keeps.refl.begin.swVbat.swEvent Keeps.refl.begin)
theorem Keeps.swCmd {w : Word} {s : State} (hs : s₀.Keeps false s) : s₀.Keeps false (swCmd w s) :=
  .ite (hs.forL (fun ht => ht.onIsland (fun hu => hu.clearRegs))) hs
theorem Completes.execSwCntClear {el : Nat} {p : Port} {s : State} : s.Completes (execSwCntClear el p s) :=
  .next (Keeps.refl.begin.writeCmd (fun hs => hs.swCmd))
theorem Keeps.swLineOn {s : State} {h st : Nat} (hs : s₀.Keeps spare s) : s₀.Keeps spare (s.swLineOn h st) :=
  .ite (hs.setChBit.event_ne (by lia)).swTurnOff (.ite ((hs.setChBit.event_ne (by lia)).setBit_ne (by lia)).swTryOn
    (hs.setChBit.event_ne (by lia)))
theorem Keeps.swLineOff {s : State} {h : Nat} (hs : s₀.Keeps false s) : s₀.Keeps false (s.swLineOff h) := hs.setChBit.setBit

/-! Of `Sys2Proof/Machine/Hooks.lean`. -/

theorem Keeps.streamsWritten {s old : State} (hs : s₀.Keeps false s) : s₀.Keeps false (s.streamsWritten old) :=
  hs.forN (fun ht => ht.when (fun hu => hu.setBit))
theorem Keeps.hostHook {s old : State} {a : Nat} {w : Word} {onBus : Option Nat} {busy : Bool} (hs : s₀.Keeps false s) :
    s₀.Keeps false
    (s.hostHook old a w onBus busy) := by
  unfold State.hostHook
  split
  · exact .ite (.ite hs.trimShow hs) (.ite (.ite hs.canReportDrain (.ite hs.pinLatch hs)) (.ite (.ite hs.tamperWritten hs) (.ite
      (.ite hs.cursorWritten (.ite hs.traceWritten (.ite hs.codeCfgWritten hs))) (.ite (.ite (hs.when (fun ht => ht.r20Written))
      (.ite hs.setLane.thActShow (.ite (hs.when (fun ht => ht.setBit)) hs))) (.ite (.ite hs.streamsWritten (.ite
      hs.beltEnWritten.streamCfg hs)) (.ite (.ite hs.pwmResume (.ite hs.gridWritten hs)) (.ite hs.axWritten (.ite (.ite
      hs.encWritten (.ite hs.prbShow (.ite hs.cmpWritten hs))) (.ite (.ite hs.swCtrlWritten (.ite hs.swCfgWritten (.ite
      hs.swOpenNow (.ite hs.swTrstWritten hs)))) (.ite (.ite hs.canCtrlWritten (.ite hs.notePick (.ite hs.canCfgWritten (.ite
      hs.objCtrlWritten (.ite hs.objWordWritten (.ite hs.fvWritten hs)))))) (.ite (.ite hs.gnssCtrlWritten (.ite hs.biasShow
      hs)) (.ite (.ite hs.dtChange (.ite hs.trimShow hs)) hs))))))))))))
  · exact hs
theorem Keeps.imgHook {s old : State} {a : Nat} (hs : s₀.Keeps false s) : s₀.Keeps false (s.imgHook old a) := by
  unfold State.imgHook
  split
  · exact .ite (.ite hs.trimShow hs) (.ite (.ite hs.traceWritten (.ite hs.codeCfgWritten hs)) (.ite (.ite hs (.ite hs.r20Written
      (.ite hs.thActShow hs))) (.ite (.ite hs.streamsWritten (.ite hs.beltEnWritten hs)) (.ite hs.axCfgApplied (.ite (.ite
      hs.encWritten (.ite hs.prbShow (.ite hs.cmpWritten hs))) (.ite (.ite hs.swCtrlWritten (.ite hs.swCfgWritten (.ite
      hs.swOpenNow (.ite hs.swTrstWritten hs)))) (.ite (.ite (.ite hs.canEnd (.ite hs.canJoin hs)) (.ite hs.setBit.setTxReq
      (.ite hs.fvWritten hs.notePick))) (.ite (.ite hs.gnssCtrlWritten (.ite hs.biasShow hs)) (.ite (.ite hs.dtChange (.ite
      hs.trimShow hs)) hs)))))))))
  · exact hs

/-! Of `Sys2Proof/Machine/Learner.lean`. -/

theorem Keeps.startAcq {s : State} {n : Nat} {sd : Side} (hs : s₀.Keeps false s) : s₀.Keeps false (s.startAcq n sd) :=
    hs.updLane.setBit
theorem Keeps.sendLat {s : State} {x : Bool} {n : Nat} (hs : s₀.Keeps false s) : s₀.Keeps false (s.sendLat x n) :=
  .ite hs (hs.carry (fun hu => .ite hu.updLane hu.frame) (fun ha => ha))
theorem Keeps.thDiv {s : State} {a b : Int} (hs : s₀.Keeps false s) : s₀.Keeps false (s.thDiv a b).2 := by
  unfold State.thDiv
  split
  · exact hs.frame
  · exact hs
theorem Keeps.thLimits {s : State} {n : Nat} (hs : s₀.Keeps false s) : s₀.Keeps false (s.thLimits n) :=
  (Keeps.ite ((Keeps.ite (hs.when (fun hu => hu.setBit)) (hs.when (fun hu => hu.setBit.event))).when (fun hu => hu.setBit))
    ((Keeps.ite (hs.when (fun hu => hu.setBit)) (hs.when (fun hu => hu.setBit.event))).when (fun hu =>
    hu.setBit.event.fault))).thActShow
theorem Keeps.thermal {s0 : State} {n : Nat} {ta : Int} {q : Nat} (hs0 : s₀.Keeps false s0) : s₀.Keeps false (s0.thermal n ta q)
    :=
  .ite hs0.bankDue.chopNow.updLane hs0.bankDue.chopNow.thDiv.thDiv.thDiv.thDiv.noteSat.updLane.thLimits
theorem Completes.execThermalTick {e : Seen Bool} {t : Fin 20} {temp ig : BitVec 16} {vpk : List (BitVec 16)} {cur : List (List
    Int)} {s : State} : s.Completes (execThermalTick e t temp ig vpk cur s) :=
  .next (Keeps.refl.begin.onTile (fun hu => ((hu.setReg.setReg.setFld.forL (fun hw => hw.thermal)).setTile.forL (fun hw =>
    hw.recAdd)).recAdd.recAdd.recAdd.forL (fun hw => hw.sendLat)))
theorem Keeps.vertex {s : State} {l : List Int} {k : Nat} {t : Int} (hs : s₀.Keeps false s) : s₀.Keeps false (s.vertex l k t).2
    := by
  unfold State.vertex
  dsimp only
  split
  · split
    · exact hs.frame
    · exact hs
  · exact hs.frame
theorem Keeps.setMeas {s : State} {a : Nat} {m : Int} (hs : s₀.Keeps false s) : s₀.Keeps false (s.setMeas a m) :=
    hs.noteSat.setFldN
theorem Keeps.stuckReport {s : State} {n : Nat} {reached : Bool} (hs : s₀.Keeps false s) : s₀.Keeps false (s.stuckReport n
    reached) :=
  .ite hs.setBit.event.fault hs
theorem Keeps.noKnee {s : State} {n : Nat} {f : Firing} {e : Int} (hs : s₀.Keeps false s) : s₀.Keeps false (s.noKnee n f e) :=
  hs.updLane.setFld.count.stuckReport
theorem Keeps.kneeFound {s : State} {n : Nat} (hs : s₀.Keeps false s) : s₀.Keeps false (s.kneeFound n) :=
    hs.updLane.setFld.setBit
theorem Completes.execKneeSearchEnd {el : Nat} {n : Fin 160} {k : Nat} {samples : List Int} {s : State} : s.Completes
    (execKneeSearchEnd el n k samples s) := by
  unfold Machine.execKneeSearchEnd
  refine .next ?_
  refine Keeps.onTile Keeps.refl.begin (fun hu => ?_)
  split
  · exact hu
  · dsimp only
    split
    · exact hu.vertex.updAt.setMeas.when (fun hx => hx.kneeFound)
    · exact .ite (hu.updAt.when (fun hx => hx.noKnee)) hu
theorem Completes.execStuckTimeReached {el : Nat} {n : Fin 160} {s : State} : s.Completes (execStuckTimeReached el n s) := by
  unfold Machine.execStuckTimeReached
  refine .next ?_
  refine Keeps.onTile Keeps.refl.begin (fun hu => ?_)
  split
  · exact hu
  · exact hu.stuckReport
theorem Keeps.findSeat {s : State} {n : Nat} {f : Firing} {c : Int} {x : List RelSample} (hs : s₀.Keeps false s) : s₀.Keeps
    false
    (s.findSeat n f c x).2 := by
  unfold State.findSeat
  dsimp only
  split
  · exact hs
  · split
    · exact hs
    · split
      · exact hs
      · split
        · exact hs
        · exact hs.vertex
theorem Keeps.closeMiss {s : State} {n : Nat} {f : Firing} (hs : s₀.Keeps false s) : s₀.Keeps false (s.closeMiss n f) :=
  .ite (hs.count.setFld.when (fun hu => hu.event.fault)) hs.count
theorem Completes.execClosingSearchEnd {el : Nat} {n : Fin 160} {k : Nat} {x : Samples} {s : State} : s.Completes
    (execClosingSearchEnd el n k x s) := by
  unfold Machine.execClosingSearchEnd
  refine .next ?_
  refine Keeps.onTile Keeps.refl.begin (fun hu => ?_)
  split
  · exact hu
  · refine .ite hu ?_
    dsimp only
    split
    · exact hu.findSeat.updAt.setMeas.when (fun hy => hy.setFld)
    · exact hu.findSeat.updAt.closeMiss
theorem Keeps.outlier {s : State} {n : Nat} {sd : Side} {e : Int} (hs : s₀.Keeps false s) : s₀.Keeps false (s.outlier n sd e) :=
  .ite hs.count (.ite hs.count.updLane hs.count.updLane.setBit.setFldI.event.fault)
theorem Keeps.modelSat {s : State} {n : Nat} (hs : s₀.Keeps false s) : s₀.Keeps false (s.modelSat n) := hs.noteSat.setLane
theorem Keeps.learn {s : State} {n : Nat} {sd : Side} {e x : Int} {b : Nat} {p : Profile} (hs : s₀.Keeps false s) :
    s₀.Keeps false (s.learn
    n sd e x b p) :=
  .ite hs.outlier (.ite hs.updLane (hs.updLane.updLane.modelSat.when (fun hu => hu.setBit)).setBit.count)
theorem Keeps.useSample {s : State} {n : Nat} {sd : Side} {f : Firing} {d : Int} (hs : s₀.Keeps false s) : s₀.Keeps false
    (s.useSample n sd
    f d) :=
  hs.recAdd.learn
theorem Completes.execModelUpdate {e : Seen Bool} {n : Fin 160} {s : State} : s.Completes (execModelUpdate e n s) := by
  unfold Machine.execModelUpdate
  refine .next ?_
  refine Keeps.onTile Keeps.refl.begin (fun hu => ?_)
  split
  · exact hu
  · refine .ite hu ?_
    refine Keeps.sendLat ?_
    split
    · refine .ite ?_ ?_
      · split
        · exact .ite (hu.updAt.updLane.when (fun hv => hv.count)) (hu.updAt.updLane.when (fun hv => hv.count)).useSample
        · exact hu.updAt.updLane.when (fun hv => hv.count)
      · refine Keeps.useSample ?_
        split
        · exact .ite (hu.updAt.updLane.when (fun hv => hv.count)) (hu.updAt.updLane.when (fun hv => hv.count)).useSample
        · exact hu.updAt.updLane.when (fun hv => hv.count)
    · split
      · exact .ite (hu.updAt.updLane.when (fun hv => hv.count)) (hu.updAt.updLane.when (fun hv => hv.count)).useSample
      · exact hu.updAt.updLane.when (fun hv => hv.count)
theorem Keeps.acceptShift {s : State} {n : Nat} {sd : Side} (hs : s₀.Keeps false s) : s₀.Keeps false (s.acceptShift n sd) :=
  .ite hs.updLane.modelSat.setBit.setFld.startAcq hs
theorem Keeps.loadSeed {s : State} {n : Nat} (hs : s₀.Keeps false s) : s₀.Keeps false (s.loadSeed n) :=
    hs.updLane.startAcq.startAcq
theorem Keeps.clearModel {s : State} {n : Nat} (hs : s₀.Keeps false s) : s₀.Keeps false (s.clearModel n) := by
  unfold State.clearModel
  exact Keeps.sendLat (Keeps.setReg (Keeps.setBit (Keeps.setBit (Keeps.setBit hs.loadSeed.frame))))
theorem Keeps.lrnCmd {n : Nat} {w : Word} {s : State} (hs : s₀.Keeps false s) : s₀.Keeps false (lrnCmd n w s) := by
  unfold Machine.lrnCmd
  exact (Keeps.ite hs.clearModel ((hs.when (fun hu => hu.acceptShift)).when (fun hu => hu.acceptShift))).when (fun hu =>
    hu.updLane)
theorem Completes.execAcceptOpen {el : Nat} {p : Port} {n : Fin 160} {s : State} : s.Completes (execAcceptOpen el p n s) :=
  .next (Keeps.refl.begin.writeCmd (fun hs => hs.lrnCmd))
theorem Completes.execAcceptClose {el : Nat} {p : Port} {n : Fin 160} {s : State} : s.Completes (execAcceptClose el p n s) :=
  .next (Keeps.refl.begin.writeCmd (fun hs => hs.lrnCmd))
theorem Completes.execLrnClear {el : Nat} {p : Port} {n : Fin 160} {s : State} : s.Completes (execLrnClear el p n s) :=
  .next (Keeps.refl.begin.writeCmd (fun hs => hs.lrnCmd))
theorem Completes.execBurnishNow {el : Nat} {p : Port} {n : Fin 160} {s : State} : s.Completes (execBurnishNow el p n s) :=
  .next (Keeps.refl.begin.writeCmd (fun hs => hs.lrnCmd))
theorem Completes.execBurnishStart {el : Nat} {t : Fin 20} {s : State} : s.Completes (execBurnishStart el t s) := by
  unfold Machine.execBurnishStart
  refine .next ?_
  refine Keeps.onTile Keeps.refl.begin (fun hu => ?_)
  refine .ite hu ?_
  split
  · exact hu
  · exact hu.setReg.setTile
theorem Completes.execBurnishComplete {el : Nat} {t : Fin 20} {io ig vo vg co : BitVec 16} {s : State} : s.Completes
    (execBurnishComplete el t io ig vo vg co s) := by
  unfold Machine.execBurnishComplete
  refine .next ?_
  refine Keeps.onTile Keeps.refl.begin (fun hu => ?_)
  split
  · exact hu
  · exact .ite hu (.ite hu.burnEnd.updLane.setReg.setReg.setReg.count.updLane hu.burnEnd.updLane.event.fault)
theorem Completes.execBurnishStale {el : Nat} {n : Fin 160} {s : State} : s.Completes (execBurnishStale el n s) :=
  .next (Keeps.refl.begin.onTile (fun hu => .ite hu.updLane.event.fault hu))
theorem Keeps.copyModels {s : State} (hs : s₀.Keeps false s) : s₀.Keeps false s.copyModels :=
  (hs.forN (fun hu => hu.wearing (fun hv => hv.frame.setStoreBytes))).frame
theorem Completes.execModelCopy {el : Nat} {s : State} : s.Completes (execModelCopy el s) :=
  .next (.ite Keeps.refl.begin.copyModels Keeps.refl.begin)
theorem Keeps.restoreLane {s0 : State} {hits : List EccHit} {n : Nat} (hs0 : s₀.Keeps false s0) : s₀.Keeps false (s0.restoreLane
    hits n) :=
  .ite hs0.devRead.updLane.setReg.setReg.setReg.setBit.setBit.setBit.setBit.setBit.setBit hs0.devRead.event.fault

/-! Of `Sys2Proof/Machine/SafeState.lean`. -/

theorem Keeps.fmEvent {s : State} {i : Nat} (hs : s₀.Keeps spare s) : s₀.Keeps spare (s.fmEvent i) := hs.when (fun ht =>
    (ht.event_ne (by lia)))
theorem Keeps.lineOn {s : State} {ch st : Nat} (hs : s₀.Keeps spare s) : s₀.Keeps spare (s.lineOn ch st) :=
  .ite hs.laneLineOn (.ite hs.swLineOn (.ite hs.axLineOn hs.cmpLineOn))
theorem Keeps.lineOff {s : State} {ch st : Nat} (hs : s₀.Keeps false s) : s₀.Keeps false (s.lineOff ch st) :=
  .ite hs.laneLineOff (.ite hs.swLineOff (.ite hs.axLineOff hs.cmpLineOff))
theorem Keeps.setLine {s : State} {ch : Nat} {v : Option Nat} (hs : s₀.Keeps spare s) : s₀.Keeps spare (s.setLine ch v) :=
    hs.frame.pinLatch
theorem Keeps.applyChan {s : State} {ch : Nat} (hs : s₀.Keeps spare s) : s₀.Keeps spare (s.applyChan ch) := by
  unfold State.applyChan
  split
  · exact hs
  · exact hs.setLine.lineOn
theorem Keeps.applyChans {s : State} {l : List Nat} (hs : s₀.Keeps spare s) : s₀.Keeps spare (s.applyChans l) :=
  hs.forL (fun ht => ht.applyChan)
theorem Keeps.applied {s : State} {cause : Nat} (hs : s₀.Keeps spare s) : s₀.Keeps spare (s.applied cause) :=
    ((hs.setBit_ne (by lia)).count_ne (by lia)).fmEvent.fault
theorem Keeps.applyAll {s : State} {cause : Nat} (hs : s₀.Keeps spare s) : s₀.Keeps spare (s.applyAll cause) :=
  hs.applyChans.applied.handoverSafe
theorem Keeps.applyIsland {s : State} {i : Nat} (hs : s₀.Keeps false s) : s₀.Keeps false (s.applyIsland i) :=
  .ite hs hs.frame.applyChans.applied.handoverSafe
theorem Keeps.releaseLines {s : State} (hs : s₀.Keeps false s) : s₀.Keeps false s.releaseLines := by
  unfold State.releaseLines
  refine Keeps.forL hs (fun ht => ?_)
  split
  · exact .ite ht ht.lineOff.setLine
  · exact ht
theorem Keeps.releaseIsland {s : State} {i : Nat} (hs : s₀.Keeps false s) : s₀.Keeps false (s.releaseIsland i) :=
  (hs.frame.when (fun ht => ht.when (fun hu => hu.setBit))).releaseLines
theorem Keeps.holdLines {s : State} {i : Nat} (hs : s₀.Keeps false s) : s₀.Keeps false (s.holdLines i) := by
  unfold State.holdLines
  refine Keeps.forL hs (fun ht => ?_)
  split
  · exact ht.lineOn
  · exact ht
theorem Keeps.safeCmd {w : Word} {s : State} (hs : s₀.Keeps false s) : s₀.Keeps false (safeCmd w s) :=
  .ite (hs.applyAll.when (fun ht => ht.fmEvent)) (.ite (.ite hs.fmEvent hs.setBit.setBit.releaseLines) hs)
theorem Completes.execSafeApply {el : Nat} {p : Port} {v : Word} {s : State} : s.Completes (execSafeApply el p v s) :=
  .next (Keeps.refl.begin.writeCmd (fun hs => hs.safeCmd))
theorem Completes.execSafeRelease {el : Nat} {p : Port} {v : Word} {s : State} : s.Completes (execSafeRelease el p v s) :=
  .next (Keeps.refl.begin.writeCmd (fun hs => hs.safeCmd))
theorem Completes.execIsland38Loss {el : Nat} {s : State} : s.Completes (execIsland38Loss el s) :=
  .next (.ite Keeps.refl.begin.applyChans.frame.setUp.event.fault Keeps.refl.begin)
theorem Keeps.cinchBad {s : State} {cause : Nat} (hs : s₀.Keeps false s) : s₀.Keeps false (s.cinchBad cause) :=
    hs.frame.count.setFld
theorem Keeps.cinchTake {s : State} {i : Nat} {a : Byte} {t38 : Nat} (hs : s₀.Keeps false s) : s₀.Keeps false (s.cinchTake i a
    t38) :=
  .ite hs.count (.ite hs.cinchBad (.ite (.ite hs.cinchBad hs.frame.setFld) hs.setFld))
theorem Keeps.cinchXfer {s : State} {cmd arg chk : Byte} {len t38 : Nat} (hs : s₀.Keeps false s) : s₀.Keeps false (s.cinchXfer
    cmd arg chk
    len t38) :=
  .ite (.ite hs.send.count (.ite hs.send (.ite (.ite hs.send.count hs.send.cinchTake) hs.send.count))) hs
theorem Completes.execCinchQuery {el : Nat} {cmd arg chk : Byte} {len t38 : Nat} {s : State} : s.Completes (execCinchQuery el
    cmd arg chk len t38 s) :=
  .next Keeps.refl.begin.cinchXfer
theorem Completes.execCinchAnswer {el : Nat} {cmd arg chk : Byte} {len t38 : Nat} {s : State} : s.Completes (execCinchAnswer el
    cmd arg chk len t38 s) :=
  .next Keeps.refl.begin.cinchXfer
theorem Keeps.cinchWritten {t38 : Nat} {w : Word} {s : State} (hs : s₀.Keeps false s) : s₀.Keeps false (cinchWritten t38 w s) :=
  .ite hs.cinchTake hs.count
theorem Completes.execCinchAnswerWrite {el : Nat} {p : Port} {v : Word} {t38 : Nat} {s : State} : s.Completes
    (execCinchAnswerWrite el p v t38 s) :=
  .next (Keeps.refl.begin.writeCmd (fun hs => hs.cinchWritten))
theorem Keeps.cinchRun {s : State} (hs : s₀.Keeps false s) : s₀.Keeps false s.cinchRun := hs.setFld.frame.pinLatch
theorem Keeps.cinchGood {s : State} (hs : s₀.Keeps false s) : s₀.Keeps false s.cinchGood := .ite hs.setFld.setFld.cinchRun
    hs.setFld.setFld
theorem Keeps.cinchMissed {s : State} (hs : s₀.Keeps false s) : s₀.Keeps false s.cinchMissed :=
  .ite hs.count.setFld.fmEvent.fault.setFld.count.applyAll hs.count.setFld.fmEvent.fault
theorem Completes.execCinchWindowEnd {el : Nat} {s : State} : s.Completes (execCinchWindowEnd el s) :=
  .next (.ite (Keeps.ite Keeps.refl.begin.cinchGood Keeps.refl.begin.cinchMissed).frame.setFld Keeps.refl.begin)
theorem Keeps.cinchStart {s : State} (hs : s₀.Keeps false s) : s₀.Keeps false s.cinchStart := .ite hs.setReg.frame hs
theorem Keeps.srcAcked {src : Nat} {w : Word} {s : State} (hs : s₀.Keeps false s) : s₀.Keeps false (srcAcked src w s) :=
  hs.when (fun ht => .ite ht.frame ht.ack)
theorem Completes.execFmSrcAck {el : Nat} {p : Port} {src : Fin 128} {s : State} : s.Completes (execFmSrcAck el p src s) :=
  .next (Keeps.refl.begin.writeCmd (fun hs => hs.srcAcked))
theorem Completes.execFmSrcStatRead {el : Nat} {p : Port} {src : Fin 128} {s : State} : s.Completes (execFmSrcStatRead el p src
    s) :=
  .next (Keeps.refl.begin.readCmd (fun ht => ht.readSrcStat))
theorem Keeps.fmCmd {faultLow safeLow : Bool} {w : Word} {s : State} (hs : s₀.Keeps false s) : s₀.Keeps false (fmCmd faultLow
    safeLow w s)
    :=
  (hs.when (fun ht => ht.pinTestStart)).when (fun ht => ht.clearRegs)
theorem Completes.execPinTest {el : Nat} {p : Port} {faultLow safeLow : Bool} {s : State} : s.Completes (execPinTest el p
    faultLow safeLow s) :=
  .next (Keeps.refl.begin.writeCmd (fun hs => hs.fmCmd))
theorem Completes.execFmCntClear {el : Nat} {p : Port} {s : State} : s.Completes (execFmCntClear el p s) :=
  .next (Keeps.refl.begin.writeCmd (fun hs => hs.fmCmd))
theorem Completes.execGroundLoss {el : Nat} {s : State} : s.Completes (execGroundLoss el s) :=
  .next (.ite Keeps.refl.begin ((Keeps.refl.begin.forN (fun hu => hu.cutTile)).frame.forN (fun hu => hu.axStop)).swAllOff.fault)
theorem Completes.execGroundReturn {el : Nat} {s : State} : s.Completes (execGroundReturn el s) :=
  .next (.ite (Keeps.refl.frame.forN (fun hu => (hu.when (fun hw => hw.event)).resumeHold)).swEvent.swAllRestore
    Keeps.refl.begin)

/-! Of `Sys2Proof/Machine/Security.lean`. -/

theorem Keeps.setWords {l : List Word} : ∀ {s : State} {a : Nat}, s₀.Keeps false s → s₀.Keeps false (s.setWords a l) := by
  induction l with
  | nil => exact fun hs => hs
  | cons w r ih => exact fun hs => ih hs.setReg
theorem Keeps.setSecBuf {s : State} {l : List Byte} (hs : s₀.Keeps false s) : s₀.Keeps false (s.setSecBuf l) := hs.setWords
theorem Keeps.secEnd {s : State} {op res : Nat} (hs : s₀.Keeps false s) : s₀.Keeps false (s.secEnd op res) :=
  hs.putRec.setReg.when (fun ht => ht.event)
theorem Keeps.otpFail {s : State} {op : Nat} (hs : s₀.Keeps false s) : s₀.Keeps false (s.otpFail op) := hs.event.secEnd
theorem Keeps.setOwner {s : State} {k : Nat} {hash : List Byte} (hs : s₀.Keeps false s) : s₀.Keeps false (s.setOwner k hash) :=
  hs.setFld.setBit.setWords
theorem Keeps.storeKey {s : State} {k : Nat} (hs : s₀.Keeps false s) : s₀.Keeps false (s.storeKey k) := hs.frame.putRec
theorem Keeps.takeOwner {s : State} {i : SecIn} (hs : s₀.Keeps false s) : s₀.Keeps false (s.takeOwner i) :=
  .ite hs.secEnd (.ite hs.secEnd (.ite hs.storeKey.otpFail hs.storeKey.frame.setOwner.setBit.secEnd))
theorem Keeps.rotateOwner {s : State} {i : SecIn} (hs : s₀.Keeps false s) : s₀.Keeps false (s.rotateOwner i) :=
  .ite hs.secEnd (.ite hs.secEnd (.ite hs.secEnd (.ite hs.storeKey.otpFail (.ite hs.storeKey.frame.setOwner.setBit.frame.secEnd
    hs.storeKey.frame.setOwner.setBit.otpFail))))
theorem Keeps.setKey {s : State} {k : Nat} {v : Option KeySlot} (hs : s₀.Keeps false s) : s₀.Keeps false (s.setKey k v) :=
  hs.frame.setBit.setFld.notePicks
theorem Keeps.keyLoad {s : State} {p : Port} {k : Nat} (hs : s₀.Keeps false s) : s₀.Keeps false (s.keyLoad p k) := by
  unfold State.keyLoad
  refine .ite hs.secEnd ?_
  refine .ite hs.secEnd ?_
  split
  · exact hs.secEnd
  · exact hs.setKey.secEnd
theorem Keeps.keyErase {s : State} {k : Nat} (hs : s₀.Keeps false s) : s₀.Keeps false (s.keyErase k) := .ite hs.secEnd
    hs.setKey.secEnd
theorem Keeps.attest {s : State} {i : SecIn} (hs : s₀.Keeps false s) : s₀.Keeps false (s.attest i) :=
  .ite hs.secEnd (.ite hs.secEnd hs.setSecBuf.secEnd)
theorem Keeps.drawWords {tag n : Nat} : ∀ {s : State}, s₀.Keeps false s → s₀.Keeps false (State.drawWords tag n s).2 := by
  induction n with
  | zero => exact fun hs => hs
  | succ n ih => exact fun hs => ih hs.frame
theorem Keeps.dbgChallenge {s : State} (hs : s₀.Keeps false s) : s₀.Keeps false s.dbgChallenge :=
    hs.drawWords.setSecBuf.frame.secEnd
theorem Keeps.dbgResponse {s : State} (hs : s₀.Keeps false s) : s₀.Keeps false s.dbgResponse := by
  unfold State.dbgResponse
  dsimp only
  split
  · exact hs.secEnd
  · exact .ite hs.frame.secEnd (.ite hs.frame.secEnd (.ite hs.frame.secEnd (.ite hs.frame.secEnd (hs.frame.when (fun hs =>
      hs.zeroizeSlots)).setFld.event.secEnd)))
theorem Keeps.tamperLower {s : State} (hs : s₀.Keeps false s) : s₀.Keeps false s.tamperLower :=
  .ite hs.secEnd (.ite hs.secEnd hs.setReg.secEnd)
theorem Keeps.commitStart {s : State} {target k : Nat} {sec : Bool} {hits : List EccHit} (hs : s₀.Keeps false s) : s₀.Keeps
    false
    (s.commitStart target k sec hits) :=
  hs.frame.devRead
theorem Keeps.commitEnd {s : State} {target k : Nat} {sec : Bool} (hs : s₀.Keeps false s) : s₀.Keeps false (s.commitEnd target k
    sec) := by
  unfold State.commitEnd
  refine Keeps.usbDone ?_
  refine Keeps.when ?_ (fun hv => hv.secEnd)
  refine Keeps.frame ?_
  refine Keeps.event ?_
  refine Keeps.setReg ?_
  refine Keeps.setBit ?_
  refine Keeps.setSlot ?_
  split
  · exact hs.frame
  · split
    · exact hs.ldrResult
    · exact hs
theorem Keeps.updCommit {s : State} {target : Nat} {i : SecIn} (hs : s₀.Keeps false s) : s₀.Keeps false (s.updCommit target i)
    := by
  unfold State.updCommit
  refine .ite hs.secEnd ?_
  refine .ite hs.secEnd ?_
  refine .ite hs.secEnd ?_
  split
  · exact hs.secEnd
  · exact hs.commitStart.setReg
theorem Keeps.updAbort {s : State} {target : Nat} (hs : s₀.Keeps false s) : s₀.Keeps false (s.updAbort target) := by
  unfold State.updAbort
  refine .ite hs.secEnd ?_
  split
  · exact hs.secEnd
  · exact hs.setSlot.secEnd
theorem Keeps.revert {s : State} {target : Nat} (hs : s₀.Keeps false s) : s₀.Keeps false (s.revert target) := by
  unfold State.revert
  split
  · exact hs
  · exact .ite ((hs.setSlot.when (fun ht => ht.setSlot)).setBit.event.frame.when (fun ht => ht.runFw)).mssRestart
      (hs.setSlot.when (fun ht => ht.setSlot)).setBit.event.frame
theorem Keeps.fwActivate {s : State} {param : Nat} {i : SecIn} (hs : s₀.Keeps false s) : s₀.Keeps false (s.fwActivate param i)
    := by
  unfold State.fwActivate
  refine .ite hs.secEnd ?_
  refine .ite hs.secEnd ?_
  split
  · exact hs.secEnd
  · dsimp only
    split
    · exact (hs.when (fun ht => ht.setSlot)).setSlot.secEnd.devRead.revert
    · exact (hs.when (fun ht => ht.setSlot)).setSlot.secEnd.devRead.runFw.frame.mssRestart
theorem Keeps.updConfirm {s : State} {target : Nat} {i : SecIn} (hs : s₀.Keeps false s) : s₀.Keeps false (s.updConfirm target i)
    := by
  unfold State.updConfirm
  refine .ite hs.secEnd ?_
  refine .ite hs.secEnd ?_
  split
  · exact hs.secEnd
  · exact .ite ((hs.setSlot.setReg.when (fun ht => ht.setSlot)).frame.when (fun ht => ht.frame.setBit)).otpFail
      ((hs.setSlot.setReg.when (fun ht => ht.setSlot)).frame.when (fun ht => ht.frame.setBit)).secEnd
theorem Keeps.secCmd {p : Port} {i : SecIn} {w : Word} {s : State} (hs : s₀.Keeps false s) : s₀.Keeps false (secCmd p i w s) :=
    by
  unfold Machine.secCmd
  refine .ite hs.setReg.event ?_
  split
  · exact .ite hs.takeOwner hs.secEnd
  · exact .ite hs.rotateOwner hs.secEnd
  · exact hs.keyLoad
  · exact hs.keyErase
  · exact .ite hs.attest hs.secEnd
  · exact .ite hs.dbgChallenge hs.secEnd
  · exact .ite hs.dbgResponse hs.secEnd
  · exact .ite hs.tamperLower hs.secEnd
  · exact hs.updCommit
  · exact hs.updAbort
  · exact hs.fwActivate
  · exact hs.updConfirm
  · exact .ite hs.clearRegs.secEnd hs.secEnd
  · exact hs.secEnd
theorem Keeps.secRow {s : State} {p : Port} {w : Nat} {i : SecIn} (hs : s₀.Keeps false s) : s₀.Keeps false (s.secRow p w i) :=
  hs.writeCmd (fun hs => hs.secCmd)
theorem Completes.execTakeOwner {el : Nat} {p : Port} {par : Byte} {burns : List Bool} {s : State} : s.Completes (execTakeOwner
    el p par burns s) :=
  .next Keeps.refl.begin.secRow
theorem Completes.execRotateOwner {el : Nat} {p : Port} {par : Byte} {hashOk revOk : Bool} {s : State} : s.Completes
    (execRotateOwner el p par hashOk revOk s) :=
  .next Keeps.refl.begin.secRow
theorem Completes.execKeyLoad {el : Nat} {p : Port} {k : BitVec 8} {hi : BitVec 16} {s : State} : s.Completes (execKeyLoad el p
    k hi s) :=
  .next Keeps.refl.begin.secRow
theorem Completes.execKeyErase {el : Nat} {p : Port} {k : BitVec 8} {s : State} : s.Completes (execKeyErase el p k s) :=
  .next Keeps.refl.begin.secRow
theorem Completes.execAttest {el : Nat} {p : Port} {rnd : List Byte} {s : State} : s.Completes (execAttest el p rnd s) :=
  .next Keeps.refl.begin.secRow
theorem Completes.execDbgChallenge {el : Nat} {p : Port} {s : State} : s.Completes (execDbgChallenge el p s) :=
  .next Keeps.refl.begin.secRow
theorem Completes.execDbgResponse {el : Nat} {p : Port} {par : Byte} {s : State} : s.Completes (execDbgResponse el p par s) :=
  .next Keeps.refl.begin.secRow
theorem Completes.execDbgChallengeExpiry {el : Nat} {s : State} : s.Completes (execDbgChallengeExpiry el s) := by
  unfold Machine.execDbgChallengeExpiry
  refine .next ?_
  refine Keeps.onIsland Keeps.refl.begin (fun ht => ?_)
  split
  · exact .ite ht.frame ht
  · exact ht
theorem Completes.execTamperLower {el : Nat} {p : Port} {par : Byte} {s : State} : s.Completes (execTamperLower el p par s) :=
  .next Keeps.refl.begin.secRow
theorem Completes.execUpdCommit {el : Nat} {p : Port} {target : BitVec 8} {c : List EccHit} {s : State} : s.Completes
    (execUpdCommit el p target c s) :=
  .next Keeps.refl.begin.secRow
theorem Completes.execUpdAbort {el : Nat} {p : Port} {target : BitVec 8} {s : State} : s.Completes (execUpdAbort el p target s)
    :=
  .next Keeps.refl.begin.secRow
theorem Completes.execFwActivate {el : Nat} {p : Port} {c : List EccHit} {s : State} : s.Completes (execFwActivate el p c s) :=
  .next Keeps.refl.begin.secRow
theorem Completes.execUpdConfirm {el : Nat} {p : Port} {target : BitVec 8} {burns : List Bool} {s : State} : s.Completes
    (execUpdConfirm el p target burns s) :=
  .next Keeps.refl.begin.secRow
theorem Completes.execSecCntClear {el : Nat} {p : Port} {s : State} : s.Completes (execSecCntClear el p s) :=
  .next Keeps.refl.begin.secRow
theorem Completes.execTrialTimeout {el : Nat} {fw : Bool} {s : State} : s.Completes (execTrialTimeout el fw s) := by
  unfold Machine.execTrialTimeout
  refine .next ?_
  refine Keeps.onIsland Keeps.refl.begin (fun ht => ?_)
  split
  · exact .ite ht.revert ht
  · exact ht
theorem Completes.execFwReadyTimeout {el : Nat} {s : State} : s.Completes (execFwReadyTimeout el s) := by
  unfold Machine.execFwReadyTimeout
  refine .next ?_
  refine Keeps.onIsland Keeps.refl.begin (fun ht => ?_)
  split
  · exact .ite ht.revert ht
  · exact ht
theorem Keeps.windowWrite {p : Port} {a : Nat} {v : Word} {s : State} (hs : s₀.Keeps false s) : s₀.Keeps false (windowWrite p a
    v s).2 :=
  hs.hostWrite (fun ht => ht)
theorem Completes.execStoreWindowWrite {el : Nat} {p : Port} {o : BitVec 27} {v : Word} {s : State} : s.Completes
    (execStoreWindowWrite el p o v s) :=
  .next (Keeps.refl.begin.atPort (fun ht => ht.windowWrite.send))
theorem Completes.execMssDebugHalt {el : Nat} {s : State} : s.Completes (execMssDebugHalt el s) :=
  .next (Keeps.refl.begin.onIsland (fun ht => .ite ht.frame.setFld.noFix.ldrMssLost ht))
theorem Completes.execDebugHaltEnd {el : Nat} {s : State} : s.Completes (execDebugHaltEnd el s) :=
  .next (Keeps.refl.begin.onIsland (fun ht => .ite ht.frame.mssRestart ht))

/-! Of `Sys2Proof/Machine/Loader.lean`. -/

theorem Keeps.applyItem {keep : Nat → Bool} {i : Item} {s : State} (hs : s₀.Keeps false s) : s₀.Keeps false (State.applyItem
    keep i s) := by
  unfold State.applyItem
  split
  · exact .ite hs.setReg hs
  · exact hs.when (fun ht => ht.frame)
  · exact hs
theorem Keeps.resetFields {s : State} {l : List Nat} (hs : s₀.Keeps false s) : s₀.Keeps false (s.resetFields l) :=
  hs.forL (fun ht => ht.setReg)
theorem Keeps.applySect {keep : Nat → Bool} {q : Sect} {s : State} (hs : s₀.Keeps false s) : s₀.Keeps false (State.applySect
    keep q s) := by
  unfold State.applySect
  extract_lets rs held s1 touched s2
  have hs2 : s₀.Keeps false s2 := (hs.resetFields.forL (fun hs => hs.applyItem)).forL (fun ht => .ite ht ht.imgHook)
  exact .ite (hs2.forL (fun ht => .ite ht ht.loadSeed)) (.ite hs2.motionApplied hs2)
theorem Keeps.applySects {keep : Nat → Bool} {l : List Sect} {s : State} (hs : s₀.Keeps false s) : s₀.Keeps false
    (State.applySects keep l
    s) :=
  hs.forL (fun hs => hs.applySect)
theorem Keeps.setMap {s : State} {m : List Nat × List Nat} (hs : s₀.Keeps false s) : s₀.Keeps false (s.setMap m) := by
  unfold State.setMap
  exact (hs.forN (fun ht => ht.setFld)).forN (fun ht => ht.setBit)
theorem Keeps.sendLats {s : State} (hs : s₀.Keeps false s) : s₀.Keeps false s.sendLats := hs.forN (fun ht => ht.sendLat)
theorem Keeps.bootTry {hits : List EccHit} {l : List Nat} :
    ∀ {s : State}, s₀.Keeps false s → s₀.Keeps false (s.bootTry hits l).2 := by
  induction l with
  | nil => exact fun hs => hs
  | cons k r ih =>
    intro s hs
    unfold State.bootTry
    dsimp only
    split
    · exact ih hs.devRead.ldrResult.setSlot
    · exact hs.devRead
theorem Keeps.carryModel {s old : State} {src dst : Nat} (hs : s₀.Keeps false s) : s₀.Keeps false (s.carryModel old src dst) :=
  hs.updLane.setReg.setReg
theorem Keeps.remapOne {old : State} {e : Nat × Nat × Bool} {s : State} (hs : s₀.Keeps false s) : s₀.Keeps false (old.remapOne e
    s) := by
  unfold State.remapOne
  refine .ite (hs.when (fun ht => ht.unmapLane)) ?_
  split
  · exact hs.carryModel
  · exact .ite hs hs.loadSeed
theorem Keeps.bootPatches {hits : List EccHit} {k n fuel : Nat} :
    ∀ {s : State}, s₀.Keeps false s → s₀.Keeps false (s.bootPatches hits k n fuel) := by
  induction fuel with
  | zero => exact fun hs => hs
  | succ fuel ih =>
    intro s hs
    unfold State.bootPatches
    dsimp only
    refine Keeps.ite hs ?_
    split
    · exact hs.devRead.ldrResult.ldrWarn
    · refine ih ?_
      exact ((hs.devRead.setMap.applySects).forL (fun ht => ht.remapOne)).setFld.frame
theorem Keeps.seal {s : State} (hs : s₀.Keeps false s) : s₀.Keeps false s.seal := hs.setBit
theorem Keeps.bootEnd {s : State} {hits : List EccHit} (hs : s₀.Keeps false s) : s₀.Keeps false (s.bootEnd hits) :=
  (Keeps.ite hs.frame.seal hs.frame).frame.restoreAids.cinchStart.setFld.sendLats.pinLatch
theorem Keeps.bootFull {s : State} {hits : List EccHit} {k : Nat} {l : List Sect} (hs : s₀.Keeps false s) : s₀.Keeps false
    (s.bootFull hits
    k l) := by
  unfold State.bootFull
  exact (hs.forN (fun ht => ht.restoreLane)).frame.setMap.applySects.setWords.setReg.setBit.setBit.setFld.when (fun ht =>
    ht.frame)
theorem Completes.execBootImageLoad {el : Nat} {a b patches : List EccHit} {s : State} :
    s.Completes (execBootImageLoad el a b patches s) := by
  refine .next (Keeps.ite Keeps.refl.begin ?_)
  split
  · exact Keeps.refl.begin
  dsimp only
  split
  case h_1 u hu => exact Keeps.refl.begin.bootTry.of_pair hu
  case h_2 j l u hu => exact (Keeps.refl.begin.bootTry.of_pair hu).bootFull.bootPatches.bootEnd
theorem Completes.execSealTimeout {el : Nat} {s : State} : s.Completes (execSealTimeout el s) :=
  .next (Keeps.refl.begin.onIsland (fun ht => .ite ht.seal.ldrWarn ht))
theorem Keeps.verifyDone {s0 : State} {hits : List EccHit} (hs0 : s₀.Keeps false s0) : s₀.Keeps false (s0.verifyDone hits) := by
  unfold State.verifyDone
  refine .ite hs0.devRead.ldrFail.usbDone ?_
  split
  · exact hs0.devRead.ldrFail.usbDone
  · exact hs0.devRead.ldrResult.setLdr.setReg.event.frame.usbDone
theorem Completes.execVerifyComplete {el : Nat} {c : List EccHit} {s : State} : s.Completes (execVerifyComplete el c s) := by
  unfold Machine.execVerifyComplete
  refine .next ?_
  refine Keeps.onIsland Keeps.refl.begin (fun ht => ?_)
  split
  · exact .ite ht.devRead.commitEnd ht
  · exact .ite ht ht.verifyDone
theorem Keeps.ldrArm {s : State} (hs : s₀.Keeps false s) : s₀.Keeps false s.ldrArm :=
  .ite hs.setReg64.setLdr.frame.handoverRefuse (.ite hs.setReg64.setLdr.frame.handoverRefuse hs.setReg64.setLdr.frame)
theorem Keeps.ldrCommand {s : State} {c : Nat} (hs : s₀.Keeps false s) : s₀.Keeps false (s.ldrCommand c) :=
  .ite hs.setLdr (.ite hs.ldrArm (.ite hs.setLdr.frame (.ite hs.setLdr.event.frame (.ite hs.setLdr.frame hs.ldrWarn))))
theorem Keeps.ldrCtrl {w : Word} {s : State} (hs : s₀.Keeps false s) : s₀.Keeps false (ldrCtrl w s) := by
  unfold Machine.ldrCtrl
  refine Keeps.when ?_ (fun ht => ht.clearRegs)
  refine Keeps.when ?_ (fun hs => hs.seal)
  split
  · exact hs
  · exact hs.ldrCommand.when (fun ht => ht.ldrWarn)
theorem Completes.execLdrVerify {el : Nat} {p : Port} {s : State} : s.Completes (execLdrVerify el p s) :=
  .next (Keeps.refl.begin.writeCmd (fun hs => hs.ldrCtrl))
theorem Completes.execLdrArm {el : Nat} {p : Port} {s : State} : s.Completes (execLdrArm el p s) :=
  .next (Keeps.refl.begin.writeCmd (fun hs => hs.ldrCtrl))
theorem Completes.execLdrAbort {el : Nat} {p : Port} {s : State} : s.Completes (execLdrAbort el p s) :=
  .next (Keeps.refl.begin.writeCmd (fun hs => hs.ldrCtrl))
theorem Completes.execLdrAck {el : Nat} {p : Port} {s : State} : s.Completes (execLdrAck el p s) :=
  .next (Keeps.refl.begin.writeCmd (fun hs => hs.ldrCtrl))
theorem Completes.execLdrSeal {el : Nat} {p : Port} {s : State} : s.Completes (execLdrSeal el p s) :=
  .next (Keeps.refl.begin.writeCmd (fun hs => hs.ldrCtrl))
theorem Completes.execLdrClearCnt {el : Nat} {p : Port} {s : State} : s.Completes (execLdrClearCnt el p s) :=
  .next (Keeps.refl.begin.writeCmd (fun hs => hs.ldrCtrl))
theorem Completes.execShadowBanksLoaded {el : Nat} {s : State} : s.Completes (execShadowBanksLoaded el s) :=
  .next (Keeps.refl.begin.onIsland (fun ht => .ite (.ite ht.setLdr.frame.setTh ht.setLdr.frame) ht))
theorem Completes.execThFinal {el : Nat} {x : Bool} {s : State} : s.Completes (execThFinal el x s) := by
  unfold Machine.execThFinal
  refine .next ?_
  refine Keeps.onIsland Keeps.refl.begin (fun ht => ?_)
  split
  · exact .ite ht.setLdr.setTh.recomputeMapped ht
  · exact ht
theorem Keeps.keepBanks {s : State} {h : Int} (hs : s₀.Keeps false s) : s₀.Keeps false (s.keepBanks h) := by
  unfold State.keepBanks
  refine Keeps.forN hs (fun ht => ?_)
  refine .ite ?_ ht
  split
  · exact ht.updLane
  · exact ht.updLane
  · exact ht
theorem Completes.execHandoverSwap {el : Nat} {s : State} : s.Completes (execHandoverSwap el s) := by
  unfold Machine.execHandoverSwap
  refine .next ?_
  refine Keeps.onIsland Keeps.refl.begin (fun ht => ?_)
  split
  · exact .ite (ht.count.keepBanks.applySects.setMap.forL (fun hs => hs.remapOne)).frame.sendLats ht
  · exact ht
theorem Completes.execPatchLogMarked {el : Nat} {s : State} : s.Completes (execPatchLogMarked el s) :=
  .next (Keeps.refl.begin.onIsland (fun ht => .ite ht.setMarked.setFld.setLdr.event.frame ht))
theorem Completes.execBoundaryTimeout {el : Nat} {s : State} : s.Completes (execBoundaryTimeout el s) :=
  .next (Keeps.refl.begin.onIsland (fun ht => .ite ht.handoverRefuse ht))
theorem Keeps.refuseAck {w : Word} {s : State} (hs : s₀.Keeps false s) : s₀.Keeps false (refuseAck w s) :=
  .ite (.ite hs.setReg.setReg.setReg.clearRegs hs.clearRegs) hs
theorem Completes.execLdrRefuseAck {el : Nat} {p : Port} {s : State} : s.Completes (execLdrRefuseAck el p s) :=
  .next (Keeps.refl.begin.writeCmd (fun hs => hs.refuseAck))

/-! Of `Sys2Proof/Machine/Islands.lean`. -/

theorem Keeps.linkFail {s : State} {src dst : Nat} {acc : Option (Port × Nat)} (hs : s₀.Keeps false s) : s₀.Keeps false
    (s.linkFail src dst
    acc) :=
  hs.frame.send
theorem Completes.execLinkTransfer {el : Nat} {src dst : Fin 39} {first again : LinkWord} {acc : Option (Port × Nat)} {s :
    State} : s.Completes (execLinkTransfer el src dst first again acc s) :=
  .next (Keeps.refl.begin.onIsland (fun ht => .ite ht.send (.ite ht.linkTimeout.send (.ite ht.frame.send (.ite ht.frame.send
    ht.count.frame.linkFail)))))
theorem Completes.execHandshakeTimeout {el : Nat} {src dst : Fin 39} {acc : Option (Port × Nat)} {s : State} : s.Completes
    (execHandshakeTimeout el src dst acc s) :=
  .next (Keeps.refl.begin.onIsland (fun ht => ht.linkTimeout.linkFail))
theorem Keeps.sysCntClear {w : Word} {s : State} (hs : s₀.Keeps false s) : s₀.Keeps false (sysCntClear w s) :=
  hs.when (fun ht => ht.clearRegs)
theorem Completes.execSysCntClear {el : Nat} {p : Port} {s : State} : s.Completes (execSysCntClear el p s) :=
  .next (Keeps.refl.begin.writeCmd (fun hs => hs.sysCntClear))
theorem Keeps.declareDown {s : State} {i : Nat} (hs : s₀.Keeps false s) : s₀.Keeps false (s.declareDown i) :=
  .ite hs (Keeps.ite hs.frame.handoverDown.setUp.event.frame hs.frame.handoverDown.setUp.event.fault).applyIsland
theorem Completes.execClockMonitorWindow {e : Seen Bool} {isl : Fin 39} {edges : Nat} {s : State} :
    s.Completes (execClockMonitorWindow e isl edges s) := by
  unfold Machine.execClockMonitorWindow
  dsimp only
  split
  · exact .next (.ite Keeps.refl.begin (.ite (.ite Keeps.refl.begin.declareDown Keeps.refl.begin) Keeps.refl.begin.frame))
  · exact .next (.ite Keeps.refl.begin.frame (.ite (.ite Keeps.refl.begin.frame.declareDown Keeps.refl.begin.frame)
      Keeps.refl.begin.frame.frame))
theorem Keeps.setRestart {s : State} {i : Nat} {r : RestartPhase} (hs : s₀.Keeps false s) : s₀.Keeps false (s.setRestart i r) :=
    hs.frame
theorem Keeps.restartWrite {hi : Bool} {w : Word} {s : State} (hs : s₀.Keeps false s) : s₀.Keeps false (restartWrite hi w s).2
    :=
  hs.forL (fun ht => .ite ht.setRestart ht)
theorem Completes.execIslandRestart {el : Nat} {p : Port} {hi : Bool} {v : Word} {s : State} : s.Completes (execIslandRestart el
    p hi v s) :=
  .next (Keeps.refl.begin.atPort (fun ht => (ht.hostWrite (fun hs => hs.restartWrite)).send))
theorem Keeps.laneRestart {s old : State} {n : Nat} (hs : s₀.Keeps false s) : s₀.Keeps false (s.laneRestart old n) :=
  hs.updLane.setReg.setReg.setReg.setReg.setReg
theorem Keeps.swRestart {s old : State} {h : Nat} (hs : s₀.Keeps false s) : s₀.Keeps false (s.swRestart old h) :=
    hs.frame.setChBit
theorem Keeps.resetIsland {s : State} {i : Nat} (hs : s₀.Keeps false s) : s₀.Keeps false (s.resetIsland i) := by
  unfold State.resetIsland
  extract_lets s1
  have hs1 : s₀.Keeps false s1 := hs.resetRegs
  exact .ite (hs1.setTile.forL (fun ht => ht.setLane)) (.ite (hs1.forL (fun ht => ht.updAxis)) (.ite hs1.frame (.ite (.ite
    (hs1.forL (fun ht => ht.swRestart)).setFldI.setReg (hs1.forL (fun ht => ht.swRestart))) (.ite hs1.frame (.ite
    hs1.stitchClear (.ite hs1.frame (.ite hs1.frame (.ite hs1.frame (.ite hs1.frame.dropSas.dropSas.closeSession.closeSession
    (.ite hs1.frame (.ite hs1.mssRestart hs1)))))))))))
theorem Completes.execIslandRestartBegin {el : Nat} {isl : Fin 39} {s : State} : s.Completes (execIslandRestartBegin el isl s)
    :=
  .next (.ite ((Keeps.ite ((Keeps.refl.begin.resetIsland.forL (fun hs => hs.applySect)).forL (fun hx => hx.laneRestart))
    (Keeps.refl.begin.resetIsland.forL (fun hs => hs.applySect))).holdLines.setRestart.when (fun hs => hs.trimShow))
    Keeps.refl.begin)
theorem Completes.execIslandUp {el : Nat} {isl : Fin 39} {s : State} : s.Completes (execIslandUp el isl s) :=
  .next (.ite (.ite ((Keeps.ite (Keeps.refl.begin.setRestart.setUp.releaseIsland.forN (fun hx => .ite hx.setBit hx))
    Keeps.refl.begin.setRestart.setUp.releaseIsland).frame.forN (fun hx => hx.updLane)) (.ite ((Keeps.ite
    (Keeps.refl.begin.setRestart.setUp.releaseIsland.forN (fun hx => .ite hx.setBit hx))
    Keeps.refl.begin.setRestart.setUp.releaseIsland).when (fun hx => hx.inhibitTile)) (.ite (Keeps.ite
    (Keeps.refl.begin.setRestart.setUp.releaseIsland.forN (fun hx => .ite hx.setBit hx))
    Keeps.refl.begin.setRestart.setUp.releaseIsland).canReportDrain (.ite (Keeps.refl.begin.setRestart.setUp.releaseIsland.forN
    (fun hx => .ite hx.setBit hx)) Keeps.refl.begin.setRestart.setUp.releaseIsland)))) Keeps.refl.begin)
theorem Completes.execDtSyncToken {el : Nat} {isl : Fin 38} {drift : Int} {s : State} : s.Completes (execDtSyncToken el isl
    drift s) :=
  .next (.ite (Keeps.refl.begin.onIsland (fun hs => hs.dtDue)).frame (.ite (Keeps.refl.begin.onIsland (fun hs =>
    hs.dtDue)).frame (.ite ((Keeps.refl.begin.onIsland (fun hs => hs.dtDue)).noteSat.count.setReg.fault.frame.forL (fun hx =>
    hx.spoil)) (Keeps.refl.begin.onIsland (fun hs => hs.dtDue)).noteSat.count.setReg.fault.frame)))

/-! Of `Sys2Proof/Machine/Clocks.lean`. -/

theorem Keeps.fallBack {s : State} {forced : Bool} (hs : s₀.Keeps false s) : s₀.Keeps false (s.fallBack forced) := by
  unfold State.fallBack
  exact hs.setBit.event.frame.when (fun ht => ht.count.event)
theorem Keeps.toMain {s : State} (hs : s₀.Keeps false s) : s₀.Keeps false s.toMain := by
  unfold State.toMain
  exact hs.setBit.frame.when (fun ht => ht.count.event.fault)
theorem Keeps.linkSet {s : State} {e : EthPort} {b : Bool} (hs : s₀.Keeps false s) : s₀.Keeps false (s.linkSet e b) := by
  unfold State.linkSet
  exact hs.when (fun ht => ht.setBit.event)
theorem Completes.execClockSourceLost {el : Nat} {k : Fin 5} {forced : Bool} {s : State} : s.Completes (execClockSourceLost el k
    forced s) :=
  .next (.ite Keeps.refl.begin (.ite ((Keeps.ite (Keeps.ite Keeps.refl.begin.setBit.count.event.setBit.frame (.ite
    (Keeps.refl.begin.setBit.count.event.onIsland (fun hu => hu.linkSet.linkSet)) (.ite
    Keeps.refl.begin.setBit.count.event.frame Keeps.refl.begin.setBit.count.event))).fallBack (.ite
    Keeps.refl.begin.setBit.count.event.setBit.frame (.ite (Keeps.refl.begin.setBit.count.event.onIsland (fun hu =>
    hu.linkSet.linkSet)) (.ite Keeps.refl.begin.setBit.count.event.frame
    Keeps.refl.begin.setBit.count.event)))).fault.trimShow.forN (fun hu => hu.declareDown)) (Keeps.ite (Keeps.ite
    Keeps.refl.begin.setBit.count.event.setBit.frame (.ite (Keeps.refl.begin.setBit.count.event.onIsland (fun hu =>
    hu.linkSet.linkSet)) (.ite Keeps.refl.begin.setBit.count.event.frame Keeps.refl.begin.setBit.count.event))).fallBack (.ite
    Keeps.refl.begin.setBit.count.event.setBit.frame (.ite (Keeps.refl.begin.setBit.count.event.onIsland (fun hu =>
    hu.linkSet.linkSet)) (.ite Keeps.refl.begin.setBit.count.event.frame
    Keeps.refl.begin.setBit.count.event)))).fault.trimShow))
theorem Keeps.pllLock {s : State} (hs : s₀.Keeps false s) : s₀.Keeps false s.pllLock := .ite hs.setBit hs.setBit.toMain
theorem Completes.execClockSourceOk {el : Nat} {k : Fin 5} {s : State} : s.Completes (execClockSourceOk el k s) :=
  .next (.ite Keeps.refl.begin (Keeps.ite Keeps.refl.begin.pllLock Keeps.refl.begin.setBit).event.frame.trimShow)
theorem Completes.execPllLocked {el : Nat} {s : State} : s.Completes (execPllLocked el s) :=
  .next (.ite Keeps.refl.begin.pllLock Keeps.refl.begin)
theorem Completes.execIroTrim {el : Nat} {err : Int} {sof : Bool} {s : State} : s.Completes (execIroTrim el err sof s) :=
  .next (Keeps.refl.begin.onIsland (fun ht => .ite ht.frame.setBit.trimShow ht.frame.setBit.trimShow.frame.setRegI.setRegI))
theorem Keeps.clkCmd {w : Word} {s : State} (hs : s₀.Keeps false s) : s₀.Keeps false (clkCmd w s) := by
  unfold Machine.clkCmd
  exact (Keeps.ite hs (.ite hs.event (.ite hs (.ite hs.toMain hs.frame)))).when (fun ht => ht.clearRegs)
theorem Completes.execSelMain {el : Nat} {p : Port} {s : State} : s.Completes (execSelMain el p s) :=
  .next (Keeps.refl.begin.writeCmd (fun hs => hs.clkCmd))
theorem Completes.execClkCntClear {el : Nat} {p : Port} {s : State} : s.Completes (execClkCntClear el p s) :=
  .next (Keeps.refl.begin.writeCmd (fun hs => hs.clkCmd))
theorem Keeps.setGate {s : State} {g : Nat} {b : Bool} (hs : s₀.Keeps false s) : s₀.Keeps false (s.setGate g b) := .ite
    hs.setBit hs.setBit
theorem Keeps.gateResult {s : State} {pending : Bool} {g res : Nat} (hs : s₀.Keeps false s) : s₀.Keeps false (s.gateResult
    pending g res) :=
  hs.setReg
theorem Keeps.gateCmd {w : Word} {s : State} (hs : s₀.Keeps false s) : s₀.Keeps false (gateCmd w s) :=
  .ite hs.gateResult (.ite hs.gateResult (.ite hs.gateResult (.ite (.ite hs.gateResult hs.setGate.gateResult) (.ite
    hs.gateResult hs.gateResult.frame))))
theorem Completes.execClkGateCmd {el : Nat} {p : Port} {v : Word} {s : State} : s.Completes (execClkGateCmd el p v s) :=
  .next (Keeps.refl.begin.writeCmd (fun hs => hs.gateCmd))
theorem Completes.execGateIdle {el : Nat} {idle : Bool} {s : State} : s.Completes (execGateIdle el idle s) := by
  unfold Machine.execGateIdle
  refine .next ?_
  refine Keeps.onIsland Keeps.refl.begin (fun ht => ?_)
  split
  · exact .ite ht.frame.setGate.gateResult (.ite ht.frame.gateResult ht)
  · exact ht
theorem Completes.execRailOutOfWindow {el : Nat} {r : Fin 14} {mv : BitVec 16} {vio33 : Bool} {s : State} : s.Completes
    (execRailOutOfWindow el r mv vio33 s) :=
  .next (Keeps.refl.begin.onIsland (fun ht => .ite ht ht.setReg.recAdd.count.event.fault))
theorem Completes.execRailInWindow {el : Nat} {r : Fin 14} {mv : BitVec 16} {vio33 : Bool} {s : State} : s.Completes
    (execRailInWindow el r mv vio33 s) :=
  .next (Keeps.refl.begin.onIsland (fun ht => .ite ht.setReg ht))
theorem Keeps.powerDownRest {s : State} (hs : s₀.Keeps false s) : s₀.Keeps false s.powerDownRest :=
  hs.copyModels.gnssRetain.recCloseAll.frame
theorem Keeps.powerDownWork {s : State} (hs : s₀.Keeps false s) : s₀.Keeps false s.powerDownWork := by
  unfold State.powerDownWork
  exact (hs.onIsland (fun hs => hs.writeBackAll)).when (fun hs => hs.powerDownRest)
theorem Completes.execPowerDownWarning {el : Nat} {pin : Bool} {vbat : BitVec 16} {s : State} : s.Completes
    (execPowerDownWarning el pin vbat s) :=
  .next (Keeps.refl.begin.onIsland (fun ht => .ite ht.setFld.event.powerDownWork ht))
theorem Completes.execPowerDownEnd {e : Seen (Bool × BitVec 16)} {s : State} : s.Completes (execPowerDownEnd e s) :=
  .next (Keeps.refl.begin.onIsland (fun ht => .ite ht.frame.setFld.event ht))
theorem Completes.execMssReady {el : Nat} {s : State} : s.Completes (execMssReady el s) :=
  .next (Keeps.refl.begin.onIsland (fun ht => .ite (ht.setFld.frame.onIsland (fun hu => hu.recCatchUp.sessResume.when (fun hs =>
    hs.powerDownRest))) ht))
theorem Completes.execRtcLatch {el : Nat} {s : State} : s.Completes (execRtcLatch el s) :=
  .next (.ite Keeps.refl.frame Keeps.refl.begin)

/-! Of `Sys2Proof/Machine/Ground.lean`. -/

theorem Keeps.setGnd {s : State} {g : GndSt} (hs : s₀.Keeps false s) : s₀.Keeps false (s.setGnd g) := hs.frame
theorem Keeps.setVs {s : State} {q : VState} (hs : s₀.Keeps false s) : s₀.Keeps false (s.setVs q) :=
  hs.setReg64.setReg48I.setReg48I.setReg.setRegI.setRegI.setBit.setGnd
theorem Keeps.recentre {s : State} {q : VState} (hs : s₀.Keeps false s) : s₀.Keeps false (s.recentre q) := by
  unfold State.recentre
  dsimp only
  split
  · exact .ite hs.setGnd hs
  · exact hs.setGnd
theorem Keeps.sweep {s : State} {a b c d : Int × Int} (hs : s₀.Keeps false s) : s₀.Keeps false (s.sweep a b c d) := by
  unfold State.sweep
  refine Keeps.forL hs (fun ht => ?_)
  refine Keeps.forL ht (fun hu => ?_)
  refine .ite ?_ hu
  split
  · exact hu.mark
  · exact hu.count.event
theorem Keeps.handDuty {s : State} {n : Nat} {v : Int} (hs : s₀.Keeps false s) : s₀.Keeps false (s.handDuty n v) :=
  .ite (hs.setBit.setBit.when (fun ht => ht.count.event)) (hs.setBit.setBit.when (fun ht => ht.count.event)).setGlane.handOff
theorem Keeps.looked {s : State} {l : List Look} (hs : s₀.Keeps false s) : s₀.Keeps false (s.looked l).1 := by
  unfold State.looked
  dsimp only
  split
  · exact hs
  · exact hs.frame.count
theorem Keeps.evalLane {q : VState} {te : Int} {stale : Bool} {bad : List Nat} {again : Bool} {n : Nat} {p : Pass} (hp :
    s₀.Keeps false p.s) : s₀.Keeps false (evalLane q te stale bad again n p).s := by
  unfold Machine.evalLane
  refine Keeps.setGlane ?_
  split
  · exact ((((hp.looked.when (fun ht => ht.count)).when (fun ht =>
      ht.count.event.fault)).setFld.setBit.setBit.setBit.setBit.when (fun ht => ht.handOff)).when (fun ht => (ht.when (fun hu =>
      hu.setGlane)).handDuty)).when (fun ht => ht.sweep)
  · exact (((hp.looked.when (fun ht => ht.count)).when (fun ht => ht.count.event.fault)).setFld.setBit.setBit.setBit.setBit.when
      (fun ht => ht.handOff)).when (fun ht => (ht.when (fun hu => hu.setGlane)).handDuty)
theorem Keeps.setSpot {s : State} {e : SpotEvent} (hs : s₀.Keeps false s) : s₀.Keeps false (s.setSpot e) := hs.setGnd
theorem Keeps.spotLane {q : VState} {tn x : Int} {n : Nat} {z : Pass × SpotEvent} (hz : s₀.Keeps false z.1.s) :
    s₀.Keeps false (spotLane q tn x n z).1.s := by
  obtain ⟨p, e⟩ := z
  unfold Machine.spotLane
  dsimp only
  split
  · exact hz
  split
  · split
    · exact hz.handOff
    · exact hz
  split
  · exact hz.handOff
  generalize (if p.s.rbit R.GND_CTRL 9 = true then _ else _ : List Look) = lk
  split
  · exact hz.looked.count
  · exact hz.looked.handOff
theorem Keeps.evalSpot {q : VState} {te : Int} {stale : Bool} {key : Nat} {p : Pass} (hp : s₀.Keeps false p.s) :
    s₀.Keeps false (evalSpot q te stale key p).s := by
  unfold Machine.evalSpot
  extract_lets s0 tn done room
  have h0 : s₀.Keeps false s0 := hp.when (fun ht => ht.count)
  split
  · exact h0
  split
  · exact (h0.forL (fun ht => ht.handOff)).setSpot
  extract_lets b l rest fixed
  have hfixed : s₀.Keeps false fixed.2 := by
    unfold fixed
    split
    · exact h0
    · split
      · exact h0
      · exact h0.when (fun ht => ht.count.event)
  clear_value fixed
  obtain ⟨_ | lanes, s1⟩ := fixed
  · exact hfixed
  · exact (forL_induction (P := fun z : Pass × SpotEvent => s₀.Keeps false z.1.s) (fun hz => hz.spotLane) hfixed).setSpot
theorem Keeps.setStale {s : State} {b : Bool} (hs : s₀.Keeps false s) : s₀.Keeps false (s.setStale b) :=
  (hs.when (fun ht => ht.event)).setBit
theorem Keeps.evalPass {s : State} {bad : List Nat} (hs : s₀.Keeps false s) : s₀.Keeps false (s.evalPass bad) := by
  unfold State.evalPass
  refine Keeps.setGnd (Keeps.setBit (Keeps.when ?_ fun ht => ht.event))
  refine forL_induction (P := fun p : Pass => s₀.Keeps false p.s) (fun hp => hp.evalSpot) ?_
  exact forL_induction (P := fun p : Pass => s₀.Keeps false p.s) (fun hp => hp.evalLane) hs.setGnd.setStale.recentre
theorem Keeps.evDrop {s : State} {a : Nat} (hs : s₀.Keeps false s) : s₀.Keeps false (s.evDrop a) := hs.count.event
theorem Keeps.takeEvent {s : State} {e : GndEvent} (hs : s₀.Keeps false s) : s₀.Keeps false (s.takeEvent e) := by
  unfold State.takeEvent
  dsimp only
  split
  · refine .ite hs.evDrop ?_
    split
    · exact hs.evDrop
    · exact (Keeps.ite hs hs.frame).setGnd
  · exact hs.setGnd.handOff
  · exact hs.forL (fun ht => ht.setBit)
theorem Keeps.deadReckon {s : State} (hs : s₀.Keeps false s) : s₀.Keeps false s.deadReckon :=
  .ite (.ite (Keeps.ite hs.frame hs).setGnd (Keeps.ite hs.frame hs).setVs) (Keeps.ite hs.frame hs).frame.setVs.setGnd
theorem Keeps.takeFix {s : State} {x : Fix} (hs : s₀.Keeps false s) : s₀.Keeps false (s.takeFix x) :=
  .ite hs.count (.ite hs (.ite hs.setGnd hs.setGnd.setVs.setBit.setBit.setGnd))
theorem Keeps.evict {s : State} (hs : s₀.Keeps false s) : s₀.Keeps false s.evict := hs.forL (fun ht => ht.writeBack)
theorem Keeps.pageMove {s : State} (hs : s₀.Keeps false s) : s₀.Keeps false s.pageMove := .ite hs hs.setGnd.evict.setBit
theorem Keeps.pageCommit {s : State} (hs : s₀.Keeps false s) : s₀.Keeps false s.pageCommit := .ite hs.setReg.setBit.setGnd hs
theorem Keeps.gndCmd {w : Word} {s : State} (hs : s₀.Keeps false s) : s₀.Keeps false (gndCmd w s) := by
  unfold Machine.gndCmd
  exact (((hs.when (fun ht => ht.clearRegs)).when (fun hs => hs.writeBackAll)).when (fun hs => hs.pageMove)).when (fun hs =>
    hs.pageCommit)
theorem Keeps.vsCommit {p : Port} {x1 : Word} {s0 : State} (hs0 : s₀.Keeps false s0) : s₀.Keeps false (vsCommit p x1 s0) := by
  unfold Machine.vsCommit
  extract_lets s q
  have hs : s₀.Keeps false s := hs0.forL (fun ht => ht.commitHeld)
  exact .ite hs.count.event (.ite hs.count.event (.ite hs hs.setVs))
theorem Completes.execGndVsCommit {el : Nat} {p : Port} {v : Word} {s : State} : s.Completes (execGndVsCommit el p v s) :=
  .next (Keeps.refl.begin.writeCmd (fun hs0 => hs0.vsCommit))
theorem Completes.execFusedDrTick {el : Nat} {s : State} : s.Completes (execFusedDrTick el s) :=
  .next (Keeps.refl.begin.onIsland (fun ht => .ite ht.deadReckon ht))
theorem Completes.execFusedFix {el : Nat} {s : State} : s.Completes (execFusedFix el s) := by
  unfold Machine.execFusedFix
  refine .next ?_
  refine Keeps.onIsland Keeps.refl.begin (fun ht => ?_)
  split
  · exact ht
  · exact ht.setGnd.takeFix
theorem Completes.execDrOnlyTimeout {el : Nat} {s : State} : s.Completes (execDrOnlyTimeout el s) :=
  .next (Keeps.refl.begin.onIsland (fun ht => .ite ht.setBit.setBit ht))
theorem Completes.execDrMaxExpiry {el : Nat} {s : State} : s.Completes (execDrMaxExpiry el s) :=
  .next (Keeps.refl.begin.onIsland (fun ht => .ite ht.setBit.setGnd ht))
theorem Completes.execHistoryTick {el : Nat} {s : State} : s.Completes (execHistoryTick el s) :=
  .next (Keeps.refl.begin.onIsland (fun ht => .ite ht.setGnd ht))
theorem Completes.execEvalPass {el : Nat} {bad : List (Fin 160)} {s : State} : s.Completes (execEvalPass el bad s) :=
  .next (Keeps.refl.begin.onIsland (fun ht => .ite ht.evalPass ht))
theorem Completes.execEvalPeriodSkipped {el : Nat} {s : State} : s.Completes (execEvalPeriodSkipped el s) :=
  .next (Keeps.refl.begin.onIsland (fun ht => .ite ht.count.event.setGnd ht))
theorem Completes.execSpotEventTake {el : Nat} {s : State} : s.Completes (execSpotEventTake el s) := by
  unfold Machine.execSpotEventTake
  refine .next ?_
  refine Keeps.onIsland Keeps.refl.begin (fun ht => ?_)
  split
  · exact ht
  · exact .ite ht.setGnd.takeEvent ht
theorem Completes.execBlockWriteback {el : Nat} {n : Fin 65536} {s : State} : s.Completes (execBlockWriteback el n s) :=
  .next (Keeps.refl.begin.onIsland (fun ht => ht.writeBack))
theorem Completes.execPageReady {el : Nat} {s : State} : s.Completes (execPageReady el s) :=
  .next (Keeps.refl.begin.onIsland (fun ht => .ite (Keeps.ite ht.evict ht).event.setGnd (.ite ht.evict ht)))
theorem Completes.execGndFlush {el : Nat} {p : Port} {s : State} : s.Completes (execGndFlush el p s) :=
  .next (Keeps.refl.begin.writeCmd (fun hs => hs.gndCmd))
theorem Completes.execGndPage {el : Nat} {p : Port} {s : State} : s.Completes (execGndPage el p s) :=
  .next (Keeps.refl.begin.writeCmd (fun hs => hs.gndCmd))
theorem Completes.execGndCommit {el : Nat} {p : Port} {s : State} : s.Completes (execGndCommit el p s) :=
  .next (Keeps.refl.begin.writeCmd (fun hs => hs.gndCmd))
theorem Completes.execGndCntClear {el : Nat} {p : Port} {s : State} : s.Completes (execGndCntClear el p s) :=
  .next (Keeps.refl.begin.writeCmd (fun hs => hs.gndCmd))
theorem Completes.execRasterHostWrite {el : Nat} {p : Port} {i : Fin 16777216} {v : Word} {s : State} : s.Completes
    (execRasterHostWrite el p i v s) :=
  .next (Keeps.refl.begin.writeCmd (fun ht => ht))

/-! Of `Sys2Proof/Machine/Reset.lean`. -/

/-- A device reset keeps the registers that 17 R677 names, in their order, and the whole store. -/
theorem Keeps.deviceReset {s : State} (hs : s₀.Keeps false s) : s₀.Keeps false s.deviceReset :=
  ⟨hs.queue, fun h => ⟨Tab.wf_filter _ _ _ (hs.canon h).1, (hs.canon h).2⟩, nofun⟩
theorem Keeps.resetBy {s : State} {cause : Nat} (hs : s₀.Keeps false s) : s₀.Keeps false (s.resetBy cause) :=
    hs.deviceReset.event
theorem Completes.execDeviceReset {el : Nat} {cause : Fin 5} {s : State} : s.Completes (execDeviceReset el cause s) :=
  .next Keeps.refl.begin.resetBy
theorem Completes.execResetPin {el ns : Nat} {s : State} : s.Completes (execResetPin el ns s) :=
  .next (.ite Keeps.refl.begin.resetBy Keeps.refl.begin)
theorem Completes.execResetAssert {el : Nat} {s : State} : s.Completes (execResetAssert el s) :=
  .next Keeps.refl.begin.deviceReset.frame
theorem Keeps.rstKey {p : Port} {w : Word} {s : State} (hs : s₀.Keeps false s) : s₀.Keeps false (rstKey p w s) := hs.frame
theorem Keeps.rstCmd {p : Port} {w : Word} {s : State} (hs : s₀.Keeps false s) : s₀.Keeps false (rstCmd p w s) := by
  unfold Machine.rstCmd
  split
  · exact .ite hs.resetBy hs
  · exact hs
theorem Completes.execRstKeyWrite {el : Nat} {p : Port} {v : Word} {s : State} : s.Completes (execRstKeyWrite el p v s) :=
  .next (Keeps.refl.begin.writeCmd (fun hs => hs.rstKey))
theorem Completes.execRstDevice {el : Nat} {p : Port} {s : State} : s.Completes (execRstDevice el p s) :=
  .next (Keeps.refl.begin.writeCmd (fun hs => hs.rstCmd))
theorem Completes.execDebugReset {el : Nat} {s : State} : s.Completes (execDebugReset el s) :=
  .next (.ite Keeps.refl.begin.resetBy Keeps.refl.begin)
theorem Keeps.railCause {s : State} {vbkLost : Bool} (hs : s₀.Keeps false s) : s₀.Keeps false (s.railCause vbkLost) :=
  .ite hs (.ite hs.clearRegs.setReg.frame.putRec.frame hs.event)
theorem Keeps.bootTime {s : State} {count : Nat} {ran : Bool} (hs : s₀.Keeps false s) : s₀.Keeps false (s.bootTime count ran) :=
    by
  unfold State.bootTime
  split
  · exact .ite hs.frame.setBit hs.frame
  · exact hs.frame
theorem Keeps.bootRead {s0 : State} {hits : List EccHit} (hs0 : s₀.Keeps false s0) : s₀.Keeps false (s0.bootRead hits) := by
  unfold State.bootRead
  exact hs0.devRead.frame.setFld.setFld.setFld.setReg.setReg.setReg.forN (fun hw => hw.setFld)
theorem Keeps.bootBurns {s : State} {burns : List Bool} {n : Nat} (hs : s₀.Keeps false s) : s₀.Keeps false (s.bootBurns burns
    n).2.2 :=
  hs.when (fun ht => ht.event)
theorem Keeps.bootOwner {s : State} {burns : List Bool} (hs : s₀.Keeps false s) : s₀.Keeps false (s.bootOwner burns).2 := by
  unfold State.bootOwner
  dsimp only
  split
  · exact hs.bootBurns.setOwner.setBit.frame
  · exact hs.setBit
theorem Keeps.bootBurn {x : List Bool × State} {a : Nat} (hx : s₀.Keeps false x.2) : s₀.Keeps false (State.bootBurn x a).2 :=
  hx.bootBurns.setFld
theorem Keeps.bootTamper {s : State} (hs : s₀.Keeps false s) : s₀.Keeps false s.bootTamper :=
  (hs.forN (fun ht => .ite ht.tamperReport.tamperResponse ht)).frame
theorem Keeps.bootRevert {s : State} {target : Nat} (hs : s₀.Keeps false s) : s₀.Keeps false (s.bootRevert target) := by
  unfold State.bootRevert
  split
  · exact hs
  · exact (hs.setSlot.when (fun ht => ht.setSlot)).setBit.event
theorem Keeps.bootPending {s : State} (hs : s₀.Keeps false s) : s₀.Keeps false s.bootPending := by
  unfold State.bootPending
  split
  · exact hs
  · exact hs.setSlot.when (fun ht => ht.setSlot)
theorem Keeps.secureBoot {s0 : State} {hits : List EccHit} {burns : List Bool} (hs0 : s₀.Keeps false s0) : s₀.Keeps false
    (s0.secureBoot
    hits burns) :=
  hs0.bootRead.bootBurn.bootBurn.bootOwner.bootTamper.setBit.setBit.bootRevert.bootRevert.bootPending.bootFw
theorem Keeps.bootMarker {s : State} (hs : s₀.Keeps false s) : s₀.Keeps false s.bootMarker :=
  (hs.setBit.setBit.when (fun ht => ht.event)).count.frame
theorem Completes.execResetRelease {el : Nat} {a : List EccHit} {b : List Bool} {vbkLost : Bool} {count : Nat} {ran : Bool} {s :
    State} : s.Completes (execResetRelease el a b vbkLost count ran s) :=
  .next (.ite Keeps.refl.begin.railCause.frame.bootTime.bootMarker.secureBoot Keeps.refl.begin)

/-! Of `Sys2Proof/Machine/HostWrite.lean`. -/

theorem Keeps.portCmd {w : Word} {s : State} (hs : s₀.Keeps false s) : s₀.Keeps false (portCmd w s) := hs.when (fun ht =>
    ht.clearRegs)
theorem Completes.execPortCntClear {el : Nat} {p : Port} {s : State} : s.Completes (execPortCntClear el p s) :=
  .next (Keeps.refl.begin.writeCmd (fun hs => hs.portCmd))
/-- What a command register does with a word keeps what `s₀` has. -/
structure Keeps.Cmd (s₀ : State) (c : Option (State → State)) : Prop where
  run : ∀ {f s}, c = some f → s₀.Keeps false s → s₀.Keeps false (f s)

theorem Keeps.Cmd.none : Keeps.Cmd s₀ none := ⟨nofun⟩

theorem Keeps.Cmd.some {f : State → State} (hf : ∀ {s}, s₀.Keeps false s → s₀.Keeps false (f s)) : Keeps.Cmd s₀ (some f) :=
  ⟨fun h hs => Option.some.inj h ▸ hf hs⟩

theorem Keeps.Cmd.ite {c : Prop} [Decidable c] {a b : Option (State → State)} (ha : Keeps.Cmd s₀ a) (hb : Keeps.Cmd s₀ b) :
    Keeps.Cmd s₀ (if c then a else b) := by
  split
  · exact ha
  · exact hb

theorem Keeps.sysCmd {p : Port} {base off idx : Nat} {w : Word} {e : WriteEnv} : Keeps.Cmd s₀ (sysCmd p base off idx w e) :=
  .ite (.ite (.some fun hs => hs.sysCntClear) .none)
  (.ite (.ite (.some fun hs => hs.clkCmd) (.ite (.some fun hs => hs.gateCmd) (.ite (.some fun hs => hs.rstKey)
    (.ite (.some fun hs => hs.rstCmd) .none))))
  (.ite (.ite (.some fun hs => hs.fmCmd) (.ite (.some fun hs => hs.cinchWritten) (.ite (.some fun hs => hs.safeCmd)
    (.ite (.some fun hs => hs.srcAcked) .none))))
  (.ite (.ite (.some fun hs => hs.secCmd) .none)
  (.ite (.ite (.some fun hs => hs.recCmd) .none)
  (.ite (.ite (.some fun hs => hs.ldrCtrl) (.ite (.some fun hs => hs.refuseAck) .none))
  (.ite (.ite (.some fun hs => hs.portCmd) .none)
  (.ite (.ite (.some fun hs => hs.mssCmd) .none) .none)))))))
theorem Keeps.laneCmd {p : Port} {base off inst idx : Nat} {w : Word} : Keeps.Cmd s₀ (laneCmd p base off inst idx w) :=
  .ite (.ite (.some fun hs => hs.tileCmd) (.ite (.some fun hs => hs.lrnCmd) .none))
  (.ite (.ite (.some fun hs => hs.intakeClear) (.ite (.ite (.some fun hs => hs.tgtSubmit) (.some fun hs => hs.frame)) .none))
  (.ite (.ite (.some fun hs => hs.stitchCmd) .none)
  (.ite (.ite (.some fun hs => hs.gndCmd) (.ite (.some fun hs => hs.vsCommit) .none)) .none)))
theorem Keeps.fieldCmd {base off inst idx : Nat} {w : Word} {e : WriteEnv} : Keeps.Cmd s₀ (fieldCmd base off inst idx w e) :=
  .ite (.ite (.some fun hs => hs.axCmd) (.ite (.some fun hs => hs.motCmd) .none))
  (.ite (.ite (.some fun hs => hs.fbCmd) (.ite (.some fun hs => hs.encCmd) (.ite (.some fun hs => hs.prbCmd) .none)))
  (.ite (.ite (.some fun hs => hs.swCmd) .none)
  (.ite (.ite (.some fun hs => hs.swChCmd) .none)
  (.ite (.ite (.some fun hs => hs.canCmd) (.ite (.some fun hs => hs.fifoPop) .none))
  (.ite (.ite (.some fun hs => hs.gnssCmd) (.ite (.some fun hs => hs.aidHdrWritten) (.ite (.some fun hs => hs.aidDataWritten)
    .none)))
  (.ite (.ite (.some fun hs => hs.dtCmd) .none) .none))))))
theorem Keeps.hostCmd {p : Port} {base off inst idx : Nat} {w : Word} {e : WriteEnv} :
    Keeps.Cmd s₀ (hostCmd p base off inst idx w e) := by
  unfold Machine.hostCmd
  split
  case h_1 f _ h => exact h ▸ Keeps.sysCmd
  case h_2 f _ h => exact h ▸ Keeps.laneCmd
  case h_3 => exact Keeps.fieldCmd
theorem Keeps.hostAct {p : Port} {a : Nat} {e : WriteEnv} {w : Word} {s : State} (hs : s₀.Keeps false s) :
    s₀.Keeps false (hostAct p a e w s).2 := by
  unfold Machine.hostAct
  split
  · split
    · exact hs
    split
    · exact hs
    split
    · exact hs.restartWrite
    split
    · exact hs.restartWrite
    dsimp only
    split
    case h_1 f hf => exact Keeps.hostCmd.run hf hs.storeAt
    case h_2 => exact .ite hs.storeAt hs.storeAt.hostHook
  · exact hs
theorem Keeps.writeWord {s : State} {p : Port} {a : Nat} {v : Word} {e : WriteEnv} (hs : s₀.Keeps false s) : s₀.Keeps false
    (s.writeWord p a
    v e).2 := by
  unfold State.writeWord
  split
  · exact hs.windowWrite
  · exact hs.hostWrite (fun ha => ha.hostAct)
theorem Completes.execRegisterWrite {el : Nat} {p : Port} {a : Nat} {v : Word} {e : WriteEnv} {s : State} : s.Completes
    (execRegisterWrite el p a v e s) :=
  .next (Keeps.refl.begin.atPort (fun ht => ht.writeWord.send))

/-! Of `Sys2Proof/Machine/HostRead.lean`. -/

theorem Keeps.setCaps {p : Port} {l : List Word} : ∀ {s : State} {a : Nat}, s₀.Keeps false s → s₀.Keeps false (s.setCaps p a l)
    := by
  induction l with
  | nil => exact fun hs => hs
  | cons w r ih => exact fun hs => ih hs.setCap
theorem Keeps.spanRead {p : Port} {lo n : Nat} {x3 : State} (hx3 : s₀.Keeps false x3) : s₀.Keeps false (spanRead p lo n x3).2 :=
    hx3.setCaps
theorem Keeps.plainRead {p : Port} {a : Nat} {x2 : State} (hx2 : s₀.Keeps false x2) : s₀.Keeps false (plainRead p a x2).2 := by
  unfold Machine.plainRead
  split
  · split
    · exact hx2.spanRead
    · exact hx2
  · exact hx2
theorem Keeps.storeRead {hits : List EccHit} {a : Nat} {v : Word} {x3 : State} (hx3 : s₀.Keeps false x3) : s₀.Keeps false
    (storeRead hits a
    v x3).2 :=
  hx3.devRead
theorem Keeps.winRead {hits : List EccHit} {i : Nat} {x2 : State} (hx2 : s₀.Keeps false x2) : s₀.Keeps false (winRead hits i
    x2).2 := by
  unfold Machine.winRead
  refine Keeps.storeRead ?_
  split
  · exact hx2.win0Read
  · split
    · exact hx2.win63Read
    · exact hx2
theorem Keeps.ite_snd {α : Type} {c : Prop} [Decidable c] {a b : α × State} (ha : s₀.Keeps false a.2) (hb : s₀.Keeps false b.2)
    :
    s₀.Keeps false (if c then a else b).2 := by
  split
  · exact ha
  · exact hb
theorem Keeps.readAct {p : Port} {a : Nat} {hits : List EccHit} {s : State} (hs : s₀.Keeps false s) :
    s₀.Keeps false (readAct p a hits s).2 := by
  unfold Machine.readAct
  split
  · exact .ite_snd hs.frame (.ite_snd hs.frame (.ite_snd hs.readSrcStat (.ite_snd hs (.ite_snd hs (.ite_snd hs.winRead
      (.ite_snd hs.calCapture (.ite_snd hs (.ite_snd hs.noteSat (.ite_snd hs.prbRead (.ite_snd hs (.ite_snd hs.objRead
      (.ite_snd hs hs.plainRead))))))))))))
  · exact .ite_snd hs.storeRead hs
theorem Keeps.readWord {s : State} {p : Port} {a : Nat} {hits : List EccHit} (hs : s₀.Keeps false s) : s₀.Keeps false
    (s.readWord p a
    hits).2.2 :=
  hs.hostRead (fun ha => ha.readAct)
theorem Completes.execMultiwordCaptureRead {e : Seen (List EccHit)} {p : Port} {a : Nat} {s : State} : s.Completes
    (execMultiwordCaptureRead e p a s) :=
  .next (Keeps.refl.begin.readCmd (fun ha => ha.readAct))
theorem Completes.execRecWin0Read {e : Seen (List EccHit)} {p : Port} {s : State} : s.Completes (execRecWin0Read e p s) :=
  .next (Keeps.refl.begin.readCmd (fun ha => ha.winRead))
theorem Completes.execRecWin63Read {e : Seen (List EccHit)} {p : Port} {s : State} : s.Completes (execRecWin63Read e p s) :=
  .next (Keeps.refl.begin.readCmd (fun ha => ha.winRead))

/-! Of `Sys2Proof/Machine/Ports.lean`. -/

theorem Keeps.runStart {s : State} {envs : List WriteEnv} {hits : List EccHit} (hs : s₀.Keeps false s) : s₀.Keeps false
    (Run.start s envs
    hits).s :=
  hs
theorem Keeps.runNote {r : Run} {i code : Nat} (hr : s₀.Keeps false r.s) : s₀.Keeps false (Run.note r i code).s := by
  unfold Run.note
  split
  · exact hr
  · exact hr
theorem Keeps.runRead {r : Run} {p : Port} {a i : Nat} (hr : s₀.Keeps false r.s) : s₀.Keeps false (Run.read r p a i).s :=
  hr.readWord.runNote
theorem Keeps.runWrite {r : Run} {p : Port} {a i : Nat} {v : Word} (hr : s₀.Keeps false r.s) : s₀.Keeps false (Run.write r p a i
    v).s :=
  hr.writeWord.runNote
theorem Keeps.runRmw {r : Run} {p : Port} {a : Nat} {m v : Word} (hr : s₀.Keeps false r.s) : s₀.Keeps false (Run.rmw r p a m
    v).s := by
  unfold Run.rmw
  dsimp only
  split
  · exact hr.readWord.runNote.runWrite
  · exact hr.readWord.runNote
theorem Keeps.runReadN {r : Run} {p : Port} {a : Word} {fixed : Bool} {n : Nat} (hr : s₀.Keeps false r.s) :
    s₀.Keeps false (r.readN p a fixed n).s :=
  List.foldlRecOn (motive := fun x : Run => s₀.Keeps false x.s) _ _ hr (fun _ hx _ _ => hx.runRead)
theorem Keeps.runWriteN {r : Run} {p : Port} {a : Word} {fixed : Bool} {l : List Word} (hr : s₀.Keeps false r.s) :
    s₀.Keeps false (r.writeN p a fixed l).s :=
  List.foldlRecOn (motive := fun x : Run => s₀.Keeps false x.s) _ _ hr (fun _ hx _ _ => hx.runWrite)
theorem Keeps.regOpRun {o : RegOp} {r : Run} (hr : s₀.Keeps false r.s) : s₀.Keeps false (RegOp.run o r).s := by
  unfold RegOp.run
  split
  · exact hr.runReadN
  · exact hr.runWriteN
  · exact hr.runRmw
  · exact hr.runReadN
  · exact hr.runWriteN
theorem Keeps.runOps {stop : Bool} {hits : List EccHit} {l : List RegOp} :
    ∀ {st : Nat} {s : State} {envs : List WriteEnv}, s₀.Keeps false s → s₀.Keeps false (runOps stop hits l st s envs).2.2 := by
  induction l with
  | nil => exact fun hs => hs
  | cons o l ih =>
    intro st s envs hs
    unfold Machine.runOps
    split
    · exact ih hs
    · exact ih hs.runStart.regOpRun
theorem Keeps.answer {s : State} {src : BitVec 48} {r : List Byte} (hs : s₀.Keeps false s) : s₀.Keeps false (s.answer src r) :=
    hs.ethSend
theorem Keeps.regRequest {s : State} {src : BitVec 48} {b : List Byte} {e : ReqEnv} (hs : s₀.Keeps false s) : s₀.Keeps false
    (s.regRequest
    src b e) := by
  unfold State.regRequest
  dsimp only
  split
  · exact hs.answer
  · split
    · exact hs.count.answer
    · exact hs.runOps.frame.answer
theorem Keeps.regRefused {s : State} {src : BitVec 48} {b : List Byte} (hs : s₀.Keeps false s) : s₀.Keeps false (s.regRefused
    src b) := by
  unfold State.regRefused
  split
  · exact hs.answer
  · exact hs.answer
theorem Keeps.regNext {s : State} {e : ReqEnv} (hs : s₀.Keeps false s) : s₀.Keeps false (s.regNext e) := by
  unfold State.regNext
  split
  · exact hs
  · exact .ite hs.frame.regRequest hs.frame.regRefused
theorem Completes.execRegAccessRequest {el : Nat} {f : RxFrame} {run : Nat} {envs : List ReqEnv} {s : State} : s.Completes
    (execRegAccessRequest el f run envs s) := by
  unfold Machine.execRegAccessRequest
  refine .next ?_
  refine .ite ?_ ?_
  · refine Keeps.forN ?_ (fun hu => hu.regNext)
    split
    · exact .ite Keeps.refl.begin.macRx (.ite Keeps.refl.begin.macRx.count.event Keeps.refl.begin.macRx.frame)
    · exact Keeps.refl.begin.macRx
  · split
    · exact .ite Keeps.refl.begin.macRx (.ite Keeps.refl.begin.macRx.count.event Keeps.refl.begin.macRx.frame)
    · exact Keeps.refl.begin.macRx
theorem Completes.execNotifyTx {el : Nat} {s : State} : s.Completes (execNotifyTx el s) := by
  refine .next (Keeps.ite ?_ Keeps.refl.begin.ethFlush)
  split
  case h_1 u hu => exact (Keeps.refl.begin.ethFlush.ethSend.of_pair hu).setEth.count
  case h_2 => exact Keeps.refl.begin.ethFlush
theorem Completes.execPauseFrameRx {el : Nat} {e : EthPort} {f : RxFrame} {s : State} : s.Completes (execPauseFrameRx el e f s)
    :=
  .next (.ite Keeps.refl.begin.macRx Keeps.refl.begin)
theorem Completes.execEthLinkChange {el : Nat} {e : EthPort} {linkUp aneg : Bool} {speed : Fin 3} {s : State} : s.Completes
    (execEthLinkChange el e linkUp aneg speed s) :=
  .next (Keeps.refl.begin.onIsland (fun ht => .ite ht.linkSet.setBit.setFld ht))
theorem Keeps.qRow {s : State} {code : Nat} {cmd : Byte} {act : State → State} (hs : s₀.Keeps false s) (hact : ∀ {y0}, s₀.Keeps
    false y0 →
    s₀.Keeps false (act y0)) : s₀.Keeps false (s.qRow code cmd act) :=
  hs.onIsland (fun ht => .ite (hact ht) (.ite ht ht.count.event))
theorem Keeps.qNote {s : State} {tx st done : Nat} (hs : s₀.Keeps false s) : s₀.Keeps false (s.qNote tx st done) :=
  hs.when (fun ht => ht.frame)
theorem Keeps.qStep {s : State} (hs : s₀.Keeps false s) : s₀.Keeps false s.qStep := by
  unfold State.qStep
  split
  · exact hs
  · exact hs.frame.writeWord.qNote
theorem Keeps.qRun {s : State} {n : Nat} (hs : s₀.Keeps false s) : s₀.Keeps false (s.qRun n) := hs.forN (fun ht => ht.qStep)
theorem Keeps.qDrain {s : State} (hs : s₀.Keeps false s) : s₀.Keeps false s.qDrain := hs.qRun
theorem Keeps.qRead {s : State} {hits : List EccHit} {a : Word} {fixed : Bool} {n : Nat} (hs : s₀.Keeps false s) :
    s₀.Keeps false (s.qRead hits a fixed n) :=
  (List.foldlRecOn (motive := fun x : List Byte × State => s₀.Keeps false x.2) _ _ hs.qDrain (fun _ hx _ _ => hx.readWord)).send
theorem Completes.execQread {e : Seen (Byte × List EccHit)} {a : Word} {n : Nat} {s : State} : s.Completes (execQread e a n s)
    :=
  .next (Keeps.refl.begin.qRow (fun ht => ht.qRead))
theorem Completes.execQreadFixed {e : Seen (Byte × List EccHit)} {a : Word} {n : Nat} {s : State} : s.Completes (execQreadFixed
    e a n s) :=
  .next (Keeps.refl.begin.qRow (fun ht => ht.qRead))
theorem Keeps.qDrop {s : State} {a st : Nat} {cnt : Option Nat} (hs : s₀.Keeps false s) : s₀.Keeps false (s.qDrop a st cnt) :=
    by
  unfold State.qDrop
  refine Keeps.qNote ?_
  refine Keeps.portFail ?_
  split
  · exact hs.count.event
  · exact hs
theorem Keeps.qPut {s : State} {a : Word} {fixed : Bool} {env : WriteEnv} {i : Nat} {b : List Byte} (hs : s₀.Keeps false s) :
    s₀.Keeps false
    (s.qPut a fixed env i b) :=
  .ite hs.qDrop (.ite hs.qDrop (.ite hs.qDrop hs.frame))
theorem Keeps.qWrite {s : State} {a : Word} {fixed : Bool} {b : List Byte} {pace : List Nat} {envs : List WriteEnv}
    (hs : s₀.Keeps false s) : s₀.Keeps false (s.qWrite a fixed b pace envs) :=
  (List.foldlRecOn (motive := s₀.Keeps false) _ _ hs.frame (fun _ hx _ _ => hx.qRun.qPut)).qRun
theorem Completes.execQwrite {e : Seen Byte} {a : Word} {b : List Byte} {pace : List Nat} {envs : List WriteEnv} {s : State} :
    s.Completes (execQwrite e a b pace envs s) :=
  .next (Keeps.refl.begin.qRow (fun ht => ht.qWrite))
theorem Completes.execQwriteFixed {e : Seen Byte} {a : Word} {b : List Byte} {pace : List Nat} {envs : List WriteEnv} {s :
    State} : s.Completes (execQwriteFixed e a b pace envs s) :=
  .next (Keeps.refl.begin.qRow (fun ht => ht.qWrite))
theorem Completes.execQrmw {q : Seen (Byte × List EccHit)} {a m v : Word} {check : Byte} {e : WriteEnv} {s : State} :
    s.Completes (execQrmw q a m v check e s) :=
  .next (Keeps.refl.begin.qRow (fun ht0 => .ite ht0.qDrain.count.event.portFail.send ht0.qDrain.runStart.runRmw.send))
theorem Completes.execGetStatus {e : Seen Byte} {s : State} : s.Completes (execGetStatus e s) :=
  .next (Keeps.refl.begin.qRow (fun ht0 => ht0.qDrain.send))

/-! Of `Sys2Proof/Machine/Sram.lean`. -/

theorem Keeps.setSramBad {s : State} {i : Nat} {b : Bool} (hs : s₀.Keeps false s) : s₀.Keeps false (s.setSramBad i b) :=
    hs.frame
theorem Keeps.sramRead {s : State} {i : Nat} {err : Ecc} (hs : s₀.Keeps false s) : s₀.Keeps false (s.sramRead i err).2 := by
  unfold State.sramRead
  dsimp only
  split
  · exact hs.setSramBad.count.event.fault
  · split
    · exact hs.count.event
    · exact hs
theorem Keeps.discard {s : State} {region : Nat} {item : SramItem} (hs : s₀.Keeps false s) : s₀.Keeps false (s.discard region
    item) := by
  unfold State.discard
  split
  · split
    · exact hs.setFifo.fifoFell.count
    · exact hs
  · exact hs.upset.sift
  · exact .ite hs.setMarks.count.event hs
  · exact .ite hs.abortObj (.ite hs.setBit.count.event hs)
  · exact .ite hs hs.frame.count.event
  · exact .ite hs.frame.count.event hs
  · exact hs.setEth
  · split
    · exact hs.frame.qDrop
    · exact hs
  · exact hs
theorem Completes.execSramScrubRead {e : Seen Nat} {x : SramRead} {s : State} : s.Completes (execSramScrubRead e x s) := by
  unfold Machine.execSramScrubRead
  split
  · exact .next (Keeps.refl.begin.onIsland (fun ht0 => .ite (ht0.bgWait.when (fun hw => hw.setSramBad)).sramRead.frame
      (ht0.bgWait.when (fun hw => hw.setSramBad)).sramRead.frame.count))
  · exact .next (Keeps.refl.begin.onIsland (fun ht0 => .ite (ht0.when (fun hw => hw.setSramBad)) (.ite (ht0.when (fun hw =>
      hw.setSramBad)).sramRead.discard (ht0.when (fun hw => hw.setSramBad)).sramRead)))

/-! Of `Sys2Proof/Machine/Usb.lean`. -/

theorem Completes.execUsbAttach {el : Nat} {s : State} : s.Completes (execUsbAttach el s) :=
  .next (Keeps.refl.begin.onIsland (fun ht => .ite ht ht.setBit.event))
theorem Completes.execUsbDetach {el : Nat} {busReset : Bool} {s : State} : s.Completes (execUsbDetach el busReset s) :=
  .next (Keeps.refl.begin.onIsland (fun ht => .ite ht.setReg.setBit.closeSession.trimShow.frame ht))
theorem Keeps.usbEndFail {s : State} {st : Nat} (hs : s₀.Keeps false s) : s₀.Keeps false (UsbEnd.fail s st).s := hs
theorem Keeps.usbEndFinish {e : UsbEnd} {b : UsbBlk} (he : s₀.Keeps false e.s) : s₀.Keeps false (UsbEnd.finish e b) := .ite he
    he.usbStatus
theorem Keeps.usbRow {s : State} {code : Nat} {b : UsbBlk} {act : State → UsbEnd} (hs : s₀.Keeps false s)
    (hact : ∀ {y}, s₀.Keeps false y → s₀.Keeps false (act y).s) : s₀.Keeps false (s.usbRow code b act) := by
  refine hs.onIsland fun {t} ht => Keeps.ite ht (Keeps.ite ht ?_)
  have hu : s₀.Keeps false ((((t.setBit R.USB_STAT 30 true).setBit R.USB_STAT 29 false).trimShow.setFld R.USB_STAT 0 8
    b.cmd.toNat).updSec
      fun q => { q with blkAt := t.now }) := ht.setBit.setBit.trimShow.setFld.frame
  exact Keeps.ite (hu.usbEndFail.usbEndFinish) (Keeps.ite (hu.usbEndFail.usbEndFinish) ((hact hu).usbEndFinish))
theorem Completes.execGetInfo {el : Nat} {b : UsbBlk} {s : State} : s.Completes (execGetInfo el b s) :=
  .next (Keeps.refl.begin.usbRow (fun ht => ht))
theorem Completes.execRegRead {e : Seen (List EccHit)} {b : UsbBlk} {s : State} : s.Completes (execRegRead e b s) :=
  .next (Keeps.refl.begin.usbRow (fun ht => ht.runStart.runReadN))
theorem Completes.execRegWrite {el : Nat} {b : UsbBlk} {data : List Byte} {envs : List WriteEnv} {s : State} : s.Completes
    (execRegWrite el b data envs s) := by
  unfold Machine.execRegWrite
  refine .next ?_
  refine Keeps.usbRow Keeps.refl.begin (fun ht => ?_)
  split
  · exact ht.runStart.runWriteN
  · exact ht.portFail
theorem Keeps.stageBytes {s : State} {a : Nat} {l : List Byte} (hs : s₀.Keeps false s) : s₀.Keeps false (s.stageBytes a l) :=
  hs.touchSlot.setStoreBytes
theorem Completes.execStageWrite {el : Nat} {b : UsbBlk} {data : List Byte} {s : State} : s.Completes (execStageWrite el b data
    s) := by
  unfold Machine.execStageWrite
  refine .next ?_
  refine Keeps.usbRow Keeps.refl.begin (fun ht => ?_)
  dsimp only
  split
  · exact ht.usbEndFail
  · split
    · exact ht.usbEndFail
    · split
      · exact ht.usbEndFail
      · split
        · exact ht.usbEndFail
        · split
          · exact ht.usbEndFail
          · exact ht.stageBytes
theorem Keeps.usbHold {s : State} {b : UsbBlk} {loader : Bool} (hs : s₀.Keeps false s) : s₀.Keeps false (s.usbHold b loader) :=
    hs.frame
theorem Completes.execStageCommit {el : Nat} {b : UsbBlk} {c : List EccHit} {s : State} :
    s.Completes (execStageCommit el b c s) := by
  refine .next (Keeps.refl.begin.usbRow fun {t} ht => ?_)
  dsimp only
  split
  · exact ht
  split
  · split
    · exact ht.setReg.devRead.ldrCtrl.usbHold
    · dsimp only
      exact ht.setReg.devRead.ldrCtrl
  split
  · exact ht
  split
  · exact ht
  split
  · exact ht
  · exact ht.usbHold.commitStart
theorem Completes.execRecorderRead {e : Seen (List EccHit)} {b : UsbBlk} {s : State} : s.Completes (execRecorderRead e b s) :=
    by
  unfold Machine.execRecorderRead
  refine .next ?_
  refine Keeps.usbRow Keeps.refl.begin (fun ht => ?_)
  dsimp only
  split
  · exact ht.usbEndFail
  · split
    · exact ht.usbEndFail
    · exact ht.devRead
theorem Completes.execUsbAttest {el : Nat} {b : UsbBlk} {nonce rnd : List Byte} {s : State} : s.Completes (execUsbAttest el b
    nonce rnd s) := by
  unfold Machine.execUsbAttest
  refine .next ?_
  refine Keeps.usbRow Keeps.refl.begin (fun ht => ?_)
  split
  · exact ht
  · exact ht.frame
theorem Completes.execGetReport {el : Nat} {b : UsbBlk} {s : State} : s.Completes (execGetReport el b s) :=
  .next (Keeps.refl.begin.usbRow (fun ht => ht))
theorem Completes.execSessionOut {el : Nat} {magic : BitVec 16} {cmd rsv : Byte} {tag len param : Word} {x : Moved} {s : State}
    : s.Completes (execSessionOut el magic cmd rsv tag len param x s) :=
  .next (Keeps.refl.begin.usbRow (fun ht => ht.sessMsg))
theorem Completes.execSessionIn {el : Nat} {b : UsbBlk} {s : State} : s.Completes (execSessionIn el b s) :=
  .next (Keeps.refl.begin.usbRow (fun ht => ht))

end State

/-- Every command answers a next state, with the queue and the canonical form it found. -/
theorem exec_completes (i : Instr) (s : State) : s.Completes (exec i s) :=
  match i with
  | .registerWrite .. => .execRegisterWrite
  | .multiwordCaptureRead .. => .execMultiwordCaptureRead
  | .linkTransfer .. => .execLinkTransfer
  | .handshakeTimeout .. => .execHandshakeTimeout
  | .clockMonitorWindow .. => .execClockMonitorWindow
  | .islandRestart .. => .execIslandRestart
  | .islandRestartBegin .. => .execIslandRestartBegin
  | .islandUp .. => .execIslandUp
  | .dtSyncToken .. => .execDtSyncToken
  | .sysCntClear .. => .execSysCntClear
  | .resetAssert .. => .execResetAssert
  | .resetRelease .. => .execResetRelease
  | .bootImageLoad .. => .execBootImageLoad
  | .sealTimeout .. => .execSealTimeout
  | .ldrSeal .. => .execLdrSeal
  | .ldrVerify .. => .execLdrVerify
  | .verifyComplete .. => .execVerifyComplete
  | .ldrArm .. => .execLdrArm
  | .shadowBanksLoaded .. => .execShadowBanksLoaded
  | .thFinal .. => .execThFinal
  | .handoverSwap .. => .execHandoverSwap
  | .patchLogMarked .. => .execPatchLogMarked
  | .boundaryTimeout .. => .execBoundaryTimeout
  | .ldrAbort .. => .execLdrAbort
  | .ldrAck .. => .execLdrAck
  | .ldrClearCnt .. => .execLdrClearCnt
  | .ldrRefuseAck .. => .execLdrRefuseAck
  | .huzerFrame .. => .execHuzerFrame
  | .pauseRefresh .. => .execPauseRefresh
  | .streamResync .. => .execStreamResync
  | .tgtSubmit .. => .execTgtSubmit
  | .targetDispatch .. => .execTargetDispatch
  | .intakeCntClear .. => .execIntakeCntClear
  | .beltSample .. => .execBeltSample
  | .stitchRetimeBelt .. => .execStitchRetimeBelt
  | .gndVsCommit .. => .execGndVsCommit
  | .fusedDrTick .. => .execFusedDrTick
  | .fusedFix .. => .execFusedFix
  | .drOnlyTimeout .. => .execDrOnlyTimeout
  | .drMaxExpiry .. => .execDrMaxExpiry
  | .historyTick .. => .execHistoryTick
  | .evalPass .. => .execEvalPass
  | .evalPeriodSkipped .. => .execEvalPeriodSkipped
  | .spotEventTake .. => .execSpotEventTake
  | .blockWriteback .. => .execBlockWriteback
  | .gndFlush .. => .execGndFlush
  | .gndPage .. => .execGndPage
  | .pageReady .. => .execPageReady
  | .gndCommit .. => .execGndCommit
  | .gndCntClear .. => .execGndCntClear
  | .rasterHostWrite .. => .execRasterHostWrite
  | .stitchPlace .. => .execStitchPlace
  | .latencyRecompute .. => .execLatencyRecompute
  | .stitchCommit .. => .execStitchCommit
  | .stitchCancel .. => .execStitchCancel
  | .sectionOn .. => .execSectionOn
  | .sectionOff .. => .execSectionOff
  | .dutyUpdate .. => .execDutyUpdate
  | .spotRetime .. => .execSpotRetime
  | .stitchFlush .. => .execStitchFlush
  | .stitchCntClear .. => .execStitchCntClear
  | .stitchCalCapture .. => .execStitchCalCapture
  | .ghTurnOn .. => .execGhTurnOn
  | .openInstant .. => .execOpenInstant
  | .peakReached .. => .execPeakReached
  | .peakEnd .. => .execPeakEnd
  | .boostTimeout .. => .execBoostTimeout
  | .holdReached .. => .execHoldReached
  | .chopCycle .. => .execChopCycle
  | .closeInstant .. => .execCloseInstant
  | .splitReached .. => .execSplitReached
  | .firingEnd .. => .execFiringEnd
  | .clampIntervalEnd .. => .execClampIntervalEnd
  | .clampPowerWindow .. => .execClampPowerWindow
  | .ghTurnOff .. => .execGhTurnOff
  | .groupTrip .. => .execGroupTrip
  | .grpClear .. => .execGrpClear
  | .groupOverload .. => .execGroupOverload
  | .ghStuck .. => .execGhStuck
  | .laneOpenCheck .. => .execLaneOpenCheck
  | .laneOpenHold .. => .execLaneOpenHold
  | .laneShort .. => .execLaneShort
  | .laneOc .. => .execLaneOc
  | .rmeasWindowClose .. => .execRmeasWindowClose
  | .thermalTick .. => .execThermalTick
  | .idleTestStart .. => .execIdleTestStart
  | .idleTestResult .. => .execIdleTestResult
  | .peakInhibit .. => .execPeakInhibit
  | .peakInhibitEnd .. => .execPeakInhibitEnd
  | .groundLoss .. => .execGroundLoss
  | .groundReturn .. => .execGroundReturn
  | .tileOt .. => .execTileOt
  | .tileOtClear .. => .execTileOtClear
  | .tileTempWarn .. => .execTileTempWarn
  | .tileCntClear .. => .execTileCntClear
  | .kneeSearchEnd .. => .execKneeSearchEnd
  | .stuckTimeReached .. => .execStuckTimeReached
  | .closingSearchEnd .. => .execClosingSearchEnd
  | .modelUpdate .. => .execModelUpdate
  | .acceptOpen .. => .execAcceptOpen
  | .acceptClose .. => .execAcceptClose
  | .lrnClear .. => .execLrnClear
  | .burnishNow .. => .execBurnishNow
  | .modelCopy .. => .execModelCopy
  | .burnishStart .. => .execBurnishStart
  | .burnishComplete .. => .execBurnishComplete
  | .burnishStale .. => .execBurnishStale
  | .profileUpdate .. => .execProfileUpdate
  | .holdCurrentSwitch .. => .execHoldCurrentSwitch
  | .stepPulse .. => .execStepPulse
  | .axisOc .. => .execAxisOc
  | .axisOpen .. => .execAxisOpen
  | .axisVmUv .. => .execAxisVmUv
  | .vmRecover .. => .execVmRecover
  | .motionOt .. => .execMotionOt
  | .motOtClear .. => .execMotOtClear
  | .motCntClear .. => .execMotCntClear
  | .axStop .. => .execAxStop
  | .axHold .. => .execAxHold
  | .axRelease .. => .execAxRelease
  | .encSync .. => .execEncSync
  | .setActual .. => .execSetActual
  | .encoderEdge .. => .execEncoderEdge
  | .encRateRecover .. => .execEncRateRecover
  | .indexEdge .. => .execIndexEdge
  | .encBreak .. => .execEncBreak
  | .encBreakClear .. => .execEncBreakClear
  | .speedWindowEnd .. => .execSpeedWindowEnd
  | .encLoad .. => .execEncLoad
  | .indexArm .. => .execIndexArm
  | .serialFrameStart .. => .execSerialFrameStart
  | .serialFrameEnd .. => .execSerialFrameEnd
  | .serialTimeout .. => .execSerialTimeout
  | .probeEdge .. => .execProbeEdge
  | .probeStuck .. => .execProbeStuck
  | .probeArm .. => .execProbeArm
  | .probePop .. => .execProbePop
  | .probeCapRead .. => .execProbeCapRead
  | .cmpValWrite .. => .execCmpValWrite
  | .cmpCfgWrite .. => .execCmpCfgWrite
  | .cmpPulseEnd .. => .execCmpPulseEnd
  | .fbCntClear .. => .execFbCntClear
  | .switchOn .. => .execSwitchOn
  | .switchOff .. => .execSwitchOff
  | .inrushEnd .. => .execInrushEnd
  | .limitEnter .. => .execLimitEnter
  | .limitTimeout .. => .execLimitTimeout
  | .fastTrip .. => .execFastTrip
  | .channelOt .. => .execChannelOt
  | .pauseEnd .. => .execPauseEnd
  | .channelRestart .. => .execChannelRestart
  | .triesClear .. => .execTriesClear
  | .clrRetry .. => .execClrRetry
  | .clrTh .. => .execClrTh
  | .clusterOt .. => .execClusterOt
  | .clusterOtClear .. => .execClusterOtClear
  | .switchOpenOn .. => .execSwitchOpenOn
  | .switchOpenOff .. => .execSwitchOpenOff
  | .switchStuck .. => .execSwitchStuck
  | .switchShortVbat .. => .execSwitchShortVbat
  | .vbatUv .. => .execVbatUv
  | .vbatUvRecover .. => .execVbatUvRecover
  | .reverseBattery .. => .execReverseBattery
  | .reverseEnd .. => .execReverseEnd
  | .overvolt .. => .execOvervolt
  | .swCntClear .. => .execSwCntClear
  | .antShort .. => .execAntShort
  | .antClear .. => .execAntClear
  | .antOpen .. => .execAntOpen
  | .aidTime .. => .execAidTime
  | .aidPos .. => .execAidPos
  | .aidNavCommit .. => .execAidNavCommit
  | .gnssForget .. => .execGnssForget
  | .navPop .. => .execNavPop
  | .gnssCntClear .. => .execGnssCntClear
  | .gnssRetain .. => .execGnssRetain
  | .measEpoch .. => .execMeasEpoch
  | .navUnit .. => .execNavUnit
  | .navSolution .. => .execNavSolution
  | .dtMeasurement .. => .execDtMeasurement
  | .dtSourceLoss .. => .execDtSourceLoss
  | .holdoverSecond .. => .execHoldoverSecond
  | .ppsEdge .. => .execPpsEdge
  | .timePulse .. => .execTimePulse
  | .dtModelClear .. => .execDtModelClear
  | .dtCntClear .. => .execDtCntClear
  | .rtcLatch .. => .execRtcLatch
  | .canInitSet .. => .execCanInitSet
  | .canInitClear .. => .execCanInitClear
  | .canFrameRx .. => .execCanFrameRx
  | .txReqSet .. => .execTxReqSet
  | .txReqWithdraw .. => .execTxReqWithdraw
  | .canAbortAll .. => .execCanAbortAll
  | .canFrameTxDone .. => .execCanFrameTxDone
  | .canError .. => .execCanError
  | .canRecover .. => .execCanRecover
  | .busoffRecovered .. => .execBusoffRecovered
  | .canFifoPop .. => .execCanFifoPop
  | .objCaptureRead .. => .execObjCaptureRead
  | .canFvWrite .. => .execCanFvWrite
  | .referenceRequest .. => .execReferenceRequest
  | .canTmHandoff .. => .execCanTmHandoff
  | .canCntClear .. => .execCanCntClear
  | .regAccessRequest .. => .execRegAccessRequest
  | .notifyTx .. => .execNotifyTx
  | .pauseFrameRx .. => .execPauseFrameRx
  | .portCntClear .. => .execPortCntClear
  | .qread .. => .execQread
  | .qreadFixed .. => .execQreadFixed
  | .qwrite .. => .execQwrite
  | .qwriteFixed .. => .execQwriteFixed
  | .qrmw .. => .execQrmw
  | .getStatus .. => .execGetStatus
  | .usbAttach .. => .execUsbAttach
  | .usbDetach .. => .execUsbDetach
  | .getInfo .. => .execGetInfo
  | .regRead .. => .execRegRead
  | .regWrite .. => .execRegWrite
  | .stageWrite .. => .execStageWrite
  | .stageCommit .. => .execStageCommit
  | .recorderRead .. => .execRecorderRead
  | .usbAttest .. => .execUsbAttest
  | .getReport .. => .execGetReport
  | .sessionOut .. => .execSessionOut
  | .sessionIn .. => .execSessionIn
  | .faultOccurrence .. => .execFaultOccurrence
  | .bucketLeak .. => .execBucketLeak
  | .reportFrameTx .. => .execReportFrameTx
  | .fmSrcAck .. => .execFmSrcAck
  | .fmSrcStatRead .. => .execFmSrcStatRead
  | .pinTest .. => .execPinTest
  | .pinTestEnd .. => .execPinTestEnd
  | .fmCntClear .. => .execFmCntClear
  | .cinchQuery .. => .execCinchQuery
  | .cinchAnswer .. => .execCinchAnswer
  | .cinchAnswerWrite .. => .execCinchAnswerWrite
  | .cinchWindowEnd .. => .execCinchWindowEnd
  | .safeApply .. => .execSafeApply
  | .safeRelease .. => .execSafeRelease
  | .island38Loss .. => .execIsland38Loss
  | .takeOwner .. => .execTakeOwner
  | .rotateOwner .. => .execRotateOwner
  | .keyLoad .. => .execKeyLoad
  | .keyErase .. => .execKeyErase
  | .attest .. => .execAttest
  | .dbgChallenge .. => .execDbgChallenge
  | .dbgResponse .. => .execDbgResponse
  | .dbgChallengeExpiry .. => .execDbgChallengeExpiry
  | .tamperLower .. => .execTamperLower
  | .updCommit .. => .execUpdCommit
  | .updAbort .. => .execUpdAbort
  | .fwActivate .. => .execFwActivate
  | .updConfirm .. => .execUpdConfirm
  | .secCntClear .. => .execSecCntClear
  | .trialTimeout .. => .execTrialTimeout
  | .fwReadyTimeout .. => .execFwReadyTimeout
  | .storeWindowWrite .. => .execStoreWindowWrite
  | .sessionHello .. => .execSessionHello
  | .sessionFinish .. => .execSessionFinish
  | .sessionTimeout .. => .execSessionTimeout
  | .oldSaDelete .. => .execOldSaDelete
  | .serviceSessionTimeout .. => .execServiceSessionTimeout
  | .tamperDetect .. => .execTamperDetect
  | .mssLockstep .. => .execMssLockstep
  | .mssRestart .. => .execMssRestart
  | .mssWatchdog .. => .execMssWatchdog
  | .mssReady .. => .execMssReady
  | .mssCntClear .. => .execMssCntClear
  | .tempPoll .. => .execTempPoll
  | .sramScrubRead .. => .execSramScrubRead
  | .storeScrubRead .. => .execStoreScrubRead
  | .scrubLate .. => .execScrubLate
  | .powerDownWarning .. => .execPowerDownWarning
  | .powerDownEnd .. => .execPowerDownEnd
  | .poweredHour .. => .execPoweredHour
  | .intervalClose .. => .execIntervalClose
  | .recCloseAll .. => .execRecCloseAll
  | .recCntClear .. => .execRecCntClear
  | .traceArm .. => .execTraceArm
  | .recWin0Read .. => .execRecWin0Read
  | .recWin63Read .. => .execRecWin63Read
  | .recCursorWrite .. => .execRecCursorWrite
  | .pllLocked .. => .execPllLocked
  | .clockSourceLost .. => .execClockSourceLost
  | .clockSourceOk .. => .execClockSourceOk
  | .iroTrim .. => .execIroTrim
  | .selMain .. => .execSelMain
  | .clkCntClear .. => .execClkCntClear
  | .clkGateCmd .. => .execClkGateCmd
  | .gateIdle .. => .execGateIdle
  | .railOutOfWindow .. => .execRailOutOfWindow
  | .railInWindow .. => .execRailInWindow
  | .resetPin .. => .execResetPin
  | .rstKeyWrite .. => .execRstKeyWrite
  | .rstDevice .. => .execRstDevice
  | .deviceReset .. => .execDeviceReset
  | .phaseChopCycle .. => .execPhaseChopCycle
  | .microstepEmit .. => .execMicrostepEmit
  | .satelliteAcquired .. => .execSatelliteAcquired
  | .carrierLockLoss .. => .execCarrierLockLoss
  | .antOpenRecover .. => .execAntOpenRecover
  | .protocolException .. => .execProtocolException
  | .ethLinkChange .. => .execEthLinkChange
  | .recorderSample .. => .execRecorderSample
  | .mssDebugHalt .. => .execMssDebugHalt
  | .debugHaltEnd .. => .execDebugHaltEnd
  | .debugReset .. => .execDebugReset
  | .switchHotChange .. => .execSwitchHotChange

/-- Settles O18. -/
theorem stepRunsTheFrontCommand : Obligations.StepRunsTheFrontCommand := by
  intro s c r hpending
  unfold step
  rw [hpending]

/-- Settles O19. -/
theorem emptyQueueIdles : Obligations.EmptyQueueIdles := by
  intro s hpending
  unfold step
  rw [hpending]

/-- Settles O20. -/
theorem everyCommandCompletes : Obligations.EveryCommandCompletes := by
  intro c s
  obtain ⟨t, hnext, -⟩ := exec_completes c s
  exact ⟨t, hnext⟩

/-- A next state that a command answers keeps what the command keeps. -/
theorem keeps_of_exec {c : Instr} {s t : State} (hnext : exec c s = .next t) : s.Keeps false t := by
  obtain ⟨u, hu, hkeeps⟩ := exec_completes c s
  cases hu.symm.trans hnext
  exact hkeeps

/-- Settles O21. -/
theorem commandsKeepTheQueue : Obligations.CommandsKeepTheQueue :=
  fun _ _ _ hnext => (keeps_of_exec hnext).queue

/-- Settles O22: the queue is no part of the canonical form, so a step keeps it because its command does. -/
theorem stepKeepsTheCanonicalForm : Obligations.StepKeepsTheCanonicalForm := by
  intro s t hs hstep
  cases hpending : s.pending with
  | nil =>
    cases (emptyQueueIdles s hpending).symm.trans hstep
    exact hs
  | cons c r => exact (keeps_of_exec ((stepRunsTheFrontCommand s c r hpending).symm.trans hstep)).canon hs

/-- Settles O23. -/
theorem resetIsCanonical : Obligations.ResetIsCanonical := ⟨⟨rfl, rfl⟩, rfl⟩

end Sys2Proof.Machine
end

section
/-!
PROOFS. A write from a port that does not own configuration (13 R515, R518), and a malformed USB command block (13 R541).
-/
namespace Sys2Proof.Machine

/-- Ownership is checked before the final set and the register lookup (00 R11; 13 R515, R518). -/
theorem State.accessErr_notOwner {s : State} {p : Port} {a : Nat} (h4 : a % 4 = 0) (hm : inMap a = true) (hc : s.Answers p a)
    (hu : s.up (islandOf a) = true) (hk : s.clocked a = true) (hf : s.accFails p a = false) (hs : s.stopped (islandOf a) = false)
    (hw : s.mayWrite p = false) : s.accessErr p a true = errNotOwner := by
  have hcfg : ((!s.imageOk || (p == .eth1 && s.rbit R.SEC_SESS_STAT 16)) && !answersUnconfigured a) = false := by
    rcases hc with ⟨hi, he⟩ | hc
    · have : (p == .eth1 && s.rbit R.SEC_SESS_STAT 16) = false := by simpa using he
      simp [hi, this]
    · simp [hc]
  simp [State.accessErr, h4, hm, hcfg, hu, hk, hf, hs, hw]

/-- Settles O30. -/
theorem writeFromANonOwner : Obligations.WriteFromANonOwner := by
  unfold Obligations.WriteFromANonOwner
  intro el p a v e s hrun h4 hm hlow hc hu hk hf hs hport
  have hw : s.mayWrite p = false := by
    rcases hport with ⟨rfl, hi, hcfg⟩ | ⟨rfl, hi, h34, hcfg⟩ | ⟨rfl, hcfg | hopen⟩
    · simp [State.mayWrite, hi, hcfg]
    · simp [State.mayWrite, hi, h34, hcfg]
    · simp [State.mayWrite, hcfg]
    · simp [State.mayWrite, hopen]
  exact refused_registerWrite el v e hrun (State.accessErr_notOwner h4 hm hc hu hk hf hs hw) (by decide) (by decide) (by decide)
    (.inl hlow)

/-- A change of the trim source changes registers, and what is told of them, alone. -/
theorem State.trimShow_keeps {α : Type} (g : State → α) (h : ∀ (s : State) (c : Nat),
    g ((s.setFld R.CLK_STAT 0 4 c).event R.CLK_IRQ_STAT ciTrimChange) = g s) (s : State) : g s.trimShow = g s := by
  unfold State.trimShow
  exact State.when_keeps g (h s _) _

@[simp] theorem State.usbTaken_out (s : State) (c : Nat) : (s.usbTaken c).out = s.out :=
  State.trimShow_keeps State.out (fun _ _ => rfl) _
@[simp] theorem State.usbTaken_port (s : State) (c : Nat) : (s.usbTaken c).port = s.port :=
  State.trimShow_keeps State.port (fun _ _ => rfl) _
@[simp] theorem State.usbTaken_store (s : State) (c : Nat) : (s.usbTaken c).store = s.store :=
  State.trimShow_keeps State.store (fun _ _ => rfl) _

/-- A malformed block ends in every row with FORMAT, whatever the row would do (13 R541; in every row, log 124). -/
theorem State.usbRow_malformed {s : State} {b : UsbBlk} (h : s.Runs 37) (hg : s.gateOn 11 = true) (ha : s.rbit R.USB_STAT 31 = true)
    (hw : s.port.usbWait = none)
    (hb : b.magic ≠ 0x5A50 ∨ usbKnown b.cmd.toNat = false ∨ usbLenOk b.cmd.toNat b.len.toNat = false) (code : Nat)
    (act : State → UsbEnd) : s.usbRow code b act = (UsbEnd.fail (s.usbTaken b.cmd.toNat) errFormat).finish b := by
  have hfree : (!s.gateOn 11 || !s.rbit R.USB_STAT 31 || s.port.usbWait.isSome) = false := by simp [hg, ha, hw]
  have hbad : (b.magic != 0x5A50 || !usbKnown b.cmd.toNat || !usbLenOk b.cmd.toNat b.len.toNat) = true := by
    rcases hb with hb | hb | hb
    · rw [bne_iff_ne.2 hb, Bool.true_or, Bool.true_or]
    · rw [hb, Bool.not_false, Bool.or_true, Bool.true_or]
    · rw [hb, Bool.not_false, Bool.or_true]
  rw [State.usbRow, State.onIsland_runs h]
  simp only [hfree, hbad, Bool.not_true, Bool.false_and, Bool.false_eq_true, if_false, if_true]
  rfl

/-- The status block of a code without bytes moved or data (13 Table 9), which leaves the store alone. -/
theorem UsbEnd.finish_fail {s : State} {b : UsbBlk} {code : Nat} (hw : s.port.usbWait = none) (ho : s.out = []) :
    ((UsbEnd.fail s code).finish b).out = [.usb (leBytes 2 0x5A51 ++ leBytes 1 b.cmd.toNat ++ leBytes 1 code ++
      bytesOfWord b.tag ++ leBytes 4 0 ++ leBytes 4 0) []] ∧ ((UsbEnd.fail s code).finish b).store = s.store := by
  have hfin : (UsbEnd.fail s code).finish b = s.usbStatus b code 0 0 [] := by simp [UsbEnd.finish, UsbEnd.fail, hw]
  rw [hfin, State.usbStatus]
  constructor
  · rw [State.send_out, State.when_keeps State.out rfl]
    simp [ho]
  · exact State.when_keeps State.store rfl _

/-- Settles O50: the check of the block comes before a row looks at its own command. -/
theorem malformedCommandBlock : Obligations.MalformedCommandBlock := by
  unfold Obligations.MalformedCommandBlock
  intro el b d x es c s h hg ha hw hb
  have hrow (code : Nat) (k : UsbBlk) (act : State → UsbEnd) (hk : k = b) :
      ∃ t, (Host.Outcome.next ((s.begin el).usbRow code k act) : Host.Outcome State Fault Refusal) = .next t ∧
        t.out = [.usb (leBytes 2 0x5A51 ++ leBytes 1 b.cmd.toNat ++ leBytes 1 errFormat ++ bytesOfWord b.tag ++ leBytes 4 0 ++
          leBytes 4 0) []] ∧ s.SameStore t := by
    subst hk
    have hend := State.usbRow_malformed (State.runs_begin h el) hg ha hw hb code act
    obtain ⟨hout, hstore⟩ := UsbEnd.finish_fail (s := (s.begin el).usbTaken k.cmd.toNat) (b := k) (code := errFormat)
      (by simp [hw]) (by simp)
    refine ⟨_, congrArg _ hend, hout, fun a => ?_⟩
    simp only [State.storeByte, hstore, State.usbTaken_store, State.begin_store]
  exact ⟨hrow _ b _ rfl, hrow _ b _ rfl, hrow _ b _ rfl, hrow _ b _ rfl, hrow _ b _ rfl, hrow _ b _ rfl, hrow _ b _ rfl,
    hrow _ b _ rfl, hrow _ _ _ rfl, hrow _ b _ rfl⟩

end Sys2Proof.Machine
end

section
/-!
PROOFS. The question of Cinch (14 R573). A missed window may apply the whole safe-state table; nothing on that way writes
CINCH_STAT, so the question stays through it.
-/
namespace Sys2Proof.Machine

theorem State.cinchQ_keeps {s t : State} (h : s.Keeps true t) : t.cinchQ = s.cinchQ := by
  unfold State.cinchQ State.rfld
  rw [h.cinch rfl]

/-- A write of another field of CINCH_STAT leaves the question. -/
theorem State.cinchQ_setFld (s : State) {lo wid : Nat} (v : Nat) (h : lo + wid ≤ 32) (hd : 24 ≤ lo ∨ lo + wid ≤ 16) :
    (s.setFld R.CINCH_STAT lo wid v).cinchQ = s.cinchQ := by
  simp only [State.cinchQ, State.rfld, State.reg_setFld, if_true]
  exact fld_setFld_ne _ _ _ _ _ _ h hd

theorem cinchStep_lt {q : Nat} (h : q < 2 ^ 8) : cinchStep q < 2 ^ 8 := by
  unfold cinchStep
  split
  · exact Nat.xor_lt_two_pow (by omega) (by omega)
  · omega

theorem State.cinchQ_lt (s : State) : s.cinchQ < 2 ^ 8 := BitVec.isLt _

theorem State.cinchQ_cinchRun (s : State) : s.cinchRun.cinchQ = s.cinchQ :=
  (State.cinchQ_keeps State.Keeps.refl.frame.pinLatch).trans (s.cinchQ_setFld 2 (by omega) (by omega))

theorem State.cinchQ_cinchGood (s : State) : s.cinchGood.cinchQ = cinchStep s.cinchQ := by
  have hstep : ((s.setFld R.CINCH_STAT 8 3 (s.cinchErr - 1)).setFld R.CINCH_STAT 16 8 (cinchStep s.cinchQ)).cinchQ =
      cinchStep s.cinchQ := by
    rw [State.cinchQ, State.rfld_setFld _ _ _ _ _ (by omega)]
    exact Nat.mod_eq_of_lt (cinchStep_lt s.cinchQ_lt)
  unfold State.cinchGood
  dsimp only
  split
  · rw [State.cinchQ_cinchRun, hstep]
  · exact hstep

theorem State.cinchQ_cinchMissed (s : State) : s.cinchMissed.cinchQ = s.cinchQ := by
  have hexpire (u : State) :
      (((u.setFld R.CINCH_STAT 30 2 3).count R.CINCH_EXPIRIES 1).applyAll scCinch).cinchQ = u.cinchQ :=
    (State.cinchQ_keeps (State.Keeps.refl.count_ne (by lia)).applyAll).trans (State.cinchQ_setFld _ _ (by omega) (by omega))
  unfold State.cinchMissed
  extract_lets lim e s1
  have hmiss : s1.cinchQ = s.cinchQ :=
    calc s1.cinchQ = ((s.count R.CINCH_MISS 1).setFld R.CINCH_STAT 8 3 e).cinchQ :=
          State.cinchQ_keeps State.Keeps.refl.fmEvent.fault
      _ = (s.count R.CINCH_MISS 1).cinchQ := State.cinchQ_setFld _ _ (by omega) (by omega)
      _ = s.cinchQ := State.cinchQ_keeps (State.Keeps.refl.count_ne (by lia))
  split
  · exact (hexpire s1).trans hmiss
  · exact hmiss

/-- The end of a window of Cinch: the question is that of a good or of a missed window. -/
theorem execCinchWindowEnd_over {s : State} {el : Nat} (h38 : s.up 38 = true) (hstate : (s.begin el).cinchState ≠ 0)
    (hover : (s.begin el).cinchOver = true) {u : State}
    (hu : (if s.cinch.done && s.cinch.bad.isNone then (s.begin el).cinchGood else (s.begin el).cinchMissed) = u) :
    ∃ t, exec (.cinchWindowEnd el) s = .next t ∧ t.cinchQ = u.cinchQ := by
  subst hu
  exact ⟨_, congrArg Host.Outcome.next (if_pos ⟨h38, hstate, hover⟩), State.cinchQ_setFld _ _ (by omega) (by omega)⟩

/-- Settles O54. -/
theorem cinchQuestion : Obligations.CinchQuestion := by
  unfold Obligations.CinchQuestion
  refine ⟨?start, ?good, ?other⟩
  case start =>
    intro s hon h38
    unfold State.cinchStart
    rw [hon, h38, Bool.and_self, if_pos rfl]
    simp only [State.cinchQ, State.rfld]
    exact (congrArg (fun w => fld w 16 8) (State.reg_setReg_self s R.CINCH_STAT 0x40A50000)).trans (by decide)
  case good =>
    intro el s h38 hstate hover hdone hbad
    obtain ⟨t, hnext, hq⟩ := execCinchWindowEnd_over h38 hstate hover (if_pos (by rw [hdone, hbad]; rfl))
    exact ⟨t, hnext, hq.trans (State.cinchQ_cinchGood _)⟩
  case other =>
    intro el s h38 hstate hover hbad
    have hgood : ¬ (s.cinch.done && s.cinch.bad.isNone) = true := by
      rcases hbad with hbad | hbad
      · simp [hbad]
      · simp [hbad]
    obtain ⟨t, hnext, hq⟩ := execCinchWindowEnd_over h38 hstate hover (if_neg hgood)
    exact ⟨t, hnext, hq.trans (State.cinchQ_cinchMissed _)⟩

end Sys2Proof.Machine
end

section
/-!
PROOFS. The trim of the IRO (17 R660) and a scrub pass beyond its bound (16 R635).
-/
namespace Sys2Proof.Machine

theorem satI_bounds (v : Int) : -(2 ^ 31) ≤ satI 32 v ∧ satI 32 v < 2 ^ 31 := by
  unfold satI clampI
  split
  · omega
  · split <;> omega

theorem satI_of_bounds {v : Int} (hl : -(2 ^ 31) ≤ v) (hu : v < 2 ^ 31) : satI 32 v = v := by
  unfold satI clampI
  rw [if_neg (by omega), if_neg (by omega)]

/-- A register that a signed value is written into reads the value, saturated. -/
theorem State.toInt_setRegI (s : State) (a : Nat) (v : Int) : ((s.setRegI a v).reg a).toInt = satI 32 v := by
  obtain ⟨hl, hu⟩ := satI_bounds v
  rw [State.setRegI, State.reg_setReg_self, wordI, BitVec.toInt_ofInt]
  exact Int.bmod_eq_of_le (by omega) (by omega)

/-- Values no further than 1 from a word of 32 bits stay so close when they saturate. -/
theorem satI_step {x c : Int} (hl : -(2 ^ 31) ≤ x) (hu : x < 2 ^ 31) (hc : -1 ≤ c ∧ c ≤ 1) : (satI 32 (x - c) - x).natAbs ≤ 1 := by
  unfold satI clampI
  split
  · omega
  · split <;> omega

theorem clampI_bounds {lo hi : Int} (h : lo ≤ hi) (v : Int) : lo ≤ clampI lo hi v ∧ clampI lo hi v ≤ hi := by
  unfold clampI
  split
  · omega
  · split <;> omega

theorem State.reg_trimShow_ne (s : State) {a : Nat} (h : a ≠ R.CLK_STAT) (h' : a ≠ R.CLK_IRQ_STAT) : s.trimShow.reg a = s.reg a := by
  unfold State.trimShow
  refine State.when_keeps (fun t => t.reg a) ?_ _
  simp only [State.reg_event, State.reg_setFld, if_neg h, if_neg h']

/-- The trim source in use depends on what Table 2 names of each source and on the slots, and on nothing else (17 R659). -/
theorem State.trimSrc_congr {s t : State}
    (hreg : ∀ a, a ≠ R.CLK_STAT → a ≠ R.CLK_IRQ_STAT → a ≠ R.USB_STAT → t.reg a = s.reg a)
    (htcxo : t.rbit R.CLK_STAT csTcxo = s.rbit R.CLK_STAT csTcxo) (husb : t.rbit R.USB_STAT 30 = s.rbit R.USB_STAT 30)
    (hsof : t.clk.sof = s.clk.sof) (htime : t.time = s.time) (hnow : t.now = s.now) : t.trimSrc = s.trimSrc := by
  have horder : t.trimOrder = s.trimOrder := by
    simp only [State.trimOrder, State.rfld, hreg R.CLK_CTRL (by decide) (by decide) (by decide)]
  have havail : t.trimAvail = s.trimAvail := by
    funext c
    unfold State.trimAvail
    split
    · exact htcxo
    · simp only [State.dtQual, State.rbit, hreg R.DT_STAT (by decide) (by decide) (by decide)]
    · simp only [State.refAccepted, State.rbit, State.rfld, htime, hnow, hreg R.DT_CAN_SRC (by decide) (by decide) (by decide),
        hreg (R.CAN_TM_STAT _) (by lia) (by lia) (by lia)]
    · rw [husb, hsof]
    · rfl
  rw [State.trimSrc, State.trimSrc, horder, havail]

theorem State.trimSrc_trimShow (s : State) : s.trimShow.trimSrc = s.trimSrc := by
  refine State.trimSrc_congr (fun a h h' _ => s.reg_trimShow_ne h h') ?_ ?_ (State.trimShow_keeps (·.clk.sof) (fun _ _ => rfl) s)
    (State.trimShow_keeps State.time (fun _ _ => rfl) s) (State.trimShow_keeps State.now (fun _ _ => rfl) s)
  · refine State.trimShow_keeps (·.rbit R.CLK_STAT csTcxo) (fun u c => ?_) s
    simp only [State.rbit, State.reg_event, State.reg_setFld, if_neg (show R.CLK_STAT ≠ R.CLK_IRQ_STAT by decide), if_true]
    exact getLsbD_setFld_above _ _ (by omega) (by decide)
  · rw [State.rbit, State.rbit, s.reg_trimShow_ne (by decide) (by decide)]

/-- The suspended bit of the service device is no matter of the trim source. -/
theorem State.trimSrc_setBit_usbSuspended (s : State) (b : Bool) : (s.setBit R.USB_STAT 29 b).trimSrc = s.trimSrc := by
  refine State.trimSrc_congr (fun a _ _ h => ?_) ?_ ?_ rfl rfl rfl
  · rw [State.reg_setBit, if_neg h]
  · rw [State.rbit, State.rbit, State.reg_setBit, if_neg (by decide)]
  · rw [State.rbit, State.rbit, State.reg_setBit, if_pos rfl, getLsbD_setBit _ _ _ _ (by omega), if_neg (by omega)]

/-- The state that a trim step measures in: the frame of a host seen or not, and the source shown (17 R659). -/
def State.trimReady (s : State) (sof : Bool) : State :=
  ((s.updClk fun c => { c with sof := sof }).setBit R.USB_STAT 29 (!sof && s.rbit R.USB_STAT 30)).trimShow

theorem State.trimSrc_trimReady (s : State) (sof : Bool) :
    (s.trimReady sof).trimSrc = (s.updClk fun c => { c with sof := sof }).trimSrc :=
  (State.trimSrc_trimShow _).trans (State.trimSrc_setBit_usbSuspended _ _)

theorem State.trimReady_reg_trim (s : State) (sof : Bool) : (s.trimReady sof).reg R.CLK_IRO_TRIM = s.reg R.CLK_IRO_TRIM := by
  unfold State.trimReady
  rw [State.reg_trimShow_ne _ (by decide) (by decide), State.reg_setBit, if_neg (by decide)]
  rfl

theorem State.trimReady_now (s : State) (sof : Bool) : (s.trimReady sof).now = s.now :=
  State.trimShow_keeps State.now (fun _ _ => rfl) _

theorem State.trimReady_trimAt (s : State) (sof : Bool) : (s.trimReady sof).clk.trimAt = s.clk.trimAt :=
  State.trimShow_keeps (·.clk.trimAt) (fun _ _ => rfl) _

/-- What a due measurement does: it starts the next interval, shows the error, and moves the trim against its sign. -/
def State.trimBy (s : State) (err : Int) : State :=
  ((s.updClk fun c => { c with trimAt := s.now }).setRegI R.CLK_IRO_ERR err).setRegI R.CLK_IRO_TRIM
    ((s.reg R.CLK_IRO_TRIM).toInt - clampI (-1) 1 err)

/-- A due trim step moves the trim by at most one unit, saturated or not. -/
theorem State.trimBy_step (s : State) (err : Int) :
    (((s.trimBy err).reg R.CLK_IRO_TRIM).toInt - (s.reg R.CLK_IRO_TRIM).toInt).natAbs ≤ 1 := by
  rw [State.trimBy, State.toInt_setRegI]
  exact satI_step (BitVec.le_toInt _) (BitVec.toInt_lt) (clampI_bounds (by decide) err)

theorem State.trimBy_err {err : Int} (hl : -(2 ^ 31) ≤ err) (hu : err < 2 ^ 31) (s : State) :
    ((s.trimBy err).reg R.CLK_IRO_ERR).toInt = err := by
  rw [State.trimBy, State.reg_setRegI_ne _ _ (by decide), State.toInt_setRegI, satI_of_bounds hl hu]

/-- Settles O52. -/
theorem trimStepIsSmall : Obligations.TrimStepIsSmall := by
  unfold Obligations.TrimStepIsSmall
  intro el err sof s
  by_cases hrun : s.Runs 37
  case neg =>
    refine ⟨s.begin el, congrArg Host.Outcome.next (State.onIsland_stopped (s := s.begin el) hrun _), ?_, fun h => absurd h hrun⟩
    simp
  obtain ⟨v, hv⟩ : ∃ v, v = (s.begin el).trimReady sof := ⟨_, rfl⟩
  have htrim : v.reg R.CLK_IRO_TRIM = s.reg R.CLK_IRO_TRIM := hv ▸ State.trimReady_reg_trim _ sof
  have hexec : exec (.iroTrim el err sof) s =
      .next (if v.trimSrc = 15 ∨ v.now < v.clk.trimAt + trimInterval v.trimSrc then v else v.trimBy err) := by
    subst hv
    exact State.next_onIsland el hrun rfl
  refine ⟨_, hexec, ?_, fun _ hsrc hdue hl hu => ?_⟩
  · rw [← htrim]
    split
    · simp
    · exact State.trimBy_step _ err
  · subst hv
    rw [if_neg]
    · exact State.trimBy_err hl hu _
    · rw [State.trimSrc_trimReady, State.trimReady_now, State.trimReady_trimAt]
      exact not_or.2 ⟨hsrc, Nat.not_lt.2 hdue⟩

/-- A pass that is beyond its bound for the first time is counted, and runs on. -/
theorem execScrubLate_late {s : State} {store : Bool} (el : Nat) (hrun : s.Runs 37)
    (hfirst : (if store then s.mgt.storeLate else s.mgt.sramLate) = false)
    (hlate : (if store then s.mgt.storeAt + 86400000000000 else s.mgt.sramAt + 1000000000) < (s.begin el).now) :
    exec (.scrubLate el store) s = .next ((((s.begin el).updMgt fun g =>
      if store then { g with storeLate := true } else { g with sramLate := true }).count R.SCRUB_LATE_CNT 1).event
        R.STORE_IRQ_STAT sqScrubLate) := by
  refine State.next_onIsland el hrun (if_pos ?_)
  cases store
  · rw [if_neg Bool.false_ne_true] at hfirst hlate
    rw [if_neg Bool.false_ne_true, State.begin_mgt, hfirst, decide_eq_true hlate]
    rfl
  · rw [if_pos rfl] at hfirst hlate
    rw [if_pos rfl, State.begin_mgt, hfirst, decide_eq_true hlate]
    rfl

/-- Settles O53. -/
theorem lateScrubIsCounted : Obligations.LateScrubIsCounted := by
  unfold Obligations.LateScrubIsCounted
  intro el store s hrun hfirst hlate
  have hne : R.SCRUB_LATE_CNT ≠ R.STORE_IRQ_STAT := by decide
  refine ⟨_, execScrubLate_late el hrun hfirst hlate, ?_, State.rbit_event _ _ _ (by decide), ?_, ?_, ?_, fun a ha => ?_,
    fun _ => rfl⟩
  · rw [State.reg_event, if_neg hne, State.reg_count, if_pos rfl]
    rfl
  · cases store <;> rfl
  · cases store <;> rfl
  · cases store <;> rfl
  · simp only [List.mem_cons, List.not_mem_nil, or_false, not_or] at ha
    rw [State.reg_event, if_neg ha.2, State.reg_count, if_neg ha.1]
    rfl

end Sys2Proof.Machine
end

section
/-!
PROOFS. A write of REC_CURSOR (16 R653), the leak of the buckets (14 R552), a device reset (17 R676, R677) and a write into the
base of a slot (15 R604).
-/
namespace Sys2Proof.Machine

/-! The cursor of the recorder. -/

def recCursorRow : RegRow := ⟨"REC_CURSOR", 0x1C, 1, 0x4, 0x8000FFFF, 0, 0, 0, 0, 0, 0, 0x80000001⟩

theorem regHit?_recCursor : regHit? R.REC_CURSOR = some ⟨recCursorRow, 0, 0⟩ := by decide +kernel

theorem blockAt?_recCursor : blockAt? regBlocks R.REC_CURSOR = some ⟨0x040000, 1, 0x10000, rowsRec⟩ := by decide +kernel

/-- REC_CURSOR is no word of a multi-word value. -/
theorem State.storeAt_recCursor (s : State) (p : Port) (v : Word) :
    s.storeAt p R.REC_CURSOR v = s.storeWord recCursorRow R.REC_CURSOR v := by
  have hspan : spanAt? spans R.REC_CURSOR = none := by decide +kernel
  simp only [State.storeAt, regHit?_recCursor, hspan]

/-- What follows the storing of REC_CURSOR. -/
theorem hostAct_recCursor (p : Port) (e : WriteEnv) (v : Word) (s : State) :
    hostAct p R.REC_CURSOR e v s = (0, (s.storeAt p R.REC_CURSOR v).cursorWritten) := by
  have hfixed : s.rasterFixed R.REC_CURSOR = false := by
    rw [State.rasterFixed, decide_eq_false (by decide), Bool.and_false]
  have hhook (t : State) : t.hostHook s R.REC_CURSOR v e.onBus e.canBusy = t.cursorWritten := by
    simp only [State.hostHook, blockAt?_recCursor, regHit?_recCursor]
    rfl
  simp only [hostAct, blockAt?_recCursor, regHit?_recCursor, hfixed, hhook]
  rfl

/-- Settles O58. -/
theorem cursorWriteClearsTheResult : Obligations.CursorWriteClearsTheResult := by
  unfold Obligations.CursorWriteClearsTheResult
  intro el p v e s htakes
  refine ⟨_, execRegisterWrite_takes el htakes (by decide +kernel) (hostAct_recCursor p e v _), ?_, ?_, fun a ha => ?_, fun a => ?_⟩
  · rw [State.storeAt_recCursor]
    rfl
  · exact (State.rfld_setFld _ _ _ _ _ (by omega)).trans (by decide)
  · simp only [List.mem_cons, List.not_mem_nil, or_false, not_or] at ha
    obtain ⟨hcursor, hstat⟩ := ha
    rw [State.storeAt_recCursor]
    exact (State.reg_setReg_ne _ _ hstat).trans (State.reg_storeWord_ne _ _ _ hcursor)
  · rw [State.storeAt_recCursor]
    rfl

/-! The buckets of the fault manager. -/

theorem Tab.rising_lt {α : Type} {t : Tab α} {j : Nat} (h : Tab.rising t (some j) = true) : ∀ e ∈ t, j < e.1 := by
  induction t generalizing j with
  | nil => exact fun e he => nomatch he
  | cons e r ih =>
    simp only [Tab.rising, Bool.and_eq_true, decide_eq_true_eq] at h
    obtain ⟨hj, hr⟩ := h
    intro x hx
    cases List.mem_cons.1 hx with
    | inl hx => exact hx ▸ hj
    | inr hx => exact hj.trans (ih hr x hx)

/-- A table in canonical form lists no number twice. -/
theorem Tab.nodup_of_rising {α : Type} {t : Tab α} (h : Tab.rising t none = true) : (t.map Prod.fst).Nodup := by
  induction t with
  | nil => exact List.nodup_nil
  | cons e r ih =>
    have hr : Tab.rising r (some e.1) = true := h
    refine List.nodup_cons.2 ⟨fun hmem => ?_, ih (Tab.rising_none r hr)⟩
    obtain ⟨x, hx, heq⟩ := List.mem_map.1 hmem
    exact absurd (Tab.rising_lt hr x hx) (heq ▸ Nat.lt_irrefl _)

/-- A number that a table does not list reads as what an unlisted one reads as. -/
theorem Tab.get_of_notMem {α : Type} {d : Nat → α} {t : Tab α} {k : Nat} (h : k ∉ t.map Prod.fst) : Tab.get d t k = d k := by
  induction t with
  | nil => rfl
  | cons e r ih =>
    simp only [List.map_cons, List.mem_cons, not_or] at h
    rw [Tab.get, if_neg (Ne.symm h.1), ih h.2]

/-- The level of the bucket with the key `k`. -/
def State.level (s : State) (k : Nat) : Nat := Tab.get (fun _ => 0) s.fm.bucket k

/-- The bucket of one key leaks, and no other. -/
theorem State.level_leakOne (s : State) (src inst k : Nat) :
    (s.leakOne src inst).level k = if k = fmKey src inst then s.level k - 1 else s.level k := by
  have hset : ((s.setBucket src inst (s.bucket src inst - 1)).level k) = if k = fmKey src inst then s.level k - 1 else s.level k := by
    unfold State.level State.setBucket
    rw [Tab.get_set]
    split
    · subst k
      rfl
    · rfl
  unfold State.leakOne
  dsimp only
  split
  · exact hset
  · exact hset

/-- One turn of the leak: the entry's bucket where it is one of the source. -/
def leakTurn (src : Nat) (e : Nat × Nat) (t : State) : State := if e.1 / 65536 = src then t.leakOne src (e.1 % 65536) else t

theorem level_leakTurn (src : Nat) (e : Nat × Nat) (s : State) (k : Nat) :
    (leakTurn src e s).level k = if k = e.1 ∧ k / 65536 = src then s.level k - 1 else s.level k := by
  unfold leakTurn
  by_cases hsrc : e.1 / 65536 = src
  · have hkey : fmKey src (e.1 % 65536) = e.1 := by
      unfold fmKey
      omega
    rw [if_pos hsrc, State.level_leakOne, hkey]
    by_cases hk : k = e.1
    · subst hk
      rw [if_pos rfl, if_pos ⟨rfl, hsrc⟩]
    · rw [if_neg hk, if_neg fun h => hk h.1]
  · rw [if_neg hsrc, if_neg]
    rintro ⟨rfl, h⟩
    exact hsrc h

/-- Over a list of entries with distinct keys, each bucket of the source that it lists loses one. -/
theorem level_forL_leakTurn (src : Nat) (l : Tab Nat) (hl : (l.map Prod.fst).Nodup) (k : Nat) : ∀ s : State,
    (forL (leakTurn src) l s).level k = if k ∈ l.map Prod.fst ∧ k / 65536 = src then s.level k - 1 else s.level k := by
  induction l with
  | nil => exact fun s => (if_neg fun h => nomatch h.1).symm
  | cons e r ih =>
    obtain ⟨hnot, hr⟩ := List.nodup_cons.1 hl
    intro s
    rw [forL, ih hr, level_leakTurn, List.map_cons]
    by_cases hk : k = e.1
    · subst hk
      simp [hnot]
    · have hmem : k ∈ e.1 :: r.map Prod.fst ↔ k ∈ r.map Prod.fst := by rw [List.mem_cons, or_iff_right hk]
      simp only [hmem, hk, false_and, if_false]

theorem State.level_leak {s : State} (h : Tab.wf (fun _ => 0) s.fm.bucket = true) (src k : Nat) :
    (s.leak src).level k = if k / 65536 = src then s.level k - 1 else s.level k := by
  simp only [Tab.wf, Bool.and_eq_true] at h
  have hleak := level_forL_leakTurn src s.fm.bucket (Tab.nodup_of_rising h.1) k s
  refine hleak.trans ?_
  by_cases hmem : k ∈ s.fm.bucket.map Prod.fst
  · simp [hmem]
  · have hzero : s.level k = 0 := Tab.get_of_notMem hmem
    simp [hmem, hzero]

/-- The leak changes levels and what lasts, and nothing that `leakOne` leaves. -/
theorem State.leak_keeps {β : Type} (g : State → β) (h : ∀ (s : State) (src inst : Nat), g (s.leakOne src inst) = g s) (s : State)
    (src : Nat) : g (s.leak src) = g s := by
  refine forL_keeps g (fun e t => ?_) _ s
  split
  · exact h t src _
  · rfl

/-- Settles O57. -/
theorem bucketsLeak : Obligations.BucketsLeak := by
  unfold Obligations.BucketsLeak
  intro el src q i s hwf hrun hdue
  have hone {β : Type} (g : State → β) (hb : ∀ (s : State) (a b c : Nat), g (s.setBucket a b c) = g s)
      (hl : ∀ (s : State) (a b : Nat) (c : Bool), g (s.setLasting a b c) = g s) : g ((s.begin el).leak src) = g (s.begin el) := by
    refine State.leak_keeps g (fun t a b => ?_) _ _
    unfold State.leakOne
    dsimp only
    split
    · rw [hl, hb]
    · rw [hb]
  refine ⟨_, State.next_onIsland el hrun (if_pos hdue), ?_, fun a _ => ?_, fun a => ?_, ?_, ?_⟩
  · have hkey : fmKey q i.toNat / 65536 = q := by
      have hi := i.isLt
      unfold fmKey
      omega
    refine (State.level_leak (s := s.begin el) hwf src (fmKey q i.toNat)).trans ?_
    simp only [hkey, Fin.val_inj]
    rfl
  · exact hone (·.reg a) (fun _ _ _ _ => rfl) (fun _ _ _ _ => rfl)
  · exact hone (·.storeByte a) (fun _ _ _ _ => rfl) (fun _ _ _ _ => rfl)
  · exact hone (·.fm.ethQ) (fun _ _ _ _ => rfl) (fun _ _ _ _ => rfl)
  · exact hone (·.fm.prim) (fun _ _ _ _ => rfl) (fun _ _ _ _ => rfl)

/-! A device reset. -/

/-- A table of which only some numbers are left reads there as before, and elsewhere as an unlisted number does. -/
theorem Tab.get_filter_key {α : Type} (d : Nat → α) (t : Tab α) (f : Nat → Bool) (k : Nat) :
    Tab.get d (t.filter fun e => f e.1) k = if f k then Tab.get d t k else d k := by
  induction t with
  | nil => simp [Tab.get]
  | cons e r ih =>
    obtain ⟨a, v⟩ := e
    by_cases hf : f a = true
    · by_cases hk : a = k
      · subst hk
        simp [Tab.get, hf]
      · simp [Tab.get, hf, hk, ih]
    · by_cases hk : a = k
      · subst hk
        simp [hf, ih]
      · simp [Tab.get, hf, hk, ih]

theorem State.reg_deviceReset (s : State) (a : Nat) : s.deviceReset.reg a = if keptReg a then s.reg a else resetWord a :=
  Tab.get_filter_key resetWord s.regs keptReg a

/-- Settles O56. -/
theorem deviceResetKeepsTheStore : Obligations.DeviceResetKeepsTheStore := by
  unfold Obligations.DeviceResetKeepsTheStore
  intro el c s _
  have hkept : keptReg R.RST_CAUSE = true := by decide
  refine ⟨_, rfl, ?_, fun a ha => ?_, fun a ha hne => ?_, fun _ => rfl, rfl, rfl, rfl, rfl, rfl, rfl, rfl, fun _ => rfl,
    fun _ => rfl⟩
  · rw [State.resetBy, State.reg_event, if_pos rfl, State.reg_deviceReset, hkept, if_pos rfl]
    rfl
  · have hne : a ≠ R.RST_CAUSE := fun h => by simp [h, hkept] at ha
    rw [State.resetBy, State.reg_event, if_neg hne, State.reg_deviceReset, ha, if_neg Bool.false_ne_true]
  · rw [State.resetBy, State.reg_event, if_neg hne, State.reg_deviceReset, ha, if_pos rfl]
    rfl

end Sys2Proof.Machine
end

section
/-!
PROOFS. A write through the store window into the base of a slot (15 R604).
-/
namespace Sys2Proof.Machine

/-- What every change of the records' copies and of the poison marks leaves, a write of the security records leaves. -/
theorem State.putRec_keeps {β : Type} (g : State → β) (hsec : ∀ (s : State) (f : SecSt → SecSt), g (s.updSec f) = g s)
    (hpoison : ∀ (s : State) (w : Nat) (b : Bool), g (s.setPoison w b) = g s) (s : State) : g s.putRec = g s := by
  have hclear (u : State) (a n : Nat) : g (u.clearPoison a n) = g u := forL_keeps g (fun w t => hpoison t w false) _ u
  unfold State.putRec
  split
  refine (apply_ite g _ _ _).trans (ite_eq_left_iff.2 fun _ => ?_)
  exact (hclear _ _ _).trans (hsec s fun q => { q with copies := _ })

@[simp] theorem State.putRec_reg (s : State) (a : Nat) : s.putRec.reg a = s.reg a :=
  s.putRec_keeps (·.reg a) (fun _ _ => rfl) (fun _ _ _ => rfl)
@[simp] theorem State.putRec_store (s : State) : s.putRec.store = s.store :=
  s.putRec_keeps State.store (fun _ _ => rfl) (fun _ _ _ => rfl)
@[simp] theorem State.putRec_ldr (s : State) : s.putRec.ldr = s.ldr :=
  s.putRec_keeps State.ldr (fun _ _ => rfl) (fun _ _ _ => rfl)

/-- A write of store bytes is no matter of registers. -/
theorem State.setStoreBytes_reg (l : List Byte) : ∀ (s : State) (a b : Nat), (s.setStoreBytes a l).reg b = s.reg b := by
  induction l with
  | nil => exact fun _ _ _ => rfl
  | cons v r ih => exact fun s a b => (ih (s.setStoreByte a v) (a + 1) b).trans rfl

theorem State.setStoreBytes_ldr (l : List Byte) : ∀ (s : State) (a : Nat), (s.setStoreBytes a l).ldr = s.ldr := by
  induction l with
  | nil => exact fun _ _ => rfl
  | cons v r ih => exact fun s a => (ih (s.setStoreByte a v) (a + 1)).trans rfl

@[simp] theorem State.setMarked_reg (s : State) (k n a : Nat) : (s.setMarked k n).reg a = s.reg a := rfl
@[simp] theorem State.setMarked_store (s : State) (k n : Nat) : (s.setMarked k n).store = s.store := rfl
@[simp] theorem State.noteStaged_store (s : State) (target k : Nat) : (s.noteStaged target k).store = s.store := rfl
@[simp] theorem State.noteStaged_reg (s : State) (target k a : Nat) : (s.noteStaged target k).reg a = s.reg a := rfl

/-- A write into the base of a slot, of any state and answered: the registers are those of the state before the bytes. -/
theorem State.reg_send_setStoreBytes (u : State) (x : Nat) (l : List Byte) (o : Out) (a : Nat) :
    ((u.setStoreBytes x l).send o).reg a = u.reg a := (u.setStoreBytes x l).send_reg o a |>.trans (State.setStoreBytes_reg l u x a)

/-- A slot that takes a state shows it. -/
theorem State.slot_setSlot (s : State) {k : Nat} (h : k < 4) (v : Nat) : (s.setSlot k v).slot k = v % 16 := by
  rw [State.slot, State.rfld, State.setSlot, State.putRec_reg, ← State.rfld,
    State.rfld_setFld _ _ _ _ _ (by omega)]
  rfl

theorem State.reg_setSlot_ne (s : State) (k v : Nat) {a : Nat} (h : a ≠ R.SEC_UPD_STAT) : (s.setSlot k v).reg a = s.reg a := by
  rw [State.setSlot, State.putRec_reg, State.reg_setFld, if_neg h]

@[simp] theorem State.setSlot_store (s : State) (k v : Nat) : (s.setSlot k v).store = s.store :=
  State.putRec_store (s.setFld R.SEC_UPD_STAT (4 * k) 4 v)

/-- A write into a slot's base, of a Trellis slot and of a firmware slot (R604). -/
theorem State.touchSlot_image (s : State) {k x : Nat} (hk : k < 2) (hl : k * 0x800000 ≤ x) (hu : x < k * 0x800000 + 0x600000) :
    s.touchSlot (0x10000000 + x) = ((s.setSlot k 0).setMarked k 0).noteStaged 0 k := by
  have hdiv : x / 0x800000 = k := by omega
  have hmod : x % 0x800000 < 0x600000 := by omega
  rw [State.touchSlot, if_pos (by omega)]
  simp only [Nat.add_sub_cancel_left, hdiv, if_pos hmod]

theorem State.touchSlot_firmware (s : State) {k x : Nat} (hk : k < 2) (hl : 0x1000000 + k * 0x400000 ≤ x)
    (hu : x < 0x1000000 + (k + 1) * 0x400000) :
    s.touchSlot (0x10000000 + x) = (s.setSlot (2 + k) 0).noteStaged 2 (2 + k) := by
  have hdiv : (0x10000000 + x - 0x11000000) / 0x400000 = k := by omega
  rw [State.touchSlot, if_neg (by omega), if_pos (by omega)]
  simp only [hdiv]

/-- A write of a word of the store outside the raster that every check lets pass; no screen stands before it (15 R604). -/
theorem execStoreWindowWrite_slot {s : State} {p : Port} {o : BitVec 27} (el : Nat) (v : Word) (hp : s.PortRuns p)
    (he : s.accessErr p (0x10000000 + o.toNat) true = 0) (hr : isRaster (0x10000000 + o.toNat) = false) :
    exec (.storeWindowWrite el p o v) s = .next ((((s.begin el).touchSlot (0x10000000 + o.toNat)).setStoreBytes
      (0x10000000 + o.toNat) (bytesOfWord v)).send (.wrote p (0x10000000 + o.toNat) 0)) := by
  have hwrite : windowWrite p (0x10000000 + o.toNat) v (s.begin el) = (0, ((s.begin el).touchSlot
      (0x10000000 + o.toNat)).setStoreBytes (0x10000000 + o.toNat) (bytesOfWord v)) := by
    have hhit : regHit? (0x10000000 + o.toNat) = none := regHit?_window (Nat.le_add_right _ _)
    simp [windowWrite, State.hostWrite, he, hhit, hr]
  refine congrArg Host.Outcome.next ((State.atPort_runs (s := s.begin el) hp _ _).trans ?_)
  simp only [hwrite]

/-- A state whose base write is `u`: the word stands in its four bytes, and nothing else of the store has changed. -/
theorem State.storeByte_word {s u : State} (hu : u.store = s.store) (x : Nat) (v : Word) :
    (∀ i : Fin 4, (u.setStoreBytes x (bytesOfWord v)).storeByte (x + i) = (bytesOfWord v).getD i 0) ∧
    ∀ a, a < x ∨ x + 4 ≤ a → (u.setStoreBytes x (bytesOfWord v)).storeByte a = s.storeByte a := by
  have hlen : (bytesOfWord v).length = 4 := rfl
  refine ⟨fun i => ?_, fun a ha => ?_⟩
  · rw [State.storeByte_setStoreBytes, if_pos (by omega), Nat.add_sub_cancel_left]
  · rw [State.storeByte_setStoreBytes, if_neg (by omega), State.storeByte, State.storeByte, hu]

/-- Settles O55. -/
theorem writeIntoASlot : Obligations.WriteIntoASlot := by
  unfold Obligations.WriteIntoASlot
  intro el p o v s hp he _
  refine ⟨fun k hl hu => ?_, fun k hl hu => ?_⟩
  · have hr : isRaster (0x10000000 + o.toNat) = false := decide_eq_false (by omega)
    have hexec := execStoreWindowWrite_slot el v hp he hr
    rw [State.touchSlot_image _ k.isLt hl hu] at hexec
    obtain ⟨hword, hrest⟩ := State.storeByte_word (s := s) (u := (((s.begin el).setSlot k 0).setMarked k 0).noteStaged 0 k)
      (by rw [State.noteStaged_store, State.setMarked_store, State.setSlot_store, State.begin_store]) (0x10000000 + o.toNat) v
    refine ⟨_, hexec, ?_, ?_, hword, hrest, fun a ha => ?_⟩
    · rw [State.slot, State.rfld, State.reg_send_setStoreBytes, State.noteStaged_reg, State.setMarked_reg]
      exact State.slot_setSlot (s.begin el) (by omega) 0
    · rw [State.marked, State.send_ldr, State.setStoreBytes_ldr]
      exact Tab.get_set_self (fun _ => 0) ((s.begin el).setSlot k 0).ldr.marked k 0
    · refine (State.reg_send_setStoreBytes ((((s.begin el).setSlot k 0).setMarked k 0).noteStaged 0 k) _ _ _ a).trans ?_
      rw [State.noteStaged_reg, State.setMarked_reg]
      exact State.reg_setSlot_ne (s.begin el) k 0 (List.mem_singleton.not.1 ha)
  · have hr : isRaster (0x10000000 + o.toNat) = false := decide_eq_false (by omega)
    have hexec := execStoreWindowWrite_slot el v hp he hr
    rw [State.touchSlot_firmware _ k.isLt hl hu] at hexec
    obtain ⟨hword, hrest⟩ := State.storeByte_word (s := s) (u := ((s.begin el).setSlot (2 + k) 0).noteStaged 2 (2 + k))
      (by rw [State.noteStaged_store, State.setSlot_store, State.begin_store]) (0x10000000 + o.toNat) v
    refine ⟨_, hexec, ?_, hword, hrest, fun a ha => ?_⟩
    · rw [State.slot, State.rfld, State.reg_send_setStoreBytes, State.noteStaged_reg]
      exact State.slot_setSlot (s.begin el) (by omega) 0
    · refine (State.reg_send_setStoreBytes (((s.begin el).setSlot (2 + k) 0).noteStaged 2 (2 + k)) _ _ _ a).trans ?_
      rw [State.noteStaged_reg]
      exact State.reg_setSlot_ne (s.begin el) (2 + k) 0 (List.mem_singleton.not.1 ha)

end Sys2Proof.Machine
end

section
/-!
PROOFS. The rows of the fault manager, of Cinch, of the safe state and of the loss of ground (14 R547–R587).
-/
namespace Sys2Proof.Machine

/-- The block of the fault manager in the address map (01 Table 9), and the acknowledgement of each source in it (14 Table 5). -/
def fmBlock : RegBlock := ⟨0x020000, 1, 0x10000, rowsFm⟩
def fmSrcAckRow : RegRow := ⟨"FM_SRC_ACK", 0x102C, 128, 0x40, 0, 0, 0, 0x1, 0, 0, 0, 0x1⟩

theorem plainReg_fmSrcAck (src : Fin 128) : plainReg (R.FM_SRC_ACK src) = true := by
  have hbelow : ∀ b ∈ regBlocks.take 2, b.base + b.count * b.stride ≤ 0x020000 := by decide
  have hhold : 0x020000 ≤ R.FM_SRC_ACK src ∧ R.FM_SRC_ACK src < 0x020000 + 1 * 0x10000 := by
    simp only [R.FM_SRC_ACK]
    omega
  have hblock : blockAt? regBlocks (R.FM_SRC_ACK src) = some fmBlock := by
    rw [← List.take_append_drop 2 regBlocks, blockAt?_below (fun b hb => (hbelow b hb).trans hhold.1)]
    exact if_pos hhold
  have hoff : (R.FM_SRC_ACK src - fmBlock.base) % fmBlock.stride = fmSrcAckRow.off + src * fmSrcAckRow.stride := by
    simp only [R.FM_SRC_ACK, fmBlock, fmSrcAckRow]
    omega
  obtain ⟨⟨q, j⟩, hrow⟩ := exists_rowAt? (show fmSrcAckRow ∈ rowsFm by decide)
    (RegRow.idx?_unit (r := fmSrcAckRow) src.isLt (by decide))
  simp only [plainReg, regHit?_row hblock (by decide) (hoff.symm ▸ hrow), hblock]
  rfl

theorem commandReg_fmCmd : commandReg R.FM_CMD = true := by decide +kernel

theorem fmCmd_pinTest (fl sl : Bool) (s : State) : fmCmd fl sl 2 s = s.pinTestStart fl sl := by simp [fmCmd]

theorem fmCmd_cntClear (s : State) :
    fmCmd true true 1 s = s.clearRegs (fmCounters.filter fun a => s.up (islandOf a)) := by simp [fmCmd]

/-- A write of a command register leaves every island up or down as it was. -/
theorem State.up_storeAt_commandReg {a : Nat} (h : commandReg a = true) (s : State) (p : Port) (v : Word) (i : Nat) :
    (s.storeAt p a v).up i = s.up i := by
  obtain ⟨hreg, hrest⟩ := State.storeAt_commandReg h s p v
  have hclk : (s.storeAt p a v).clk = s.clk := by rw [hrest]
  simp only [State.up, State.rbit, hreg, hclk]

/-- APPLY alone applies the whole table (14 R583). -/
theorem safeCmd_apply {w : Word} (h1 : w.getLsbD 1 = false) (s : State) : safeCmd (w ||| 1) s = s.applyAll scHost := by
  have hbit : (w ||| 1).getLsbD 0 = true ∧ (w ||| 1).getLsbD 1 = false := by
    rw [BitVec.getLsbD_or, BitVec.getLsbD_or, h1]
    exact ⟨Bool.or_true _, rfl⟩
  simp only [safeCmd, hbit, if_true, State.when_false]

/-- RELEASE alone, while Cinch has not expired, releases every line (14 R585). -/
theorem safeCmd_release {w : Word} {s : State} (h0 : w.getLsbD 0 = false) (hs : s.expired = false) : safeCmd (w ||| 2) s =
    ((s.setBit R.SAFE_STAT scHost false).setBit R.SAFE_STAT scCinch false).releaseLines := by
  have hbit : (w ||| 2).getLsbD 0 = false ∧ (w ||| 2).getLsbD 1 = true := by
    rw [BitVec.getLsbD_or, BitVec.getLsbD_or, h0]
    exact ⟨rfl, Bool.or_true _⟩
  simp only [safeCmd, hbit, hs, if_true, Bool.false_eq_true, if_false]

/-- A transfer of four bytes with its checksum is answered with the question and the status (14 R575). -/
theorem State.cinchXfer_whole {s : State} {cmd arg chk : Byte} (t38 : Nat) (h38 : s.up 38 = true) (hchk : chk = crc8 [cmd, arg]) :
    s.cinchXfer cmd arg chk 4 t38 =
      let s1 := s.send (.cinch [0xFF, BitVec.ofNat 8 s.cinchQ, s.cinchStatus, crc8 [BitVec.ofNat 8 s.cinchQ, s.cinchStatus]])
      if cmd = 0x0F then s1
      else if 0x80 ≤ cmd.toNat ∧ cmd.toNat ≤ 0x83 then
        if s.rbit R.CINCH_CFG 30 then s1.count R.CINCH_CRC_ERR 1 else s1.cinchTake (cmd.toNat - 0x80) arg t38
      else s1.count R.CINCH_CRC_ERR 1 := by
  unfold State.cinchXfer
  rw [if_pos h38]
  exact if_neg (not_or.2 ⟨fun h => h rfl, fun h => h hchk⟩)

/-- Settles O14: under its conditions each row runs through the branch that its rule names. -/
theorem faultAndSafeStateRowsComplete : Obligations.FaultAndSafeStateRowsComplete := by
  unfold Obligations.FaultAndSafeStateRowsComplete
  refine ⟨?groundLoss, ?groundReturn, ?occurrence, ?leak, ?reportFrame, ?srcAck, ?srcStatRead, ?pinTest, ?pinTestEnd, ?cntClear,
    ?query, ?answer, ?answerWrite, ?windowEnd, ?apply, ?release, ?island38⟩
  case groundLoss =>
    rintro el v a s u rfl hon rfl rfl
    exact congrArg Host.Outcome.next (if_neg (by rw [hon]; exact Bool.false_ne_true))
  case groundReturn =>
    rintro el a b s u rfl hlost rfl rfl
    exact congrArg Host.Outcome.next (if_pos hlost)
  case occurrence =>
    rintro el src inst detail s u rfl
    rfl
  case leak =>
    rintro el src s u rfl hr hdue
    exact State.next_onIsland el hr (if_pos hdue)
  case reportFrame =>
    rintro el v s u rfl hr hon hlast hfree hwaiting hsent rfl
    refine State.next_onIsland el hr ?_
    simp only [hon, hlast, hfree, hwaiting, Bool.not_false, Bool.and_self, if_true]
    split
    case h_1 w hw => rw [hw]
    case h_2 w hw => rw [hw] at hsent; exact absurd hsent Bool.false_ne_true
  case srcAck =>
    rintro el p src s u rfl ht
    exact congrArg Host.Outcome.next (State.writeCmd_begin el 1 _ ht (plainReg_fmSrcAck src))
  case srcStatRead =>
    rintro el p src s u rfl hg
    exact congrArg Host.Outcome.next (State.readCmd_gives _ (State.gives_begin hg el))
  case pinTest =>
    rintro el p fl sl s u rfl ht
    exact congrArg Host.Outcome.next (State.writeCmd_acts el ht (commandReg_plain commandReg_fmCmd) (fmCmd_pinTest fl sl _))
  case pinTestEnd =>
    rintro el b e s u rfl htest hdue
    change execPinTestEnd ⟨el, b⟩ s = _
    simp only [execPinTestEnd, htest, if_pos hdue]
  case cntClear =>
    rintro el p s u rfl ht
    refine congrArg Host.Outcome.next (State.writeCmd_acts el ht (commandReg_plain commandReg_fmCmd) ?_)
    simp only [fmCmd_cntClear, State.up_storeAt_commandReg commandReg_fmCmd]
  case query =>
    rintro el cmd arg chk len t38 s u rfl h38 rfl hchk hcmd
    refine congrArg Host.Outcome.next ((State.cinchXfer_whole t38 h38 hchk).trans ?_)
    exact if_pos hcmd
  case answer =>
    rintro el cmd arg chk len t38 s u rfl h38 rfl hchk hlow hhigh hspi
    have hcmd : cmd ≠ 0x0F := fun h => by simp [h] at hlow
    refine congrArg Host.Outcome.next ((State.cinchXfer_whole t38 h38 hchk).trans ?_)
    rw [hspi]
    exact (if_neg hcmd).trans (if_pos ⟨hlow, hhigh⟩)
  case answerWrite =>
    rintro el p v t38 w s u rfl ht rfl hreg
    exact congrArg Host.Outcome.next (State.writeCmd_acts el ht (by decide +kernel) (if_pos hreg))
  case windowEnd =>
    rintro el v s u rfl h38 hstate hover rfl
    exact congrArg Host.Outcome.next (if_pos ⟨h38, hstate, hover⟩)
  case apply =>
    rintro el p v s u rfl ht h1
    exact congrArg Host.Outcome.next (State.writeCmd_acts el ht (by decide +kernel) (safeCmd_apply h1 _))
  case release =>
    rintro el p v w s u rfl ht h0 rfl hexp
    change Host.Outcome.next ((s.begin el).writeCmd p R.SAFE_CMD (v ||| 2) safeCmd) = _
    rw [State.writeCmd_acts el ht (by decide +kernel) (safeCmd_release h0 hexp)]
  case island38 =>
    rintro el a b s u rfl h38 ha hb
    change execIsland38Loss el s = _
    rw [hb, ha]
    simp only [execIsland38Loss, h38, if_true]

end Sys2Proof.Machine
end

section
/-!
PROOFS. The security commands and the update trials (15 R590–R625).
-/
namespace Sys2Proof.Machine

/-! The word written to SEC_CMD: OP in bits [7:0], PARAM in bits [15:8] (15 Table 13). -/

theorem fld_wordN_op (x : Nat) : fld (wordN x) 0 8 = x % 256 := by
  simp only [fld, wordN, BitVec.extractLsb'_toNat, BitVec.toNat_ofNat]
  omega

theorem fld_wordN_param (x : Nat) : fld (wordN x) 8 8 = x / 256 % 256 := by
  simp only [fld, wordN, BitVec.extractLsb'_toNat, BitVec.toNat_ofNat, Nat.shiftRight_eq_div_pow]
  omega

theorem toNat_ne_zero {par : Byte} (h : par ≠ 0) : par.toNat ≠ 0 := fun h0 => h (BitVec.eq_of_toNat_eq h0)

/-- Where a command row ends: where the command does, with the answer to the write. -/
theorem State.next_secRow {s t : State} {p : Port} {x : Nat} {i : SecIn} (el : Nat) (h : s.Takes p R.SEC_CMD)
    (ht : secCmd p i (wordN x) ((s.begin el).storeAt p R.SEC_CMD (wordN x)) = t) :
    (Host.Outcome.next ((s.begin el).secRow p x i) : Host.Outcome State Fault Refusal) =
      .next (t.send (.wrote p R.SEC_CMD 0)) :=
  congrArg Host.Outcome.next (State.writeCmd_acts el h (by decide +kernel) ht)

section
variable {p : Port} {i : SecIn} {x : Nat} {s : State}

/-- A command written while another is BUSY (R625). -/
theorem secCmd_busy (hbusy : s.rbit R.SEC_CMD_STAT 31 = true) : secCmd p i (wordN x) s =
    (s.setReg R.SEC_CMD_STAT (wordN (2 ^ 31 + x % 256 * 256 + scBusy))).event R.SEC_IRQ_STAT siRefused := by
  rw [secCmd, fld_wordN_op, if_pos hbusy]

variable (hbusy : s.rbit R.SEC_CMD_STAT 31 = false)
include hbusy

/-- The commands that take no parameter refuse one (R625). -/
theorem secCmd_format {op : Nat} (hop : op ∈ [1, 2, 7, 8]) (hx : x % 256 = op) (hp : x / 256 % 256 ≠ 0) :
    secCmd p i (wordN x) s = s.secEnd op scFormat := by
  simp only [List.mem_cons, List.not_mem_nil, or_false] at hop
  rcases hop with rfl | rfl | rfl | rfl <;>
    simp only [secCmd, hbusy, fld_wordN_op, fld_wordN_param, hx, if_neg hp, Bool.false_eq_true, if_false]

theorem secCmd_takeOwner (hx : x % 65536 = 1) : secCmd p i (wordN x) s = s.takeOwner i := by
  have hop : x % 256 = 1 ∧ x / 256 % 256 = 0 := by omega
  simp only [secCmd, hbusy, fld_wordN_op, fld_wordN_param, hop, Bool.false_eq_true, if_true, if_false]

theorem secCmd_rotateOwner (hx : x % 65536 = 2) : secCmd p i (wordN x) s = s.rotateOwner i := by
  have hop : x % 256 = 2 ∧ x / 256 % 256 = 0 := by omega
  simp only [secCmd, hbusy, fld_wordN_op, fld_wordN_param, hop, Bool.false_eq_true, if_true, if_false]

theorem secCmd_attest (hx : x % 65536 = 5) : secCmd p i (wordN x) s = s.attest i := by
  have hop : x % 256 = 5 ∧ x / 256 % 256 = 0 := by omega
  simp only [secCmd, hbusy, fld_wordN_op, fld_wordN_param, hop, Bool.false_eq_true, if_true, if_false]

theorem secCmd_dbgChallenge (hx : x % 65536 = 6) : secCmd p i (wordN x) s = s.dbgChallenge := by
  have hop : x % 256 = 6 ∧ x / 256 % 256 = 0 := by omega
  simp only [secCmd, hbusy, fld_wordN_op, fld_wordN_param, hop, Bool.false_eq_true, if_true, if_false]

theorem secCmd_dbgResponse (hx : x % 65536 = 7) : secCmd p i (wordN x) s = s.dbgResponse := by
  have hop : x % 256 = 7 ∧ x / 256 % 256 = 0 := by omega
  simp only [secCmd, hbusy, fld_wordN_op, fld_wordN_param, hop, Bool.false_eq_true, if_true, if_false]

theorem secCmd_tamperLower (hx : x % 65536 = 8) : secCmd p i (wordN x) s = s.tamperLower := by
  have hop : x % 256 = 8 ∧ x / 256 % 256 = 0 := by omega
  simp only [secCmd, hbusy, fld_wordN_op, fld_wordN_param, hop, Bool.false_eq_true, if_true, if_false]

theorem secCmd_cntClear (hx : x % 65536 = 31) : secCmd p i (wordN x) s = (s.clearRegs secCounters).secEnd 31 scOk := by
  have hop : x % 256 = 31 ∧ x / 256 % 256 = 0 := by omega
  simp only [secCmd, hbusy, fld_wordN_op, fld_wordN_param, hop, Bool.false_eq_true, if_true, if_false]

variable {par : Nat} (hp : x / 256 % 256 = par)
include hp

theorem secCmd_keyLoad (hx : x % 256 = 3) : secCmd p i (wordN x) s = s.keyLoad p par := by
  simp only [secCmd, hbusy, fld_wordN_op, fld_wordN_param, hx, hp, Bool.false_eq_true, if_false]

theorem secCmd_keyErase (hx : x % 256 = 4) : secCmd p i (wordN x) s = s.keyErase par := by
  simp only [secCmd, hbusy, fld_wordN_op, fld_wordN_param, hx, hp, Bool.false_eq_true, if_false]

theorem secCmd_updCommit (hx : x % 256 = 16) : secCmd p i (wordN x) s = s.updCommit par i := by
  simp only [secCmd, hbusy, fld_wordN_op, fld_wordN_param, hx, hp, Bool.false_eq_true, if_false]

theorem secCmd_updAbort (hx : x % 256 = 17) : secCmd p i (wordN x) s = s.updAbort par := by
  simp only [secCmd, hbusy, fld_wordN_op, fld_wordN_param, hx, hp, Bool.false_eq_true, if_false]

theorem secCmd_fwActivate (hx : x % 256 = 18) : secCmd p i (wordN x) s = s.fwActivate par i := by
  simp only [secCmd, hbusy, fld_wordN_op, fld_wordN_param, hx, hp, Bool.false_eq_true, if_false]

theorem secCmd_updConfirm (hx : x % 256 = 19) : secCmd p i (wordN x) s = s.updConfirm par i := by
  simp only [secCmd, hbusy, fld_wordN_op, fld_wordN_param, hx, hp, Bool.false_eq_true, if_false]

end

/-! The commands, where nothing refuses them. -/

theorem State.takeOwner_done {s : State} {i : SecIn} (howned : s.owned = false) (hpoint : s.secBuf 0 1 = [4])
    (hburn : i.burns.headD true = true) (hhash : s.sec.owners.headD s.keyHash = s.keyHash) : s.takeOwner i =
      ((((s.storeKey 0).updSec fun q => { q with owners := s.keyHash :: q.owners.tail }).setOwner 0 s.keyHash).setBit R.SEC_STAT
        stBad false).secEnd 1 scOk := by
  simp only [State.takeOwner, howned, hpoint, hburn, hhash, Bool.false_eq_true, ne_eq, not_true_eq_false, Bool.not_true, or_self,
    if_false]

theorem State.rotateOwner_done {s : State} {i : SecIn} (howned : s.owned = true) (hroom : s.sec.owners.length < 4)
    (hpoint : s.secBuf 0 1 = [4]) (hsig : s.bufSig (s.ownerKeys.take 1) (s.serial ++ s.secBuf 0 97) 0x68 0x98 = true)
    (hhash : i.burns.headD true = true) (hrev : i.burns.tail.headD true = true) : s.rotateOwner i =
      (((((s.storeKey s.sec.owners.length).updSec fun q => { q with owners := q.owners ++ [s.keyHash], prevOk := true }).setOwner
        s.sec.owners.length s.keyHash).setBit R.SEC_STAT stPrev true).updSec fun q =>
          { q with revoked := q.revoked ||| BitVec.twoPow 4 (s.sec.owners.length - 1) }).secEnd 2 scOk := by
  simp only [State.rotateOwner, howned, Nat.not_le.2 hroom, hpoint, hsig, hhash, hrev, Bool.not_true, Bool.false_eq_true, ne_eq,
    not_true_eq_false, or_self, if_false, if_true]

theorem State.keyLoad_done {s : State} {p : Port} {k j : Nat} {b : List Byte} (hk : k < 8)
    (huse : leNat (s.secBuf 0 1) = 1 ∨ leNat (s.secBuf 0 1) = 2) (hj : sessOf p = some j)
    (hkek : Tab.get (fun _ => []) s.sec.keks j ≠ [])
    (hunwrap : kwUnwrap (Tab.get (fun _ => []) s.sec.keks j) (s.secBuf 8 40) = some b) : s.keyLoad p k =
      (s.setKey k (some ⟨leNat (s.secBuf 0 1), b⟩)).secEnd 3 scOk := by
  have hformat : ¬ (8 ≤ k ∨ leNat (s.secBuf 0 1) = 0 ∨ 2 < leNat (s.secBuf 0 1)) := by omega
  simp only [State.keyLoad, hj, hformat, List.isEmpty_iff, hkek, hunwrap, if_false]

/-- A response at level 1 to the challenge that is open (R613, R614). -/
theorem State.dbgResponse_owner {s : State} {b : List Byte} {t : Nat} (hopen : s.sec.challenge = some (b, t))
    (hon : s.sec.debugOff = false) (htime : s.now < t + 60000000000) (hlevel : s.secBuf 0 8 = [1, 0, 0, 0, 0, 0, 0, 0])
    (hanswer : s.secBuf 8 32 = b) (hserial : s.secBuf 0x28 8 = s.serial)
    (hsig : s.bufSig (s.ownerKeys.take 1) (s.secBuf 0 0x30) 0x30 0x60 = true) : s.dbgResponse =
      (((s.updSec fun q => { q with challenge := none }).setFld R.SEC_DBG_STAT 0 2 (max 1 (s.rfld R.SEC_DBG_STAT 0 2))).event
        R.SEC_IRQ_STAT siDebug).secEnd 7 scOk := by
  obtain ⟨hfirst, hrest⟩ := List.append_inj (show s.secBuf 0 1 ++ s.secBuf 1 7 = [1] ++ [0, 0, 0, 0, 0, 0, 0] from hlevel) rfl
  have hone : leNat [(1 : Byte)] = 1 := rfl
  have hzero : ([0, 0, 0, 0, 0, 0, 0] : List Byte).any (fun x => x != 0) = false := rfl
  have hlate : ¬ t + 60000000000 ≤ s.now := Nat.not_le.2 htime
  simp only [State.dbgResponse, hopen, hon, hlate, hfirst, hrest, hone, hzero, hanswer, hserial, hsig, Bool.false_eq_true, ne_eq,
    not_true_eq_false, or_self, if_false, if_true, Bool.not_true, one_ne_zero, show ¬ 2 < 1 by omega]
  rfl

/-- A target of an update is that of images or that of firmware (15 Table 13). -/
theorem isTarget {target : BitVec 8} (h : target = 0 ∨ target = 2) : ¬ (target.toNat ≠ 0 ∧ target.toNat ≠ 2) := by
  rcases h with rfl | rfl <;> decide

theorem State.updCommit_done {s : State} {target : BitVec 8} {i : SecIn} {k : Nat} (ht : target = 0 ∨ target = 2)
    (hfree : s.updBusy = false) (hready : s.mssReady = true) (hslot : s.stageSlot target.toNat = some k) :
    s.updCommit target.toNat i = (s.commitStart target.toNat k true i.hits).setReg R.SEC_CMD_STAT 0x80001000 := by
  simp only [State.updCommit, isTarget ht, hfree, hready, hslot, Bool.not_true, Bool.false_eq_true, if_false]

theorem State.fwActivate_done {s : State} {i : SecIn} {k : Nat} (hfree : s.updBusy = false) (hldr : s.ldrState ≠ ldVerifying)
    (hslot : s.slotIn 2 2 = some k) (hmss : s.rfld R.MSS_STAT 0 2 ≠ 2) {w : State}
    (hw : w = (((s.setSlot (otherSlot k) 5).setSlot k 3).secEnd 18 scOk).devRead i.hits (slotBase k) (s.slotLen k))
    (hgood : w.fwFail (slotBase k) = none) : s.fwActivate 2 i =
      ((w.runFw k).updSec fun q => { q with fwTrial := some s.now, fwWait := some s.now }).mssRestart mcActivate [] := by
  subst hw
  simp only [State.fwActivate, hfree, hldr, hslot, bne_iff_ne.2 hmss, ne_eq, not_true_eq_false, Bool.false_eq_true, or_self,
    if_false, State.when_true, hgood]

theorem State.updAbort_done {s : State} {target : BitVec 8} {k : Nat} (ht : target = 0 ∨ target = 2)
    (hslot : s.slotIn target.toNat 2 = some k) : s.updAbort target.toNat = (s.setSlot k 0).secEnd 17 scOk := by
  simp only [State.updAbort, isTarget ht, hslot, if_false]

/-- A write of store bytes leaves the marks of the words below them. -/
theorem State.poisoned_clearPoison (s : State) {a n w : Nat} (h : w < wordOf a) :
    (s.clearPoison a n).poisoned w = s.poisoned w := by
  have hne : ∀ v ∈ s.poisonIn a n, w ≠ v := by
    simp only [State.poisonIn, List.mem_map, List.mem_filter, Bool.and_eq_true, decide_eq_true_eq]
    rintro v ⟨e, ⟨-, -, hle, -⟩, rfl⟩
    exact Nat.ne_of_lt (Nat.lt_of_lt_of_le h hle)
  unfold State.clearPoison
  generalize s.poisonIn a n = l at hne
  induction l generalizing s with
  | nil => rfl
  | cons v r ih =>
    obtain ⟨hv, hr⟩ := List.forall_mem_cons.1 hne
    exact (ih (s.setPoison v false) hr).trans (Tab.get_set_ne (fun _ => false) s.mgt.poison false hv)

/-- A byte below the security records reads the same while they are written (15 R589). -/
theorem State.devByte_setSlot (s : State) (k v : Nat) {a : Nat} (h : a < copyBase 0) :
    (s.setSlot k v).devByte a = s.devByte a := by
  have hlt (i : Nat) : wordOf a < wordOf (copyBase i) := by
    simp only [wordOf, copyBase] at h ⊢
    omega
  have hmark (u : State) : u.putRec.poisoned (wordOf a) = u.poisoned (wordOf a) := by
    unfold State.putRec
    split
    exact (apply_ite (State.poisoned · (wordOf a)) _ _ _).trans
      (ite_eq_left_iff.2 fun _ => State.poisoned_clearPoison _ (hlt _))
  unfold State.devByte State.storeByte
  rw [s.setSlot_store k v, State.setSlot, hmark]
  rfl

/-- A slot that takes a state keeps what is stored in every slot, the pair of an image or of firmware (R602) too. -/
theorem State.slotRb_setSlot (s : State) (k v : Nat) {j : Nat} (hj : j < 4) : (s.setSlot k v).slotRb j = s.slotRb j := by
  refine congrArg leNat (List.map_congr_left fun i hi => s.devByte_setSlot k v ?_)
  have hi := List.mem_range.1 hi
  simp only [slotBase, copyBase]
  grind

theorem State.slotIn_lt {s : State} {target st k : Nat} (h : s.slotIn target st = some k) : k < 4 := by
  have hk := List.mem_of_find?_eq_some h
  unfold slotsOf at hk
  grind

theorem otherSlot_lt {k : Nat} (h : k < 4) : otherSlot k < 4 := by
  unfold otherSlot
  grind

/-- A confirmed update (R622): the pair stored, the epoch burned, the other slot FALLBACK or INVALID, and the trial over. -/
theorem State.updConfirm_done {s w x y z : State} {target : BitVec 8} {i : SecIn} {k rb n top : Nat} (ht : target = 0 ∨ target = 2)
    (hfree : s.updBusy = false) (hslot : s.slotIn target.toNat 3 = some k) (hrb : rb = s.slotRb k)
    (hn : n = rb / 1024 - s.rfld (rbReg target.toNat) 0 6) (hburn : burned i.burns n = n)
    (htop : top = s.rfld (rbReg target.toNat) 0 6 + n)
    (hw : w = (s.setSlot k 4).setReg (rbReg target.toNat) (wordN (rb * 65536 + top)))
    (hx : x = if 2 ≤ s.slot (otherSlot k) then w.setSlot (otherSlot k)
      (if rb ≤ w.slotRb (otherSlot k) ∧ top ≤ w.slotRb (otherSlot k) / 1024 then 5 else 6) else w)
    (hy : y = x.updSec fun q => if target = 2 then { q with fwTrial := none } else { q with imgTrial := none })
    (hz : z = if target = 0 ∧ s.owned = true ∧ s.storeBytes (slotBase k + 0x18) 8 = keyId (s.ownerKey s.ownerSlot) then
      (y.updSec fun q => { q with prevOk := false }).setBit R.SEC_STAT stPrev false else y) :
    s.updConfirm target.toNat i = z.secEnd 19 scOk := by
  subst hrb hn htop
  have hstored : w.slotRb (otherSlot k) = s.slotRb (otherSlot k) := by
    rw [hw]
    exact s.slotRb_setSlot k 4 (otherSlot_lt (State.slotIn_lt hslot))
  have hother : w.when (decide (2 ≤ s.slot (otherSlot k))) (fun t => t.setSlot (otherSlot k)
      (if s.slotRb k ≤ s.slotRb (otherSlot k) ∧ s.rfld (rbReg target.toNat) 0 6 + (s.slotRb k / 1024 -
        s.rfld (rbReg target.toNat) 0 6) ≤ s.slotRb (otherSlot k) / 1024 then 5 else 6)) = x := by
    simp only [hx, State.when, decide_eq_true_eq, hstored]
  have htrial : x.updSec (fun q => if target.toNat = 2 then { q with fwTrial := none } else { q with imgTrial := none }) = y := by
    rw [hy]
    rcases ht with rfl | rfl <;> rfl
  have hprev : y.when (target.toNat == 0 && s.owned && s.storeBytes (slotBase k + 0x18) 8 == keyId (s.ownerKey s.ownerSlot))
      (fun t => (t.updSec fun q => { q with prevOk := false }).setBit R.SEC_STAT stPrev false) = z := by
    have hzero : target.toNat = 0 ↔ target = 0 := by rcases ht with rfl | rfl <;> decide
    simp only [hz, State.when, Bool.and_eq_true, beq_iff_eq, hzero, and_assoc]
  simp only [State.updConfirm, isTarget ht, hfree, hslot, hburn, Nat.lt_irrefl, Bool.false_eq_true, if_false, ← hw, hother, htrial,
    hprev]

/-- A write through the window that every check lets pass is answered with success (15 R603). -/
theorem windowWrite_code {s : State} {p : Port} {a : Nat} (v : Word) (ha : 0x10000000 ≤ a) (he : s.accessErr p a true = 0) :
    (windowWrite p a v s).1 = 0 := by
  simp [windowWrite, State.hostWrite, he, regHit?_window ha]

/-- Settles O15: each row writes SEC_CMD with its own OP and PARAM, and no check of that command refuses it. -/
theorem securityCommandRowsComplete : Obligations.SecurityCommandRowsComplete := by
  unfold Obligations.SecurityCommandRowsComplete
  refine ⟨?takeOwner, ?rotateOwner, ?takeFormat, ?rotateFormat, ?dbgFormat, ?tamperFormat, ?keyLoad, ?busy, ?keyErase, ?attest,
    ?challenge, ?response, ?expiry, ?tamper, ?updCommit, ?verify, ?updAbort, ?fwActivate, ?updConfirm, ?cntClear, ?trial, ?ready,
    ?window⟩
  case takeOwner =>
    rintro el p burns h v s u rfl ht rfl hfree howned hpoint hburn rfl hhash
    exact State.next_secRow el ht ((secCmd_takeOwner hfree rfl).trans (State.takeOwner_done howned hpoint hburn hhash))
  case rotateOwner =>
    rintro el p hashOk revOk h n w v s u rfl ht rfl hfree rfl howned hroom hpoint hsig hhash hrev rfl rfl
    exact State.next_secRow el ht ((secCmd_rotateOwner hfree rfl).trans (State.rotateOwner_done howned hroom hpoint hsig hhash hrev))
  case takeFormat =>
    rintro el p par burns v s u rfl ht rfl hfree hpar
    have hlt := par.isLt
    have hne := toNat_ne_zero hpar
    exact State.next_secRow el ht (secCmd_format hfree (by decide) (by omega) (by omega))
  case rotateFormat =>
    rintro el p par hashOk revOk v s u rfl ht rfl hfree hpar
    have hlt := par.isLt
    have hne := toNat_ne_zero hpar
    exact State.next_secRow el ht (secCmd_format hfree (by decide) (by omega) (by omega))
  case dbgFormat =>
    rintro el p par v s u rfl ht rfl hfree hpar
    have hlt := par.isLt
    have hne := toNat_ne_zero hpar
    exact State.next_secRow el ht (secCmd_format hfree (by decide) (by omega) (by omega))
  case tamperFormat =>
    rintro el p par v s u rfl ht rfl hfree hpar
    have hlt := par.isLt
    have hne := toNat_ne_zero hpar
    exact State.next_secRow el ht (secCmd_format hfree (by decide) (by omega) (by omega))
  case keyLoad =>
    rintro el p k hi v j use kek b s u rfl ht rfl hfree rfl hk huse hj rfl hkek hunwrap
    have hlt := k.isLt
    exact State.next_secRow el ht
      ((secCmd_keyLoad hfree (by omega) (by omega)).trans (State.keyLoad_done hk huse hj hkek hunwrap))
  case busy =>
    rintro el p k v s u rfl ht rfl hbusy
    have hop : (k.toNat * 256 + 4) % 256 = 4 := by omega
    refine State.next_secRow el ht ((secCmd_busy hbusy).trans ?_)
    rw [hop]
    rfl
  case keyErase =>
    rintro el p k v s u rfl ht rfl hfree hk
    have hlt := k.isLt
    exact State.next_secRow el ht ((secCmd_keyErase hfree (by omega) (by omega)).trans (if_neg (Nat.not_le.2 hk)))
  case attest =>
    rintro el p rnd v s u rfl ht rfl hfree hid hready
    refine State.next_secRow el ht ((secCmd_attest hfree rfl).trans ?_)
    simp only [State.attest, hid, hready, Bool.not_true, Bool.false_eq_true, if_false]
  case challenge =>
    rintro el p ws w v s u rfl ht rfl hfree rfl rfl
    exact State.next_secRow el ht (secCmd_dbgChallenge hfree rfl)
  case response =>
    rintro el p b t w v s u rfl ht rfl hfree hopen hon htime hlevel hanswer hserial hsig rfl
    exact State.next_secRow el ht
      ((secCmd_dbgResponse hfree rfl).trans (State.dbgResponse_owner hopen hon htime hlevel hanswer hserial hsig))
  case expiry =>
    rintro el b t s u rfl hr hopen hdue
    refine State.next_onIsland el hr ?_
    simp only [hopen, if_pos hdue]
  case tamper =>
    rintro el p v s u rfl ht rfl hfree howned hsig
    refine State.next_secRow el ht ((secCmd_tamperLower hfree rfl).trans ?_)
    simp only [State.tamperLower, howned, hsig, Bool.not_true, Bool.false_eq_true, if_false]
  case updCommit =>
    rintro el p target c k v s u rfl ht rfl hfree htarget hidle hready hslot
    have hlt := target.isLt
    exact State.next_secRow el ht
      ((secCmd_updCommit hfree (by omega) (by omega)).trans (State.updCommit_done htarget hidle hready hslot))
  case verify =>
    rintro el c target k b s u rfl hr hcommit hserves
    refine State.next_onIsland el hr ?_
    simp only [hcommit, hserves, if_true]
  case updAbort =>
    rintro el p target k v s u rfl ht rfl hfree htarget hslot
    have hlt := target.isLt
    exact State.next_secRow el ht ((secCmd_updAbort hfree (by omega) (by omega)).trans (State.updAbort_done htarget hslot))
  case fwActivate =>
    rintro el p c k v w s u rfl ht rfl hfree hidle hldr hslot hmss hw hgood
    exact State.next_secRow el ht ((secCmd_fwActivate hfree rfl rfl).trans (State.fwActivate_done hidle hldr hslot hmss hw hgood))
  case updConfirm =>
    rintro el p target burns k rb n top w x y z v s u rfl ht rfl hfree htarget hidle hslot hrb hn hburn htop hw hx hy hz
    have hlt := target.isLt
    exact State.next_secRow el ht ((secCmd_updConfirm hfree (by omega) (by omega)).trans
      (State.updConfirm_done (i := ⟨burns, [], []⟩) htarget hidle hslot hrb hn hburn htop hw hx hy hz))
  case cntClear =>
    rintro el p v s u rfl ht rfl hfree
    exact State.next_secRow el ht (secCmd_cntClear hfree rfl)
  case trial =>
    rintro el fw b s u rfl hr htrial hdue
    refine State.next_onIsland el hr ?_
    simp only [htrial, if_pos hdue]
  case ready =>
    rintro el b s u rfl hr hwait hdue
    refine State.next_onIsland el hr ?_
    simp only [hwait, if_pos hdue]
  case window =>
    rintro el p o v a s u rfl hp rfl he -
    have hcode := windowWrite_code (s := s.begin el) v (Nat.le_add_right 0x10000000 o.toNat) he
    refine congrArg Host.Outcome.next ((State.atPort_runs (s := s.begin el) hp _ _).trans ?_)
    simp only [hcode]
    rfl

end Sys2Proof.Machine
end

section
/-!
PROOFS. The rows of the sessions, of the associations, of the tamper sensors and of the debug halt (15 R605–R616).
-/
namespace Sys2Proof.Machine

/-- A frame that the MAC delivers as a session message reaches the security block while its island works (13 R522). -/
theorem State.sessFrame_message {s t : State} {e : EthPort} {f : RxFrame} {m : List Byte} (hm : s.macRx e f = (some m, t))
    (hsub : subtypeOf m = 0x5A40) (hworks : t.works 37 = true) (rnd : List Byte) :
    s.sessFrame e f rnd = t.sessMsg (ethNum e) f.src m rnd := by
  unfold State.sessFrame
  rw [hm]
  exact if_pos ⟨hsub, hworks⟩

theorem State.sessMsg_hello {s : State} {k : Nat} {src : BitVec 48} {m rnd r z : List Byte} (hmsg : leAt m 3 1 = 1)
    (hready : s.secReady = true) (hlen : m.length = 144) (hver : leAt m 2 1 = 1) (hid : s.sec.idLost = false)
    (hreply : s.sessReply k m rnd = some (r, z)) : s.sessMsg k src m rnd =
      (s.setHand k (some ⟨leAt m 4 4, s.now, src, m, r, z, none⟩)).sessSend k src r := by
  simp only [State.sessMsg, hmsg, if_true, State.hello, hready, hlen, hver, hid, hreply, Bool.not_true, Bool.false_eq_true, ne_eq,
    not_true_eq_false, or_self, if_false]

/-- A FINISH is checked in the handshake of its port, with the source of its frame (R605, R606). -/
theorem State.sessMsg_finish {s : State} {k : Nat} {src : BitVec 48} {m : List Byte} {h : Hand} (hmsg : leAt m 3 1 = 3)
    (hready : s.secReady = true) (hhand : s.hand k = some h) (rnd : List Byte) :
    s.sessMsg k src m rnd = s.sessCheck k { h with src := src } m := by
  have hother : ¬ (3 : Nat) = 1 := by decide
  simp only [State.sessMsg, hmsg, if_neg hother, if_true, State.sessFinish, hhand, hready]

/-- A FINISH that every check lets pass, on an owned device whose time is not aligned (R606, R607). -/
theorem State.sessCheck_owned {s : State} {k : Nat} {h : Hand} {m c : List Byte} (hc : c = (m.drop 8).take 256)
    (hlen : m.length = 360) (hsid : h.sid = leAt m 4 4) (hver : leAt m 2 1 = 1) (hmagic : leAt c 0 4 = 0x43455047)
    (howned : s.owned = true) (hcert : s.ownerKeys.any (certOk c) = true) (hpeer : h.peerOk m = true) (hrole : leAt c 4 1 = k + 1)
    (hport : leAt c 5 1 / 2 ^ k % 2 = 1) (hdt : s.rbit R.DT_STAT 5 = false) : s.sessCheck k h m = s.sessDone k h true false := by
  subst hc
  simp only [State.sessCheck, hlen, hsid, hver, hmagic, howned, hcert, hpeer, hrole, hport, hdt, Bool.not_true, Bool.not_false,
    Bool.false_and, Bool.false_eq_true, BEq.rfl, ne_eq, not_true_eq_false, or_self, if_false]

/-- Settles O16: a session frame that the MAC delivers passes every check, and each other row runs where it is due. -/
theorem securitySessionRowsComplete : Obligations.SecuritySessionRowsComplete := by
  unfold Obligations.SecuritySessionRowsComplete
  refine ⟨?hello, ?finish, ?timeout, ?oldSa, ?service, ?tamper, ?halt, ?haltEnd⟩
  case hello =>
    rintro el e f rnd m r z v s u rfl hm rfl hsub hworks hready hlen hver hmsg hid hreply
    exact congrArg Host.Outcome.next ((State.sessFrame_message (Prod.ext hm rfl) hsub hworks rnd).trans
      (State.sessMsg_hello hmsg hready hlen hver hid hreply))
  case finish =>
    rintro el e fcsOk len dst src f m c h g v s u rfl rfl hm rfl hsub hmsg hhand hworks hready hlen hsid hver hc hmagic howned
      hcert hpeer hrole hport hdt
    exact congrArg Host.Outcome.next ((State.sessFrame_message (Prod.ext hm rfl) hsub hworks []).trans
      ((State.sessMsg_finish hmsg hready hhand []).trans
        (State.sessCheck_owned hc hlen hsid hver hmagic howned hcert hpeer hrole hport hdt)))
  case timeout =>
    rintro el k h s u rfl hr hhand hfin hdue
    refine State.next_onIsland el hr ?_
    simp only [hhand, hfin, hdue, Option.isNone_none, and_self, if_true]
  case oldSa =>
    rintro el e a d s u rfl hr hold hdue
    refine State.next_onIsland el hr ?_
    simp only [hold, if_pos hdue]
  case service =>
    rintro el s u rfl hr hopen hdue
    exact State.next_onIsland el hr (if_pos ⟨hopen, hdue⟩)
  case tamper =>
    rintro el k s u rfl hrun
    exact congrArg Host.Outcome.next (if_neg (by rw [hrun]; exact Bool.false_ne_true))
  case halt =>
    rintro el s u rfl hr hdebug hhalted
    exact State.next_onIsland el hr (if_pos ⟨hdebug, by rw [hhalted]; rfl⟩)
  case haltEnd =>
    rintro el s u rfl hr hhalted
    exact State.next_onIsland el hr (if_pos hhalted)

end Sys2Proof.Machine
end

section
/-!
PROOFS. The rows of the management subsystem, the scrubbing, the powered hours and the flight recorder (16 R626–R655).
-/
namespace Sys2Proof.Machine

/-- MSS_CMD.RESTART restarts the MSS while its island runs (R627). -/
theorem mssCmd_restart {s : State} (h : s.Runs 36) : mssCmd 2 s = s.mssRestart mcHost [] :=
  State.onIsland_runs h fun u => u.mssRestart mcHost []

theorem mssCmd_cntClear (s : State) : mssCmd 1 s = s.clearRegs mssCounters := by simp [mssCmd]

theorem recCmd_closeAll (s : State) : recCmd 2 s = s.recCloseAll 3 := by simp [recCmd]

theorem recCmd_cntClear (s : State) : recCmd 1 s = s.clearRegs recCounters := by simp [recCmd]

/-- A run of actions of which only that on number 0 takes place. -/
theorem forN_first {σ : Type} (f : Nat → σ → σ) {n : Nat} (h : 0 < n) (s : σ) :
    forN (fun i t => if 0 < 0 ∨ i ≤ 0 then f i t else t) n s = f 0 s := by
  induction n, h using Nat.le_induction with
  | base => rfl
  | succ n hn ih =>
    rw [forN, if_neg (by omega), ih]

/-- The same in two nested runs: the first interval of code 0 comes first of all (R644). -/
theorem forN_forN_first {σ : Type} (f : Nat → Nat → σ → σ) {n : Nat → Nat} (h : 0 < n 0) (s : σ) :
    forN (fun j t => forN (fun i u => if j < 0 ∨ i ≤ 0 then f j i u else u) (n j) t) 1 s = f 0 0 s := forN_first (f 0) h s

/-- The intervals up to the first of code 0 are that one alone (R644). -/
theorem State.recTicks_first (s : State) (hits : List EccHit) : forN (fun j v =>
    forN (fun i w => if j < (0 : Fin 10).val ∨ i ≤ (0 : Fin 160).val then w.recTick hits j i else w) (recInsts j) v)
      ((0 : Fin 10).val + 1) s = s.recTick hits 0 0 := by
  have h := forN_forN_first (fun j i t => State.recTick t hits j i) (n := recInsts) (by decide) s
  beta_reduce at h
  exact h

/-- An interval of a code closes at its timer, where no trigger has closed it before (R644). -/
theorem State.recTick_timer {s : State} {k inst : Nat} (hits : List EccHit) (hk : k ≠ 9)
    (hdue : Tab.get (fun _ => false) s.rcd.due (recKey k inst) = false) (htime : s.recTimer k (s.recOpened k inst) ≤ s.dt) :
    s.recTick hits k inst = s.recDue hits k inst 0 := by
  simp only [State.recTick, hdue, Bool.false_eq_true, if_neg hk, if_pos htime, if_false]

@[simp] theorem State.recAdd_intake (s : State) (k inst qty : Nat) (v : Int) : (s.recAdd k inst qty v).intake = s.intake := by
  unfold State.recAdd
  split <;> rfl

/-- What each action of a run keeps, the run keeps. -/
theorem forN_keeps {β : Type} (g : State → β) {f : Nat → State → State} (h : ∀ i s, g (f i s) = g s) (n : Nat) (s : State) :
    g (forN f n s) = g s := by
  induction n with
  | zero => rfl
  | succ n ih => exact (h n _).trans ih

/-- The samples of the rails leave the intake as it was (R645). -/
theorem State.intake_railSamples (s : State) (mv : List (BitVec 16)) : (forN (fun i v =>
    (v.setFld (R.PWR_RAIL i) 0 16 (mv.getD i 0).toNat).recAdd 3 (i / 8) (i % 8) (mv.getD i 0).toNat) 14 s).intake = s.intake :=
  forN_keeps State.intake (fun i t => by rw [State.recAdd_intake]; rfl) 14 s

/-- Settles O17: each row of an island runs its one branch, and each command word acts by its bit. -/
theorem managementAndRecorderRowsComplete : Obligations.ManagementAndRecorderRowsComplete := by
  unfold Obligations.ManagementAndRecorderRowsComplete
  refine ⟨?lockstep, ?restart, ?watchdog, ?ready, ?mssClear, ?tempPoll, ?sramScrub, ?sramOwner, ?storeScrub, ?scrubLate, ?hour,
    ?close, ?closeFirst, ?closeAll, ?recClear, ?trace, ?win0, ?win63, ?cursor, ?sample⟩
  case lockstep =>
    rintro el x s u rfl hr
    exact State.next_onIsland el hr rfl
  case restart =>
    rintro el p v s u rfl ht rfl hr
    exact congrArg Host.Outcome.next (State.writeCmd_acts el ht (by decide +kernel) (mssCmd_restart hr))
  case watchdog =>
    rintro el x s u rfl hr
    exact State.next_onIsland el hr rfl
  case ready =>
    rintro el v s u rfl hr hstat hhalted rfl hr37
    exact State.next_onIsland el hr ((if_pos ⟨hstat, by rw [hhalted]; rfl⟩).trans (State.onIsland_runs hr37 _))
  case mssClear =>
    rintro el p s u rfl ht
    exact congrArg Host.Outcome.next (State.writeCmd_acts el ht (by decide +kernel) (mssCmd_cntClear _))
  case tempPoll =>
    rintro el temps s u rfl hr ⟨hup, hungated⟩ hready hdue
    refine State.next_onIsland el hr ((if_neg (not_not.2 hdue)).trans ?_)
    have hup : (s.begin el).up 36 = true := hup
    have hungated : (s.begin el).ungated 36 = true := hungated
    simp only [hready, hup, hungated, Bool.true_and]
  case sramScrub =>
    rintro el n b err q v s u rfl hr rfl rfl hlt
    exact State.next_onIsland el hr (if_pos hlt)
  case sramOwner =>
    rintro el n region word b err item q r s u rfl hr hword rfl rfl
    exact State.next_onIsland el hr (if_neg (Nat.not_le.2 hword))
  case storeScrub =>
    rintro el m err n v w s u rfl hr rfl rfl hlt rfl
    have hlast : (((s.begin el).bgWait m).rfld R.STORE_SCRUB_POS 0 24 + 1 == 2 ^ 24) = false := beq_false_of_ne (Nat.ne_of_lt hlt)
    refine State.next_onIsland el hr ?_
    simp only [hlast, State.when_false]
    cases err <;> rfl
  case scrubLate =>
    rintro el store s u rfl hr rfl hfirst hlate
    refine State.next_onIsland el hr ?_
    simp only [Bool.false_eq_true, if_false, hfirst, hlate, decide_true, Bool.not_false, Bool.and_self, if_true]
  case hour =>
    rintro el s u rfl hr hdue
    exact State.next_onIsland el hr (if_pos hdue)
  case close =>
    rintro el x k inst s u rfl hr hinst
    refine State.next_onIsland el hr ?_
    rw [if_neg (Nat.not_le.2 hinst)]
  case closeFirst =>
    rintro el x s u rfl hr hdue htime
    refine State.next_onIsland el hr ?_
    rw [if_neg (by decide)]
    exact ((s.begin el).recTicks_first x).trans (State.recTick_timer x (by decide) hdue htime)
  case closeAll =>
    rintro el p s u rfl ht
    exact congrArg Host.Outcome.next (State.writeCmd_acts el ht (by decide +kernel) (recCmd_closeAll _))
  case recClear =>
    rintro el p s u rfl ht
    exact congrArg Host.Outcome.next (State.writeCmd_acts el ht (by decide +kernel) (recCmd_cntClear _))
  case trace =>
    rintro el p n decim s u rfl ht
    exact congrArg Host.Outcome.next (State.writeCmd_acts el ht (by decide +kernel) rfl)
  case win0 =>
    rintro el p x s u rfl hg
    exact congrArg Host.Outcome.next (State.readCmd_gives _ (State.gives_begin hg el))
  case win63 =>
    rintro el p x s u rfl hg
    exact congrArg Host.Outcome.next (State.readCmd_gives _ (State.gives_begin hg el))
  case cursor =>
    rintro el p v s u rfl ht
    exact congrArg Host.Outcome.next (State.writeCmd_acts el ht (by decide +kernel) rfl)
  case sample =>
    rintro el mv s u rfl hr hdue
    refine State.next_onIsland el hr ((if_neg (not_not.2 hdue)).trans ?_)
    simp only [State.intake_railSamples]

end Sys2Proof.Machine
end
